-- ==== Sys2Proof/Word.lean ====
section
/-!
DEFINITION. The plainest data of the model: a byte, and a list of zero bytes. Every byte-order helper stands in
Sys2Proof/Decode.lean and Sys2Proof/Machine/Formats.lean.
-/

namespace Sys2Proof

/-- One byte of a block, an EEPROM image or a record. -/
abbrev Byte := BitVec 8

/-- One 32-bit word of a frame (section 5.1 of 00_scope.md: four bytes taken little-endian). -/
abbrev Word := BitVec 32

/-- `n` zero bytes. -/
def zeros (n : Nat) : List Byte := List.replicate n 0

end Sys2Proof
end

