-- ==== Sys2Proof/Syntax.lean ====
section
/-!
DEFINITION. The commands of the part: one constructor for each row of spec/opcode_table.json, in the table's order. The
table gives no operands; each command carries what the rule of its row needs (log 2). Directive commands carry the raw
fields of their 64-byte record (12_formats_and_signals.md, section 12.2) as numbers.
-/

namespace Sys2Proof

/-- READ or WRITE (R82). -/
inductive ReqKind where
  | read
  | write
  deriving DecidableEq, Repr

/-- A request of the shelf controller as it stands on the upstream link (R82). `tag` and `count` are the fields as sent,
which R87 tests. -/
structure Request where
  kind : ReqKind
  requester : Fin 16
  tag : Nat
  addr : Nat
  count : Nat
  data : List Byte
  deriving DecidableEq, Repr

/-- The status of a media return as received (R83): GOOD, MEDIA_ERROR, or any other value, with the number it was sent
as (R193). -/
inductive MediaStatus where
  | good
  | mediaError
  | other (code : Nat)
  deriving DecidableEq, Repr

/-- An uncorrectable error that a block finds in its own tables while a command uses them (R190). For the in-flight table
the slot found in error is named, and whether its media tag can be read back (R107). -/
inductive TableError where
  | extentMap
  | digestCache
  | accumulators
  | inFlight (slot : Fin 256) (tagReadable : Bool)
  deriving DecidableEq, Repr

/-- The commands. `err` is the table error found by this use, if one is (log 9); a command that uses none of the four tables
carries none. A record as the batch image spells it carries no error, and a command written without `err` carries none. -/
inductive Instr where
  /-- HARDWARE_RESET (R185): `maint` is the sample of the MAINT pin. -/
  | hardwareReset (maint : Bool)
  /-- EEPROM_READ_END (R185): the bytes read, or none where the EEPROM failed to acknowledge. -/
  | eepromReadEnd (image : Option (List Byte))
  /-- EEPROM_READ_TIMEOUT (R185). -/
  | eepromReadTimeout
  /-- LINK_RESET (R105): `batchBytes` is how many bytes of a directive block in progress have reached the batch image
  (R161). -/
  | linkReset (batchBytes : Nat) (err : Option TableError := none)
  /-- UPSTREAM_LINK_DOWN (R106); `batchBytes` as for LINK_RESET. -/
  | upstreamLinkDown (batchBytes : Nat) (err : Option TableError := none)
  /-- UPSTREAM_LINK_UP (R106). -/
  | upstreamLinkUp
  /-- MEDIA_LINK_DOWN (R103). -/
  | mediaLinkDown (err : Option TableError := none)
  /-- MEDIA_LINK_UP (R104). -/
  | mediaLinkUp (err : Option TableError := none)
  /-- CONTROLLER_REQUEST (R86). -/
  | controllerRequest (req : Request) (err : Option TableError := none)
  /-- PASSTHROUGH_SLOT_TAKEN (R90). -/
  | passthroughSlotTaken (err : Option TableError := none)
  /-- WRITE_LINES_READY (R127). -/
  | writeLinesReady (err : Option TableError := none)
  /-- DIRECTIVE_WRITE_PROCEEDS (R156). -/
  | directiveWriteProceeds (err : Option TableError := none)
  /-- PASSTHROUGH_MEDIA_RETURN (R94). -/
  | passthroughMediaReturn (tag : Fin 256) (status : MediaStatus) (data : List Byte) (err : Option TableError := none)
  /-- UNEXPECTED_RETURN (R97). -/
  | unexpectedReturn (tag : Fin 256) (status : MediaStatus) (err : Option TableError := none)
  /-- PASSTHROUGH_RETURN_TIMEOUT (R96). -/
  | passthroughReturnTimeout (slot : Fin 256) (err : Option TableError := none)
  /-- STALE_TIMEOUT (R97). -/
  | staleTimeout (slot : Fin 256) (err : Option TableError := none)
  /-- INJECTED_RETURN_TIMEOUT (R98). -/
  | injectedReturnTimeout (slot : Fin 256) (err : Option TableError := none)
  /-- INJECTION_GRANT (R100). -/
  | injectionGrant (err : Option TableError := none)
  /-- DIGEST_FILL_RETURN (R52). -/
  | digestFillReturn (tag : Fin 256) (status : MediaStatus) (data : List Byte) (err : Option TableError := none)
  /-- DIGEST_REFILL_RETURN (R55). -/
  | digestRefillReturn (tag : Fin 256) (status : MediaStatus) (data : List Byte) (err : Option TableError := none)
  /-- DIGEST_WRITEBACK_RETURN (R57). -/
  | digestWritebackReturn (tag : Fin 256) (status : MediaStatus) (err : Option TableError := none)
  /-- WALK_CHUNK_RETURN (R115). -/
  | walkChunkReturn (tag : Fin 256) (status : MediaStatus) (data : List Byte) (err : Option TableError := none)
  /-- MEND_READ_RETURN (R146). -/
  | mendReadReturn (tag : Fin 256) (status : MediaStatus) (data : List Byte) (err : Option TableError := none)
  /-- MEND_WRITE_RETURN (R148). -/
  | mendWriteReturn (tag : Fin 256) (status : MediaStatus) (err : Option TableError := none)
  /-- STATUS_WRITE_RETURN (R173). -/
  | statusWriteReturn (tag : Fin 256) (status : MediaStatus) (err : Option TableError := none)
  /-- LOG_WRITE_RETURN (R179). -/
  | logWriteReturn (tag : Fin 256) (status : MediaStatus) (err : Option TableError := none)
  /-- CATALOGUE_READ_RETURN (R186). -/
  | catalogueReadReturn (tag : Fin 256) (status : MediaStatus) (data : List Byte) (err : Option TableError := none)
  /-- BLANK_CATALOGUE_WRITE_RETURN (R187). -/
  | blankCatalogueWriteReturn (tag : Fin 256) (status : MediaStatus) (err : Option TableError := none)
  /-- CATALOGUE_WRITE_RETURN (R189). -/
  | catalogueWriteReturn (tag : Fin 256) (status : MediaStatus) (err : Option TableError := none)
  /-- CATALOGUE_RETRY_EXPIRY (R189): block 0 is the header, block 1 + b record block b. -/
  | catalogueRetryExpiry (block : Fin 17)
  /-- IDLE_TIMER_EXPIRY (R79). -/
  | idleTimerExpiry (pos : Fin 32) (err : Option TableError := none)
  /-- DIRTY_TIMER_EXPIRY (R56). -/
  | dirtyTimerExpiry (line : Fin 64) (err : Option TableError := none)
  /-- STATUS_TIMER_EXPIRY (R173). -/
  | statusTimerExpiry
  /-- REST_TIMER_EXPIRY (R123). -/
  | restTimerExpiry (err : Option TableError := none)
  /-- LINE_QUEUE_GRANT (R49). -/
  | lineQueueGrant (err : Option TableError := none)
  /-- MEND_START (R144). -/
  | mendStart (err : Option TableError := none)
  /-- DEFINE_EXTENT (R10, R11). -/
  | defineExtent (extent cls mendMode policy base0 replica span frames tail mask digestBase : Nat)
      (err : Option TableError := none)
  /-- SEAL_EXTENT (R13). -/
  | sealExtent (extent : Nat) (err : Option TableError := none)
  /-- OPEN_EXTENT (R15). -/
  | openExtent (extent : Nat) (err : Option TableError := none)
  /-- RETIRE_EXTENT (R16). -/
  | retireExtent (extent : Nat) (err : Option TableError := none)
  /-- RESEAL_FRAME (R163). -/
  | resealFrame (extent frame source : Nat) (err : Option TableError := none)
  /-- CHECK_EXTENT (R164). -/
  | checkExtent (extent first last override : Nat) (err : Option TableError := none)
  /-- START_PASS (R164). -/
  | startPass (override : Nat) (err : Option TableError := none)
  /-- SUSPEND_WALK (R112). -/
  | suspendWalk (err : Option TableError := none)
  /-- RESUME_WALK (R112). -/
  | resumeWalk (err : Option TableError := none)
  /-- MEND_FRAME (R142, R165). -/
  | mendFrame (extent frame target : Nat) (err : Option TableError := none)
  /-- SET_POLICY (R166). -/
  | setPolicy (policy : Nat)
  /-- SET_WALK_DEPTH (R166). -/
  | setWalkDepth (depth : Nat)
  /-- SET_PACE (R166). -/
  | setPace (threshold depth repeatCode rest : Nat)
  /-- SET_TIMERS (R166). -/
  | setTimers (timeout idle : Nat)
  /-- SET_ADMISSION (R167): change marks, and one byte of rights for each requester. -/
  | setAdmission (marks : Nat) (rights : List Nat)
  /-- SET_ALERT (R168). -/
  | setAlert (mask : Nat)
  /-- SET_CLOCK (R183). -/
  | setClock (clock : Nat)
  /-- ACK_EVENTS (R176). -/
  | ackEvents (mask seen : Nat)
  /-- MOVE_LOG_TAIL (R181). -/
  | moveLogTail (slot : Nat)
  /-- SELECT_WINDOW (R174). -/
  | selectWindow (selection extent : Nat)
  /-- FLUSH (R169). -/
  | flush (err : Option TableError := none)
  /-- FREEZE (R170). -/
  | freeze
  /-- UNKNOWN_KIND (R159): the record's kind, which names no directive. -/
  | unknownKind (kind : Nat)
  /-- PART_CLOCK_TICK (R183). -/
  | partClockTick
  deriving DecidableEq, Repr

end Sys2Proof
end

