-- ==== Sys2Proof/Decode.lean ====
section
/-!
DEFINITION. Reading commands from bytes: the directive block (R157, section 12.2) and its 64-byte records. The rows of
spec/opcode_table.json give no bits, so no table word spells a command.
-/

namespace Sys2Proof

/-- The number a list of bytes spells, little-endian (12_formats_and_signals.md: all multi-byte fields are little-endian). -/
def leNat : List Byte → Nat
  | [] => 0
  | b :: bs => b.toNat + 256 * leNat bs

/-- The `n` bytes of a number, little-endian; higher bytes are dropped. -/
def leBytes : Nat → Nat → List Byte
  | 0, _ => []
  | n + 1, x => BitVec.ofNat 8 (x % 256) :: leBytes n (x / 256)

/-- The field of `len` bytes at offset `off` of a record. -/
def field (bytes : List Byte) (off len : Nat) : Nat := leNat ((bytes.drop off).take len)

/-- The 64 bytes of record `n` of a directive block, `n` from 1 to 63 (section 12.2). -/
def recordBytes (image : List Byte) (n : Nat) : List Byte := (image.drop (64 * n)).take 64

/-- The record count as stored in the batch header (R157). -/
def batchCount (image : List Byte) : Nat := field image 0 1

/-- The batch label (R157). -/
def batchLabel (image : List Byte) : Nat := field image 4 4

/-- The directive a 64-byte record spells (section 12.2). Reserved bytes and bits are ignored (R193); a kind outside
1 to 22 is UNKNOWN_KIND (R159). -/
def decodeRecord (r : List Byte) : Instr :=
  match field r 0 1 with
  | 1 => .defineExtent (field r 2 2) (field r 4 1) (field r 5 1) (field r 6 1) (field r 7 5) (field r 12 5) (field r 17 4)
      (field r 21 4) (field r 25 2) (field r 27 4) (field r 31 5) none
  | 2 => .sealExtent (field r 2 2) none
  | 3 => .openExtent (field r 2 2) none
  | 4 => .retireExtent (field r 2 2) none
  | 5 => .resealFrame (field r 2 2) (field r 4 4) (field r 8 1) none
  | 6 => .checkExtent (field r 2 2) (field r 4 4) (field r 8 4) (field r 12 1) none
  | 7 => .startPass (field r 4 1) none
  | 8 => .suspendWalk none
  | 9 => .resumeWalk none
  | 10 => .mendFrame (field r 2 2) (field r 4 4) (field r 8 1) none
  | 11 => .setPolicy (field r 4 1)
  | 12 => .setWalkDepth (field r 4 1)
  | 13 => .setPace (field r 4 2) (field r 6 1) (field r 7 1) (field r 8 4)
  | 14 => .setTimers (field r 4 2) (field r 6 2)
  | 15 => .setAlert (field r 4 1 % 64)
  | 16 => .setAdmission (field r 4 2) ((List.range 16).map fun i => field r (8 + i) 1 % 8)
  | 17 => .setClock (field r 8 8)
  | 18 => .ackEvents (field r 4 1 % 64) (field r 8 4)
  | 19 => .moveLogTail (field r 4 2)
  | 20 => .selectWindow (field r 4 1) (field r 2 2)
  | 21 => .flush none
  | 22 => .freeze
  | k => .unknownKind k

/-- The command a table word spells. No row of spec/opcode_table.json gives bits, so none spells one. -/
def decodeTableWord (_nbits _w : Nat) : Option Instr := none

end Sys2Proof
end

