-- ==== Sys2Proof/Config.lean ====
section
/-!
DEFINITION. What the part fixes (sizes, limits, defaults of the manual) and the free values: constants without a body, of
which nothing can be proved, for what the manual leaves open.
-/

namespace Sys2Proof.Config

/-- Blocks are 4,096 bytes (00_scope.md, section 5.1). -/
def blockBytes : Nat := 4096

/-- Block addresses run from 0 to 2^40 − 1 (00_scope.md, section 5.1). -/
def addressLimit : Nat := 2 ^ 40

/-- The control area is 51 blocks long (R3). -/
def controlBlocks : Nat := 51

/-- The modulus p = 2^31 − 1 of the frame digest (R27). -/
def digestModulus : Nat := 2147483647

/-- The passthrough share of the in-flight table (R92). -/
def passthroughBudget : Nat := 240

/-- The injected share of the in-flight table (R92). -/
def injectedBudget : Nat := 64

/-- Dirty timer of a digest line, and the retry time of a failed catalogue block, in ms (R47, R189). -/
def dirtyMs : Nat := 5000

/-- Period of the status timer, in ms (R173). -/
def statusMs : Nat := 1000

/-- The EEPROM read is given up after this many ms (R185). -/
def eepromMs : Nat := 100

/-- The largest 32-bit count (R108, R178). -/
def maxCount : Nat := 4294967295

/-- The bound on the walk engine's moves, and on the changes applied, within one step of the part. It is above what one
step can need (log 12). -/
def stepBound : Nat := 1048576

/-- FREE VALUE (log 10): byte `i` of the eight detail bytes that the status window shows in FAULT for a cause whose detail is
two numbers, CATALOGUE_RECORD (3) and CATALOGUE_OVERLAP (4). Section 12.3 gives the detail eight bytes and R190 says what it
tells; no rule gives the places of two numbers in them. `cause` is the cause's number and `x`, `y` are the detail's
numbers. -/
opaque faultDetailByte (cause x y i : Nat) : Byte

/-- FREE VALUE (log 11): the number the media sends for the status GOOD (R193: UNEXPECTED_RETURN records the status as
received; no rule numbers the statuses). -/
opaque goodStatusCode : Nat

/-- FREE VALUE (log 11): the number the media sends for the status MEDIA_ERROR. -/
opaque mediaErrorStatusCode : Nat

end Sys2Proof.Config
end

