-- ==== Sys2Proof/Machine/State.lean ====
section
/-!
DEFINITION. The state of the part, as plain data: everything the spec gives each of its blocks (00_scope.md, section 2.2),
the queue of waiting commands, and what has left the two ports. INVENTORY.md lists each field with the rule that names it.
-/

namespace Sys2Proof.Machine

/-- Faults of the model. No meaning of this model raises one (NOTES.md, Stops): the part state FAULT is an ordinary state
of the part. -/
inductive Fault where
  /-- Raised by nothing. Safe: it ends no run. -/
  | unused
  deriving DecidableEq, Repr

/-- Refusals of the model. -/
inductive Refusal where
  /-- Raised by exec's arm of a command that has no meaning yet (none is left). Safe: it ends the run. -/
  | notModelled (mnemonic : String)
  deriving DecidableEq, Repr

/-! ### Timers (00_scope.md, section 5.2) -/

/-- A running timer: the length it was started with, and the milliseconds since, both in ms. -/
structure Timer where
  length : Nat
  elapsed : Nat
  deriving DecidableEq, Repr

/-- A timer just started. -/
def Timer.start (length : Nat) : Timer := ⟨length, 0⟩

/-! ### Extent map (R1 to R3) -/

/-- Copy 0 or copy 1 of a frame. -/
inductive CopyId where
  | copy0
  | copy1
  deriving DecidableEq, Repr

/-- Extent states, in the order of their numbers (R1, section 12.1). -/
inductive ExtentState where
  | free
  | preparing
  | defined
  | sealing
  | sealed
  | opened
  deriving DecidableEq, Repr

/-- Extent class (R1). -/
inductive ExtentClass where
  | openable
  | fixed
  deriving DecidableEq, Repr

/-- Mend mode (R1). -/
inductive MendMode where
  | auto
  | manual
  deriving DecidableEq, Repr

/-- Verdict policy (R21). -/
inductive Policy where
  | mark
  | pass
  deriving DecidableEq, Repr

/-- One extent record (R1). `policy` none is the override NONE; `replica` none is absent. -/
structure Extent where
  state : ExtentState
  cls : ExtentClass
  mendMode : MendMode
  policy : Option Policy
  base0 : Nat
  replica : Option Nat
  span : Nat
  frames : Nat
  tail : Nat
  mask : Word
  digestBase : Nat
  lastPass : Nat
  deriving DecidableEq, Repr

/-- The FREE form (R1). -/
def Extent.freeForm : Extent where
  state := .free
  cls := .openable
  mendMode := .auto
  policy := none
  base0 := 0
  replica := none
  span := 0
  frames := 0
  tail := 0
  mask := 0
  digestBase := 0
  lastPass := 0

/-- What a claimed range is (R3). -/
inductive RangeKind where
  | copy (extent : Fin 1024) (copy : CopyId)
  | digest (extent : Fin 1024)
  | control
  deriving DecidableEq, Repr

/-- One entry of the claimed-range index (R3). -/
structure Range where
  kind : RangeKind
  first : Nat
  len : Nat
  deriving DecidableEq, Repr

/-- The extent map (R1, R3, R23). -/
structure ExtentMap where
  extents : Vector Extent 1024
  index : List Range
  restart : List (Fin 1024)
  deriving DecidableEq, Repr

/-- One frame copy (R5): the unit that is digested, checked and mended. -/
structure FrameKey where
  extent : Fin 1024
  frame : Nat
  copy : CopyId
  deriving DecidableEq, Repr

/-! ### Digest store (R38 to R47) -/

/-- Copy states, in the order of their numbers (R39). -/
inductive CopyState where
  | unsealed
  | provisional
  | sealed
  | suspect
  | mending
  | lost
  | digestLost
  | absent
  deriving DecidableEq, Repr

/-- The five working fields of a digest entry (R38). -/
structure Entry where
  a : Nat
  b : Nat
  lastPass : Nat
  copy0 : CopyState
  copy1 : CopyState
  deriving DecidableEq, Repr

/-- Line states (R47). -/
inductive LineState where
  | invalid
  | filling
  | clean
  | dirty
  | writing
  | writingRedirtied
  deriving DecidableEq, Repr

/-- The two verify phases and the copy phase of a mend (R145). -/
inductive MendPhase where
  | verifySource
  | copy
  | verifyTarget
  deriving DecidableEq, Repr

/-- A change submitted to the store for one entry: three of the five kinds of R42 (a match and a mismatch come only
within a verdict), and the four submissions that compare and apply in one step (R73, R128, R134, R146). -/
inductive Change where
  /-- A state change: the copy, the states it applies from, the new state. -/
  | state (copy : CopyId) (sources : List CopyState) (target : CopyState)
  /-- A pass stamp. -/
  | stamp (pass : Nat)
  /-- A verdict on a copy with the computed digest (R73). -/
  | verdict (copy : CopyId) (a b : Nat)
  /-- A streamed seal completion (R128). -/
  | sealCompletion (copy : CopyId) (a b : Nat)
  /-- A comparing reread, from the state found (R134). -/
  | sealCompare (copy : CopyId) (a b : Nat) (found : CopyState)
  /-- A taking reread of copy 0, from the state found (R134). -/
  | sealTake0 (a b : Nat) (found : CopyState)
  /-- A taking reread of copy 1 after copy 0 gave a media error, with both states found (R135). -/
  | sealTake1 (a b : Nat) (found1 found0 : CopyState)
  /-- The taking reread of an accept-mode walk (R137). -/
  | acceptTake (copy : CopyId) (a b : Nat) (found : CopyState)
  /-- A mend comparison in a verify phase with the target copy (R146). -/
  | mendCompare (phase : MendPhase) (target : CopyId) (a b : Nat)
  deriving DecidableEq, Repr

/-- Who submitted a change, to whom the store's answer goes. -/
inductive Submitter where
  /-- A write's acceptance, or a change whose answer is not acted on. -/
  | nobody
  /-- The accumulator at a position of the pool (CHECK verdicts, and the walk's SCRUB results at position 30). -/
  | accum (pos : Fin 32)
  /-- The mend engine: start of a mend (R144 step 4). -/
  | mendMarking
  /-- The mend engine: a mend comparison (R146). -/
  | mendComparing
  /-- The mend engine: a closing change (R152). -/
  | mendClosing
  /-- The mend engine at MEND_FRAME: the change of R154. -/
  | mendFrame
  deriving DecidableEq, Repr

/-- A change that waits with a FILLING or refilling line (R42, R47). -/
structure Waiting where
  frame : Nat
  who : Submitter
  change : Change
  deriving DecidableEq, Repr

/-- One digest line (R47), with its refilling mark (R55) and the marks of R49 (eviction victim), R57 (a trigger arrived
during the write) and R58/R60 (writeback cut off, to be queued again). -/
structure Line where
  tag : Nat
  extent : Fin 1024
  state : LineState
  entries : List Entry
  pins : Nat
  dirtyTimer : Option Timer
  waiting : List Waiting
  refilling : Bool
  victim : Bool
  retrigger : Bool
  cut : Bool
  deriving DecidableEq, Repr

/-- An INVALID line that nothing pins. -/
def Line.blank : Line where
  tag := 0
  extent := 0
  state := .invalid
  entries := []
  pins := 0
  dirtyTimer := none
  waiting := []
  refilling := false
  victim := false
  retrigger := false
  cut := false

/-- Who waits in the line queue (R49), MEND_FRAME included (R142). -/
inductive LineUser where
  | write
  | walk
  | mend
  | mendFrame
  deriving DecidableEq, Repr

/-- One request of the line queue. `fresh` is set for the PREPARE walk's, whose line is created and not filled (R54). -/
structure LineRequest where
  user : LineUser
  tag : Nat
  extent : Fin 1024
  fresh : Bool
  deriving DecidableEq, Repr

/-- The digest store (R47, R49). -/
structure Store where
  lines : Vector Line 64
  recency : List (Fin 64)
  dirtyOrder : List (Fin 64)
  queue : List LineRequest
  deriving DecidableEq, Repr

/-! ### Accumulator pool (R61, R62) -/

/-- Accumulator modes (R61). -/
inductive AccumMode where
  | seal
  | check
  | scrub
  | mend
  deriving DecidableEq, Repr

/-- A run of block-in-frame numbers, first and last included (R68). -/
abbrev Run := Nat × Nat

/-- One accumulator (R62). `awaiting` is the life state AWAITING. -/
structure Accum where
  mode : AccumMode
  key : FrameKey
  awaiting : Bool
  a : Nat
  b : Nat
  runs : List Run
  pendingCount : Nat
  holding : List (Fin 256)
  line : Option (Fin 64)
  idle : Option Timer
  deriving DecidableEq, Repr

/-! ### Transfer switch (R91, R99) -/

/-- What an injected request is for, which names its owner (R99). Chunks carry their number within the frame. -/
inductive Owner where
  | fill (line : Fin 64)
  | refill (line : Fin 64)
  | writeback (line : Fin 64)
  | status
  | log
  | catalogueRead (block : Fin 17)
  | blankWrite (block : Fin 17)
  | catalogueWrite (block : Fin 17)
  | walkChunk (key : FrameKey) (chunk : Nat)
  | mendRead (chunk : Nat)
  | mendWrite (chunk : Nat)
  deriving DecidableEq, Repr

/-- One queued injected request (R99). -/
structure InjRequest where
  owner : Owner
  kind : ReqKind
  addr : Nat
  count : Nat
  deriving DecidableEq, Repr

/-- Slot life states, in the order of their codes (R91, section 12.3). -/
inductive SlotLife where
  | free
  | assigned
  | outstanding
  | held
  | stale
  deriving DecidableEq, Repr

/-- Slot kinds (R91). -/
inductive SlotKind where
  | passthrough (kind : ReqKind)
  | injected (owner : Owner)
  deriving DecidableEq, Repr

/-- One contribution of a slot (R70): the accumulator position, the block-in-frame of the request's first block in that
frame copy and the number of that block within the request, the newly reserved runs, and the partial sums so far. -/
structure Contribution where
  pos : Fin 32
  first : Nat
  start : Nat
  runs : List Run
  a : Nat
  b : Nat
  deriving DecidableEq, Repr

/-- What an accumulator gives a held return (R77). `failed` says whether the effective policy was MARK at that moment. -/
inductive SlotOutcome where
  | passed
  | failed (mark : Bool)
  | noVerdict
  deriving DecidableEq, Repr

/-- Statuses of returns at the upstream port (R83). -/
inductive UpStatus where
  | good
  | mediaError
  | refused
  | busy
  | checkFailed
  | timeout
  | fault
  deriving DecidableEq, Repr

/-- One slot of the in-flight table (R91). -/
structure Slot where
  life : SlotLife
  kind : SlotKind
  requester : Fin 16
  tag : Nat
  addr : Nat
  count : Nat
  timer : Option Timer
  contribs : List Contribution
  watches : List (Fin 32)
  pins : List (Fin 64)
  held : Bool
  batch : Bool
  outcomes : List SlotOutcome
  data : List Byte
  status : UpStatus
  dead : Bool
  deriving DecidableEq, Repr

/-- A FREE slot. -/
def Slot.freeSlot : Slot where
  life := .free
  kind := .passthrough .read
  requester := 0
  tag := 0
  addr := 0
  count := 0
  timer := none
  contribs := []
  watches := []
  pins := []
  held := false
  batch := false
  outcomes := []
  data := []
  status := .good
  dead := false

/-- The wait that the head request is in (R88, R90). -/
inductive HeadWait where
  /-- Held undecided in LOADING (R88). -/
  | undecided
  /-- First wait of R90; whether the request was decided in RUNNING, so that a read is offered for checks (R20, R88). -/
  | slot (checked : Bool)
  /-- Second wait of R90, with the slot it has. -/
  | lines (slot : Fin 256)
  /-- Third wait of R90, with the slot it has. -/
  | unit (slot : Fin 256)
  deriving DecidableEq, Repr

/-- The request at the head of the upstream link (R85), whether it was decided to be the exact directive-block write, and
its wait. -/
structure Head where
  req : Request
  exact : Bool
  wait : HeadWait
  deriving DecidableEq, Repr

/-- The upstream port (R85, R106). -/
structure Upstream where
  linkUp : Bool
  head : Option Head
  deriving DecidableEq, Repr

/-- A return sent upstream (R83, R84). -/
structure UpReturn where
  requester : Fin 16
  tag : Nat
  status : UpStatus
  data : List Byte
  deriving DecidableEq, Repr

/-- What the part sends at the media port (R82, R105). -/
inductive MediaSend where
  | request (kind : ReqKind) (requester : Fin 16) (tag : Fin 256) (addr count : Nat) (data : List Byte)
  | linkReset
  deriving DecidableEq, Repr

/-- What has left the two ports, in order (log 3). -/
structure Ports where
  upstream : List UpReturn
  media : List MediaSend
  deriving DecidableEq, Repr

/-! ### Walk engine (R108) -/

/-- Walk kinds (R108). -/
inductive WalkKind where
  | pass
  | check
  | seal
  | prepare
  deriving DecidableEq, Repr

/-- Walk depths (R113). -/
inductive Depth where
  | full
  | audit
  deriving DecidableEq, Repr

/-- Run states (R108, R110). -/
inductive RunState where
  | running
  | suspending
  | suspended
  | saving
  deriving DecidableEq, Repr

/-- What a SEAL walk's reread of a copy is for (R133, R135, R137). -/
inductive Purpose where
  | comparing
  | taking
  deriving DecidableEq, Repr

/-- One reread of a SEAL walk's plan: the copy, the state found, the purpose. -/
structure Reread where
  copy : CopyId
  found : CopyState
  purpose : Purpose
  deriving DecidableEq, Repr

/-- The steps of a frame's plan (R133), and of an accept-mode plan (R137). -/
inductive PlanStep where
  | stepA0
  | stepA1
  | stepB
  /-- Copy 1 becomes the taker (R135). -/
  | stepB1
  /-- Step C is reached. -/
  | stepC
  | stepC0
  | stepC1
  | source
  | other
  | finished
  deriving DecidableEq, Repr

/-- The plan of a SEAL walk's frame (R132, R133): the states found on entry, the next step, the states found when step C was
reached, the copies whose taking reread failed, the reread in hand, and whether a first read of the frame was granted. -/
structure Plan where
  entry0 : CopyState
  entry1 : CopyState
  step : PlanStep
  c0 : CopyState
  c1 : CopyState
  takeFailed : List CopyId
  current : Option Reread
  begun : Bool
  deriving DecidableEq, Repr

/-- What a walk waits for within its unit. -/
inductive WalkStage where
  /-- Nothing: the engine moves it on. -/
  | ready
  /-- A SEAL walk before its first frame (R132). -/
  | waitWrites
  /-- In the line queue (R49). -/
  | waitQueue
  /-- Pinned; the line is FILLING or refilling (R114). -/
  | waitFill
  /-- Reading a frame copy in chunks; the next chunk to queue (R115). -/
  | reading (next : Nat)
  /-- All chunks committed; the store's answer is awaited (R75). -/
  | answer
  /-- The store verifies the block (R119). -/
  | auditing
  /-- The block's writeback is awaited (R130). -/
  | preparing
  /-- Cut off by media link loss, to be begun again at link up (R118). -/
  | cut
  deriving DecidableEq, Repr

/-- One walk record (R108). `source` is the source copy of an accept-mode SEAL walk (R137). `entered` says that a PASS walk
has entered the extent at its cursor, `started` that a SEAL walk's first wait is over, `past` that the cursor is past the
last unit, and `changed` that its extent has left the state it requires since the walk took it up (R118; log 52). -/
structure Walk where
  kind : WalkKind
  source : Option CopyId
  extent : Fin 1024
  first : Nat
  last : Nat
  frame : Nat
  copy : CopyId
  depth : Depth
  run : RunState
  checked : Nat
  mismatches : Nat
  skipped : Nat
  extentSkipped : Nat
  incomplete : Bool
  visited : List (Fin 1024)
  entered : Bool
  started : Bool
  past : Bool
  changed : Bool
  plan : Option Plan
  stage : WalkStage
  inFlight : Bool
  line : Option (Fin 64)
  deriving DecidableEq, Repr

/-- The walk engine (R108, R123). -/
structure WalkEngine where
  cur : Option Walk
  incoming : Option Walk
  saved : List Walk
  restTimer : Option Timer
  passDue : Bool
  deriving DecidableEq, Repr

/-! ### Mend engine (R140, R145) -/

/-- Where the active mend stands: the waits of its start (R144), its phases at work (R146, R148), a comparison submitted,
cut off by media link loss (R155), or a closing change submitted, with the reason of R152. -/
inductive MendStage where
  | lineQueue
  | lineFill
  | marking
  | working
  | comparing
  | cut
  | closing (reason : Nat)
  deriving DecidableEq, Repr

/-- The active mend (R145). `restarted` says that its target is MENDING already and only its line is awaited (R155). -/
structure Mend where
  extent : Fin 1024
  frame : Nat
  target : CopyId
  stage : MendStage
  restarted : Bool
  phase : MendPhase
  attempt : Nat
  next : Nat
  buffer : Option (Nat × List Byte)
  line : Option (Fin 64)
  lastA : Nat
  lastB : Nat
  deriving DecidableEq, Repr

/-- The mend engine (R140). A queue entry is the target frame copy. -/
structure MendEngine where
  queue : List FrameKey
  active : Option Mend
  deriving DecidableEq, Repr

/-! ### Directive unit (R156 to R171) -/

/-- Results of records, in the order of their codes from 1 (R159, section 12.3). -/
inductive Result where
  | done
  | started
  | clamped
  | busy
  | refusedState
  | refusedRange
  | refusedOverlap
  | refusedFrozen
  | unknownKind
  deriving DecidableEq, Repr

/-- The batch in progress (R157 to R161). `records` is how many records are to be executed: the count as taken, or fewer
after a cut. `slot` is the slot of its return while it stands there. -/
structure Batch where
  image : List Byte
  count : Nat
  clamped : Bool
  label : Nat
  results : List Result
  records : Nat
  slot : Option (Fin 256)
  cut : Bool
  ended : Bool
  reported : Bool
  deriving DecidableEq, Repr

/-- The MEND_FRAME record that waits for its line (R142): in the line queue, for the fill, or for the change of R154. -/
inductive FrameWait where
  | queue
  | fill
  | change
  deriving DecidableEq, Repr

/-- A MEND_FRAME record waiting for the mend engine's answer (R158). -/
structure FrameAsk where
  key : FrameKey
  wait : FrameWait
  line : Option (Fin 64)
  deriving DecidableEq, Repr

/-- One line or catalogue block that a flush includes; `skip` says that a write in flight when the flush executed does not
count (R56, R169). -/
structure FlushItem (α : Type) where
  item : α
  skip : Bool
  deriving DecidableEq, Repr

/-- A flush in progress (R169). -/
structure Flush where
  lines : List (FlushItem (Fin 64))
  blocks : List (FlushItem (Fin 17))
  good : Nat
  failed : Nat
  blocksFailed : Nat
  deriving DecidableEq, Repr

/-- The directive unit. -/
structure DirectiveUnit where
  batch : Option Batch
  mendFrame : Option FrameAsk
  freeze : Bool
  flush : Option Flush
  deriving DecidableEq, Repr

/-! ### Report writer (R172 to R184) -/

/-- The six event flags, in the order of their bits (R175, section 12.1). -/
inductive EventFlag where
  | finding
  | walkEnd
  | mendEnd
  | flushEnd
  | logFull
  | fault
  deriving DecidableEq, Repr

/-- An event flag: set or clear, and its remembered update count (R175). -/
structure Flag where
  isSet : Bool
  seen : Option (BitVec 32)
  deriving DecidableEq, Repr

/-- A flag clear, with its count absent. -/
def Flag.clear : Flag := ⟨false, none⟩

/-- Finding kinds, in the order of their numbers from 1 (section 12.3). -/
inductive FindingKind where
  | frameMismatch
  | frameRecovered
  | frameLost
  | mediaError
  | timeout
  | unexpectedReturn
  | digestDamaged
  | sealMismatch
  | sealDone
  | prepareDone
  | mendDone
  | mendFailed
  | passDone
  | checkDone
  | writeRefused
  | logResumed
  | flushDone
  | mendMediaError
  | mendTimeout
  deriving DecidableEq, Repr

/-- One finding (R182). `copy` holds the copy's number, or the incomplete mark of CHECK_DONE. -/
structure Finding where
  kind : FindingKind
  copy : Option Nat
  extent : Option Nat
  frame : Option Nat
  pass : Nat
  clock : BitVec 64
  d1 : Nat
  d2 : Nat
  d3 : Nat
  deriving DecidableEq, Repr

/-- Window selections (R174). -/
inductive Window where
  | summary
  | extent (n : Fin 1024)
  | accumulators
  | mendQueue
  | walks
  | inflight
  deriving DecidableEq, Repr

/-- What the status write in flight carried (R173 to R175): its update count, the flags set in its image that have not risen
since, and whether a batch that has ended waits for it. -/
structure StatusShot where
  count : BitVec 32
  shown : Vector Bool 6
  batch : Bool
  deriving DecidableEq, Repr

/-- What the log write in flight carries (R179): a completed image, or the head image with the head as it then stood. -/
inductive LogShot where
  | completed
  | headImage (head : Nat)
  deriving DecidableEq, Repr

/-- The last-batch group of the status block (R172). -/
structure LastBatch where
  label : Nat
  count : Nat
  clamped : Bool
  results : List Result
  deriving DecidableEq, Repr

/-- The report writer. `image` none is a head image not held (R184). -/
structure Report where
  updateCount : BitVec 32
  flags : Vector Flag 6
  statusDue : Bool
  statusTimer : Option Timer
  statusShot : Option StatusShot
  selection : Window
  selectedSince : Bool
  lastBatch : Option LastBatch
  head : Nat
  writtenHead : Nat
  tail : Nat
  image : Option (List Finding)
  imageChanged : Bool
  completed : List (Nat × List Finding)
  logShot : Option LogShot
  withheld : Nat
  clock : BitVec 64
  deriving DecidableEq, Repr

/-! ### Settings (R166 to R168, R186) -/

/-- The rights of one requester (R89). -/
structure Rights where
  read : Bool
  write : Bool
  direct : Bool
  deriving DecidableEq, Repr

/-- The settings in force, which are also the fields of the catalogue header image (R186). `alertMask` is in flag order. -/
structure Settings where
  passNumber : Nat
  policy : Policy
  depth : Depth
  paceThreshold : Nat
  paceDepth : Nat
  repeatOn : Bool
  restInterval : Nat
  returnTimeout : Nat
  idleTime : Nat
  admission : Vector Rights 16
  alertMask : Vector Bool 6
  headerHead : Nat
  headerTail : Nat
  deriving DecidableEq, Repr

/-! ### Setup loader (R185 to R191) -/

/-- Part states, in the order of their codes (R185, section 12.3). -/
inductive PartState where
  | setup
  | loading
  | running
  | passthrough
  | fault
  deriving DecidableEq, Repr

/-- What an accepted setup image gives (R185). -/
structure Setup where
  base : Nat
  capacity : Nat
  returnTimeout : Nat
  admission : Vector Rights 16
  deriving DecidableEq, Repr

/-- What the loader does in LOADING (R186, R187): nothing yet, the header read, the record reads (the blocks got, in
block order), or the writes of a blank catalogue. -/
inductive Load where
  | idle
  | header (attempts : Nat)
  | records (settings : Settings) (got : Vector (Option (List Byte)) 16) (attempts : Vector Nat 16)
  | blank (block : Fin 17) (attempts : Nat)
  deriving DecidableEq, Repr

/-- Catalogue block write states (R189). -/
inductive CatState where
  | current
  | changed
  | writing
  | writingChanged
  deriving DecidableEq, Repr

/-- The write side of one catalogue block (R189): its state, its retry timer after a failure, and whether its write was cut
off and is to be issued again. -/
structure CatBlock where
  state : CatState
  retry : Option Timer
  cut : Bool
  deriving DecidableEq, Repr

/-- The causes of FAULT with the detail R190 records. -/
inductive FaultCause where
  | setupImage
  | catalogueHeader
  | catalogueRecord (extent test : Nat)
  /-- `other` none is the CONTROL range. -/
  | catalogueOverlap (extent : Nat) (other : Option Nat)
  | catalogueRead (addr : Nat)
  | catalogueWrite (addr : Nat)
  | extentMap
  | digestCache
  | accumulators
  | inFlight
  deriving DecidableEq, Repr

/-- The setup loader. Catalogue block 0 is the header, block 1 + b record block b. -/
structure Loader where
  part : PartState
  maint : Bool
  eeprom : Option Timer
  setup : Option Setup
  load : Load
  cats : Vector CatBlock 17
  fault : Option FaultCause
  deriving DecidableEq, Repr

/-! ### The whole part -/

/-- The state of the part. `pending` is the queue of waiting commands, first in, first out (log 1). -/
structure State where
  pending : List Instr
  ports : Ports
  up : Upstream
  mediaUp : Bool
  slots : Vector Slot 256
  arb : List InjRequest
  cfg : Settings
  map : ExtentMap
  pool : Vector (Option Accum) 32
  store : Store
  walk : WalkEngine
  mend : MendEngine
  dir : DirectiveUnit
  rep : Report
  ldr : Loader
  deriving DecidableEq, Repr

/-! ### Reset values (R185 and each block's own rule) -/

/-- Every right withheld (R89). -/
def Rights.withheld : Rights := ⟨false, false, false⟩

/-- Settings right after hardware reset (R79, R89, R96, R102, R113, R123, R125, R177). The policy and the recorded log head
and tail are DESIGN CHOICE (log 6): the values of a blank catalogue. -/
def Settings.reset : Settings where
  passNumber := 0
  policy := .mark
  depth := .full
  paceThreshold := 32
  paceDepth := 4
  repeatOn := false
  restInterval := 0
  returnTimeout := 2000
  idleTime := 500
  admission := Vector.replicate 16 Rights.withheld
  alertMask := Vector.replicate 6 false
  headerHead := 0
  headerTail := 0

/-- 1,024 FREE records and an empty index (R22); the restart list is empty (R23). -/
def ExtentMap.reset : ExtentMap where
  extents := Vector.replicate 1024 Extent.freeForm
  index := []
  restart := []

/-- Every line INVALID, nothing waiting (R47). The recency order is DESIGN CHOICE (log 7). -/
def Store.reset : Store where
  lines := Vector.replicate 64 Line.blank
  recency := List.finRange 64
  dirtyOrder := []
  queue := []

/-- No walk, rest timer stopped, pass-due mark clear (R125). -/
def WalkEngine.reset : WalkEngine where
  cur := none
  incoming := none
  saved := []
  restTimer := none
  passDue := false

/-- Queue empty, no active mend (R140). -/
def MendEngine.reset : MendEngine where
  queue := []
  active := none

/-- Idle, no flush, freeze clear (R161, R169, R170, R171). -/
def DirectiveUnit.reset : DirectiveUnit where
  batch := none
  mendFrame := none
  freeze := false
  flush := none

/-- Update count 0, flags clear, SUMMARY, no batch, heads and tail 0, no images, clock 0 (R173 to R175, R183, R184). -/
def Report.reset : Report where
  updateCount := 0
  flags := Vector.replicate 6 Flag.clear
  statusDue := false
  statusTimer := none
  statusShot := none
  selection := .summary
  selectedSince := false
  lastBatch := none
  head := 0
  writtenHead := 0
  tail := 0
  image := none
  imageChanged := false
  completed := []
  logShot := none
  withheld := 0
  clock := 0

/-- SETUP, with the EEPROM read begun (R185). The maintenance mark is the MAINT sample; `State.reset` takes it released
(DESIGN CHOICE, log 8). -/
def Loader.reset : Loader where
  part := .setup
  maint := false
  eeprom := some (Timer.start Config.eepromMs)
  setup := none
  load := .idle
  cats := Vector.replicate 17 ⟨.current, none, false⟩
  fault := none

/-- The part right after hardware reset (R185, R107). -/
def State.reset : State where
  pending := []
  ports := ⟨[], []⟩
  up := ⟨true, none⟩
  mediaUp := false
  slots := Vector.replicate 256 Slot.freeSlot
  arb := []
  cfg := Settings.reset
  map := ExtentMap.reset
  pool := Vector.replicate 32 none
  store := Store.reset
  walk := WalkEngine.reset
  mend := MendEngine.reset
  dir := DirectiveUnit.reset
  rep := Report.reset
  ldr := Loader.reset

end Sys2Proof.Machine
end

