-- ==== Sys2Proof/Machine/Formats.lean ====
section
/-!
DEFINITION. The records of 12_formats_and_signals.md as bytes, the numbers of their named values, and the weighted byte
check (R34).
-/

namespace Sys2Proof.Machine

/-! ### The weighted byte check -/

/-- The sum of (k + 1)·b_k over a record's bytes, with `k` the number of the first one. -/
def weightedSum : Nat → List Byte → Nat
  | _, [] => 0
  | k, b :: bs => (k + 1) * b.toNat + weightedSum (k + 1) bs

/-- The weighted byte check of a record's guarded bytes (R34). -/
def weightedCheck (guarded : List Byte) : Nat := (1 + weightedSum 0 guarded) % 65536

/-- The guarded bytes with their check after them (R34, R35). -/
def withCheck (guarded : List Byte) : List Byte := guarded ++ leBytes 2 (weightedCheck guarded)

/-- A record of `n` guarded bytes passes its check (R34). -/
def checkPasses (n : Nat) (bytes : List Byte) : Bool := field bytes n 2 == weightedCheck (bytes.take n)

/-- A block: the bytes given, then zeros to 4,096 (R192). -/
def padBlock (bytes : List Byte) : List Byte := bytes ++ zeros (Config.blockBytes - bytes.length)

/-- The bytes given, then zeros to `n` bytes (R192). -/
def padTo (n : Nat) (bytes : List Byte) : List Byte := bytes ++ zeros (n - bytes.length)

/-- A single bit as a number. -/
def bit (b : Bool) : Nat := if b then 1 else 0

/-- The number whose bits are the list's, the first being bit 0. -/
def bitsNat : List Bool → Nat
  | [] => 0
  | b :: bs => bit b + 2 * bitsNat bs

/-- Bit `i` of a number. -/
def bitOf (x i : Nat) : Bool := x / 2 ^ i % 2 == 1

/-! ### Numbers of named values (sections 12.1 to 12.3) -/

def CopyId.num : CopyId → Nat
  | .copy0 => 0
  | .copy1 => 1

def CopyId.ofNum : Nat → Option CopyId
  | 0 => some .copy0
  | 1 => some .copy1
  | _ => none

/-- The other copy of the same frame. -/
def CopyId.other : CopyId → CopyId
  | .copy0 => .copy1
  | .copy1 => .copy0

def ExtentState.code : ExtentState → Nat
  | .free => 0
  | .preparing => 1
  | .defined => 2
  | .sealing => 3
  | .sealed => 4
  | .opened => 5

def ExtentState.ofCode : Nat → Option ExtentState
  | 0 => some .free
  | 1 => some .preparing
  | 2 => some .defined
  | 3 => some .sealing
  | 4 => some .sealed
  | 5 => some .opened
  | _ => none

def ExtentClass.code : ExtentClass → Nat
  | .openable => 0
  | .fixed => 1

def ExtentClass.ofCode : Nat → Option ExtentClass
  | 0 => some .openable
  | 1 => some .fixed
  | _ => none

def MendMode.code : MendMode → Nat
  | .auto => 0
  | .manual => 1

def MendMode.ofCode : Nat → Option MendMode
  | 0 => some .auto
  | 1 => some .manual
  | _ => none

def Policy.code : Policy → Nat
  | .mark => 1
  | .pass => 2

def Policy.ofCode : Nat → Option Policy
  | 1 => some .mark
  | 2 => some .pass
  | _ => none

/-- Policy override: 0 is NONE. -/
def overrideCode : Option Policy → Nat
  | none => 0
  | some p => p.code

def overrideOfCode : Nat → Option (Option Policy)
  | 0 => some none
  | 1 => some (some .mark)
  | 2 => some (some .pass)
  | _ => none

def Depth.code : Depth → Nat
  | .full => 1
  | .audit => 2

def Depth.ofCode : Nat → Option Depth
  | 1 => some .full
  | 2 => some .audit
  | _ => none

/-- Depth override of START_PASS and CHECK_EXTENT: 0 is NONE (section 12.2). -/
def depthOverrideOfCode : Nat → Option (Option Depth)
  | 0 => some none
  | 1 => some (some .full)
  | 2 => some (some .audit)
  | _ => none

def CopyState.code : CopyState → Nat
  | .unsealed => 0
  | .provisional => 1
  | .sealed => 2
  | .suspect => 3
  | .mending => 4
  | .lost => 5
  | .digestLost => 6
  | .absent => 7

def CopyState.ofCode : Nat → Option CopyState
  | 0 => some .unsealed
  | 1 => some .provisional
  | 2 => some .sealed
  | 3 => some .suspect
  | 4 => some .mending
  | 5 => some .lost
  | 6 => some .digestLost
  | 7 => some .absent
  | _ => none

def PartState.code : PartState → Nat
  | .setup => 0
  | .loading => 1
  | .running => 2
  | .passthrough => 3
  | .fault => 4

def WalkKind.code : WalkKind → Nat
  | .pass => 1
  | .check => 2
  | .seal => 3
  | .prepare => 4

def RunState.code : RunState → Nat
  | .running => 1
  | .suspending => 2
  | .suspended => 3
  | .saving => 4

def MendPhase.code : MendPhase → Nat
  | .verifySource => 1
  | .copy => 2
  | .verifyTarget => 3

def AccumMode.code : AccumMode → Nat
  | .seal => 1
  | .check => 2
  | .scrub => 3
  | .mend => 4

def SlotLife.code : SlotLife → Nat
  | .free => 0
  | .assigned => 1
  | .outstanding => 2
  | .held => 3
  | .stale => 4

def Result.code : Result → Nat
  | .done => 1
  | .started => 2
  | .clamped => 3
  | .busy => 4
  | .refusedState => 5
  | .refusedRange => 6
  | .refusedOverlap => 7
  | .refusedFrozen => 8
  | .unknownKind => 9

def FindingKind.code : FindingKind → Nat
  | .frameMismatch => 1
  | .frameRecovered => 2
  | .frameLost => 3
  | .mediaError => 4
  | .timeout => 5
  | .unexpectedReturn => 6
  | .digestDamaged => 7
  | .sealMismatch => 8
  | .sealDone => 9
  | .prepareDone => 10
  | .mendDone => 11
  | .mendFailed => 12
  | .passDone => 13
  | .checkDone => 14
  | .writeRefused => 15
  | .logResumed => 16
  | .flushDone => 17
  | .mendMediaError => 18
  | .mendTimeout => 19

/-- The status value as the media sent it (R97, R193). The numbers of GOOD and MEDIA_ERROR are free values (log 11). -/
def statusCode : MediaStatus → Nat
  | .good => Config.goodStatusCode
  | .mediaError => Config.mediaErrorStatusCode
  | .other c => c

def FaultCause.code : FaultCause → Nat
  | .setupImage => 1
  | .catalogueHeader => 2
  | .catalogueRecord _ _ => 3
  | .catalogueOverlap _ _ => 4
  | .catalogueRead _ => 5
  | .catalogueWrite _ => 6
  | .extentMap => 7
  | .digestCache => 8
  | .accumulators => 9
  | .inFlight => 10

/-- The eight detail bytes of the FAULT window, bytes 4 to 11 (R190, section 12.3). A detail of one number, a block address, is
that number in the eight bytes, little-endian as every field of chapter 12 is. Where R190 records no detail they are zero
(R192); where it records two numbers, their places are a free value (log 10). -/
def FaultCause.detail : FaultCause → List Byte
  | .catalogueRecord e t => (List.range 8).map fun i => Config.faultDetailByte 3 e t i
  | .catalogueOverlap e o => (List.range 8).map fun i => Config.faultDetailByte 4 e (o.getD 65535) i
  | .catalogueRead a => leBytes 8 a
  | .catalogueWrite a => leBytes 8 a
  | _ => zeros 8

/-! ### Digest entries (R38, R40, R41, section 12.1) -/

/-- The state of one copy of an entry. -/
def Entry.copyState (e : Entry) : CopyId → CopyState
  | .copy0 => e.copy0
  | .copy1 => e.copy1

/-- The entry with one copy in a new state. -/
def Entry.setCopy (e : Entry) (c : CopyId) (st : CopyState) : Entry :=
  match c with
  | .copy0 => { e with copy0 := st }
  | .copy1 => { e with copy1 := st }

/-- The fresh entry (R40). -/
def Entry.fresh (hasReplica : Bool) : Entry :=
  ⟨0, 0, 0, .unsealed, if hasReplica then .unsealed else .absent⟩

/-- The DIGEST_LOST entry (R40). -/
def Entry.digestLost (hasReplica : Bool) : Entry :=
  ⟨0, 0, 0, .digestLost, if hasReplica then .digestLost else .absent⟩

/-- What a slot that belongs to no frame holds (R6, R38). -/
def Entry.zero : Entry := ⟨0, 0, 0, .unsealed, .unsealed⟩

/-- The fourteen guarded bytes of an entry (R35). -/
def Entry.guarded (e : Entry) : List Byte :=
  leBytes 4 e.a ++ leBytes 4 e.b ++ leBytes 4 e.lastPass ++ leBytes 1 e.copy0.code ++ leBytes 1 e.copy1.code

/-- The 16 bytes of an entry, with its check (section 12.1). -/
def Entry.encode (e : Entry) : List Byte := withCheck e.guarded

/-- Reads the 16 bytes of an entry: the entry where R41 holds, else the lowest reason of its damage (R52: 1 check, 2 sum
out of range, 3 state value). -/
def decodeEntry (hasReplica : Bool) (bytes : List Byte) : Except Nat Entry :=
  let a := field bytes 0 4
  let b := field bytes 4 4
  if !checkPasses 14 bytes then .error 1
  else if Config.digestModulus ≤ a || Config.digestModulus ≤ b then .error 2
  else
    match CopyState.ofCode (field bytes 12 1), CopyState.ofCode (field bytes 13 1) with
    | some s0, some s1 =>
        if s0 = .absent then .error 3
        else if decide (s1 = .absent) == hasReplica then .error 3
        else .ok ⟨a, b, field bytes 8 4, s0, s1⟩
    | _, _ => .error 3

/-! ### Extent records (R1, R10, section 12.1) -/

/-- The stored replica base: all ones where the extent has none (R1). -/
def replicaField (r : Option Nat) : Nat := r.getD (Config.addressLimit - 1)

/-- The 64 bytes of an extent record. -/
def Extent.encode (e : Extent) : List Byte :=
  withCheck (padTo 62 (leBytes 1 e.state.code ++ leBytes 1 e.cls.code ++ leBytes 1 e.mendMode.code ++
    leBytes 1 (overrideCode e.policy) ++ leBytes 5 e.base0 ++ leBytes 5 (replicaField e.replica) ++ leBytes 4 e.span ++
    leBytes 4 e.frames ++ leBytes 2 e.tail ++ leBytes 4 e.mask.toNat ++ leBytes 5 e.digestBase ++ leBytes 4 e.lastPass))

/-- Length of one copy in blocks (R2). -/
def Extent.copyLen (e : Extent) : Nat := e.span * e.frames

/-- Length of the digest area in blocks (R2): ⌈F/256⌉. -/
def Extent.digestLen (e : Extent) : Nat := (e.frames + 255) / 256

/-- Whether the extent has a replica (R1). -/
def Extent.hasReplica (e : Extent) : Bool := e.replica.isSome

/-- The base of a copy; a copy 1 that does not exist has none (R7). -/
def Extent.baseOf (e : Extent) : CopyId → Option Nat
  | .copy0 => some e.base0
  | .copy1 => e.replica

/-- The geometry stage of R10, but for the extent number: the extent the fields give, in state PREPARING with last
completed pass 0, or none where a condition fails. -/
def geometry (capacity cls mode policy base0 replica span frames tail mask digestBase : Nat) : Option Extent :=
  match ExtentClass.ofCode cls, MendMode.ofCode mode, overrideOfCode policy with
  | some c, some m, some p =>
      let rep : Option Nat := if replica = Config.addressLimit - 1 then none else some replica
      let e : Extent := ⟨.preparing, c, m, p, base0, rep, span, frames, tail, BitVec.ofNat 32 mask, digestBase, 0⟩
      if 1 ≤ span && span ≤ 65536 && 1 ≤ frames && frames ≤ 16777216 && 1 ≤ tail && tail ≤ 4096 && mask != 4294967295 &&
          base0 + e.copyLen ≤ capacity && (match rep with | none => true | some r => r + e.copyLen ≤ capacity) &&
          digestBase + e.digestLen ≤ capacity
      then some e else none
  | _, _, _ => none

/-- Tests 1 to 4 of R186 on the 64 bytes of a record: the record, or the number of the first failing test. -/
def decodeExtent (capacity : Nat) (bytes : List Byte) : Except Nat Extent :=
  if !checkPasses 62 bytes then .error 1
  else
    match ExtentState.ofCode (field bytes 0 1) with
    | none => .error 2
    | some .free => if bytes.take 37 = Extent.freeForm.encode.take 37 then .ok Extent.freeForm else .error 3
    | some st =>
        match geometry capacity (field bytes 1 1) (field bytes 2 1) (field bytes 3 1) (field bytes 4 5) (field bytes 9 5)
            (field bytes 14 4) (field bytes 18 4) (field bytes 22 2) (field bytes 24 4) (field bytes 28 5) with
        | none => .error 4
        | some e => .ok { e with state := st, lastPass := field bytes 33 4 }

/-- The 4,096 bytes of a record block: 64 records, each with its check (R189). -/
def recordBlock (extents : List Extent) : List Byte := extents.flatMap Extent.encode

/-! ### Rights, catalogue header and setup image (section 12.1) -/

/-- One byte of an admission table: bit 0 READ, bit 1 WRITE, bit 2 DIRECT. -/
def Rights.code (r : Rights) : Nat := bitsNat [r.read, r.write, r.direct]

/-- The rights of one byte; bits 3 to 7 are ignored (R193). -/
def Rights.ofCode (x : Nat) : Rights := ⟨bitOf x 0, bitOf x 1, bitOf x 2⟩

/-- The admission table at offset `off` of a record. -/
def admissionAt (bytes : List Byte) (off : Nat) : Vector Rights 16 :=
  Vector.ofFn fun i : Fin 16 => Rights.ofCode (field bytes (off + i.val) 1)

/-- The six positions of a mask byte; bits 6 and 7 are ignored (R193). -/
def maskOf (x : Nat) : Vector Bool 6 := Vector.ofFn fun i : Fin 6 => bitOf x i.val

/-- The guarded bytes of the catalogue header. -/
def Settings.guarded (s : Settings) : List Byte :=
  padTo 62 (leBytes 4 s.passNumber ++ leBytes 1 s.policy.code ++ leBytes 1 s.depth.code ++ leBytes 2 s.paceThreshold ++
    leBytes 1 s.paceDepth ++ leBytes 1 (bit s.repeatOn) ++ leBytes 4 s.restInterval ++ leBytes 2 s.returnTimeout ++
    leBytes 2 s.idleTime ++ (s.admission.toList.flatMap fun r => leBytes 1 r.code) ++
    leBytes 1 (bitsNat s.alertMask.toList) ++ zeros 1 ++ leBytes 2 s.headerHead ++ leBytes 2 s.headerTail)

/-- The header block. -/
def Settings.encode (s : Settings) : List Byte := padBlock (withCheck s.guarded)

/-- Reads the header block: its check and the range of every field (R186); none where one fails. -/
def decodeHeader (bytes : List Byte) : Option Settings :=
  match checkPasses 62 bytes, Policy.ofCode (field bytes 4 1), Depth.ofCode (field bytes 5 1) with
  | true, some policy, some depth =>
      let threshold := field bytes 6 2
      let paceDepth := field bytes 8 1
      let rep := field bytes 9 1
      let rest := field bytes 10 4
      let timeout := field bytes 14 2
      let idle := field bytes 16 2
      let head := field bytes 36 2
      let tail := field bytes 38 2
      if threshold ≤ 240 && 1 ≤ paceDepth && paceDepth ≤ 16 && rep ≤ 1 && rest ≤ 604800 && 100 ≤ timeout &&
          timeout ≤ 10000 && 50 ≤ idle && idle ≤ 5000 && head ≤ 4095 && tail ≤ 4095
      then some ⟨field bytes 0 4, policy, depth, threshold, paceDepth, rep == 1, rest, timeout, idle,
        admissionAt bytes 18, maskOf (field bytes 34 1), head, tail⟩
      else none
  | _, _, _ => none

/-- A number brought to the nearest end of its range (R166, R185). -/
def clamp (lo hi x : Nat) : Nat := if x < lo then lo else if hi < x then hi else x

/-- Reads the setup image: what an accepted image gives, none where it is not accepted (R185). An image of another length
than 256 bytes was not read whole. -/
def decodeSetup (bytes : List Byte) : Option Setup :=
  let base := field bytes 2 5
  let capacity := field bytes 8 6 % 2 ^ 41
  if bytes.length == 256 && field bytes 0 2 == 0x0401 && checkPasses 254 bytes && 51 ≤ capacity &&
      capacity ≤ Config.addressLimit && base + Config.controlBlocks ≤ capacity
  then some ⟨base, capacity, clamp 100 10000 (field bytes 14 2), admissionAt bytes 16⟩
  else none

/-- The fresh header of a blank catalogue (R187). -/
def freshHeader (s : Setup) : Settings where
  passNumber := 0
  policy := .mark
  depth := .full
  paceThreshold := 32
  paceDepth := 4
  repeatOn := false
  restInterval := 0
  returnTimeout := s.returnTimeout
  idleTime := 500
  admission := s.admission
  alertMask := Vector.replicate 6 false
  headerHead := 0
  headerTail := 0

/-! ### Findings (R182, section 12.3) -/

/-- A field of `n` bytes; none holds all ones (12_formats_and_signals.md). -/
def optBytes (n : Nat) (x : Option Nat) : List Byte := leBytes n (x.getD (256 ^ n - 1))

/-- The 32 bytes of a finding. -/
def Finding.encode (f : Finding) : List Byte :=
  leBytes 1 f.kind.code ++ optBytes 1 f.copy ++ optBytes 2 f.extent ++ optBytes 4 f.frame ++ leBytes 4 f.pass ++
    leBytes 8 f.clock.toNat ++ leBytes 4 f.d1 ++ leBytes 4 f.d2 ++ leBytes 4 f.d3

/-- A log block: the findings placed in it, then empty slots of zeros (R178, R179). -/
def logBlock (fs : List Finding) : List Byte := padBlock (fs.flatMap Finding.encode)

/-! ### A record written at an offset of a block -/

/-- The block's bytes with those of `part` standing from offset `off` on. -/
def overlay (block : List Byte) (off : Nat) (part : List Byte) : List Byte :=
  block.take off ++ part ++ block.drop (off + part.length)

end Sys2Proof.Machine
end

