-- ==== Sys2Proof/Machine/Ops.lean ====
section
/-!
DEFINITION. The shared operations: timers, reads and writes of the numbered tables, what leaves the ports, the arbiter's
queue, the line pins, catalogue marks. Each says the rule it follows.
-/

namespace Sys2Proof.Machine

/-! ### Timers (00_scope.md, section 5.2; log 4) -/

/-- The timer has reached its length: its expiry may come. -/
def Timer.due (t : Timer) : Bool := decide (t.length ≤ t.elapsed)

/-- A timer that runs and is due. -/
def timerDue : Option Timer → Bool
  | none => false
  | some t => t.due

/-- One millisecond passes on a running timer. -/
def Timer.tick (t : Timer) : Timer := { t with elapsed := t.elapsed + 1 }

/-- A count that stops at 2^32 − 1 (R108, R180). -/
def bump (n k : Nat) : Nat := min Config.maxCount (n + k)

/-! ### Numbered tables -/

/-- Every element of a fixed table through a function. -/
def vmap {α β : Type} {n : Nat} (f : α → β) (v : Vector α n) : Vector β n :=
  ⟨⟨v.toList.map f⟩, by simp⟩

/-- Extent record `e`. -/
def State.extent (s : State) (e : Fin 1024) : Extent := s.map.extents[e]

/-- Writes extent record `e`. -/
def State.setExtent (s : State) (e : Fin 1024) (x : Extent) : State :=
  { s with map := { s.map with extents := s.map.extents.set e x } }

/-- Slot `i` of the in-flight table. -/
def State.slot (s : State) (i : Fin 256) : Slot := s.slots[i]

/-- Writes slot `i`. -/
def State.setSlot (s : State) (i : Fin 256) (x : Slot) : State := { s with slots := s.slots.set i x }

/-- Applies a function to every slot. -/
def State.mapSlots (s : State) (f : Slot → Slot) : State := { s with slots := vmap f s.slots }

/-- Position `p` of the accumulator pool. -/
def State.accum (s : State) (p : Fin 32) : Option Accum := s.pool[p]

/-- Writes position `p` of the pool. -/
def State.setAccum (s : State) (p : Fin 32) (x : Option Accum) : State := { s with pool := s.pool.set p x }

/-- Digest line `l`. -/
def State.line (s : State) (l : Fin 64) : Line := s.store.lines[l]

/-- Writes digest line `l`. -/
def State.setLine (s : State) (l : Fin 64) (x : Line) : State :=
  { s with store := { s.store with lines := s.store.lines.set l x } }

/-- Catalogue block `b`. -/
def State.cat (s : State) (b : Fin 17) : CatBlock := s.ldr.cats[b]

/-- Writes catalogue block `b`. -/
def State.setCat (s : State) (b : Fin 17) (x : CatBlock) : State :=
  { s with ldr := { s.ldr with cats := s.ldr.cats.set b x } }

/-- The numbers below `n`, ascending. -/
def allFin (n : Nat) : List (Fin n) := List.finRange n

/-- Applies `f` once for each element of a list, in order. -/
def forEach {α : Type} (xs : List α) (f : α → State → State) (s : State) : State := xs.foldl (fun t x => f x t) s

/-- The part is RUNNING (R185). -/
def State.running (s : State) : Bool := decide (s.ldr.part = .running)

/-- The control-area base C, where known (R185). -/
def State.controlBase (s : State) : Option Nat := s.ldr.setup.map Setup.base

/-! ### The two ports -/

/-- A return goes upstream (R84). -/
def State.sendUp (s : State) (r : UpReturn) : State :=
  { s with ports := { s.ports with upstream := s.ports.upstream ++ [r] } }

/-- A request, or a link reset, goes out at the media port (R82, R105). -/
def State.sendMedia (s : State) (m : MediaSend) : State :=
  { s with ports := { s.ports with media := s.ports.media ++ [m] } }

/-! ### The arbiter's queue (R99) -/

/-- The class of a request, by what it is for (R99). -/
def Owner.cls : Owner → Nat
  | .fill _ => 1
  | .refill _ => 1
  | .catalogueRead _ => 1
  | .status => 2
  | .log => 2
  | .writeback _ => 3
  | .blankWrite _ => 3
  | .catalogueWrite _ => 3
  | .mendRead _ => 4
  | .mendWrite _ => 4
  | .walkChunk _ _ => 5

/-- The request belongs to the walk engine. -/
def Owner.isWalk : Owner → Bool
  | .walkChunk _ _ => true
  | _ => false

/-- The request belongs to the mend engine. -/
def Owner.isMend : Owner → Bool
  | .mendRead _ => true
  | .mendWrite _ => true
  | _ => false

/-- Queues an injected request, last in order of arrival (R99). -/
def State.enqueue (s : State) (r : InjRequest) : State := { s with arb := s.arb ++ [r] }

/-- Withdraws the queued requests of an owner that a test names (R99). -/
def State.withdraw (s : State) (p : Owner → Bool) : State := { s with arb := s.arb.filter fun r => !p r.owner }

/-- A request of this owner is queued. -/
def State.queued (s : State) (o : Owner) : Bool := s.arb.any fun r => decide (r.owner = o)

/-- A one-block request. -/
def oneBlock (owner : Owner) (kind : ReqKind) (addr : Nat) : InjRequest := ⟨owner, kind, addr, 1⟩

/-! ### The in-flight table (R91, R92) -/

/-- The slot's life state is live (R91). -/
def SlotLife.live : SlotLife → Bool
  | .assigned => true
  | .outstanding => true
  | .held => true
  | .free => false
  | .stale => false

/-- The slot holds a passthrough request. -/
def SlotKind.isPass : SlotKind → Bool
  | .passthrough _ => true
  | .injected _ => false

/-- The slot counts toward the passthrough budget: passthrough, live or STALE (R92). -/
def Slot.countsPass (x : Slot) : Bool := x.kind.isPass && decide (x.life ≠ .free)

/-- The slot counts toward the injected budget: injected, live or STALE (R92). -/
def Slot.countsInjected (x : Slot) : Bool := !x.kind.isPass && decide (x.life ≠ .free)

/-- A live passthrough slot. -/
def Slot.livePass (x : Slot) : Bool := x.kind.isPass && x.life.live

/-- A live injected slot. -/
def Slot.liveInjected (x : Slot) : Bool := !x.kind.isPass && x.life.live

/-- How many slots pass a test. -/
def State.countSlots (s : State) (p : Slot → Bool) : Nat := s.slots.toList.countP p

/-- The lowest-numbered FREE slot (R91). -/
def State.freeSlot? (s : State) : Option (Fin 256) :=
  (allFin 256).find? fun i => decide ((s.slot i).life = .free)

/-- The injected requests OUTSTANDING whose owner passes a test. -/
def State.outstanding (s : State) (p : Owner → Bool) : Nat :=
  s.countSlots fun x =>
    match x.kind with
    | .injected o => decide (x.life = .outstanding) && p o
    | .passthrough _ => false

/-- Requests of an engine queued or OUTSTANDING (R115, R145). -/
def State.inHand (s : State) (p : Owner → Bool) : Nat := (s.arb.countP fun r => p r.owner) + s.outstanding p

/-- The results of an owner's OUTSTANDING requests are to be discarded (R117, R150). -/
def State.killOutstanding (s : State) (p : Owner → Bool) : State :=
  s.mapSlots fun x =>
    match x.kind with
    | .injected o => if x.life = .outstanding ∧ p o = true then { x with dead := true, contribs := [] } else x
    | .passthrough _ => x

/-! ### Line pins and the recency order (R48, R51) -/

/-- The line takes the most recent place (R48). -/
def Store.touch (st : Store) (l : Fin 64) : Store := { st with recency := st.recency.filter (· ≠ l) ++ [l] }

/-- The line takes the least recent place (R48). -/
def Store.sink (st : Store) (l : Fin 64) : Store := { st with recency := l :: st.recency.filter (· ≠ l) }

/-- A holder takes a pin; the line moves to the most recent place (R48, R51). -/
def State.pin (s : State) (l : Fin 64) : State :=
  let s := s.setLine l { s.line l with pins := (s.line l).pins + 1 }
  { s with store := s.store.touch l }

/-- A holder releases its pin (R51). -/
def State.unpin (s : State) (l : Fin 64) : State := s.setLine l { s.line l with pins := (s.line l).pins - 1 }

/-- Releases a pin, where one is held. -/
def State.unpin? (s : State) : Option (Fin 64) → State
  | none => s
  | some l => s.unpin l

/-! ### Catalogue marks (R189) -/

/-- The block address of catalogue block `b`: the header at C + 34, record block r at C + 35 + r (R6). -/
def catalogueAddr (base : Nat) (b : Fin 17) : Nat := base + 34 + b.val

/-- The record block that holds extent `e` (R6). -/
def recordBlockOf (e : Fin 1024) : Fin 17 := ⟨e.val / 64 + 1, by omega⟩

/-- Queues the write of a catalogue block, unless it is queued already. -/
def State.queueCat (s : State) (b : Fin 17) : State :=
  if s.queued (.catalogueWrite b) then s
  else s.enqueue (oneBlock (.catalogueWrite b) .write (catalogueAddr (s.controlBase.getD 0) b))

/-- A change marks a catalogue block (R189): CURRENT becomes CHANGED and is queued at once; a block left CHANGED after a
failed write is queued again by its next change; a block being written becomes WRITING_CHANGED. Blocks have a write state
only once the catalogue is loaded. -/
def State.markCat (s : State) (b : Fin 17) : State :=
  if s.running then
    match (s.cat b).state with
    | .current => (s.setCat b ⟨.changed, none, false⟩).queueCat b
    | .changed => (s.setCat b { s.cat b with retry := none }).queueCat b
    | .writing => s.setCat b { s.cat b with state := .writingChanged }
    | .writingChanged => s
  else s

/-- The header block is marked. -/
def State.markHeader (s : State) : State := s.markCat 0

/-- An extent's record changes, and its record block is marked (R189). -/
def State.changeExtent (s : State) (e : Fin 1024) (x : Extent) : State := (s.setExtent e x).markCat (recordBlockOf e)

end Sys2Proof.Machine
end

