-- ==== Sys2Proof/Machine/Flags.lean ====
section
/-!
DEFINITION. The report writer's shared operations: event flags, ALERT_N, the status-due mark, the finding log
(10_status_findings_and_the_alert_line.md).
-/

namespace Sys2Proof.Machine

/-- The flag's bit (section 12.1). -/
def EventFlag.idx : EventFlag → Fin 6
  | .finding => 0
  | .walkEnd => 1
  | .mendEnd => 2
  | .flushEnd => 3
  | .logFull => 4
  | .fault => 5

/-- A flag of the report writer. -/
def State.flag (s : State) (f : EventFlag) : Flag := s.rep.flags[f.idx]

/-- Some set flag is unmasked (R177). -/
def State.unmaskedFlag (s : State) : Bool :=
  (allFin 6).any fun i => (s.rep.flags[i]).isSet && !(s.cfg.alertMask[i])

/-- ALERT_N is driven low (R177): throughout PASSTHROUGH, and elsewhere while a set flag is unmasked. -/
def State.alertLow (s : State) : Bool := decide (s.ldr.part = .passthrough) || s.unmaskedFlag

/-! ### The status-due mark (R173) -/

/-- While the mark is set and no status write is queued or in flight, one is queued (R173). It is queued while the part is
RUNNING, and in FAULT, where it is the write of the entry (R184); either way the control area must be known. -/
def State.pumpStatus (s : State) : State :=
  match s.controlBase with
  | none => s
  | some c =>
      if s.rep.statusDue && s.rep.statusShot.isNone && !s.queued .status &&
          (s.running || decide (s.ldr.part = .fault))
      then s.enqueue (oneBlock .status .write (c + 1)) else s

/-- Sets the status-due mark (R173). -/
def State.statusDue (s : State) : State := { s with rep := { s.rep with statusDue := true } }.pumpStatus

/-- A status write in flight no longer shows the flag, which has risen again since its image (R175). -/
def StatusShot.unshow (x : StatusShot) (f : EventFlag) : StatusShot := { x with shown := x.shown.set f.idx false }

/-- A flag rises: it becomes set, its remembered count absent, also for the status write in flight, and the status-due mark is
set (R175). -/
def State.raise (s : State) (f : EventFlag) : State :=
  { s with rep := { s.rep with flags := s.rep.flags.set f.idx ⟨true, none⟩,
                               statusShot := s.rep.statusShot.map fun x : StatusShot => x.unshow f } }.statusDue

/-! ### The finding log (R178 to R181) -/

/-- Unread findings: (head − tail) mod 4,096 (R178). -/
def Report.unread (r : Report) : Nat := (r.head + 4096 - r.tail) % 4096

/-- The tail lies after the head in the slots up to and including the first slot of the next block (R178, R184). -/
def Report.tailAhead (r : Report) : Bool :=
  let d := (r.tail + 4096 - r.head) % 4096
  decide (1 ≤ d) && decide (d ≤ 128 - r.head % 128)

/-- The log is full (R178, its four conditions). -/
def Report.full (r : Report) : Bool :=
  decide (r.unread = 4095) ||
  (decide (r.head % 128 = 0) && decide (r.tail / 128 = r.head / 128) && decide (r.head < r.tail)) ||
  (decide (r.head % 128 = 127) && decide (3 ≤ r.completed.length)) ||
  (r.image.isNone && r.tailAhead)

/-- Where a finding stands at the head (R179): in the head image, which is formed if the head stands at a block's first
slot, and which becomes the newest completed image when its last slot is filled. From the fill on, the next block's head image
is held, with no finding in it yet (log 54). -/
def Report.place (r : Report) (f : Finding) : Report :=
  let filled := (r.image.getD []) ++ [f]
  let next := (r.head + 1) % 4096
  if next % 128 = 0 then
    { r with head := next, image := some [], imageChanged := false, completed := r.completed ++ [(r.head / 128, filled)] }
  else { r with head := next, image := some filled, imageChanged := true }

/-- The block that the next log write goes to: the oldest completed image's, otherwise the head's (R179). -/
def Report.logBlockNumber (r : Report) : Nat :=
  match r.completed with
  | (b, _) :: _ => b
  | [] => r.head / 128

/-- At most one log write is queued or in flight; when none is, and a completed image awaits or the head image has changed
since its last write, one is queued (R179). Log block b is control block 2 + b (R178). -/
def State.pumpLog (s : State) : State :=
  match s.controlBase with
  | none => s
  | some c =>
      if s.running && s.rep.logShot.isNone && !s.queued .log &&
          (!s.rep.completed.isEmpty || (s.rep.imageChanged && s.rep.image.isSome))
      then s.enqueue (oneBlock .log .write (c + 2 + s.rep.logBlockNumber)) else s

/-- Places a finding and raises FINDING (R179). The status write that FINDING's rise asks for joins the arbiter's queue before
the log write (log 60). -/
def State.placeFinding (s : State) (f : Finding) : State :=
  ({ s with rep := s.rep.place f }.raise .finding).pumpLog

/-- A finding is handed over (R179, R180): placed, or withheld where the log is full. Findings handed over while the part
is not RUNNING are discarded (R184 for FAULT; log 13 for the other states). -/
def State.handFinding (s : State) (f : Finding) : State :=
  if s.running then
    if s.rep.full then { s with rep := { s.rep with withheld := bump s.rep.withheld 1 } }.raise .logFull
    else s.placeFinding f
  else s

/-- A finding of this moment: it carries the current pass number and the part clock (R182). -/
def State.findingNow (s : State) (kind : FindingKind) (extent frame copy : Option Nat) (d1 d2 d3 : Nat) : Finding :=
  ⟨kind, copy, extent, frame, s.cfg.passNumber, s.rep.clock, d1, d2, d3⟩

/-- Hands over a finding of this moment. -/
def State.log (s : State) (kind : FindingKind) (extent frame copy : Option Nat) (d1 d2 d3 : Nat) : State :=
  s.handFinding (s.findingNow kind extent frame copy d1 d2 d3)

/-- Hands over a finding that names a frame copy. -/
def State.logCopy (s : State) (kind : FindingKind) (k : FrameKey) (d1 d2 d3 : Nat) : State :=
  s.log kind (some k.extent.val) (some k.frame) (some k.copy.num) d1 d2 d3

/-- A block address as two details: its low 32 bits and its upper 8 bits. -/
def lowBits (addr : Nat) : Nat := addr % 2 ^ 32

/-- The upper 8 bits of a block address. -/
def highBits (addr : Nat) : Nat := addr / 2 ^ 32

/-- The log has ceased to be full while findings are withheld: one LOG_RESUMED is placed, then the count is 0 (R180). -/
def State.resumeLog (s : State) : State :=
  if s.running && decide (0 < s.rep.withheld) && !s.rep.full then
    let s := s.placeFinding (s.findingNow .logResumed none none none s.rep.withheld 0 0)
    { s with rep := { s.rep with withheld := 0 } }
  else s

/-- The written head and the tail are recorded in the header image (R179, R181, R184). -/
def State.recordLog (s : State) : State :=
  { s with cfg := { s.cfg with headerHead := s.rep.writtenHead, headerTail := s.rep.tail } }.markHeader

/-- With the head image not held and the head within a block, the head and the written head move to the next block's first
slot, unless the tail lies ahead (R184). -/
def State.settleHead (s : State) : State :=
  if s.rep.image.isNone && decide (s.rep.head % 128 ≠ 0) && !s.rep.tailAhead then
    let next := (s.rep.head / 128 + 1) * 128 % 4096
    { s with rep := { s.rep with head := next, writtenHead := next } }.recordLog
  else s

/-! ### The status timer (R173) -/

/-- A walk is active: a current walk in any run state other than SUSPENDED (R173). -/
def State.walkActive (s : State) : Bool :=
  match s.walk.cur with
  | none => false
  | some w => decide (w.run ≠ .suspended)

/-- The mend has started: its target is MENDING (R144 step 5), or was when a link reset took its line (R155). -/
def Mend.begun (m : Mend) : Bool :=
  m.restarted ||
    match m.stage with
    | .lineQueue => false
    | .lineFill => false
    | .marking => false
    | _ => true

/-- A mend is active (R173). -/
def State.mendActive (s : State) : Bool :=
  match s.mend.active with
  | none => false
  | some m => m.begun

/-- The status timer runs while a walk or a mend is active and starts afresh when one becomes active (R173). It is looked at as
a step ends: where one walk or mend ends and another becomes active within one step, the timer runs on (log 63). -/
def State.syncStatusTimer (s : State) : State :=
  if s.walkActive || s.mendActive then
    if s.rep.statusTimer.isNone then
      { s with rep := { s.rep with statusTimer := some (Timer.start Config.statusMs) } }
    else s
  else if s.rep.statusTimer.isSome then { s with rep := { s.rep with statusTimer := none } }
  else s

end Sys2Proof.Machine
end

