-- ==== Sys2Proof/Machine/Operands.lean ====
section
/-!
DEFINITION. What a command's block range means: the claimed-range index, the pieces of a request, the frame copies it
touches, and the protection judgment (01_extents_and_claimed_ranges.md).
-/

namespace Sys2Proof.Machine

/-! ### The claimed-range index (R3) -/

/-- The first block after the range. -/
def Range.stop (r : Range) : Nat := r.first + r.len

/-- The range shares no block with another. -/
def Range.disjoint (r q : Range) : Bool := decide (r.stop ≤ q.first) || decide (q.stop ≤ r.first)

/-- A range joins the index, which stays in ascending order of first block (R3). -/
def insertRange (r : Range) : List Range → List Range
  | [] => [r]
  | q :: qs => if r.first ≤ q.first then r :: q :: qs else q :: insertRange r qs

/-- The ranges of an extent: copy 0, the replica if there is one, the digest area (R2, R3). -/
def Extent.ranges (e : Extent) (n : Fin 1024) : List Range :=
  ⟨.copy n .copy0, e.base0, e.copyLen⟩ ::
    (match e.replica with
      | none => []
      | some r => [⟨.copy n .copy1, r, e.copyLen⟩]) ++
    [⟨.digest n, e.digestBase, e.digestLen⟩]

/-- The CONTROL range at control-area base C (R3). -/
def controlRange (base : Nat) : Range := ⟨.control, base, Config.controlBlocks⟩

/-- The ranges are pairwise disjoint. -/
def pairwiseDisjoint : List Range → Bool
  | [] => true
  | r :: rs => rs.all (fun q => r.disjoint q) && pairwiseDisjoint rs

/-- The overlap stage of R10: the extent's own ranges are pairwise disjoint and disjoint from every range of the index. -/
def overlapFree (index : List Range) (ranges : List Range) : Bool :=
  pairwiseDisjoint ranges && ranges.all fun r => index.all fun q => r.disjoint q

/-- The range belongs to extent `n`. -/
def Range.ofExtent (r : Range) (n : Fin 1024) : Bool :=
  match r.kind with
  | .copy e _ => decide (e = n)
  | .digest e => decide (e = n)
  | .control => false

/-- The extent's ranges join the index (R3). -/
def joinIndex (index : List Range) (ranges : List Range) : List Range := ranges.foldl (fun ix r => insertRange r ix) index

/-! ### The pieces of a request (R4) -/

/-- One piece: part of a claimed range, or a run of unclaimed blocks. `base` is the range's first block. -/
structure Piece where
  kind : Option RangeKind
  base : Nat
  first : Nat
  len : Nat
  deriving DecidableEq, Repr

/-- A run of unclaimed blocks. -/
def unclaimed (first len : Nat) : Piece := ⟨none, first, first, len⟩

/-- The pieces into which an ascending index cuts the blocks from `x` up to, not including, `stop` (R4). -/
def cutPieces : List Range → Nat → Nat → List Piece
  | [], x, stop => if x < stop then [unclaimed x (stop - x)] else []
  | r :: rs, x, stop =>
      if stop ≤ x then []
      else if r.stop ≤ x then cutPieces rs x stop
      else if stop ≤ r.first then [unclaimed x (stop - x)]
      else
        (if x < r.first then [unclaimed x (r.first - x)] else []) ++
          ⟨some r.kind, r.first, max x r.first, min stop r.stop - max x r.first⟩ :: cutPieces rs r.stop stop

/-- The pieces of a request for `count` blocks from `addr` (R4). -/
def State.pieces (s : State) (addr count : Nat) : List Piece := cutPieces s.map.index addr (addr + count)

/-! ### The frame copies of a request (R5, R8) -/

/-- One touched frame copy: its key, its run of block-in-frame numbers, and the number within the request of the block that
is the run's first. -/
structure Touched where
  key : FrameKey
  first : Nat
  last : Nat
  start : Nat
  deriving DecidableEq, Repr

/-- The frame copies of `left` blocks of a copy from offset `off` on, in ascending order (R8). `fuel` bounds their number;
each takes at least one block. -/
def touchedFrom (e : Fin 1024) (c : CopyId) (span : Nat) : Nat → Nat → Nat → Nat → List Touched
  | 0, _, _, _ => []
  | fuel + 1, off, left, start =>
      if left = 0 then []
      else
        let k := off % span
        let n := min left (span - k)
        ⟨⟨e, off / span, c⟩, k, k + n - 1, start⟩ :: touchedFrom e c span fuel (off + n) (left - n) (start + n)

/-- The frame copies of one piece (R8); `origin` is the request's first block. -/
def Piece.touched (s : State) (origin : Nat) (p : Piece) : List Touched :=
  match p.kind with
  | some (.copy e c) => touchedFrom e c (s.extent e).span p.len (p.first - p.base) p.len (p.first - origin)
  | _ => []

/-- The touched frame copies of all copy pieces of a request, in address order (R8). -/
def State.touched (s : State) (addr count : Nat) : List Touched := (s.pieces addr count).flatMap (Piece.touched s addr)

/-- The block of copy `c` that is block-in-frame `k` of frame `f` (R5). -/
def Extent.blockAddr (e : Extent) (c : CopyId) (f k : Nat) : Nat := (e.baseOf c).getD 0 + f * e.span + k

/-- The digest block that holds frame `f`'s entry (R6). -/
def Extent.digestBlock (e : Extent) (f : Nat) : Nat := e.digestBase + f / 256

/-- How many slots of the digest block at `tag` belong to frames (R6). -/
def Extent.slotsOf (e : Extent) (tag : Nat) : Nat := min 256 (e.frames - (tag - e.digestBase) * 256)

/-- The first frame whose entry lies in the digest block at `tag` (R6). -/
def Extent.firstFrame (e : Extent) (tag : Nat) : Nat := (tag - e.digestBase) * 256

/-! ### The protection judgment (R18) -/

/-- How one piece of a controller write is judged (R18). -/
inductive Judgment where
  | allowed
  | busy
  | refused
  deriving DecidableEq, Repr

/-- One piece of a write against the table of R18. `exact` says that the write is the exact directive-block write. -/
def State.judgePiece (s : State) (exact : Bool) (p : Piece) : Judgment :=
  match p.kind with
  | none => .allowed
  | some (.copy e _) =>
      match (s.extent e).state with
      | .defined => .allowed
      | .opened => .allowed
      | .preparing => .busy
      | .sealing => .busy
      | .sealed => .refused
      | .free => .allowed
  | some (.digest _) => .refused
  | some .control => if exact then .allowed else .refused

/-- The whole write: REFUSED if any piece refuses, otherwise BUSY if any is busy, otherwise allowed (R18). -/
def judgeAll (js : List Judgment) : Judgment :=
  if js.any (fun j => decide (j = .refused)) then .refused
  else if js.any (fun j => decide (j = .busy)) then .busy
  else .allowed

/-- The judgment of a controller write (R18). -/
def State.judge (s : State) (exact : Bool) (addr count : Nat) : Judgment :=
  judgeAll ((s.pieces addr count).map (s.judgePiece exact))

/-- The first block of the write that lies in a refusing piece (R18). -/
def State.firstRefused (s : State) (exact : Bool) (addr count : Nat) : Nat :=
  match (s.pieces addr count).find? fun p => decide (s.judgePiece exact p = .refused) with
  | some p => p.first
  | none => addr

/-- The exact directive-block write (R18): a one-block write to block C + 0 from a requester with DIRECT. -/
def State.isExact (s : State) (r : Request) : Bool :=
  decide (r.kind = .write) && decide (r.count = 1) && decide (s.controlBase = some r.addr) && (s.cfg.admission[r.requester]).direct

/-- A touched frame copy lies in an extent whose state passes a test. -/
def State.inState (s : State) (p : ExtentState → Bool) (t : Touched) : Bool := p (s.extent t.key.extent).state

/-- DEFINED or OPEN: writes are streamed into SEAL accumulators (R18). -/
def ExtentState.ingest : ExtentState → Bool
  | .defined => true
  | .opened => true
  | _ => false

/-- The frame copies of a write that lie in DEFINED or OPEN pieces (R126, R127). -/
def State.ingestTouched (s : State) (addr count : Nat) : List Touched :=
  (s.touched addr count).filter (s.inState ExtentState.ingest)

/-- An element joins an ascending list once. -/
def insertBlock (x : Nat × Fin 1024) : List (Nat × Fin 1024) → List (Nat × Fin 1024)
  | [] => [x]
  | y :: ys => if x.1 < y.1 then x :: y :: ys else if x.1 = y.1 then y :: ys else y :: insertBlock x ys

/-- The digest block, and its extent, of a touched frame copy's entry. -/
def State.entryBlock (s : State) (t : Touched) : Nat × Fin 1024 :=
  ((s.extent t.key.extent).digestBlock t.key.frame, t.key.extent)

/-- The digest blocks a write needs, once each, in ascending block address (R126). -/
def State.neededBlocks (s : State) (addr count : Nat) : List (Nat × Fin 1024) :=
  ((s.ingestTouched addr count).map s.entryBlock).foldl (fun l x => insertBlock x l) []

/-- Whether a block range has a piece in the copy ranges of extent `e` (R132). -/
def State.touchesExtent (s : State) (e : Fin 1024) (addr count : Nat) : Bool :=
  (s.pieces addr count).any fun p =>
    match p.kind with
    | some (.copy n _) => decide (n = e)
    | _ => false

end Sys2Proof.Machine
end

