-- ==== Sys2Proof/Machine/Digest.lean ====
section
/-!
DEFINITION. The frame digest (02_the_frame_digest.md): words, tail, pad mask, reduction, partial sums and their
combination.
-/

namespace Sys2Proof.Machine

/-- Two sums added modulo p (R30). -/
def addMod (x y : Nat) : Nat := (x + y) % Config.digestModulus

/-- The words of a list of bytes, four bytes little-endian each; a rest shorter than four bytes gives none (R24). -/
def wordsOf : List Byte → List Nat
  | b0 :: b1 :: b2 :: b3 :: rest =>
      (b0.toNat + 256 * b1.toNat + 65536 * b2.toNat + 16777216 * b3.toNat) :: wordsOf rest
  | _ => []

/-- The tail of R25: in the last block of a frame, bytes from offset T on are read as zero. -/
def applyTail (span tail k : Nat) (block : List Byte) : List Byte :=
  if k + 1 = span then block.take tail ++ zeros (block.length - tail) else block

/-- The pad mask of R26: every bit set in M is cleared. -/
def padWord (mask : Word) (w : Nat) : Nat := (BitVec.ofNat 32 w &&& ~~~mask).toNat

/-- The reduction of R27. -/
def reduceWord (w : Nat) : Nat := w % Config.digestModulus

/-- Both sums over words, the first of which has global index `i` (R28). -/
def sumWords (mask : Word) : Nat → List Nat → Nat × Nat
  | _, [] => (0, 0)
  | i, w :: ws =>
      let r := reduceWord (padWord mask w)
      let t := sumWords mask (i + 1) ws
      (addMod r t.1, addMod ((i + 1) * r) t.2)

/-- The partial digest of block-in-frame `k` (R30). -/
def blockDigest (e : Extent) (k : Nat) (block : List Byte) : Nat × Nat :=
  sumWords e.mask (k * 1024) (wordsOf (applyTail e.span e.tail k block))

/-- Combination of partial digests (R30). -/
def combine (x y : Nat × Nat) : Nat × Nat := (addMod x.1 y.1, addMod x.2 y.2)

/-- Block `i` of a request's data. -/
def dataBlock (data : List Byte) (i : Nat) : List Byte := (data.drop (i * Config.blockBytes)).take Config.blockBytes

/-- The partial digest of a frame's blocks `k` to `k + n − 1`, which are blocks `i` on of the data. -/
def runDigest (e : Extent) (data : List Byte) : Nat → Nat → Nat → Nat × Nat
  | 0, _, _ => (0, 0)
  | n + 1, k, i => combine (blockDigest e k (dataBlock data i)) (runDigest e data n (k + 1) (i + 1))

/-- The partial digest that a contribution's newly reserved runs have in the data that passes (R70, R71). -/
def Contribution.digest (e : Extent) (c : Contribution) (data : List Byte) : Nat × Nat :=
  c.runs.foldl (fun acc r => combine acc (runDigest e data (r.2 + 1 - r.1) r.1 (c.start + (r.1 - c.first)))) (0, 0)

/-- The frame digest of one frame copy, of its S blocks in order (R28, R31). -/
def frameDigest (e : Extent) (data : List Byte) : Nat × Nat := runDigest e data e.span 0 0

/-! ### Run lists (R68) -/

/-- A run joins a run list: every run that overlaps it or touches it is merged with it (R68). -/
def insertRun (a b : Nat) : List Run → List Run
  | [] => [(a, b)]
  | r :: rs =>
      if r.2 + 1 < a then r :: insertRun a b rs
      else if b + 1 < r.1 then (a, b) :: r :: rs
      else insertRun (min a r.1) (max b r.2) rs

/-- The blocks of [a, b] that a run list has not reserved, as runs (R70). -/
def gaps : List Run → Nat → Nat → List Run
  | [], a, b => if a ≤ b then [(a, b)] else []
  | r :: rs, a, b =>
      if b < a then []
      else if r.2 < a then gaps rs a b
      else if b < r.1 then [(a, b)]
      else (if a < r.1 then [(a, r.1 - 1)] else []) ++ gaps rs (r.2 + 1) b

/-- Some block of [a, b] is reserved already (R69). -/
def overlapsRuns (runs : List Run) (a b : Nat) : Bool := runs.any fun r => decide (r.1 ≤ b) && decide (a ≤ r.2)

/-- The number of blocks in a run list. -/
def runTotal (runs : List Run) : Nat := (runs.map fun r => r.2 + 1 - r.1).sum

/-- The reserved count (R62): the sum of the run lengths. -/
def Accum.reserved (x : Accum) : Nat := runTotal x.runs

end Sys2Proof.Machine
end

