-- ==== Sys2Proof/Machine/Store.lean ====
section
/-!
DEFINITION. The digest store (03_the_digest_store.md): line requests, eviction, and the change of one entry. What follows
from a change (reports to the mend engine, answers) stands in Changes.lean.
-/

namespace Sys2Proof.Machine

/-! ### Lines -/

/-- The line holds its entries (R47). -/
def LineState.holds : LineState → Bool
  | .clean => true
  | .dirty => true
  | .writing => true
  | .writingRedirtied => true
  | .invalid => false
  | .filling => false

/-- Changes to the line wait: it is FILLING or refilling (R42, R55), or earlier changes wait still. -/
def Line.waits (x : Line) : Bool := decide (x.state = .filling) || x.refilling || !x.waiting.isEmpty

/-- The line is unpinned and INVALID or CLEAN, so that it may be taken (R48, R49). -/
def Line.takeable (x : Line) : Bool :=
  decide (x.pins = 0) && !x.refilling && (decide (x.state = .invalid) || decide (x.state = .clean))

/-- The line that holds a digest block, in any state other than INVALID (R48). -/
def State.findLine (s : State) (tag : Nat) : Option (Fin 64) :=
  (allFin 64).find? fun l => decide ((s.line l).tag = tag) && decide ((s.line l).state ≠ .invalid)

/-- The victim of a miss: the takeable line least recent in the recency order (R48). -/
def State.victim? (s : State) : Option (Fin 64) := s.store.recency.find? fun l => (s.line l).takeable

/-- The line enters DIRTY from another state: its dirty timer starts (R47), and it is the newest of the DIRTY lines. -/
def State.becomeDirty (s : State) (l : Fin 64) : State :=
  let s := s.setLine l { s.line l with state := .dirty, dirtyTimer := some (Timer.start Config.dirtyMs) }
  { s with store := { s.store with dirtyOrder := s.store.dirtyOrder.filter (· ≠ l) ++ [l] } }

/-- The line leaves the DIRTY lines. -/
def State.leaveDirty (s : State) (l : Fin 64) : State :=
  { s with store := { s.store with dirtyOrder := s.store.dirtyOrder.filter (· ≠ l) } }

/-- A change that alters an entry dirties its line (R47). -/
def State.dirtyLine (s : State) (l : Fin 64) : State :=
  match (s.line l).state with
  | .clean => s.becomeDirty l
  | .writing => s.setLine l { s.line l with state := .writingRedirtied }
  | _ => s

/-- The line becomes INVALID and takes the least recent place (R48); its pins stay until released (R53). -/
def State.invalidate (s : State) (l : Fin 64) : State :=
  let s := (s.setLine l { Line.blank with pins := (s.line l).pins }).leaveDirty l
  { s with store := s.store.sink l }

/-- Queues a line's writeback at class 3, unless it is queued already (R56). -/
def State.queueWriteback (s : State) (l : Fin 64) : State :=
  if s.queued (.writeback l) then s else s.enqueue (oneBlock (.writeback l) .write (s.line l).tag)

/-- The line is eligible for an eviction writeback: unpinned, DIRTY, not queued already (R49). -/
def State.evictable (s : State) (l : Fin 64) : Bool :=
  decide ((s.line l).pins = 0) && decide ((s.line l).state = .dirty) && !s.queued (.writeback l)

/-- Queues for writeback the eligible line, other than `but`, that has been DIRTY longest, if there is one (R49, R58). -/
def State.queueEviction (s : State) (but : Option (Fin 64)) : State :=
  match s.store.dirtyOrder.find? fun l => decide (some l ≠ but) && s.evictable l with
  | none => s
  | some l => (s.setLine l { s.line l with victim := true }).queueWriteback l

/-- The line takes a tag and extent and becomes FILLING; a pin is taken and a fill is queued (R48). -/
def State.takeForFill (s : State) (l : Fin 64) (tag : Nat) (e : Fin 1024) : State :=
  let s := (s.setLine l { Line.blank with tag := tag, extent := e, state := .filling }).leaveDirty l
  (s.pin l).enqueue (oneBlock (.fill l) .read tag)

/-- The entries of a fresh digest block: fresh entries in each slot that belongs to a frame, zeros in the rest (R54). -/
def freshEntries (e : Extent) (tag : Nat) : List Entry :=
  let n := e.slotsOf tag
  List.replicate n (Entry.fresh e.hasReplica) ++ List.replicate (256 - n) Entry.zero

/-- The line takes a tag and extent for the PREPARE walk, which sets it next; a pin is taken and no fill is queued (R54). -/
def State.takeFresh (s : State) (l : Fin 64) (tag : Nat) (e : Fin 1024) : State :=
  let s := s.setLine l { Line.blank with tag := tag, extent := e, state := .clean, entries := freshEntries (s.extent e) tag }
  s.pin l

/-- A line goes to a request: as a fill, or created (R48, R54). -/
def State.takeLine (s : State) (l : Fin 64) (tag : Nat) (e : Fin 1024) (fresh : Bool) : State :=
  if fresh then s.takeFresh l tag e else s.takeForFill l tag e

/-- A request for a line that may wait in the line queue (R48, R49): the line it is pinned on, or none where it now waits.
A free line goes to the oldest request of the queue, so a miss waits behind a queue that is not empty (log 14). -/
def State.requestLine (s : State) (user : LineUser) (tag : Nat) (e : Fin 1024) (fresh : Bool) : State × Option (Fin 64) :=
  match s.findLine tag with
  | some l => (s.pin l, some l)
  | none =>
      match s.store.queue, s.victim? with
      | [], some l => (s.takeLine l tag e fresh, some l)
      | q, _ =>
          (({ s with store := { s.store with queue := q ++ [LineRequest.mk user tag e fresh] } } : State).queueEviction none, none)

/-- A CHECK accumulator's request for a line, answered at once (R50): on a miss it takes the victim wherever there is one,
whatever waits in the line queue. -/
def State.requestLineNow (s : State) (tag : Nat) (e : Fin 1024) : State × Option (Fin 64) :=
  match s.findLine tag with
  | some l => (s.pin l, some l)
  | none =>
      match s.victim? with
      | some l => (s.takeForFill l tag e, some l)
      | none => (s.queueEviction none, none)

/-- Withdraws a user's requests from the line queue. -/
def State.dropRequests (s : State) (user : LineUser) : State :=
  { s with store := { s.store with queue := s.store.queue.filter fun r => decide (r.user ≠ user) } }

/-! ### One change of one entry (R42 to R46, R73, R128, R129, R134, R137, R146) -/

/-- The store's answer to a submission. -/
inductive Answer where
  /-- The entry could not be had (R42, R53). -/
  | notHad
  | notApplied
  | applied
  /-- A verdict passed; whether the copy recovered from SUSPECT (R44). -/
  | passed (recovered : Bool)
  /-- A verdict failed: the copy went from SEALED to SUSPECT. -/
  | failedSuspect
  /-- A verdict failed: the frame was set LOST, the other copy having been in the state given. -/
  | failedLost (other : CopyState)
  /-- A verdict failed on a copy already SUSPECT, left unchanged. -/
  | failedUnchanged
  | noVerdict
  /-- A streamed seal that differs and is not taken (R129). -/
  | sealDiffers
  /-- A seal reread applied; whether it mismatched (R134). -/
  | reread (mismatch : Bool)
  | sourceGood
  /-- VERIFY_SOURCE unequal, the target having been in the state given (R146). -/
  | sourceFailed (target : CopyState)
  | mended
  | targetUnequal
  /-- The source or target has left the state the comparison needs (R146). -/
  | gone
  deriving DecidableEq, Repr

/-- The change was applied, so that the store's reports follow (R45) and its line moves to the most recent place (R48). What the
tables of R73, R128 and R146 call not applied, or answer with nothing applied, is not. A seal completion taken on an UNSEALED
copy whose digest differs and leaves the copy UNSEALED (R129) counts as not applied, the model's choice (DESIGN CHOICE, log
67): R128 speaks of it as applied, and it alters no field of the entry. -/
def Answer.isApplied : Answer → Bool
  | .notHad => false
  | .notApplied => false
  | .noVerdict => false
  | .gone => false
  | .sealDiffers => false
  | .sourceGood => false
  | .targetUnequal => false
  | .applied => true
  | .passed _ => true
  | .failedSuspect => true
  | .failedLost _ => true
  | .failedUnchanged => true
  | .reread _ => true
  | .sourceFailed _ => true
  | .mended => true

/-- The computed digest matches the stored one (R32). -/
def Entry.equal (e : Entry) (a b : Nat) : Bool := decide (e.a = a) && decide (e.b = b)

/-- Both copies LOST (R43). -/
def Entry.bothLost (e : Entry) : Entry := { e with copy0 := .lost, copy1 := .lost }

/-- A mismatch on copy `c`, by the table of R43. -/
def Entry.mismatch (e : Entry) (c : CopyId) : Entry × Answer :=
  let o := e.copyState c.other
  match e.copyState c with
  | .sealed =>
      match o with
      | .suspect => (e.bothLost, .failedLost o)
      | .lost => (e.bothLost, .failedLost o)
      | _ => (e.setCopy c .suspect, .failedSuspect)
  | .suspect =>
      match o with
      | .suspect => (e.bothLost, .failedLost o)
      | .lost => (e.bothLost, .failedLost o)
      | _ => (e, .failedUnchanged)
  | _ => (e, .notApplied)

/-- A match on copy `c` (R44). -/
def Entry.matched (e : Entry) (c : CopyId) : Entry × Answer :=
  match e.copyState c with
  | .suspect => (e.setCopy c .sealed, .passed true)
  | .sealed => (e, .passed false)
  | _ => (e, .notApplied)

/-- A verdict on copy `c` (R73): a match or a mismatch where the copy is SEALED or SUSPECT, else no verdict. -/
def Entry.verdict (e : Entry) (c : CopyId) (a b : Nat) : Entry × Answer :=
  match e.copyState c with
  | .sealed => if e.equal a b then e.matched c else e.mismatch c
  | .suspect => if e.equal a b then e.matched c else e.mismatch c
  | _ => (e, .noVerdict)

/-- A state change (R42). Copy 1 of an extent without a replica stays ABSENT, and no copy moves into ABSENT (R39). -/
def Entry.change (e : Entry) (hasReplica : Bool) (c : CopyId) (sources : List CopyState) (target : CopyState) :
    Entry × Answer :=
  if (c = .copy1 ∧ hasReplica = false) ∨ target = .absent then (e, .notApplied)
  else if e.copyState c ∈ sources then (e.setCopy c target, .applied)
  else (e, .notApplied)

/-- A seal completion on copy `c`: R128, and the other-copy rule of R129. -/
def Entry.complete (e : Entry) (c : CopyId) (a b : Nat) : Entry × Answer :=
  let taken := { e with a := a, b := b }
  if e.copyState c ≠ .unsealed then (e, .notApplied)
  else
    match e.copyState c.other with
    | .unsealed => (taken.setCopy c .provisional, .applied)
    | .digestLost => (taken.setCopy c .provisional, .applied)
    | .absent => (taken.setCopy c .provisional, .applied)
    | .provisional => if e.equal a b then (e.setCopy c .provisional, .applied) else (e, .sealDiffers)
    | .mending => if e.equal a b then (e.setCopy c .provisional, .applied) else (e, .sealDiffers)
    | .sealed =>
        if e.equal a b then (e.setCopy c .provisional, .applied)
        else ((taken.setCopy c .provisional).setCopy c.other .unsealed, .applied)
    | .suspect =>
        if e.equal a b then (e.setCopy c .provisional, .applied)
        else ((taken.setCopy c .provisional).setCopy c.other .unsealed, .applied)
    | .lost =>
        if e.equal a b then (e.setCopy c .provisional, .applied)
        else ((taken.setCopy c .provisional).setCopy c.other .unsealed, .applied)

/-- A comparing reread of copy `c` from the state found (R134). -/
def Entry.compareReread (e : Entry) (c : CopyId) (a b : Nat) (found : CopyState) : Entry × Answer :=
  if e.copyState c ≠ found then (e, .notApplied)
  else if e.equal a b then (e.setCopy c .sealed, .reread false)
  else (e.setCopy c .suspect, .reread true)

/-- A copy that held a digest of the old content loses it when the digest is replaced (R134). -/
def unsealOld : CopyState → CopyState
  | .sealed => .unsealed
  | .suspect => .unsealed
  | .lost => .unsealed
  | x => x

/-- A taking reread of copy 0 from the state found (R134). -/
def Entry.take0 (e : Entry) (a b : Nat) (found : CopyState) : Entry × Answer :=
  if e.copy0 ≠ found then (e, .notApplied)
  else if e.equal a b then ({ e with copy0 := .sealed }, .reread false)
  else ({ e with a := a, b := b, copy0 := .sealed, copy1 := unsealOld e.copy1 }, .reread false)

/-- A taking reread of copy 1 after copy 0 gave a media error (R135): its replacement also moves copy 0 from the state
found to SUSPECT. -/
def Entry.take1 (e : Entry) (a b : Nat) (found1 found0 : CopyState) : Entry × Answer :=
  if e.copy1 ≠ found1 then (e, .notApplied)
  else if e.equal a b then ({ e with copy1 := .sealed }, .reread false)
  else ({ e with a := a, b := b, copy1 := .sealed, copy0 := if e.copy0 = found0 then .suspect else e.copy0 }, .reread false)

/-- The taking reread of an accept-mode walk (R137). -/
def Entry.accept (e : Entry) (c : CopyId) (a b : Nat) (found : CopyState) : Entry × Answer :=
  if e.copyState c ≠ found then (e, .notApplied)
  else ({ e with a := a, b := b }.setCopy c .sealed, .reread false)

/-- A mend comparison (R146). -/
def Entry.mendCompare (e : Entry) (phase : MendPhase) (target : CopyId) (a b : Nat) : Entry × Answer :=
  match phase with
  | .verifySource =>
      if e.copyState target.other ≠ .sealed then (e, .gone)
      else if e.equal a b then (e, .sourceGood)
      else (e.bothLost, .sourceFailed (e.copyState target))
  | .verifyTarget =>
      if e.copyState target ≠ .mending then (e, .gone)
      else if e.equal a b then (e.setCopy target .sealed, .mended)
      else (e, .targetUnequal)
  | .copy => (e, .gone)

/-- Copy 1 of an extent without a replica stays as it was in `old`: a digest replacement is applied with that copy's part left
out (R39, R46). -/
def Entry.keepCopy1 (e old : Entry) (hasReplica : Bool) : Entry :=
  if hasReplica then e else { e with copy1 := old.copy1 }

/-- A digest replacement as the store applies it (R46). -/
def Entry.replaced (e : Entry) (hasReplica : Bool) (r : Entry × Answer) : Entry × Answer :=
  (r.1.keepCopy1 e hasReplica, r.2)

/-- One submission against an entry (R42). Copy 1 of an extent without a replica stays ABSENT: a change of it is not applied,
and a digest replacement is applied without its part (R39). -/
def Entry.apply (e : Entry) (hasReplica : Bool) : Change → Entry × Answer
  | .state c sources target => e.change hasReplica c sources target
  | .stamp pass => ({ e with lastPass := pass }, .applied)
  | .verdict c a b => e.verdict c a b
  | .sealCompletion c a b => e.replaced hasReplica (e.complete c a b)
  | .sealCompare c a b found =>
      if c = .copy1 ∧ hasReplica = false then (e, .notApplied) else e.compareReread c a b found
  | .sealTake0 a b found => e.replaced hasReplica (e.take0 a b found)
  | .sealTake1 a b found1 found0 => e.replaced hasReplica (e.take1 a b found1 found0)
  | .acceptTake c a b found => e.replaced hasReplica (e.accept c a b found)
  | .mendCompare phase target a b => if hasReplica then e.mendCompare phase target a b else (e, .gone)

/-- The entry of a frame as a line holds it. -/
def Line.entry (x : Line) (frame : Nat) : Entry := x.entries.getD (frame % 256) Entry.zero

/-- The entry of a frame in line `l`. -/
def State.entryIn (s : State) (l : Fin 64) (frame : Nat) : Entry := (s.line l).entry frame

/-- The finding the store itself logs for a change (R43, R129, R146). -/
def State.logChange (s : State) (e : Fin 1024) (frame : Nat) (ch : Change) (ans : Answer) : State :=
  match ch, ans with
  | .verdict c a b, .failedLost o => s.logCopy .frameLost ⟨e, frame, c⟩ a b o.code
  | .sealCompletion c a b, .sealDiffers => s.logCopy .sealMismatch ⟨e, frame, c⟩ a b 1
  | .mendCompare _ target a b, .sourceFailed t => s.logCopy .frameLost ⟨e, frame, target.other⟩ a b t.code
  | _, _ => s

/-- The store takes one change on a line that holds its entries (R42): the new state, the answer, and the entry before and
after. Nothing is applied to an extent in PREPARING or to a slot that belongs to no frame, and a change whose line holds no
entries is told that the entry could not be had. -/
def State.applyCore (s : State) (l : Fin 64) (frame : Nat) (ch : Change) : State × Answer × Entry × Entry :=
  let x := s.line l
  let ext := s.extent x.extent
  let e := x.entry frame
  if !x.state.holds then (s, .notHad, e, e)
  else if ext.state = .preparing ∨ ext.frames ≤ frame then (s, .notApplied, e, e)
  else
    let r := e.apply ext.hasReplica ch
    let s1 := if r.1 = e then s
      else (s.setLine l { x with entries := x.entries.set (frame % 256) r.1 }).dirtyLine l
    let s2 := if r.2.isApplied then { s1 with store := s1.store.touch l } else s1
    (s2.logChange x.extent frame ch r.2, r.2, e, r.1)

end Sys2Proof.Machine
end

