-- ==== Sys2Proof/Machine/Pool.lean ====
section
/-!
DEFINITION. The accumulator pool (04_frame_accumulators.md): opening, reserving, committing, abandoning, and the release
of held returns. What a completed accumulator does stands in Changes.lean.
-/

namespace Sys2Proof.Machine

/-! ### Held returns (R76, R77) -/

/-- Some accumulator still holds the slot's return for its verdict (R77). -/
def State.standing (s : State) (i : Fin 256) : Bool :=
  (allFin 32).any fun p =>
    match s.accum p with
    | none => false
    | some a => a.holding.contains i

/-- The status a held return goes upstream with (R77). -/
def heldStatus (outcomes : List SlotOutcome) : UpStatus :=
  if outcomes.contains (.failed true) then .checkFailed else .good

/-- Releases the line pins a slot holds (R51). -/
def State.unpinSlot (s : State) (i : Fin 256) : State := forEach (s.slot i).pins (fun l t => t.unpin l) s

/-- A slot's request ends: a return goes upstream, the slot's pins are released, the slot becomes FREE (R84, R94). -/
def State.endSlot (s : State) (i : Fin 256) (status : UpStatus) (data : List Byte) : State :=
  let x := s.slot i
  ((s.sendUp ⟨x.requester, x.tag, status, data⟩).unpinSlot i).setSlot i Slot.freeSlot

/-- Releases a held read's return when no accumulator still owes it a verdict (R77). -/
def State.tryRelease (s : State) (i : Fin 256) : State :=
  let x := s.slot i
  if x.life = .held ∧ x.held = true ∧ x.batch = false ∧ s.standing i = false then
    s.endSlot i (heldStatus x.outcomes) x.data
  else s

/-- One accumulator's outcome reaches a held slot (R77). -/
def State.giveOutcome (s : State) (o : SlotOutcome) (i : Fin 256) : State :=
  (s.setSlot i { s.slot i with outcomes := (s.slot i).outcomes ++ [o] }).tryRelease i

/-- The effective policy for reads of an extent (R21). -/
def State.policyOf (s : State) (e : Fin 1024) : Policy := (s.extent e).policy.getD s.cfg.policy

/-- The outcome failed, as it reaches a slot now (R77). -/
def State.failedOutcome (s : State) (e : Fin 1024) : SlotOutcome := .failed (decide (s.policyOf e = .mark))

/-! ### Ends (R63, R73, R80) -/

/-- A slot no longer watches the accumulator at position `p`, which has ended (R76). -/
def Slot.dropWatch (x : Slot) (p : Fin 32) : Slot := { x with watches := x.watches.filter fun q => decide (q ≠ p) }

/-- An accumulator ends with an outcome for its held returns: its position becomes free and is watched no more, its pin is
released, each held return receives the outcome (R73, R76, R77). -/
def State.endAccum (s : State) (p : Fin 32) (o : SlotOutcome) : State :=
  match s.accum p with
  | none => s
  | some a =>
      forEach a.holding (fun i t => t.giveOutcome o i)
        (((s.mapSlots fun x => x.dropWatch p).setAccum p none).unpin? a.line)

/-- A slot loses what it holds of the accumulator at position `p` (R80). -/
def Slot.dropAccum (x : Slot) (p : Fin 32) : Slot :=
  { x with contribs := x.contribs.filter fun c => decide (c.pos ≠ p), watches := x.watches.filter fun q => decide (q ≠ p) }

/-- What a submitter has waiting with a line is withdrawn (R75, R80, R151, R155). -/
def State.dropWaiting (s : State) (who : Submitter) : State :=
  { s with store := { s.store with
      lines := vmap (fun x => { x with waiting := x.waiting.filter fun w => decide (w.who ≠ who) }) s.store.lines } }

/-- Abandons the accumulator at a position (R80): contributions to it are discarded, each held return receives no verdict,
its pin is released, its position becomes free. -/
def State.abandon (s : State) (p : Fin 32) : State :=
  match s.accum p with
  | none => s
  | some _ => ((s.mapSlots fun x => x.dropAccum p).dropWaiting (.accum p)).endAccum p .noVerdict

/-- Abandons every accumulator that passes a test, in ascending position (log 51). -/
def State.abandonAll (s : State) (test : Accum → Bool) : State :=
  forEach (allFin 32) (fun p t =>
    match t.accum p with
    | none => t
    | some a => if test a then t.abandon p else t) s

/-! ### Opening (R61, R62, R65 to R67) -/

/-- The walk engine's position (R61). -/
def scrubPos : Fin 32 := 30

/-- The mend engine's position (R61). -/
def mendPos : Fin 32 := 31

/-- The first free traffic position, 0 to 29 (R61). -/
def State.freeTraffic? (s : State) : Option (Fin 32) :=
  (allFin 32).find? fun p => decide (p.val < 30) && (s.accum p).isNone

/-- The accumulator of a frame copy in a mode (R61). -/
def State.findAccum (s : State) (mode : AccumMode) (k : FrameKey) : Option (Fin 32) :=
  (allFin 32).find? fun p =>
    match s.accum p with
    | none => false
    | some a => decide (a.mode = mode) && decide (a.key = k)

/-- An accumulator as opened (R62). -/
def Accum.opened (mode : AccumMode) (k : FrameKey) (line : Option (Fin 64)) : Accum where
  mode := mode
  key := k
  awaiting := false
  a := 0
  b := 0
  runs := []
  pendingCount := 0
  holding := []
  line := line
  idle := none

/-- Opens an accumulator on a line, which its caller has pinned for it. -/
def State.openAccum (s : State) (p : Fin 32) (mode : AccumMode) (k : FrameKey) (line : Option (Fin 64)) : State :=
  s.setAccum p (some (Accum.opened mode k line))

/-! ### Reserving (R68 to R70) -/

/-- A contribution joins a slot. -/
def State.addContribution (s : State) (i : Fin 256) (c : Contribution) : State :=
  s.setSlot i { s.slot i with contribs := (s.slot i).contribs ++ [c] }

/-- A write reaches a SEAL accumulator with its run (R69), and its data is digested into its contribution (R71). -/
def State.joinSeal (s : State) (p : Fin 32) (i : Fin 256) (t : Touched) (data : List Byte) : State :=
  match s.accum p with
  | none => s
  | some a =>
      let runs := insertRun t.first t.last a.runs
      if overlapsRuns a.runs t.first t.last || decide (8 < runs.length) then s.abandon p
      else
        let c : Contribution := ⟨p, t.first, t.start, [(t.first, t.last)], 0, 0⟩
        let d := c.digest (s.extent t.key.extent) data
        (s.setAccum p (some { a with runs := runs, pendingCount := a.pendingCount + 1, idle := none })).addContribution i
          { c with a := d.1, b := d.2 }

/-- A read reaches a CHECK, SCRUB or MEND accumulator with its run (R70). -/
def State.joinRead (s : State) (p : Fin 32) (i : Fin 256) (t : Touched) : State :=
  match s.accum p with
  | none => s
  | some a =>
      let runs := insertRun t.first t.last a.runs
      let new := gaps a.runs t.first t.last
      if 8 < runs.length then s.abandon p
      else if new.isEmpty then
        if a.mode = .check then s.setSlot i { s.slot i with watches := (s.slot i).watches ++ [p] } else s
      else
        (s.setAccum p (some { a with runs := runs, pendingCount := a.pendingCount + 1, idle := none })).addContribution i
          ⟨p, t.first, t.start, new, 0, 0⟩

/-! ### Committing (R71, R73) -/

/-- A commit into an accumulator (R71): the sums are combined, the pending count falls, and the idle timer of a SEAL or
CHECK accumulator starts where nothing is pending and blocks are missing (R79). -/
def Accum.commit (x : Accum) (span idleTime a b : Nat) : Accum :=
  let sums := combine (x.a, x.b) (a, b)
  let left := x.pendingCount - 1
  let starts := left = 0 ∧ x.reserved < span ∧ (x.mode = .seal ∨ x.mode = .check)
  { x with a := sums.1, b := sums.2, pendingCount := left, idle := if starts then some (Timer.start idleTime) else x.idle }

/-- The accumulator is complete (R73). -/
def Accum.complete (x : Accum) (span : Nat) : Bool := decide (x.reserved = span) && decide (x.pendingCount = 0)

/-- Commits one contribution with its sums. -/
def State.commit (s : State) (p : Fin 32) (a b : Nat) : State :=
  match s.accum p with
  | none => s
  | some x => s.setAccum p (some (x.commit (s.extent x.key.extent).span s.cfg.idleTime a b))

/-- The accumulator at a position is complete. -/
def State.isComplete (s : State) (p : Fin 32) : Bool :=
  match s.accum p with
  | none => false
  | some x => x.complete (s.extent x.key.extent).span

/-- The first newly reserved block of a contribution (R72). -/
def Contribution.firstBlock (c : Contribution) : Nat :=
  match c.runs with
  | [] => c.first
  | r :: _ => r.1

/-- A contributing request has failed with MEDIA_ERROR: the finding of R72 for SEAL and CHECK, then abandonment. -/
def State.failContribution (s : State) (c : Contribution) : State :=
  match s.accum c.pos with
  | none => s
  | some x => (s.logCopy .mediaError x.key c.firstBlock x.reserved x.pendingCount).abandon c.pos

end Sys2Proof.Machine
end

