-- ==== Sys2Proof/Machine/Batch.lean ====
section
/-!
DEFINITION. The batch in progress and the flush in progress: results, the end of a batch, its return, and the end of a
flush (09_directives.md, R156 to R161, R169).
-/

namespace Sys2Proof.Machine

/-- Replaces the batch in progress. -/
def State.setBatch (s : State) (b : Option Batch) : State := { s with dir := { s.dir with batch := b } }

/-- The batch goes to the last-batch group of the status block (R161, R172), and the status-due mark is set (R173). -/
def State.handBatch (s : State) (b : Batch) : State :=
  { s with rep := { s.rep with lastBatch := some ⟨b.label, b.count, b.clamped, b.results⟩ } }.statusDue

/-- Ends the batch when every record it is to execute has its result (R160). A batch cut off by a link reset has no return
to wait for, so the unit is idle at once (R161). -/
def State.tryEndBatch (s : State) : State :=
  match s.dir.batch with
  | none => s
  | some b =>
      if b.ended = false ∧ b.results.length = b.records then
        (s.setBatch (if b.cut then none else some { b with ended := true })).handBatch b
      else s

/-- A record has its result (R158, R159). -/
def State.addResult (s : State) (r : Result) : State :=
  match s.dir.batch with
  | none => s
  | some b => (s.setBatch (some { b with results := b.results ++ [r] })).tryEndBatch

/-- The unit is idle once the batch has ended, the status write that reports it has returned GOOD, and its return has left
its slot (R160). -/
def State.settleBatch (s : State) : State :=
  match s.dir.batch with
  | none => s
  | some b =>
      if b.ended = true ∧ b.reported = true then
        match b.slot with
        | none => s.setBatch none
        | some i =>
            if (s.slot i).life = .held then (s.endSlot i (s.slot i).status []).setBatch none else s
      else s

/-- The status write that reports the ended batch has returned GOOD (R160). -/
def State.reportBatch (s : State) : State :=
  match s.dir.batch with
  | none => s
  | some b => (s.setBatch (some { b with reported := true })).settleBatch

/-- The batch's return has left its slot by a timeout or with the media link (R95, R160). -/
def State.loseBatchSlot (s : State) (i : Fin 256) : State :=
  match s.dir.batch with
  | none => s
  | some b => if b.slot = some i then (s.setBatch (some { b with slot := none })).settleBatch else s

/-- A waiting MEND_FRAME record gets its answer: its pin is released and the record has its result (R142). -/
def State.answerFrame (s : State) (r : Result) : State :=
  match s.dir.mendFrame with
  | none => s
  | some q => ({ s with dir := { s.dir with mendFrame := none } }.unpin? q.line).addResult r

/-! ### The flush in progress (R169) -/

/-- The flush ends when nothing it includes is left: FLUSH_DONE and FLUSH_END. -/
def State.tryEndFlush (s : State) : State :=
  match s.dir.flush with
  | none => s
  | some f =>
      if f.lines.isEmpty && f.blocks.isEmpty then
        ({ s with dir := { s.dir with flush := none } }.log .flushDone none none none f.good f.failed f.blocksFailed).raise
          .flushEnd
      else s

/-- Removes an item whose write return counts; one that was to be skipped counts from its next return on (R56, R169). -/
def flushTake {α : Type} [DecidableEq α] (x : α) : List (FlushItem α) → List (FlushItem α) × Bool
  | [] => ([], false)
  | i :: is =>
      if i.item = x then
        if i.skip then (⟨x, false⟩ :: is, false) else (is, true)
      else
        let r := flushTake x is
        (i :: r.1, r.2)

/-- A writeback of a line has returned, GOOD or not (R56). -/
def State.flushLine (s : State) (l : Fin 64) (good : Bool) : State :=
  match s.dir.flush with
  | none => s
  | some f =>
      let r := flushTake l f.lines
      let f := { f with lines := r.1, good := f.good + bit (r.2 && good), failed := f.failed + bit (r.2 && !good) }
      { s with dir := { s.dir with flush := some f } }.tryEndFlush

/-- A catalogue write has returned, GOOD or not (R169, R189). -/
def State.flushBlock (s : State) (b : Fin 17) (good : Bool) : State :=
  match s.dir.flush with
  | none => s
  | some f =>
      let r := flushTake b f.blocks
      let f := { f with blocks := r.1, blocksFailed := f.blocksFailed + bit (r.2 && !good) }
      { s with dir := { s.dir with flush := some f } }.tryEndFlush

/-- A write in flight was cut off: its next return counts (R58, R169). -/
def FlushItem.unskip {α : Type} [DecidableEq α] (x : α) (i : FlushItem α) : FlushItem α :=
  if i.item = x then { i with skip := false } else i

/-- A line's write in flight was cut off. -/
def State.flushCutLine (s : State) (l : Fin 64) : State :=
  { s with dir := { s.dir with flush := s.dir.flush.map fun f => { f with lines := f.lines.map (FlushItem.unskip l) } } }

/-- A catalogue block's write in flight was cut off. -/
def State.flushCutBlock (s : State) (b : Fin 17) : State :=
  { s with dir := { s.dir with flush := s.dir.flush.map fun f => { f with blocks := f.blocks.map (FlushItem.unskip b) } } }

/-- A line dropped by retirement leaves the flush (R56). -/
def State.flushDrop (s : State) (l : Fin 64) : State :=
  match s.dir.flush with
  | none => s
  | some f =>
      { s with dir := { s.dir with flush := some { f with lines := f.lines.filter fun i => decide (i.item ≠ l) } } }.tryEndFlush

end Sys2Proof.Machine
end

