-- ==== Sys2Proof/Machine/Changes.lean ====
section
/-!
DEFINITION. A submission to the digest store with all that follows from it at once (03_the_digest_store.md, R42, R45;
08_mending.md, R141, R143, R151, R152, R154), the verdicts of CHECK accumulators (R73, R74) and the commits of a
passthrough return (R71, R76).
-/

namespace Sys2Proof.Machine

/-! ### The store's reports to the mend engine (R45, R141, R143) -/

/-- The frame copy that a mend rewrites. -/
def Mend.key (m : Mend) : FrameKey := ⟨m.extent, m.frame, m.target⟩

/-- The frame copy is in the mend queue or is held as the active mend's target (R141, R144). -/
def State.mendPresent (s : State) (k : FrameKey) : Bool :=
  s.mend.queue.contains k ||
    match s.mend.active with
    | none => false
    | some m => decide (m.key = k)

/-- A mend is wanted: the automatic enqueue of R141. -/
def State.mendWanted (s : State) (k : FrameKey) : State :=
  if (s.extent k.extent).mendMode = .auto ∧ s.mendPresent k = false ∧ s.mend.queue.length < 16 then
    { s with mend := { s.mend with queue := s.mend.queue ++ [k] } }
  else s

/-- A mend is no longer wanted: the matching entry leaves the queue (R143). -/
def State.mendUnwanted (s : State) (k : FrameKey) : State :=
  { s with mend := { s.mend with queue := s.mend.queue.filter fun q => decide (q ≠ k) } }

/-- The reports of R45 on one copy after an applied change. -/
def State.reportCopy (s : State) (k : FrameKey) (before after : Entry) : State :=
  if after.copyState k.copy = .suspect ∧ after.copyState k.copy.other = .sealed then s.mendWanted k
  else if before.copyState k.copy = .suspect ∧ after.copyState k.copy = .sealed then s.mendUnwanted k
  else s

/-- The reports of R45 after an applied change, copy 0 before copy 1. -/
def State.reportEntry (s : State) (e : Fin 1024) (frame : Nat) (before after : Entry) : State :=
  (s.reportCopy ⟨e, frame, .copy0⟩ before after).reportCopy ⟨e, frame, .copy1⟩ before after

/-! ### The end of a mend (R151, R152) -/

/-- The line that holds a frame's entry (R42). -/
def State.lineOf (s : State) (e : Fin 1024) (frame : Nat) : Option (Fin 64) :=
  match s.findLine ((s.extent e).digestBlock frame) with
  | none => none
  | some l => if (s.line l).extent = e then some l else none

/-- A change waits with its line (R42). -/
def State.addWaiting (s : State) (l : Fin 64) (w : Waiting) : State :=
  s.setLine l { s.line l with waiting := (s.line l).waiting ++ [w] }

/-- Replaces the active mend. -/
def State.setMend (s : State) (m : Option Mend) : State := { s with mend := { s.mend with active := m } }

/-- How a mend closes (R152). -/
inductive MendClose where
  /-- MEND_DONE with the computed sums. -/
  | done (a b : Nat)
  /-- VERIFY_SOURCE unequal: the store has logged FRAME_LOST. -/
  | sourceFailed
  /-- MEND_FAILED with its reason. -/
  | failed (reason : Nat)
  deriving DecidableEq, Repr

/-- What the engine does at the close of a mend that is no longer active (R152): the closing finding, MEND_END, the pin. -/
def State.finishMend (s : State) (m : Mend) (c : MendClose) : State :=
  let s :=
    match c with
    | .done a b => s.logCopy .mendDone m.key a b m.attempt
    | .sourceFailed => s
    | .failed r => s.logCopy .mendFailed m.key m.lastA m.lastB r
  (s.raise .mendEnd).unpin? m.line

/-- The store applies a closing change: the mend is no longer active as the reports follow (R152). A closing change that
finds the target no longer MENDING closes the mend with reason 6. -/
def State.applyClosing (s : State) (l : Fin 64) (m : Mend) (reason : Nat) (ch : Change) : State :=
  let r := s.applyCore l m.frame ch
  let t := r.1.setMend none
  if r.2.1 = .applied then (t.reportEntry m.extent m.frame r.2.2.1 r.2.2.2).finishMend m (.failed reason)
  else t.finishMend m (.failed 6)

/-- The mend engine submits a closing change, taking the target from MENDING (R149 to R151). -/
def State.submitClosing (s : State) (m : Mend) (reason : Nat) (target : CopyState) : State :=
  let ch := Change.state m.target [.mending] target
  match s.lineOf m.extent m.frame with
  | none => (s.setMend none).finishMend m (.failed reason)
  | some l =>
      if (s.line l).waits then
        (s.setMend (some { m with stage := .closing reason })).addWaiting l ⟨m.frame, .mendClosing, ch⟩
      else s.applyClosing l m reason ch

/-- The mend's requests are withdrawn, its OUTSTANDING ones will be discarded, its accumulator is abandoned, and a comparison
of it that waits with its line is withdrawn (R150, R151, R155). -/
def State.stopMendWork (s : State) : State :=
  ((((s.withdraw Owner.isMend).killOutstanding Owner.isMend).abandon mendPos)).dropWaiting .mendComparing

/-- The source has left SEALED, or the comparison found its copy gone: the mend ends (R151). -/
def State.endMend (s : State) (m : Mend) : State :=
  let s := (s.stopMendWork).dropRequests .mend
  let m := { m with buffer := none }
  let target :=
    match s.lineOf m.extent m.frame with
    | none => CopyState.mending
    | some l => (s.entryIn l m.frame).copyState m.target
  if target = .mending then s.submitClosing m 3 .suspect else (s.setMend none).finishMend m (.failed 6)

/-- The mend has submitted its closing change. -/
def Mend.isClosing (m : Mend) : Bool :=
  match m.stage with
  | .closing _ => true
  | _ => false

/-- The store's report of a change to the frame of the active mend (R145, R151): a source no longer SEALED ends the mend.
The mend's own comparison is answered, not reported. -/
def State.reportMend (s : State) (e : Fin 1024) (frame : Nat) (who : Submitter) (after : Entry) : State :=
  match s.mend.active with
  | none => s
  | some m =>
      if m.extent = e ∧ m.frame = frame ∧ m.begun = true ∧ m.isClosing = false ∧ who ≠ .mendComparing ∧
          after.copyState m.target.other ≠ .sealed
      then s.endMend m else s

/-! ### Submissions (R42) -/

/-- The store takes one change now, and makes its reports (R42, R45). A report that ends the active mend is acted on before the
submitter acts on its answer, so that MEND_FAILED stands before a finding of the submitter's for the same change (log 45). -/
def State.applyNow (s : State) (l : Fin 64) (frame : Nat) (who : Submitter) (ch : Change) : State × Answer :=
  let e := (s.line l).extent
  let r := s.applyCore l frame ch
  (if r.2.1.isApplied then (r.1.reportEntry e frame r.2.2.1 r.2.2.2).reportMend e frame who r.2.2.2 else r.1, r.2.1)

/-- A change is submitted to the store (R42): the answer, or none where the change waits with its line. -/
def State.submit (s : State) (e : Fin 1024) (frame : Nat) (who : Submitter) (ch : Change) : State × Option Answer :=
  match s.lineOf e frame with
  | none => (s, some .notHad)
  | some l =>
      if (s.line l).waits then (s.addWaiting l ⟨frame, who, ch⟩, none)
      else
        let r := s.applyNow l frame who ch
        (r.1, some r.2)

/-- A change whose answer is not acted on. -/
def State.tell (s : State) (e : Fin 1024) (frame : Nat) (ch : Change) : State := (s.submit e frame .nobody ch).1

/-- A copy was found MENDING (R154): unless it is the active mend's target, it is turned to SUSPECT. -/
def State.foundMending (s : State) (k : FrameKey) : State :=
  let ours :=
    match s.mend.active with
    | none => false
    | some m => decide (m.key = k) && m.begun
  if ours then s else s.tell k.extent k.frame (.state k.copy [.mending] .suspect)

/-! ### Verdicts of CHECK accumulators (R73, R74) -/

/-- The findings the pool logs from the store's answer to a CHECK verdict (R74), and the walk engine to a SCRUB one (R116). -/
def State.logVerdict (s : State) (k : FrameKey) (a b : Nat) (ans : Answer) : State :=
  let span := (s.extent k.extent).span
  match ans with
  | .failedSuspect => s.logCopy .frameMismatch k a b span
  | .failedLost _ => s.logCopy .frameMismatch k a b span
  | .passed true => s.logCopy .frameRecovered k a b span
  | _ => s

/-- The outcome that a store's answer gives held returns (R77). -/
def State.outcomeOf (s : State) (e : Fin 1024) : Answer → SlotOutcome
  | .passed _ => .passed
  | .failedSuspect => s.failedOutcome e
  | .failedLost _ => s.failedOutcome e
  | .failedUnchanged => s.failedOutcome e
  | _ => .noVerdict

/-- The store has answered a CHECK accumulator's verdict (R74). -/
def State.finishCheck (s : State) (p : Fin 32) (ans : Answer) : State :=
  match s.accum p with
  | none => s
  | some x =>
      let s := s.logVerdict x.key x.a x.b ans
      s.endAccum p (s.outcomeOf x.key.extent ans)

/-- Slot `i` stands in the held-return list of the accumulator at `p` (R76). -/
def State.hold (s : State) (p : Fin 32) (i : Fin 256) : State :=
  match s.accum p with
  | none => s
  | some x => (s.setAccum p (some { x with holding := x.holding ++ [i] })).setSlot i { s.slot i with held := true }

/-- The accumulator waits for the end of its line's refill or fill (R63, R75). -/
def State.await (s : State) (p : Fin 32) : State :=
  match s.accum p with
  | none => s
  | some x => s.setAccum p (some { x with awaiting := true, idle := none })

/-- A SEAL or CHECK accumulator is complete (R73): a SEAL one hands on its digest and ends, a CHECK one holds the return of
slot `i` and asks for its verdict. -/
def State.completeTraffic (s : State) (p : Fin 32) (i : Fin 256) : State :=
  match s.accum p with
  | none => s
  | some x =>
      match x.mode with
      | .seal => (s.tell x.key.extent x.key.frame (.sealCompletion x.key.copy x.a x.b)).endAccum p .noVerdict
      | .check =>
          let r := (s.hold p i).submit x.key.extent x.key.frame (.accum p) (.verdict x.key.copy x.a x.b)
          match r.2 with
          | none => r.1.await p
          | some ans => r.1.finishCheck p ans
      | .scrub => s
      | .mend => s

/-! ### A passthrough return's commits (R71, R76) -/

/-- The sums a contribution commits: a write's were gathered as it passed, a read's are those of the data that arrived. -/
def State.contributionSums (s : State) (c : Contribution) (data : Option (List Byte)) : Nat × Nat :=
  match data, s.accum c.pos with
  | some d, some x => c.digest (s.extent x.key.extent) d
  | _, _ => (c.a, c.b)

/-- Commits one contribution of a passthrough slot, unless it was discarded meanwhile (R71, R73). -/
def State.commitTraffic (s : State) (i : Fin 256) (data : Option (List Byte)) (c : Contribution) : State :=
  if (s.slot i).contribs.contains c then
    let sums := s.contributionSums c data
    let s := s.setSlot i { s.slot i with contribs := (s.slot i).contribs.filter fun d => decide (d ≠ c) }
    let s := s.commit c.pos sums.1 sums.2
    if s.isComplete c.pos then s.completeTraffic c.pos i else s
  else s

/-- Commits a slot's contributions in the address order of its frame copies (R71). -/
def State.commitAll (s : State) (i : Fin 256) (data : Option (List Byte)) : State :=
  forEach (s.slot i).contribs (fun c t => t.commitTraffic i data c) s

/-- A watcher's return joins the list of an AWAITING accumulator that holds fewer than 8 returns (R76). -/
def State.watch (s : State) (i : Fin 256) (p : Fin 32) : State :=
  match s.accum p with
  | none => s
  | some x => if x.awaiting = true ∧ x.holding.length < 8 then s.hold p i else s

/-- A passthrough read's GOOD return (R76, R94): it is held, or goes upstream with its data. -/
def State.readReturned (s : State) (i : Fin 256) (data : List Byte) : State :=
  let s := s.commitAll i (some data)
  let s := forEach (s.slot i).watches (fun p t => t.watch i p) s
  if (s.slot i).held then
    (s.setSlot i { s.slot i with life := .held, timer := none, data := data, status := .good, watches := [] }).tryRelease i
  else s.endSlot i .good data

/-- A contributing request has failed with MEDIA_ERROR (R72): each accumulator it contributes to is abandoned, with its
finding, in the order of its contributions (log 51). -/
def State.failAll (s : State) (i : Fin 256) : State :=
  forEach (s.slot i).contribs (fun c t => if (t.slot i).contribs.contains c then t.failContribution c else t) s

/-- Abandons each accumulator a slot contributes to, with no finding (R81, R96). -/
def State.abandonContributions (s : State) (i : Fin 256) : State :=
  forEach (s.slot i).contribs (fun c t => if (t.slot i).contribs.contains c then t.abandon c.pos else t) s

end Sys2Proof.Machine
end

