-- ==== Sys2Proof/Machine/Walk.lean ====
section
/-!
DEFINITION. The walk engine (06_walks.md; 07_ingest_and_sealing.md, R130 to R138): the current walk, the saved stack, and
what a walk does until it waits. One step of the part moves the engine on until it waits (`State.walkRun`).
-/

namespace Sys2Proof.Machine

/-! ### Walk records (R108) -/

/-- Replaces the current walk. -/
def State.setWalk (s : State) (w : Option Walk) : State := { s with walk := { s.walk with cur := w } }

/-- The frame copy at the cursor. -/
def Walk.key (w : Walk) : FrameKey := ⟨w.extent, w.frame, w.copy⟩

/-- The state a walk requires of its extent (R118, R137). -/
def Walk.requires (w : Walk) : ExtentState :=
  match w.kind, w.source with
  | .pass, _ => .sealed
  | .check, _ => .sealed
  | .seal, none => .sealing
  | .seal, some _ => .sealed
  | .prepare, _ => .preparing

/-- The walk is at work on extent `n` and requires it SEALED (R118, R137): a PASS walk has entered it (R120). -/
def Walk.sealedOn (w : Walk) (n : Fin 1024) : Bool :=
  decide (w.extent = n) && decide (w.requires = .sealed) && !w.past && (decide (w.kind ≠ .pass) || w.entered)

/-- Extent `n` leaves SEALED: a walk at work on it has the change to find (R118). -/
def Walk.leave (w : Walk) (n : Fin 1024) : Walk := if w.sealedOn n then { w with changed := true } else w

/-- Every walk of the engine whose extent leaves SEALED has the change to find: the current one, the incoming one, and those
saved (R118; log 52). -/
def WalkEngine.leave (e : WalkEngine) (n : Fin 1024) : WalkEngine :=
  { e with cur := e.cur.map fun w => w.leave n, incoming := e.incoming.map fun w => w.leave n,
           saved := e.saved.map fun w => w.leave n }

/-- The check of its extent's state that a walk makes before a unit (R118): the state is not, or was not throughout, the one
the walk requires. -/
def State.walkChanged (s : State) (w : Walk) : Bool :=
  w.changed || decide ((s.extent w.extent).state ≠ w.requires)

/-- Skipped and extent skipped rise. -/
def Walk.skip (w : Walk) (n : Nat) : Walk :=
  { w with skipped := bump w.skipped n, extentSkipped := bump w.extentSkipped n }

/-- Checked rises. -/
def Walk.check (w : Walk) (n : Nat) : Walk := { w with checked := bump w.checked n }

/-- Mismatches rises. -/
def Walk.mismatch (w : Walk) (n : Nat) : Walk := { w with mismatches := bump w.mismatches n }

/-- A walk as it is created (R108). -/
def Walk.create (kind : WalkKind) (source : Option CopyId) (e : Fin 1024) (first last : Nat) (depth : Depth) : Walk where
  kind := kind
  source := source
  extent := e
  first := first
  last := last
  frame := first
  copy := .copy0
  depth := depth
  run := .running
  checked := 0
  mismatches := 0
  skipped := 0
  extentSkipped := 0
  incomplete := false
  visited := []
  entered := false
  started := false
  past := false
  changed := false
  plan := none
  stage := .ready
  inFlight := false
  line := none

/-- The pass number of the next pass (R120). -/
def nextPass (n : Nat) : Nat := if n = Config.maxCount then 1 else n + 1

/-- Creates a PASS walk (R120): the pass number rises and is recorded in the header image. -/
def State.createPass (s : State) (depth : Depth) : State × Walk :=
  ({ s with cfg := { s.cfg with passNumber := nextPass s.cfg.passNumber } }.markHeader,
    Walk.create .pass none 0 0 0 depth)

/-- The walk that takes up an extent of the restart list (R23). -/
def State.restartWalk (s : State) (e : Fin 1024) : Option Walk :=
  let x := s.extent e
  match x.state with
  | .preparing => some (Walk.create .prepare none e 0 (x.frames - 1) .full)
  | .sealing => some (Walk.create .seal none e 0 (x.frames - 1) .full)
  | _ => none

/-! ### Cursor moves -/

/-- The cursor moves to the next frame copy (R114). Where there is no replica, copy 1 is ABSENT and no unit, and the next
frame follows copy 0 (R110, R114). -/
def Walk.nextCopy (w : Walk) (hasReplica : Bool) : Walk :=
  if w.copy = .copy0 ∧ hasReplica = true then { w with copy := .copy1, stage := .ready, inFlight := false }
  else { w with frame := w.frame + 1, copy := .copy0, stage := .ready, inFlight := false }

/-- The extent at the walk's cursor has a replica. -/
def State.walkReplica (s : State) (w : Walk) : Bool := (s.extent w.extent).hasReplica

/-- The cursor of a PASS walk moves to the next extent number, or past the last (R120). The extent field of a walk record ends at
1023 (R108) and no rule says what the cursor shows past it (R110): the walk keeps extent 1023 with frame 0 and copy 0, and the
mark `past`, which no image shows, says that its work is done. This is the model's choice (DESIGN CHOICE, log 68). -/
def Walk.nextExtent (w : Walk) : Walk :=
  let w := { w with frame := 0, copy := .copy0, entered := false, changed := false, stage := .ready, inFlight := false,
                    line := none }
  if h : w.extent.val + 1 < 1024 then { w with extent := ⟨w.extent.val + 1, h⟩ } else { w with past := true }

/-- A SEAL walk is done with its frame (R132). -/
def Walk.nextFrame (w : Walk) : Walk :=
  { w with frame := w.frame + 1, copy := .copy0, stage := .ready, inFlight := false, plan := none }

/-! ### Requests (R110, R115) -/

/-- The walk's queued chunks and line request are withdrawn, and its OUTSTANDING chunks will be discarded (R110, R117). -/
def State.clearWalk (s : State) : State :=
  ((s.withdraw Owner.isWalk).killOutstanding Owner.isWalk).dropRequests .walk

/-- The number of chunks of a frame copy (R115). -/
def Extent.chunks (e : Extent) : Nat := (e.span + 255) / 256

/-- The number of blocks of chunk `j` (R115). -/
def Extent.chunkLen (e : Extent) (j : Nat) : Nat := min 256 (e.span - 256 * j)

/-- The read of chunk `j` of the frame copy at the cursor (R115). -/
def State.walkChunk (s : State) (k : FrameKey) (j : Nat) : InjRequest :=
  let e := s.extent k.extent
  ⟨.walkChunk k j, .read, e.blockAddr k.copy k.frame (256 * j), e.chunkLen j⟩

/-- Queues chunk reads up to the pace depth, counting the walk's queued and OUTSTANDING chunks (R115, R117). -/
def State.feedWalk (s : State) : State :=
  match s.walk.cur with
  | none => s
  | some w =>
      match w.stage with
      | .reading n =>
          let k := min (s.cfg.paceDepth - s.inHand Owner.isWalk) ((s.extent w.extent).chunks - n)
          let s := forEach (List.range' n k) (fun j t => t.enqueue (t.walkChunk w.key j)) s
          s.setWalk (some { w with stage := .reading (n + k) })
      | _ => s

/-- Begins to read a frame copy (R115). -/
def State.startRead (s : State) (w : Walk) : State := (s.setWalk (some { w with stage := .reading 0 })).feedWalk

/-! ### Stopping, skipping (R110, R118) -/

/-- A walk at rest: no pin, nothing queued. A frame's plan is kept only where a reread of it has been granted (R132). -/
def Walk.rested (w : Walk) (run : RunState) : Walk :=
  { w with run := run, stage := .ready, inFlight := false, line := none,
           plan := match w.plan with
             | some p => if p.begun then some p else none
             | none => none }

/-- Pushes the current walk with its recorded run state (R109, R110). -/
def State.pushWalk (s : State) (w : Walk) (run : RunState) : State :=
  let s := (s.clearWalk).unpin? w.line
  { s with walk := { s.walk with cur := none, saved := w.rested run :: s.walk.saved } }

/-- A walk in SAVING or SUSPENDING stops (R110). -/
def State.stopWalk (s : State) (w : Walk) : State :=
  match w.run with
  | .saving =>
      let s := s.pushWalk w .running
      { s with walk := { s.walk with cur := s.walk.incoming, incoming := none } }
  | .suspending => ((s.clearWalk).unpin? w.line).setWalk (some (w.rested .suspended))
  | .running => s
  | .suspended => s

/-- The walk skips the rest of its extent (R118). -/
def State.skipRest (s : State) (w : Walk) : State :=
  let s := (s.clearWalk).unpin? w.line
  let w := { w with line := none, stage := .ready, inFlight := false, plan := none }
  match w.kind with
  | .pass => s.setWalk (some w.nextExtent)
  | .check => s.setWalk (some { w with incomplete := true, past := true })
  | .seal => s.setWalk (some { w with past := true })
  | .prepare => s.setWalk (some { w with past := true })

/-- The digest block of the cursor could not be had: the frame copies still to visit in it within the range are skipped, and
the cursor moves to the next block's first frame (R53, R114, R135). -/
def State.skipBlock (s : State) (w : Walk) : State :=
  let stop := 256 * (w.frame / 256) + 255
  let frames := min w.last stop + 1 - w.frame
  let n :=
    if (s.extent w.extent).hasReplica then 2 * frames - (if w.kind ≠ .seal ∧ w.copy = .copy1 then 1 else 0)
    else if w.kind ≠ .seal ∧ w.copy = .copy1 then frames - 1 else frames
  (s.unpin? w.line).setWalk
    (some { w.skip n with frame := stop + 1, copy := .copy0, line := none, stage := .ready, inFlight := false, plan := none })

/-! ### The end of a walk (R111, R121 to R124, R131, R136, R138) -/

/-- Queues the writebacks of every DIRTY line of the extents that pass a test (R56, R111). -/
def State.queueExtents (s : State) (test : Fin 1024 → Bool) : State :=
  forEach (allFin 64) (fun l t =>
    if (t.line l).state = .dirty ∧ test (t.line l).extent = true then t.queueWriteback l else t) s

/-- An extent changes state at its walk's end (R12, R14). -/
def State.walkState (s : State) (e : Fin 1024) (source target : ExtentState) : State :=
  if (s.extent e).state = source then s.changeExtent e { s.extent e with state := target } else s

/-- The finding of a walk's end, with the extent's change of state before it (R111 step 1). -/
def State.logWalkEnd (s : State) (w : Walk) : State :=
  match w.kind with
  | .pass => s.log .passDone none none none w.checked w.mismatches w.skipped
  | .check =>
      s.log .checkDone (some w.extent.val) (some w.first) (some (bit w.incomplete)) w.checked w.mismatches w.skipped
  | .seal =>
      match w.source with
      | none => (s.walkState w.extent .sealing .sealed).logCopy .sealDone ⟨w.extent, 0, .copy0⟩ w.checked w.mismatches w.skipped
      | some c => s.logCopy .sealDone ⟨w.extent, w.first, c⟩ w.checked w.mismatches w.skipped
  | .prepare =>
      (s.walkState w.extent .preparing .defined).logCopy .prepareDone ⟨w.extent, 0, .copy0⟩ w.checked w.mismatches w.skipped

/-- The walk that follows when none is current (R111): the top of the saved stack, then the restart list, then a due
pass. -/
def State.nextWalk (s : State) : State :=
  match s.walk.saved with
  | w :: rest => { s with walk := { s.walk with cur := some w, saved := rest } }
  | [] =>
      match s.map.restart with
      | e :: rest =>
          let s := { s with map := { s.map with restart := rest } }
          s.setWalk (s.restartWalk e)
      | [] =>
          if s.walk.passDue then
            let r := { s with walk := { s.walk with passDue := false } }.createPass s.cfg.depth
            r.1.setWalk (some r.2)
          else s

/-- A PASS walk's end with repeat on starts the rest timer (R122, R123). -/
def State.restAfter (s : State) (w : Walk) : State :=
  if w.kind = .pass ∧ s.cfg.repeatOn = true then
    { s with walk := { s.walk with restTimer := some (Timer.start (1000 * s.cfg.restInterval)) } }
  else s

/-- A walk ends (R111). -/
def State.endWalk (s : State) (w : Walk) : State :=
  let s := (s.logWalkEnd w).raise .walkEnd
  let s := s.queueExtents fun e => if w.kind = .pass then w.visited.contains e else decide (e = w.extent)
  (((s.unpin? w.line).setWalk none).restAfter w).nextWalk

/-! ### Lines (R114, R119, R130) -/

/-- The walk asks for the line of its cursor's frame (R114); it waits in the line queue, or has the line. -/
def State.askLine (s : State) (w : Walk) : State :=
  let r := s.requestLine .walk ((s.extent w.extent).digestBlock w.frame) w.extent (decide (w.kind = .prepare))
  match r.2 with
  | none => r.1.setWalk (some { w with stage := .waitQueue })
  | some l => r.1.setWalk (some { w with line := some l, stage := .ready })

/-- The line does not hold its entries, or is being read again (R114). -/
def Line.notReady (x : Line) : Bool := !x.state.holds || x.refilling

/-! ### FULL visits of PASS and CHECK walks (R114, R116) -/

/-- The walk's cursor is past the last frame of its range, which it was at work on (R110, R111). -/
def Walk.spent (w : Walk) : Bool :=
  !w.past && decide (w.last < w.frame) &&
    match w.kind with
    | .pass => w.entered
    | .check => true
    | .seal => w.source.isSome || w.started
    | .prepare => true

/-- A PASS walk leaves an extent it has visited (R121), which is SEALED still. -/
def State.leaveExtent (s : State) (w : Walk) : State :=
  let s :=
    if w.depth = .full ∧ w.extentSkipped = 0 ∧ (s.extent w.extent).state = .sealed then
      s.changeExtent w.extent { s.extent w.extent with lastPass := s.cfg.passNumber }
    else s
  (s.unpin? w.line).setWalk (some { w.nextExtent with line := none })

/-- A walk has passed the last frame of its range: a PASS walk leaves its extent, any other is past its work (R110, R121). -/
def State.passRange (s : State) (w : Walk) : State :=
  if w.kind = .pass then s.leaveExtent w else s.setWalk (some { w with past := true })

/-- The walk reads the state of the copy at its cursor (R114): it rereads it or passes it over. -/
def State.visitCopy (s : State) (w : Walk) (l : Fin 64) : State :=
  if (s.line l).notReady then s.setWalk (some { w with stage := .waitFill })
  else
    match (s.entryIn l w.frame).copyState w.copy with
    | .sealed => s.startRead w
    | .suspect => s.startRead w
    | .mending => (s.foundMending w.key).setWalk (some (w.nextCopy (s.walkReplica w)))
    | _ => s.setWalk (some (w.nextCopy (s.walkReplica w)))

/-- A FULL walk at its cursor (R114). -/
def State.visitFull (s : State) (w : Walk) : State :=
  if s.walkChanged w then s.skipRest w
  else
    match w.line with
    | none => s.askLine w
    | some l =>
        if (s.line l).tag = (s.extent w.extent).digestBlock w.frame then s.visitCopy w l
        else (s.unpin l).setWalk (some { w with line := none })

/-! ### AUDIT visits (R119) -/

/-- The store's answer to an AUDIT visit (R119): verified, with the frames whose entries were replaced, or skipped. -/
def State.auditAnswer (s : State) (w : Walk) (verified : Bool) (replaced : List Nat) : State :=
  let block := w.frame / 256
  let lo := max w.first (256 * block)
  let hi := min w.last (256 * block + 255)
  let n := hi + 1 - lo
  let w1 :=
    if verified then (w.check n).mismatch (replaced.countP fun f => decide (lo ≤ f) && decide (f ≤ hi)) else w.skip n
  (s.unpin? w.line).setWalk
    (some { w1 with frame := if w.last ≤ 256 * block + 255 then w.last + 1 else 256 * (block + 1), line := none,
                    stage := .ready, inFlight := false })

/-- The store is asked to verify the block of a pinned line (R55). -/
def State.auditLine (s : State) (w : Walk) (l : Fin 64) : State :=
  let asked := some { w with stage := .auditing, inFlight := true }
  match (s.line l).state with
  | .clean =>
      if (s.line l).refilling then s.setWalk asked
      else
        ((s.setLine l { s.line l with refilling := true }).enqueue (oneBlock (.refill l) .read (s.line l).tag)).setWalk asked
  | .filling => s.setWalk asked
  | .invalid => s.auditAnswer w false []
  | .dirty => s.auditAnswer w true []
  | .writing => s.auditAnswer w true []
  | .writingRedirtied => s.auditAnswer w true []

/-- An AUDIT walk at its cursor (R119). -/
def State.visitAudit (s : State) (w : Walk) : State :=
  if s.walkChanged w then s.skipRest w
  else
    match w.line with
    | none => s.askLine w
    | some l => s.auditLine w l

/-! ### SEAL walks (R132, R133, R137) -/

/-- An OUTSTANDING passthrough write has a piece in the extent's copy ranges (R132). -/
def State.writesOutstanding (s : State) (e : Fin 1024) : Bool :=
  s.slots.toList.any fun x =>
    decide (x.kind = .passthrough .write) && decide (x.life = .outstanding) && s.touchesExtent e x.addr x.count

/-- The first wait of a SEAL walk, and the abandonment that ends it (R132). -/
def State.startSeal (s : State) (w : Walk) : State :=
  if s.writesOutstanding w.extent then s.setWalk (some { w with stage := .waitWrites })
  else
    (s.abandonAll fun a => decide (a.mode = .seal) && decide (a.key.extent = w.extent)).setWalk
      (some { w with started := true })

/-- The plan as formed on entering a frame (R133, R137). -/
def Plan.form (source : Option CopyId) (e : Entry) : Plan where
  entry0 := e.copy0
  entry1 := e.copy1
  step := if source.isSome then .source else .stepA0
  c0 := e.copy0
  c1 := e.copy1
  takeFailed := []
  current := none
  begun := false

/-- The state found on entry of one copy. -/
def Plan.entryState (p : Plan) : CopyId → CopyState
  | .copy0 => p.entry0
  | .copy1 => p.entry1

/-- The entry holds a digest of standing (R133). -/
def Entry.hasStanding (e : Entry) : Bool :=
  let has := fun c => [CopyState.provisional, .sealed, .suspect, .lost, .mending].contains c
  has e.copy0 || has e.copy1

/-- UNSEALED or DIGEST_LOST. -/
def CopyState.open (c : CopyState) : Bool := decide (c = .unsealed) || decide (c = .digestLost)

/-- What a plan's step asks for. -/
inductive PlanMove where
  /-- Read a copy again. -/
  | read (r : Reread)
  /-- The step has nothing to do: the next step. -/
  | go (step : PlanStep)
  /-- A copy is passed over for want of a digest of standing (R133). -/
  | passOver (step : PlanStep)
  /-- An accept-mode source is MENDING: nothing is applied and the frame is done (R137). So too for a source that is ABSENT: a
  copy that does not exist has no blocks to read (R7, R39). -/
  | sourceMending
  deriving DecidableEq, Repr

/-- Step C for one copy, found in state `found` when step C was reached (R133). -/
def stepC (e : Entry) (p : Plan) (c : CopyId) (found : CopyState) (next : PlanStep) : PlanMove :=
  if !found.open || p.takeFailed.contains c then .go next
  else if e.hasStanding then .read ⟨c, found, .comparing⟩
  else .passOver next

/-- The plan's next move, with the entry as it stands (R133, R135, R137). -/
def Plan.move (p : Plan) (source : Option CopyId) (e : Entry) : PlanMove :=
  match p.step with
  | .stepA0 => if p.entry0 = .provisional then .read ⟨.copy0, .provisional, .comparing⟩ else .go .stepA1
  | .stepA1 => if p.entry1 = .provisional then .read ⟨.copy1, .provisional, .comparing⟩ else .go .stepB
  | .stepB =>
      if p.entry0 ≠ .provisional ∧ p.entry1 ≠ .provisional ∧ e.copy0.open = true then .read ⟨.copy0, e.copy0, .taking⟩
      else .go .stepC
  | .stepB1 => .read ⟨.copy1, e.copy1, .taking⟩
  | .stepC => .go .stepC0
  | .stepC0 => stepC e p .copy0 p.c0 .stepC1
  | .stepC1 => stepC e p .copy1 p.c1 .finished
  | .source =>
      let c := source.getD .copy0
      if p.entryState c = .mending ∨ p.entryState c = .absent then .sourceMending else .read ⟨c, p.entryState c, .taking⟩
  | .other =>
      let c := (source.getD .copy0).other
      if p.entryState c = .absent ∨ p.entryState c = .mending then .go .finished
      else .read ⟨c, p.entryState c, .comparing⟩
  | .finished => .go .finished

/-- The step after a reread has been handled. -/
def PlanStep.after : PlanStep → PlanStep
  | .stepA0 => .stepA1
  | .stepA1 => .stepB
  | .stepB => .stepC
  | .stepB1 => .stepC
  | .stepC => .stepC0
  | .stepC0 => .stepC1
  | .stepC1 => .finished
  | .source => .other
  | .other => .finished
  | .finished => .finished

/-- The plan goes to a step; when step C is reached the states of both copies are taken (R133). -/
def Plan.goTo (p : Plan) (e : Entry) (step : PlanStep) : Plan :=
  if step = .stepC then { p with step := step, current := none, c0 := e.copy0, c1 := e.copy1 }
  else { p with step := step, current := none }

/-- Begins a reread of the plan (R132). -/
def State.startReread (s : State) (w : Walk) (p : Plan) (r : Reread) : State :=
  s.startRead { w with copy := r.copy, plan := some { p with current := some r } }

/-- A MENDING copy that the plan found is reported (R154). -/
def State.reportFound (s : State) (w : Walk) (e : Entry) (c : CopyId) : State :=
  if e.copyState c = .mending then s.foundMending ⟨w.extent, w.frame, c⟩ else s

/-- A SEAL walk with its frame's entry present carries out the frame's plan (R132, R133). -/
def State.visitPlan (s : State) (w : Walk) (l : Fin 64) : State :=
  if (s.line l).notReady then s.setWalk (some { w with stage := .waitFill })
  else
    let e := s.entryIn l w.frame
    match w.plan with
    | none =>
        ((s.setWalk (some { w with plan := some (Plan.form w.source e) })).reportFound w e .copy0).reportFound w e .copy1
    | some p =>
        match p.current with
        | some r => s.startReread w p r
        | none =>
            if p.step = .finished then s.setWalk (some w.nextFrame)
            else
              match p.move w.source e with
              | .read r => s.startReread w p r
              | .go step => s.setWalk (some { w with plan := some (p.goTo e step) })
              | .passOver step => s.setWalk (some { w.skip 1 with plan := some (p.goTo e step) })
              | .sourceMending => s.setWalk (some { w.skip 1 with plan := some (p.goTo e .finished) })

/-- A SEAL walk at its cursor (R132, R137). -/
def State.visitSeal (s : State) (w : Walk) : State :=
  if w.source.isNone ∧ w.started = false then s.startSeal w
  else if s.walkChanged w then s.skipRest w
  else
    match w.line with
    | none => s.askLine w
    | some l =>
        if (s.line l).tag = (s.extent w.extent).digestBlock w.frame then s.visitPlan w l
        else (s.unpin l).setWalk (some { w with line := none })

/-! ### PREPARE walks (R54, R130) -/

/-- The line of a PREPARE walk's block is set to fresh entries and its writeback is asked for (R130 steps 3 and 4). A line
already in flight is waited for. -/
def State.prepareLine (s : State) (w : Walk) (l : Fin 64) : State :=
  let x := s.line l
  let fresh := freshEntries (s.extent w.extent) x.tag
  let wait := some { w with stage := .preparing, inFlight := decide (x.state = .writing) || decide (x.state = .writingRedirtied) }
  match x.state with
  | .clean => (((s.setLine l { x with entries := fresh }).becomeDirty l).queueWriteback l).setWalk wait
  | .dirty => ((s.setLine l { x with entries := fresh }).queueWriteback l).setWalk wait
  | .writing =>
      (s.setLine l { x with entries := fresh, state := if x.entries = fresh then .writing else .writingRedirtied }).setWalk wait
  | .writingRedirtied => (s.setLine l { x with entries := fresh }).setWalk wait
  | .invalid => (s.unpin l).setWalk (some { w with line := none })
  | .filling => s.setWalk (some { w with stage := .waitFill })

/-- A PREPARE walk at its cursor (R130). -/
def State.visitPrepare (s : State) (w : Walk) : State :=
  if s.walkChanged w then s.skipRest w
  else
    match w.line with
    | none => s.askLine w
    | some l => s.prepareLine w l

/-- The writeback of a PREPARE walk's block has ended (R131). -/
def State.preparedBlock (s : State) (w : Walk) (good : Bool) : State :=
  let w1 := if good then w.check 1 else w.skip 1
  (s.unpin? w.line).setWalk
    (some { w1 with frame := 256 * (w.frame / 256 + 1), line := none, stage := .ready, inFlight := false })

/-! ### Moving the engine on (R110, R111) -/

/-- A PASS walk looks up the extent number at its cursor (R120). -/
def State.enterExtent (s : State) (w : Walk) : State :=
  let x := s.extent w.extent
  if x.state = .sealed then
    s.setWalk (some { w with entered := true, visited := w.visited ++ [w.extent], extentSkipped := 0, first := 0,
                             last := x.frames - 1, frame := 0, copy := .copy0 })
  else s.setWalk (some w.nextExtent)

/-- A walk at its next unit. -/
def State.visit (s : State) (w : Walk) : State :=
  match w.kind with
  | .pass =>
      if w.entered = false then s.enterExtent w
      else if w.depth = .full then s.visitFull w else s.visitAudit w
  | .check => if w.depth = .full then s.visitFull w else s.visitAudit w
  | .seal => s.visitSeal w
  | .prepare => s.visitPrepare w

/-- One move of the engine, or none where it waits. A walk that has handled its range's last unit moves its cursor past it
before it may stop (R110). A PASS walk that stops after the last unit of an extent is left at the next extent number, which
it looks up (R120) only when it runs again (log 59). -/
def State.walkMove (s : State) : Option State :=
  match s.walk.cur with
  | none => none
  | some w =>
      if w.stage ≠ .ready ∨ w.run = .suspended then none
      else if w.spent then some (s.passRange w)
      else if w.run ≠ .running ∧ (w.inFlight = false ∨ w.past = true) then some (s.stopWalk w)
      else if w.past then some (s.endWalk w)
      else some (s.visit w)

/-- Moves of the engine until it waits, at most `fuel` of them. -/
def State.walkLoop : Nat → State → State
  | 0, s => s
  | fuel + 1, s =>
      match s.walkMove with
      | none => s
      | some t => State.walkLoop fuel t

/-- The engine moves on until it waits; the bound is never reached (log 12). -/
def State.walkRun (s : State) : State := State.walkLoop Config.stepBound s

/-! ### Starting, suspending (R109, R112) -/

/-- A PASS walk is current, incoming or saved (R109). -/
def State.passExists (s : State) : Bool :=
  let isPass := fun w : Walk => decide (w.kind = .pass)
  s.walk.cur.any isPass || s.walk.incoming.any isPass || s.walk.saved.any isPass

/-- The engine's answer to a request to start a walk (R109). -/
def State.startAnswer (s : State) (pass : Bool) : Result :=
  if pass && s.passExists then .refusedState
  else
    match s.walk.cur with
    | none => .started
    | some w =>
        if w.run = .saving ∨ w.run = .suspending then .busy
        else if 2 ≤ s.walk.saved.length then .busy
        else .started

/-- A walk answered STARTED takes its place (R109). -/
def State.placeWalk (s : State) (w : Walk) : State :=
  match s.walk.cur with
  | none => s.setWalk (some w)
  | some c =>
      if c.run = .suspended then (s.pushWalk c .suspended).setWalk (some w)
      else if c.inFlight = false then (s.pushWalk c .running).setWalk (some w)
      else { s with walk := { s.walk with cur := some { c with run := .saving }, incoming := some w } }

/-- A walk starts, and the engine moves on. -/
def State.startWalk (s : State) (w : Walk) : State := (s.placeWalk w).walkRun

/-! ### Answers to a walk's reads (R116, R117, R134, R135) -/

/-- The walk is done with the reread in hand: it takes the plan's step after it, or finishes an accept-mode frame whose
source was not taken (R137). -/
def State.rereadDone (s : State) (w : Walk) (step : PlanStep) : State :=
  match w.plan with
  | none => s.setWalk (some { w with stage := .ready })
  | some p =>
      let e :=
        match s.lineOf w.extent w.frame with
        | none => Entry.zero
        | some l => s.entryIn l w.frame
      s.setWalk (some { w with stage := .ready, plan := some (p.goTo e step) })

/-- The store's answer to a seal reread (R134). -/
def State.sealAnswer (s : State) (w : Walk) (p : Plan) (r : Reread) (a b : Nat) (ans : Answer) : State :=
  match ans with
  | .reread false => s.rereadDone (w.check 1) p.step.after
  | .reread true => (s.logCopy .sealMismatch w.key a b 2).rereadDone ((w.check 1).mismatch 1) p.step.after
  | _ =>
      let p' : Plan := if r.purpose = .taking then { p with takeFailed := p.takeFailed ++ [r.copy] } else p
      s.rereadDone { w.skip 1 with plan := some p' } (if p.step = .source then .finished else p.step.after)

/-- The store's answer to a walk's frame copy (R116, R134). -/
def State.walkAnswer (s : State) (a b : Nat) (ans : Answer) : State :=
  match s.walk.cur with
  | none => s
  | some w =>
      match w.plan with
      | some p =>
          match p.current with
          | some r => s.sealAnswer w p r a b ans
          | none => s
      | none =>
          let next := s.walkReplica w
          let s := s.logVerdict w.key a b ans
          match ans with
          | .passed _ =>
              let s := if w.kind = .pass then s.tell w.extent w.frame (.stamp s.cfg.passNumber) else s
              s.setWalk (some ((w.check 1).nextCopy next))
          | .failedSuspect => s.setWalk (some (((w.check 1).mismatch 1).nextCopy next))
          | .failedLost _ => s.setWalk (some (((w.check 1).mismatch 1).nextCopy next))
          | .failedUnchanged => s.setWalk (some (((w.check 1).mismatch 1).nextCopy next))
          | .notHad => s.setWalk (some ((w.skip 1).nextCopy next))
          | _ => s.setWalk (some (w.nextCopy next))

/-- The change a completed SCRUB accumulator submits: a verdict (R73), or the seal reread in hand (R132, R134, R137). -/
def Walk.submission (w : Walk) (a b : Nat) : Change :=
  match w.plan with
  | none => .verdict w.copy a b
  | some p =>
      match p.current with
      | none => .verdict w.copy a b
      | some r =>
          match r.purpose, w.source, r.copy with
          | .comparing, _, c => .sealCompare c a b r.found
          | .taking, some _, c => .acceptTake c a b r.found
          | .taking, none, .copy0 => .sealTake0 a b r.found
          | .taking, none, .copy1 => .sealTake1 a b r.found p.entry0

/-- The SCRUB accumulator is complete: its digest goes to the store (R73, R132), and where the answer comes at once the
accumulator ends and the walk acts on it (R74). -/
def State.completeScrub (s : State) : State :=
  match s.accum scrubPos, s.walk.cur with
  | some x, some w =>
      let r := s.submit w.extent w.frame (.accum scrubPos) (w.submission x.a x.b)
      match r.2 with
      | none => (r.1.await scrubPos).setWalk (some { w with stage := .answer })
      | some ans => (r.1.endAccum scrubPos .noVerdict).walkAnswer x.a x.b ans
  | _, _ => s

/-- The step of a SEAL walk's frame after a failed reread (R135, R138), with the entry's copy-1 state as it stands. -/
def Plan.afterFailure (p : Plan) (r : Reread) (accept media : Bool) (copy1 : CopyState) : Plan × PlanStep × Nat :=
  match r.purpose, accept with
  | .comparing, _ => (p, p.step.after, 0)
  | .taking, true => (p, .finished, 0)
  | .taking, false =>
      let failed := { p with takeFailed := p.takeFailed ++ [r.copy] }
      match r.copy, media with
      | .copy1, _ => (failed, .stepC, 0)
      | .copy0, false => (failed, .finished, bit copy1.open)
      | .copy0, true => (failed, if copy1.open then .stepB1 else .stepC, 0)

/-- The state change a failed reread submits (R135): to SUSPECT from the state found, for a comparing reread that gave a
media error, and for a taking reread of copy 0 whose partner holds a digest. -/
def Reread.failureChange (r : Reread) (accept media : Bool) (copy1 : CopyState) : Option Change :=
  let holds := [CopyState.sealed, .suspect, .lost].contains copy1
  match media, r.purpose, accept, r.copy with
  | true, .comparing, _, c => some (.state c [r.found] .suspect)
  | true, .taking, false, .copy0 => if holds then some (.state .copy0 [r.found] .suspect) else none
  | _, _, _, _ => none

/-- The walk's chunk read has failed (R117, R135): the visit of its frame copy ends. -/
def State.walkFailed (s : State) (chunk : Nat) (media : Bool) : State :=
  match s.walk.cur with
  | none => s
  | some w =>
      let counts :=
        match s.accum scrubPos with
        | none => (0, 0)
        | some x => (x.reserved, x.pendingCount)
      let s := (s.abandon scrubPos).clearWalk
      let kind := if media then FindingKind.mediaError else FindingKind.timeout
      let w1 := w.skip 1
      match w.plan with
      | none =>
          let next := s.walkReplica w
          let s := if media then s.tell w.extent w.frame (.state w.copy [.sealed, .suspect] .suspect) else s
          (s.logCopy kind w.key (256 * chunk) counts.1 counts.2).setWalk (some (w1.nextCopy next))
      | some p =>
          match p.current with
          | none => s.setWalk (some { w1 with stage := .ready })
          | some r =>
              let copy1 :=
                match s.lineOf w.extent w.frame with
                | none => CopyState.absent
                | some l => (s.entryIn l w.frame).copy1
              let s :=
                match r.failureChange w.source.isSome media copy1 with
                | none => s
                | some ch => s.tell w.extent w.frame ch
              let s := s.logCopy kind w.key (256 * chunk) counts.1 counts.2
              let f := p.afterFailure r w.source.isSome media copy1
              s.rereadDone { w1.skip f.2.2 with plan := some f.1 } f.2.1

/-- A walk whose SCRUB accumulator the start of a mend abandoned acts as if it had found the copy out of the state it
required (R144). -/
def State.walkLostCopy (s : State) : State := ((s.clearWalk).walkAnswer 0 0 .notApplied).walkRun

/-- A SEAL walk waiting for writes to end looks again (R132). -/
def State.pokeWalk (s : State) : State :=
  match s.walk.cur with
  | none => s
  | some w => if w.stage = .waitWrites then (s.setWalk (some { w with stage := .ready })).walkRun else s

end Sys2Proof.Machine
end

