-- ==== Sys2Proof/Machine/MendEngine.lean ====
section
/-!
DEFINITION. The mend engine (08_mending.md): starting a mend, its phases, failures, and the answer to MEND_FRAME.
-/

namespace Sys2Proof.Machine

/-! ### Requests (R145, R146, R148) -/

/-- The copy that the phase's reads address (R146, R148). -/
def Mend.readCopy (m : Mend) : CopyId :=
  match m.phase with
  | .verifySource => m.target.other
  | .copy => m.target.other
  | .verifyTarget => m.target

/-- The read of chunk `j` in the mend's phase. -/
def State.mendRead (s : State) (m : Mend) (j : Nat) : InjRequest :=
  let e := s.extent m.extent
  ⟨.mendRead j, .read, e.blockAddr m.readCopy m.frame (256 * j), e.chunkLen j⟩

/-- The write of chunk `j` to the target (R148). -/
def State.mendWrite (s : State) (m : Mend) (j : Nat) : InjRequest :=
  let e := s.extent m.extent
  ⟨.mendWrite j, .write, e.blockAddr m.target m.frame (256 * j), e.chunkLen j⟩

/-- A chunk read. -/
def Owner.isMendRead : Owner → Bool
  | .mendRead _ => true
  | _ => false

/-- A chunk write. -/
def Owner.isMendWrite : Owner → Bool
  | .mendWrite _ => true
  | _ => false

/-- A request whose owner passes the test is queued, or OUTSTANDING with a result that counts. -/
def State.liveInHand (s : State) (p : Owner → Bool) : Bool :=
  (s.arb.any fun r => p r.owner) ||
    s.slots.toList.any fun x =>
      match x.kind with
      | .injected o => decide (x.life = .outstanding) && !x.dead && p o
      | .passthrough _ => false

/-- COPY's next request (R148): the write of a filled buffer, or the read of the next chunk into an empty one. -/
def State.feedCopy (s : State) (m : Mend) : State :=
  if s.inHand Owner.isMend < s.cfg.paceDepth then
    match m.buffer with
    | some (j, _) => if s.liveInHand Owner.isMendWrite then s else s.enqueue (s.mendWrite m j)
    | none =>
        if m.next < (s.extent m.extent).chunks ∧ s.liveInHand Owner.isMendRead = false then
          (s.enqueue (s.mendRead m m.next)).setMend (some { m with next := m.next + 1 })
        else s
  else s

/-- Queues what the mend may queue, up to the pace depth (R145, R146, R148). -/
def State.feedMend (s : State) : State :=
  match s.mend.active with
  | none => s
  | some m =>
      match m.stage, m.phase with
      | .working, .copy => s.feedCopy m
      | .working, _ =>
          let k := min (s.cfg.paceDepth - s.inHand Owner.isMend) ((s.extent m.extent).chunks - m.next)
          (forEach (List.range' m.next k) (fun j t => t.enqueue (t.mendRead m j)) s).setMend
            (some { m with next := m.next + k })
      | _, _ => s

/-- A phase begins at chunk 0. -/
def State.startPhase (s : State) (m : Mend) (phase : MendPhase) : State :=
  (s.setMend (some { m with stage := .working, phase := phase, next := 0, buffer := none })).feedMend

/-! ### Starting (R144) -/

/-- The mend as it is taken from the queue (R144). -/
def Mend.create (k : FrameKey) : Mend where
  extent := k.extent
  frame := k.frame
  target := k.copy
  stage := .lineQueue
  restarted := false
  phase := .verifySource
  attempt := 1
  next := 0
  buffer := none
  line := none
  lastA := 0
  lastB := 0

/-- The entry is discarded with no finding: the pin is released and no mend is active (R144). -/
def State.discardMend (s : State) : State :=
  match s.mend.active with
  | none => s
  | some m => (s.unpin? m.line).setMend none

/-- The target is MENDING and the mend active: the accumulators of the target copy are abandoned, and attempt 1 begins
(R144 steps 5 and 6). -/
def State.beginMend (s : State) : State :=
  match s.mend.active with
  | none => s
  | some m =>
      let s := s.startPhase m .verifySource
      let s := s.abandonAll fun a => decide (a.mode = .check) && decide (a.key = m.key)
      match s.accum scrubPos with
      | none => s
      | some a => if a.key = m.key then (s.abandon scrubPos).walkLostCopy else s

/-- The store has answered the change to MENDING (R144 step 4). -/
def State.marked (s : State) (ans : Answer) : State := if ans = .applied then s.beginMend else s.discardMend

/-- The mend has its line with its entries (R144 steps 3 and 4; R155 for a mend started again). -/
def State.mendHeld (s : State) (m : Mend) (l : Fin 64) : State :=
  if m.restarted then s.startPhase { m with attempt := 1 } .verifySource
  else
    let e := s.entryIn l m.frame
    let t := e.copyState m.target
    if (t = .suspect ∨ t = .lost) ∧ e.copyState m.target.other = .sealed then
      let r := (s.setMend (some { m with stage := .marking })).submit m.extent m.frame .mendMarking
        (.state m.target [t] .mending)
      match r.2 with
      | none => r.1
      | some ans => r.1.marked ans
    else s.discardMend

/-- The mend has its line (R144 step 2): it waits while the line is FILLING. -/
def State.mendGotLine (s : State) (m : Mend) (l : Fin 64) : State :=
  let m := { m with line := some l, stage := .lineFill }
  let s := s.setMend (some m)
  if (s.line l).state = .filling then s else s.mendHeld m l

/-- The mend asks for its line (R144 step 2, R155). -/
def State.mendAsk (s : State) (m : Mend) : State :=
  let m := { m with line := none, stage := .lineQueue }
  let r := (s.setMend (some m)).requestLine .mend ((s.extent m.extent).digestBlock m.frame) m.extent false
  match r.2 with
  | none => r.1
  | some l => r.1.mendGotLine m l

/-- The extent is SEALED or SEALING. -/
def ExtentState.mendable : ExtentState → Bool
  | .sealed => true
  | .sealing => true
  | _ => false

/-- Takes entries from the head of the queue until a mend is held or the queue is empty (R144), at most `fuel` of them. -/
def State.takeMend : Nat → State → State
  | 0, s => s
  | fuel + 1, s =>
      match s.mend.queue with
      | [] => s
      | k :: rest =>
          let s := { s with mend := { s.mend with queue := rest } }
          if (s.extent k.extent).state.mendable then
            let t := s.mendAsk (Mend.create k)
            if t.mend.active.isNone then State.takeMend fuel t else t
          else State.takeMend fuel s

/-! ### Comparisons and failures (R146, R147, R149, R150) -/

/-- An attempt has failed (R149, R150): attempt 2 begins at COPY, or the target is given up. -/
def State.attemptFailed (s : State) (m : Mend) (reason : Nat) : State :=
  if m.attempt = 1 then s.startPhase { m with attempt := 2 } .copy else s.submitClosing m reason .lost

/-- The store's answer to a comparison that mend `m` awaits (R147, R149, R151). -/
def State.compared (s : State) (m : Mend) (a b : Nat) (ans : Answer) : State :=
  match ans with
  | .sourceGood => s.startPhase m .copy
  | .sourceFailed _ => (s.setMend none).finishMend m .sourceFailed
  | .mended => (s.setMend none).finishMend m (.done a b)
  | .targetUnequal => s.attemptFailed { m with lastA := a, lastB := b } 1
  | _ => s.endMend m

/-- The store's answer to a mend comparison reaches the active mend, if it awaits one. -/
def State.mendAnswer (s : State) (a b : Nat) (ans : Answer) : State :=
  match s.mend.active with
  | none => s
  | some m => if m.stage = .comparing then s.compared m a b ans else s

/-- The MEND accumulator is complete (R73, R146): it ends, and its digest goes to the store as a mend comparison. -/
def State.completeMend (s : State) : State :=
  match s.accum mendPos, s.mend.active with
  | some x, some m =>
      let s := (s.endAccum mendPos .noVerdict).setMend (some { m with stage := .comparing })
      let r := s.submit m.extent m.frame .mendComparing (.mendCompare m.phase m.target x.a x.b)
      match r.2 with
      | none => r.1
      | some ans => r.1.mendAnswer x.a x.b ans
  | _, _ => s

/-- A mend request has failed (R150): the finding, then what its phase says. -/
def State.mendFailed (s : State) (chunk : Nat) (copy : CopyId) (media : Bool) : State :=
  match s.mend.active with
  | none => s
  | some m =>
      let kind := if media then FindingKind.mendMediaError else FindingKind.mendTimeout
      let s := s.stopMendWork.logCopy kind ⟨m.extent, m.frame, copy⟩ (256 * chunk) m.phase.code m.attempt
      let m := { m with buffer := none }
      match m.phase with
      | .verifySource =>
          if media then
            let s := s.setMend (some { m with stage := .closing 5 })
            (s.tell m.extent m.frame (.state m.target.other [.sealed] .suspect)).submitClosing m 5 .suspect
          else s.submitClosing m 4 .suspect
      | .copy => s.attemptFailed m 2
      | .verifyTarget => s.attemptFailed m 2

/-! ### Link loss and link reset (R155) -/

/-- The media link has gone down: a mend at work, or whose comparison still waits with its line, is cut off (R155). A change of
the mend that waited with a refill has been applied as the refill failed (R55, R60; log 53). -/
def State.cutMend (s : State) : State :=
  match s.mend.active with
  | none => s
  | some m =>
      if m.stage = .working ∨ m.stage = .comparing then s.stopMendWork.setMend (some { m with stage := .cut, buffer := none }) else s

/-- The media link is up: the attempt begins again from its first phase. -/
def State.uncutMend (s : State) : State :=
  match s.mend.active with
  | none => s
  | some m =>
      if m.stage = .cut then s.startPhase m (if m.attempt = 1 then .verifySource else .copy) else s

/-- A link reset, which has taken the mend's pin: a mend in the line queue asks again, one waiting for a fill or for its first
change is discarded, and one that has begun starts again with a fresh line request (R53, R144, R155; log 37). -/
def State.resetMend (s : State) : State :=
  match s.mend.active with
  | none => s
  | some m =>
      let s := s.stopMendWork
      match m.stage with
      | .lineQueue => s.mendAsk m
      | .lineFill => s.setMend none
      | .marking => s.setMend none
      | _ => s.mendAsk { m with restarted := true, attempt := 1, phase := .verifySource, next := 0, buffer := none }

/-! ### MEND_FRAME (R142) -/

/-- The tests of R142 on the entry as it stands. -/
def State.frameTests (s : State) (q : FrameAsk) (l : Fin 64) : State :=
  let k := q.key
  let x := s.extent k.extent
  let e := s.entryIn l k.frame
  if s.mendPresent k then s.answerFrame .done
  else if x.state.mendable = false ∨ x.hasReplica = false then s.answerFrame .refusedState
  else if ¬(e.copyState k.copy = .suspect ∨ e.copyState k.copy = .lost) ∨ e.copyState k.copy.other ≠ .sealed then
    s.answerFrame .refusedState
  else if 16 ≤ s.mend.queue.length then s.answerFrame .busy
  else { s with mend := { s.mend with queue := s.mend.queue ++ [k] } }.answerFrame .done

/-- Replaces the waiting MEND_FRAME record. -/
def State.setAsk (s : State) (q : FrameAsk) : State := { s with dir := { s.dir with mendFrame := some q } }

/-- The engine reads the entry for a MEND_FRAME record: R154 first, then the tests (R142). -/
def State.frameHeld (s : State) (q : FrameAsk) (l : Fin 64) : State :=
  let k := q.key
  let ours :=
    match s.mend.active with
    | none => false
    | some m => decide (m.key = k) && m.begun
  if (s.entryIn l k.frame).copyState k.copy = .mending ∧ ours = false then
    let r := (s.setAsk { q with wait := .change }).submit k.extent k.frame .mendFrame (.state k.copy [.mending] .suspect)
    match r.2 with
    | none => r.1
    | some _ => r.1.frameTests q l
  else s.frameTests q l

/-- A MEND_FRAME record has its line: it waits while the line is FILLING. -/
def State.frameGotLine (s : State) (q : FrameAsk) (l : Fin 64) : State :=
  let q := { q with line := some l, wait := .fill }
  let s := s.setAsk q
  if (s.line l).state = .filling then s else s.frameHeld q l

/-- A MEND_FRAME record asks for its line (R142). -/
def State.frameAsk (s : State) (k : FrameKey) : State :=
  let q : FrameAsk := ⟨k, .queue, none⟩
  let r := (s.setAsk q).requestLine .mendFrame ((s.extent k.extent).digestBlock k.frame) k.extent false
  match r.2 with
  | none => r.1
  | some l => r.1.frameGotLine q l

end Sys2Proof.Machine
end

