-- ==== Sys2Proof/Machine/Results.lean ====
section
/-!
DEFINITION. What the digest store, the walk engine, the mend engine, the report writer and the catalogue's write side do
with the results of their injected requests (03_the_digest_store.md, R52 to R58; 06, 07, 08, 10 and 11 at the rules named).
-/

namespace Sys2Proof.Machine

/-- How an injected request ended: GOOD with its data, MEDIA_ERROR, or TIMEOUT (R94, R98). -/
inductive MediaEnd where
  | good (data : List Byte)
  | mediaError
  | timeout
  deriving DecidableEq, Repr

/-- A media return as it is taken (R83): anything but GOOD is MEDIA_ERROR, and so is a READ return marked GOOD without
exactly the request's data. -/
def normalise (kind : ReqKind) (count : Nat) (status : MediaStatus) (data : List Byte) : MediaEnd :=
  match status with
  | .good =>
      match kind with
      | .write => .good []
      | .read => if data.length = count * Config.blockBytes then .good data else .mediaError
  | .mediaError => .mediaError
  | .other _ => .mediaError

/-- The finding kind of a failure. -/
def MediaEnd.findingKind : MediaEnd → FindingKind
  | .timeout => .timeout
  | _ => .mediaError

/-- The request failed with MEDIA_ERROR, not TIMEOUT. -/
def MediaEnd.isMedia : MediaEnd → Bool
  | .timeout => false
  | _ => true

/-- The request ended GOOD. -/
def MediaEnd.isGood : MediaEnd → Bool
  | .good _ => true
  | _ => false

/-! ### Waiting changes (R42, R52, R53, R55) -/

/-- The computed sums a change carries. -/
def Change.sums : Change → Nat × Nat
  | .state _ _ _ => (0, 0)
  | .stamp _ => (0, 0)
  | .verdict _ a b => (a, b)
  | .sealCompletion _ a b => (a, b)
  | .sealCompare _ a b _ => (a, b)
  | .sealTake0 a b _ => (a, b)
  | .sealTake1 a b _ _ => (a, b)
  | .acceptTake _ a b _ => (a, b)
  | .mendCompare _ _ a b => (a, b)

/-- An answer reaches the submitter that waited for it. -/
def State.deliver (s : State) (l : Fin 64) (w : Waiting) (ans : Answer) : State :=
  let sums := w.change.sums
  match w.who with
  | .nobody => s
  | .accum p =>
      if p = scrubPos then ((s.endAccum scrubPos .noVerdict).walkAnswer sums.1 sums.2 ans).walkRun else s.finishCheck p ans
  | .mendMarking => s.marked ans
  | .mendComparing => s.mendAnswer sums.1 sums.2 ans
  | .mendClosing =>
      match s.mend.active with
      | none => s
      | some m => (s.setMend none).finishMend m (.failed 6)
  | .mendFrame =>
      match s.dir.mendFrame with
      | none => s
      | some q => if ans = .notHad then s.answerFrame .busy else s.frameTests q l

/-- One waiting change is taken, and its submitter answered. -/
def State.takeWaiting (s : State) (l : Fin 64) (w : Waiting) : State :=
  match w.who, s.mend.active with
  | .mendClosing, some m =>
      match m.stage with
      | .closing reason => s.applyClosing l m reason w.change
      | _ => s
  | .mendClosing, none => s
  | _, _ =>
      let r := s.applyNow l w.frame w.who w.change
      r.1.deliver l w r.2

/-- The line's waiting changes are applied in the order they arrived (R52, R55), until the line is read again. -/
def State.drain : Nat → Fin 64 → State → State
  | 0, _, s => s
  | fuel + 1, l, s =>
      if (s.line l).notReady then s
      else
        match (s.line l).waiting with
        | [] => s
        | w :: rest => State.drain fuel l ((s.setLine l { s.line l with waiting := rest }).takeWaiting l w)

/-- Waiting changes whose entry could not be had: each submitter is told (R53, R59). -/
def State.failWaiting (s : State) (l : Fin 64) (ws : List Waiting) : State :=
  forEach ws (fun w t => t.deliver l w .notHad) s

/-! ### The head request (R90) -/

/-- The waiting head request is answered without being forwarded: its slot is freed with its pins, its line requests are
withdrawn (R85, R90). -/
def State.answerHead (s : State) (status : UpStatus) : State :=
  match s.up.head with
  | none => s
  | some h =>
      let s := ({ s with up := { s.up with head := none } }).dropRequests .write
      match h.wait with
      | .lines i => s.endSlot i status []
      | .unit i => s.endSlot i status []
      | .slot _ => s.sendUp ⟨h.req.requester, h.req.tag, status, []⟩
      | .undecided => s.sendUp ⟨h.req.requester, h.req.tag, status, []⟩

/-- The head write waits for lines and holds line `l`. -/
def State.headWaitsOn (s : State) (l : Fin 64) : Bool :=
  match s.up.head with
  | none => false
  | some h =>
      match h.wait with
      | .lines i => (s.slot i).pins.contains l
      | _ => false

/-! ### Fills and refills (R52, R53, R55) -/

/-- A damaged entry as it is found: its frame, the stored and the computed check, the reason (R52). -/
structure Damage where
  frame : Nat
  stored : Nat
  computed : Nat
  reason : Nat
  deriving DecidableEq, Repr

/-- Tests `n` entries, the first of which belongs to frame `f` (R41, R52): the entries as taken, and the damage found. -/
def readEntries (hasReplica : Bool) : Nat → Nat → List Byte → List Entry × List Damage
  | 0, _, _ => ([], [])
  | n + 1, f, bytes =>
      let b := bytes.take 16
      let r := readEntries hasReplica n (f + 1) (bytes.drop 16)
      match decodeEntry hasReplica b with
      | .ok e => (e :: r.1, r.2)
      | .error reason =>
          (Entry.digestLost hasReplica :: r.1, ⟨f, field b 14 2, weightedCheck (b.take 14), reason⟩ :: r.2)

/-- The store logs a damaged entry, and reports it where it is the active mend's (R52, R151). The report is acted on at once:
where the block has several damaged entries, the MEND_FAILED (reason 6) of the mend it ends stands right after that entry's own
DIGEST_DAMAGED and before those of the entries after it, the model's choice (DESIGN CHOICE, log 66). -/
def State.logDamage (s : State) (e : Fin 1024) (d : Damage) : State :=
  (s.log .digestDamaged (some e.val) (some d.frame) none d.stored d.computed d.reason).reportMend e d.frame .nobody
    (Entry.digestLost (s.extent e).hasReplica)

/-- A line takes the bytes read for it (R52): valid entries as read, DIGEST_LOST entries for damaged ones. The findings for
several damaged entries of one block stand in ascending slot order, before the waiting changes are applied (log 57); a mend
that one of them ends is closed between them (log 66). -/
def State.takeEntries (s : State) (l : Fin 64) (data : List Byte) : State × List Damage :=
  let x := s.line l
  let ext := s.extent x.extent
  let n := ext.slotsOf x.tag
  let r := readEntries ext.hasReplica n (ext.firstFrame x.tag) data
  let s := s.setLine l { x with entries := r.1 ++ List.replicate (256 - n) Entry.zero, state := .clean, refilling := false }
  let s := if r.2.isEmpty then s else s.becomeDirty l
  (forEach r.2 (fun d t => t.logDamage x.extent d) s, r.2)

/-- The finding for a digest block whose read or write failed (R53, R58). -/
def State.logLineFailure (s : State) (kind : FindingKind) (l : Fin 64) : State :=
  let x := s.line l
  s.log kind (some x.extent.val) (some ((s.extent x.extent).firstFrame x.tag)) none (lowBits x.tag) (highBits x.tag) 0

/-- The active mend waits for line `l` to be filled. -/
def State.mendWaitsOn (s : State) (l : Fin 64) : Option Mend :=
  match s.mend.active with
  | none => none
  | some m => if m.stage = .lineFill ∧ m.line = some l then some m else none

/-- The MEND_FRAME record waits for line `l` to be filled. -/
def State.frameWaitsOn (s : State) (l : Fin 64) : Option FrameAsk :=
  match s.dir.mendFrame with
  | none => none
  | some q => if q.wait = .fill ∧ q.line = some l then some q else none

/-- The current walk waits on line `l` in a stage. -/
def State.walkWaitsOn (s : State) (l : Fin 64) (stage : WalkStage) : Option Walk :=
  match s.walk.cur with
  | none => none
  | some w => if w.stage = stage ∧ w.line = some l then some w else none

/-- The walk on a line whose read has ended goes on (R114, R119): with a verified block, or with the entries present. -/
def State.walkLineRead (s : State) (l : Fin 64) (verified : Bool) (replaced : List Nat) : State :=
  match s.walkWaitsOn l .auditing with
  | some w => (s.auditAnswer w verified replaced).walkRun
  | none =>
      match s.walkWaitsOn l .waitFill with
      | some w => (s.setWalk (some { w with stage := .ready })).walkRun
      | none => s

/-- The mend and the MEND_FRAME record that wait for line `l` go on, its entries being present. -/
def State.lineFilled (s : State) (l : Fin 64) : State :=
  let s :=
    match s.mendWaitsOn l with
    | none => s
    | some m => s.mendHeld m l
  match s.frameWaitsOn l with
  | none => s
  | some q => s.frameHeld q l

/-- A fill or refill has ended GOOD on a line that is not INVALID (R52, R55). -/
def State.fillGood (s : State) (l : Fin 64) (data : List Byte) : State :=
  if (s.line l).state = .invalid then s
  else
    let r := s.takeEntries l data
    ((State.drain Config.stepBound l r.1).lineFilled l).walkLineRead l true (r.2.map Damage.frame)

/-- A fill has failed: the line becomes INVALID and its waiters are released (R53): the head write first, then the waiting
changes and the CHECK accumulators among their submitters, the mend, the MEND_FRAME record and the walk (log 25). -/
def State.fillLost (s : State) (l : Fin 64) : State :=
  let ws := (s.line l).waiting
  let s := if s.headWaitsOn l then s.answerHead .mediaError else s
  let s := (s.invalidate l).failWaiting l ws
  let s := if (s.mendWaitsOn l).isSome then s.discardMend else s
  let s := if (s.frameWaitsOn l).isSome then s.answerFrame .busy else s
  match s.walkWaitsOn l .auditing with
  | some w => (s.auditAnswer w false []).walkRun
  | none =>
      match s.walkWaitsOn l .waitFill with
      | some w => (s.skipBlock w).walkRun
      | none => s

/-- A fill's request has ended (R52, R53). -/
def State.fillEnded (s : State) (l : Fin 64) (e : MediaEnd) : State :=
  match e with
  | .good data => s.fillGood l data
  | .mediaError => (s.logLineFailure .mediaError l).fillLost l
  | .timeout => (s.logLineFailure .timeout l).fillLost l

/-- A refill has failed: the line keeps its entries, to which the waiting changes are applied (R55). -/
def State.refillLost (s : State) (l : Fin 64) : State :=
  let s := s.setLine l { s.line l with refilling := false }
  ((State.drain Config.stepBound l s).lineFilled l).walkLineRead l false []

/-- A refill's request has ended (R55). -/
def State.refillEnded (s : State) (l : Fin 64) (e : MediaEnd) : State :=
  match e with
  | .good data => s.fillGood l data
  | .mediaError => (s.logLineFailure .mediaError l).refillLost l
  | .timeout => (s.logLineFailure .timeout l).refillLost l

/-! ### Writebacks (R56 to R58, R131) -/

/-- A failed or pinned eviction victim is passed over: the next eligible line is queued for the waiting request (R49,
R58). -/
def State.nextVictim (s : State) (l : Fin 64) : State :=
  if s.store.queue.isEmpty then s else s.queueEviction (some l)

/-- A line's write marks, cleared at the end of its write. -/
def Line.writeEnded (x : Line) : Line := { x with victim := false, retrigger := false, cut := false }

/-- A writeback has ended GOOD (R57). A victim that was redirtied meanwhile is DIRTY again, and no other line is queued in its
place (log 43). -/
def State.writebackGood (s : State) (l : Fin 64) : State :=
  let x := s.line l
  let t := s.setLine l { x.writeEnded with state := .clean, dirtyTimer := none }
  match x.state with
  | .writing => if x.victim = true ∧ 0 < x.pins then t.nextVictim l else t
  | .writingRedirtied => if x.retrigger then (t.becomeDirty l).queueWriteback l else t.becomeDirty l
  | _ => s

/-- The line is WRITING or WRITING_REDIRTIED (R47). -/
def LineState.writes : LineState → Bool
  | .writing => true
  | .writingRedirtied => true
  | _ => false

/-- A writeback has failed: from WRITING or WRITING_REDIRTIED alike the line is DIRTY again (R58). Where it was an eviction
victim that a trigger named during its write, its own new writeback is queued before the next eligible line's (log 62). -/
def State.writebackFailed (s : State) (l : Fin 64) (kind : FindingKind) : State :=
  let x := s.line l
  if x.state.writes then
    let t := ((s.setLine l x.writeEnded).becomeDirty l).logLineFailure kind l
    let t := if x.retrigger then t.queueWriteback l else t
    if x.victim then t.nextVictim l else t
  else s

/-- A writeback's request has ended (R57, R58), and the flush and PREPARE accounting moves on (R56, R131), the flush first
(log 61). -/
def State.writebackEnded (s : State) (l : Fin 64) (e : MediaEnd) : State :=
  let s := if e.isGood then s.writebackGood l else s.writebackFailed l e.findingKind
  let s := s.flushLine l e.isGood
  match s.walkWaitsOn l .preparing with
  | none => s
  | some w => (s.preparedBlock w e.isGood).walkRun

/-! ### Walk chunks (R115 to R117) -/

/-- Commits an injected slot's contributions (R71). -/
def State.commitInjected (s : State) (cs : List Contribution) (data : List Byte) : State :=
  forEach cs (fun c t =>
    let sums := t.contributionSums c (some data)
    t.commit c.pos sums.1 sums.2) s

/-- A walk chunk's request has ended; `x` is the slot as it was. -/
def State.walkChunkEnded (s : State) (x : Slot) (chunk : Nat) (e : MediaEnd) : State :=
  if x.dead then s.feedWalk
  else
    match e with
    | .good data =>
        let s := s.commitInjected x.contribs data
        if s.isComplete scrubPos then s.completeScrub.walkRun else s.feedWalk
    | .mediaError => (s.walkFailed chunk true).walkRun
    | .timeout => (s.walkFailed chunk false).walkRun

/-! ### Mend requests (R146 to R150) -/

/-- A mend read's request has ended; `x` is the slot as it was. -/
def State.mendReadEnded (s : State) (x : Slot) (chunk : Nat) (e : MediaEnd) : State :=
  match x.dead, s.mend.active with
  | false, some m =>
      match e with
      | .good data =>
          if m.phase = .copy then (s.setMend (some { m with buffer := some (chunk, data) })).feedMend
          else
            let s := s.commitInjected x.contribs data
            if s.isComplete mendPos then s.completeMend else s.feedMend
      | .mediaError => s.mendFailed chunk m.readCopy true
      | .timeout => s.mendFailed chunk m.readCopy false
  | _, _ => s.feedMend

/-- A mend write's request has ended (R148). -/
def State.mendWriteEnded (s : State) (x : Slot) (chunk : Nat) (e : MediaEnd) : State :=
  match x.dead, s.mend.active with
  | false, some m =>
      match e with
      | .good _ =>
          if (s.extent m.extent).chunks ≤ chunk + 1 then s.startPhase m .verifyTarget else s.feedMend
      | .mediaError => s.mendFailed chunk m.target true
      | .timeout => s.mendFailed chunk m.target false
  | _, _ => s.feedMend

/-! ### Status and log writes (R173 to R175, R179) -/

/-- A flag whose count is absent takes the count of the write that showed it (R175). -/
def Flag.remember (f : Flag) (shown : Bool) (count : BitVec 32) : Flag :=
  if f.isSet && shown && f.seen.isNone then { f with seen := some count } else f

/-- A status write has ended GOOD (R173 to R175). -/
def State.statusGood (s : State) (shot : StatusShot) : State :=
  let flags := Vector.ofFn fun i : Fin 6 => (s.rep.flags[i]).remember shot.shown[i] shot.count
  let selection := if s.rep.selectedSince then s.rep.selection else .summary
  let s := { s with rep := { s.rep with flags := flags, selection := selection, statusShot := none } }
  (if shot.batch then s.reportBatch else s).pumpStatus

/-- A status write has ended (R173): after a failure the mark is set again. -/
def State.statusEnded (s : State) (good : Bool) : State :=
  match s.rep.statusShot with
  | none => s
  | some shot =>
      if good then s.statusGood shot else { s with rep := { s.rep with statusShot := none } }.statusDue

/-- A log write has ended GOOD: the written head moves (R179). -/
def State.logGood (s : State) (shot : LogShot) : State :=
  match shot with
  | .completed =>
      match s.rep.completed with
      | [] => s
      | (b, _) :: rest =>
          { s with rep := { s.rep with completed := rest, writtenHead := (b + 1) * 128 % 4096 } }.recordLog
  | .headImage h =>
      let s := { s with rep := { s.rep with writtenHead := h } }
      if h % 128 = 0 then s.recordLog else s

/-- A log write was not made: the head image, if it was that, is to be written still (R179). -/
def Report.logLost (r : Report) : Report :=
  match r.logShot with
  | some (.headImage h) =>
      if h / 128 = r.head / 128 then { r with logShot := none, imageChanged := r.image.isSome } else { r with logShot := none }
  | _ => { r with logShot := none }

/-- A log write has ended (R179, R180). -/
def State.logEnded (s : State) (good : Bool) : State :=
  match s.rep.logShot with
  | none => s
  | some shot =>
      if good then (({ s with rep := { s.rep with logShot := none } }.logGood shot).resumeLog).pumpLog
      else { s with rep := s.rep.logLost }.pumpLog

/-! ### Catalogue writes (R189) -/

/-- The finding for a catalogue block (R189). -/
def State.logCatalogue (s : State) (kind : FindingKind) (b : Fin 17) : State :=
  let addr := catalogueAddr (s.controlBase.getD 0) b
  s.log kind none none none (lowBits addr) (highBits addr) 0

/-- A catalogue write has ended (R189). -/
def State.catalogueEnded (s : State) (b : Fin 17) (e : MediaEnd) : State :=
  let s :=
    if e.isGood then
      match (s.cat b).state with
      | .writing => s.setCat b ⟨.current, none, false⟩
      | .writingChanged => (s.setCat b ⟨.changed, none, false⟩).queueCat b
      | _ => s
    else (s.setCat b ⟨.changed, some (Timer.start Config.dirtyMs), false⟩).logCatalogue e.findingKind b
  s.flushBlock b e.isGood

end Sys2Proof.Machine
end

