-- ==== Sys2Proof/Machine/Switch.lean ====
section
/-!
DEFINITION. The transfer switch (05_passing_traffic.md): the decision on a controller request, its waits, its way to the
media, and the ends of passthrough slots.
-/

namespace Sys2Proof.Machine

/-! ### The decision (R86, R87) -/

/-- A live passthrough slot holds this requester and tag (R87). -/
def State.duplicate (s : State) (r : Request) : Bool :=
  s.slots.toList.any fun x => x.livePass && decide (x.requester = r.requester) && decide (x.tag = r.tag)

/-- The request fails its form (R87). -/
def State.formFails (s : State) (r : Request) : Bool :=
  decide (r.count = 0) || decide (256 < r.count) || decide (63 < r.tag) ||
    decide (Config.addressLimit < r.addr + r.count) || s.duplicate r

/-- What the switch decides on a request (R86). -/
inductive Decision where
  /-- Answered without being forwarded, with no finding. -/
  | answer (status : UpStatus)
  /-- Refused by extent protection (R18). -/
  | protect
  /-- Held undecided (R88). -/
  | hold
  | forward
  deriving DecidableEq, Repr

/-- The requester holds the right its request needs (R89). -/
def State.hasRight (s : State) (r : Request) : Bool :=
  match r.kind with
  | .read => (s.cfg.admission[r.requester]).read
  | .write => (s.cfg.admission[r.requester]).write

/-- Step 5 (R86, R18). -/
def State.decideProtection (s : State) (r : Request) : Decision :=
  match r.kind with
  | .read => .forward
  | .write =>
      match s.judge (s.isExact r) r.addr r.count with
      | .allowed => .forward
      | .busy => .answer .busy
      | .refused => .protect

/-- Steps 2 to 6 (R86, R88). -/
def State.decideRest (s : State) (r : Request) : Decision :=
  if s.mediaUp = false then .answer .mediaError
  else
    match s.ldr.part with
    | .setup => .hold
    | .loading =>
        if r.kind = .write then .hold
        else if s.hasRight r then .forward
        else .answer .refused
    | .running => if s.hasRight r then s.decideProtection r else .answer .refused
    | .passthrough => .forward
    | .fault => if r.kind = .write then .answer .fault else .forward

/-- The decision on a request as its header is taken (R86). -/
def State.decideRequest (s : State) (r : Request) : Decision :=
  if s.formFails r then .answer .refused else s.decideRest r

/-! ### Sending (R93) -/

/-- Replaces the head request. -/
def State.setHead (s : State) (h : Option Head) : State := { s with up := { s.up with head := h } }

/-- A slot's request goes to the media: the slot becomes OUTSTANDING and its return timer starts (R93, R96). -/
def State.sendSlot (s : State) (i : Fin 256) (r : Request) : State :=
  (s.setSlot i { s.slot i with life := .outstanding, timer := some (Timer.start s.cfg.returnTimeout) }).sendMedia
    (.request r.kind r.requester i r.addr r.count r.data)

/-- A controller read of a frame copy of a SEALED extent is offered as CHECK (R64, R65). -/
def State.offerCheck (s : State) (i : Fin 256) (t : Touched) : State :=
  let k := t.key
  if (s.extent k.extent).state ≠ .sealed then s
  else
    match s.findAccum .check k with
    | some p => s.joinRead p i t
    | none =>
        match s.freeTraffic? with
        | none => s
        | some p =>
            let r := s.requestLineNow ((s.extent k.extent).digestBlock k.frame) k.extent
            match r.2 with
            | none => r.1
            | some l =>
                let opened := (r.1.openAccum p .check k (some l)).joinRead p i t
                if (r.1.line l).state.holds then
                  match (r.1.entryIn l k.frame).copyState k.copy with
                  | .sealed => opened
                  | .suspect => opened
                  | .mending => (r.1.unpin l).foundMending k
                  | _ => r.1.unpin l
                else opened

/-- A read proceeds (R90, R93): where it was decided in RUNNING, and the part is still, its first four frame copies are
offered to the pool. A change of part state applies to requests decided after it (R88). -/
def State.readProceeds (s : State) (i : Fin 256) (r : Request) (checked : Bool) : State :=
  let s := if checked && s.running then forEach ((s.touched r.addr r.count).take 4) (fun t u => u.offerCheck i t) s else s
  (s.setHead none).sendSlot i r

/-! ### Writes (R126, R127) -/

/-- The WRITE_REFUSED finding (R18, R126). -/
def State.logRefused (s : State) (r : Request) (block : Nat) : State :=
  s.log .writeRefused none none none r.requester.val (lowBits block) (highBits block)

/-- A write offered as SEAL (R64, R66, R69). -/
def State.offerSeal (s : State) (i : Fin 256) (data : List Byte) (t : Touched) : State :=
  match s.findAccum .seal t.key with
  | some p => s.joinSeal p i t data
  | none =>
      match s.freeTraffic?, s.lineOf t.key.extent t.key.frame with
      | some p, some l => ((s.pin l).openAccum p .seal t.key (some l)).joinSeal p i t data
      | some p, none => (s.openAccum p .seal t.key none).joinSeal p i t data
      | none, _ => s

/-- Every copy state but ABSENT (R127). -/
def acceptFrom : List CopyState := [.unsealed, .provisional, .sealed, .suspect, .mending, .lost, .digestLost]

/-- A write's acceptance of one frame copy (R127). -/
def State.acceptCopy (s : State) (k : FrameKey) : State := s.tell k.extent k.frame (.state k.copy acceptFrom .unsealed)

/-- A write into DEFINED or OPEN pieces is decided (R127): accumulators, the copies past the fourth, acceptance, send. -/
def State.ingest (s : State) (i : Fin 256) (r : Request) : State :=
  let touched := s.touched r.addr r.count
  let isIngest := s.inState ExtentState.ingest
  let s := forEach ((touched.take 4).filter isIngest) (fun t u => u.offerSeal i r.data t) s
  let s := forEach ((touched.drop 4).filter isIngest) (fun t u =>
    match u.findAccum .seal t.key with
    | none => u
    | some p => u.abandon p) s
  let s := forEach (touched.filter isIngest) (fun t u => u.acceptCopy t.key) s
  (s.setHead none).sendSlot i r

/-- A waiting write is judged again (R19, R127): refused, answered BUSY, sent as plain storage, or decided. The list of its
digest blocks is the one taken as its wait began (R126): a piece that was unclaimed then and lies in a DEFINED or OPEN extent
now is decided with the rest, with no wait for that piece's line and no count of it towards the three blocks of R126. This is the
model's choice (DESIGN CHOICE, log 64). -/
def State.writeJudged (s : State) (i : Fin 256) (r : Request) : State :=
  match s.judge false r.addr r.count with
  | .refused => (s.logRefused r (s.firstRefused false r.addr r.count)).answerHead .refused
  | .busy => s.answerHead .busy
  | .allowed =>
      if (s.ingestTouched r.addr r.count).isEmpty then
        let s := s.unpinSlot i
        ((s.setSlot i { s.slot i with pins := [] }).setHead none).sendSlot i r
      else s.ingest i r

/-- The write obtains a line: its pin is recorded in its slot (R126). -/
def State.addPin (s : State) (i : Fin 256) (l : Fin 64) : State :=
  s.setSlot i { s.slot i with pins := (s.slot i).pins ++ [l] }

/-- The write asks for one of its lines (R126). -/
def State.askWriteLine (s : State) (i : Fin 256) (b : Nat × Fin 1024) : State :=
  let r := s.requestLine .write b.1 b.2 false
  match r.2 with
  | none => r.1
  | some l => r.1.addPin i l

/-- The first block of the write whose frame's entry lies in the digest block at `tag` (R126). -/
def State.firstInBlock (s : State) (r : Request) (tag : Nat) : Nat :=
  match (s.ingestTouched r.addr r.count).find? fun t => decide ((s.entryBlock t).1 = tag) with
  | none => r.addr
  | some t => r.addr + t.start

/-- A write in RUNNING has its slot: the second and third waits of R90 (R126, R156). -/
def State.writeHasSlot (s : State) (i : Fin 256) (r : Request) (exact : Bool) : State :=
  if exact then s.setHead (some ⟨r, true, .unit i⟩)
  else
    let s := s.setHead (some ⟨r, false, .lines i⟩)
    match s.judge false r.addr r.count, s.neededBlocks r.addr r.count with
    | .allowed, [] => s.writeJudged i r
    | .allowed, [b] => s.askWriteLine i b
    | .allowed, [b, c] => (s.askWriteLine i b).askWriteLine i c
    | .allowed, _ :: _ :: c :: _ => (s.logRefused r (s.firstInBlock r c.1)).answerHead .refused
    | _, _ => s.writeJudged i r

/-- The request has its slot (R90). -/
def State.hasSlot (s : State) (i : Fin 256) (r : Request) (exact checked : Bool) : State :=
  match r.kind with
  | .read => s.readProceeds i r checked
  | .write => if s.running then s.writeHasSlot i r exact else (s.setHead none).sendSlot i r

/-- The slot a passthrough request may take now (R91, R92). -/
def State.passSlot? (s : State) : Option (Fin 256) :=
  if s.countSlots Slot.countsPass < Config.passthroughBudget then s.freeSlot? else none

/-- A slot as a request takes it (R90). -/
def Slot.assigned (r : Request) : Slot :=
  { Slot.freeSlot with
    life := .assigned, kind := .passthrough r.kind, requester := r.requester, tag := r.tag, addr := r.addr,
    count := r.count }

/-- The request takes a slot if one may be had, and otherwise waits for it at the head (R90). -/
def State.takeSlot (s : State) (r : Request) (exact checked : Bool) : State :=
  match s.passSlot? with
  | none => s.setHead (some ⟨r, exact, .slot checked⟩)
  | some i => (s.setSlot i (Slot.assigned r)).hasSlot i r exact checked

/-- What a decision does (R86). -/
def State.carryOut (s : State) (r : Request) (d : Decision) : State :=
  match d with
  | .answer status => (s.setHead none).sendUp ⟨r.requester, r.tag, status, []⟩
  | .protect =>
      ((s.logRefused r (s.firstRefused (s.isExact r) r.addr r.count)).setHead none).sendUp ⟨r.requester, r.tag, .refused, []⟩
  | .hold => s.setHead (some ⟨r, false, .undecided⟩)
  | .forward => s.takeSlot r (s.running && s.isExact r) s.running

/-- The write held undecided at the head is decided from step 2 (R88). -/
def State.decideHeld (s : State) : State :=
  match s.up.head with
  | none => s
  | some h => if h.wait = .undecided then s.carryOut h.req (s.decideRest h.req) else s

/-! ### Ends of passthrough slots (R94 to R97) -/

/-- A slot that is only kept out of use (R91, R97). -/
def Slot.stale (x : Slot) : Slot :=
  { x with
    life := .stale, timer := x.timer.map fun t => Timer.start t.length, contribs := [], watches := [], pins := [],
    batch := false, dead := false }

/-- The media return of a passthrough slot is disposed of (R94, R95). -/
def State.passReturned (s : State) (i : Fin 256) (e : MediaEnd) : State :=
  let x := s.slot i
  if x.batch then
    (s.setSlot i { x with life := .held, timer := none, status := if e.isGood then .good else .mediaError }).settleBatch
  else
    match e, x.kind with
    | .good data, .passthrough .read => s.readReturned i data
    | .good _, _ => ((s.commitAll i none).endSlot i .good []).pokeWalk
    | _, _ => ((s.failAll i).endSlot i .mediaError []).pokeWalk

/-- The return timer of a passthrough slot has expired (R96). -/
def State.passTimedOut (s : State) (i : Fin 256) : State :=
  let s := (s.abandonContributions i).unpinSlot i
  let x := s.slot i
  (((s.sendUp ⟨x.requester, x.tag, .timeout, []⟩).setSlot i x.stale).loseBatchSlot i).pokeWalk

/-- A return whose slot is not OUTSTANDING is dropped (R97). -/
def State.unexpected (s : State) (i : Fin 256) (status : MediaStatus) : State :=
  let x := s.slot i
  let s := if x.life = .stale then s.setSlot i Slot.freeSlot else s
  s.log .unexpectedReturn none none none i.val (statusCode status) x.life.code

end Sys2Proof.Machine
end

