-- ==== Sys2Proof/Machine/StatusImage.lean ====
section
/-!
DEFINITION. The bytes of the status block (R172, R174, section 12.3), as the status write's image is taken.
-/

namespace Sys2Proof.Machine

/-- A number in `n` bytes. -/
abbrev num (n x : Nat) : List Byte := leBytes n x

/-! ### Walk entries -/

/-- The current walk, the incoming walk, the saved walks, top first: the four roles in order. -/
def WalkEngine.roles (w : WalkEngine) : List (Option Walk) := [w.cur, w.incoming, w.saved[0]?, w.saved[1]?]

/-- The 16 bytes of a walk entry; an absent walk is zeros (R192). -/
def walkEntry (role : Nat) : Option Walk → List Byte
  | none => zeros 16
  | some w =>
      padTo 16 (num 1 role ++ num 1 w.kind.code ++ num 1 w.run.code ++ num 1 w.depth.code ++ num 2 w.extent.val ++
        num 1 w.copy.num ++ zeros 1 ++ num 4 w.frame)

/-- The 48 bytes of a walk in the WALKS window. -/
def walkRecord (role : Nat) : Option Walk → List Byte
  | none => zeros 48
  | some w =>
      padTo 48 (num 1 role ++ num 1 w.kind.code ++ num 1 w.run.code ++ num 1 w.depth.code ++ num 2 w.extent.val ++
        num 1 w.copy.num ++ num 1 (bit w.incomplete) ++ num 4 w.frame ++ num 4 w.first ++ num 4 w.last ++ num 4 w.checked ++
        num 4 w.mismatches ++ num 4 w.skipped ++ num 4 w.extentSkipped)

/-- Entries of the four roles. -/
def roleEntries (f : Nat → Option Walk → List Byte) (ws : List (Option Walk)) : List Byte :=
  (ws.zipIdx 1).flatMap fun x => f x.2 x.1

/-- The visited set of the PASS walk, one bit per extent number; zeros when no PASS walk exists. -/
def visitedBytes (ws : List (Option Walk)) : List Byte :=
  let v := ws.flatMap fun o =>
    match o with
    | none => []
    | some w => if w.kind = .pass then w.visited else []
  (List.range 128).map fun j => BitVec.ofNat 8 (bitsNat ((List.range 8).map fun i => v.any fun e => e.val == 8 * j + i))

/-! ### Windows (R174) -/

/-- Accumulators in use in a mode. -/
def State.accumsIn (s : State) (m : AccumMode) : Nat :=
  s.pool.toList.countP fun x =>
    match x with
    | none => false
    | some a => decide (a.mode = m)

/-- The SUMMARY contents, from byte 4. -/
def State.summaryBytes (s : State) : List Byte :=
  let ext := fun st : ExtentState => num 2 (s.map.extents.toList.countP fun x => decide (x.state = st))
  let ln := fun st : LineState => num 1 (s.store.lines.toList.countP fun x => decide (x.state = st))
  let cls := fun c : Nat => num 2 (s.arb.countP fun r => r.owner.cls == c)
  ([ExtentState.free, .preparing, .defined, .sealing, .sealed, .opened].flatMap ext) ++
    ([LineState.invalid, .filling, .clean, .dirty, .writing, .writingRedirtied].flatMap ln) ++
    num 2 s.store.queue.length ++ ([1, 2, 3, 4, 5].flatMap cls) ++ num 2 s.map.restart.length ++
    num 1 (bit s.dir.flush.isSome)

/-- The 16 bytes of an accumulator position. -/
def accumEntry : Option Accum → List Byte
  | none => zeros 16
  | some a =>
      num 2 a.key.extent.val ++ num 4 a.key.frame ++ num 1 a.key.copy.num ++ num 1 a.mode.code ++
        num 1 (if a.awaiting then 2 else 1) ++ num 1 a.runs.length ++ num 3 a.reserved ++ num 2 a.pendingCount ++
        num 1 a.holding.length

/-- The 16 bytes of a mend queue entry. -/
def queueEntry (k : FrameKey) : List Byte := padTo 16 (num 2 k.extent.val ++ num 4 k.frame ++ num 1 k.copy.num)

/-- Kind and class of a slot in the INFLIGHT window. -/
def SlotKind.codes : SlotKind → Nat × Nat
  | .passthrough .read => (1, 0)
  | .passthrough .write => (2, 0)
  | .injected o => (3, o.cls)

/-- The 16 bytes of a slot. -/
def slotEntry (i : Fin 256) (x : Slot) : List Byte :=
  padTo 16 (num 1 i.val ++ num 1 x.life.code ++ num 1 x.kind.codes.1 ++ num 1 x.kind.codes.2 ++ num 1 x.requester.val ++
    num 1 x.tag ++ num 5 x.addr ++ num 2 x.count)

/-- The slots not FREE, in ascending number. -/
def State.busySlots (s : State) : List (Fin 256) := (allFin 256).filter fun i => decide ((s.slot i).life ≠ .free)

/-- The selection code (section 12.3). -/
def Window.code : Window → Nat
  | .summary => 0
  | .extent _ => 1
  | .accumulators => 2
  | .mendQueue => 3
  | .walks => 4
  | .inflight => 5

/-- The window's contents after its first byte. -/
def State.windowBody (s : State) : Window → List Byte
  | .summary => zeros 3 ++ s.summaryBytes
  | .extent n => zeros 1 ++ num 2 n.val ++ (s.extent n).encode
  | .accumulators => zeros 1 ++ num 2 32 ++ zeros 12 ++ s.pool.toList.flatMap accumEntry
  | .mendQueue => zeros 1 ++ num 2 s.mend.queue.length ++ zeros 12 ++ s.mend.queue.flatMap queueEntry
  | .walks =>
      zeros 15 ++ roleEntries walkRecord s.walk.roles ++ visitedBytes s.walk.roles
  | .inflight =>
      let shown := s.busySlots.take 63
      zeros 1 ++ num 2 shown.length ++ num 2 (s.busySlots.length - shown.length) ++ zeros 10 ++
        shown.flatMap fun i => slotEntry i (s.slot i)

/-- The 1,024 bytes of the window: in FAULT the cause and detail in place of the selection (R190). -/
def State.windowBytes (s : State) : List Byte :=
  match s.ldr.part, s.ldr.fault with
  | .fault, some c => padTo 1024 (num 1 6 ++ num 1 c.code ++ zeros 2 ++ c.detail)
  | _, _ => padTo 1024 (num 1 s.rep.selection.code ++ s.windowBody s.rep.selection)

/-! ### The status block (R172) -/

/-- The mend summary: all zeros but the queue length while no mend is active (R192). -/
def State.mendSummary (s : State) : List Byte :=
  let q := num 2 s.mend.queue.length
  match s.mend.active with
  | none => padTo 16 q
  | some m =>
      if m.begun then
        padTo 16 (q ++ num 1 1 ++ num 1 m.phase.code ++ num 1 m.attempt ++ num 1 m.target.num ++ num 2 m.extent.val ++
          num 4 m.frame)
      else padTo 16 q

/-- The last-batch group. -/
def lastBatchBytes : Option LastBatch → List Byte
  | none => zeros 71
  | some b =>
      num 4 b.label ++ num 1 b.count ++ num 1 (bit b.clamped) ++ num 1 1 ++ zeros 1 ++
        padTo 63 (b.results.flatMap fun r => num 1 r.code)

/-- The event flags, the mask and the remembered counts: bytes 6 to 32. A count that is absent is written 0, its present bit
clear (log 56). -/
def State.eventBytes (s : State) : List Byte :=
  let fs := s.rep.flags.toList
  num 1 (bitsNat (fs.map Flag.isSet)) ++ num 1 (bitsNat s.cfg.alertMask.toList) ++
    (fs.flatMap fun f => num 4 (match f.seen with | none => 0 | some c => c.toNat)) ++
    num 1 (bitsNat (fs.map fun f => f.seen.isSome))

/-- Bytes 0 to 218 of the status block. -/
def State.statusHead (s : State) : List Byte :=
  num 4 s.rep.updateCount.toNat ++ num 1 s.ldr.part.code ++ num 1 (bit s.dir.freeze) ++ s.eventBytes ++
    num 1 (bit s.walk.passDue) ++ zeros 2 ++ num 4 s.cfg.passNumber ++ roleEntries walkEntry s.walk.roles ++
    s.mendSummary ++ ([AccumMode.seal, .check, .scrub, .mend].flatMap fun m => num 1 (s.accumsIn m)) ++
    num 2 (s.countSlots Slot.livePass) ++ num 2 (s.countSlots Slot.liveInjected) ++
    num 2 (s.countSlots fun x => decide (x.life = .stale)) ++ num 2 s.rep.writtenHead ++ num 2 s.rep.tail ++ zeros 2 ++
    num 4 s.rep.withheld ++ num 8 s.rep.clock.toNat ++ lastBatchBytes s.rep.lastBatch

/-- The 4,096 bytes of the status block. -/
def State.statusImage (s : State) : List Byte := padTo 3072 s.statusHead ++ s.windowBytes

end Sys2Proof.Machine
end

