-- ==== Sys2Proof/Machine/Loader.lean ====
section
/-!
DEFINITION. The setup loader (11_start_up_catalogue_and_faults.md): the setup image, the catalogue load, entry to RUNNING
and entry to FAULT.
-/

namespace Sys2Proof.Machine

/-! ### Entry to FAULT (R190) -/

/-- A slot at entry to FAULT (R107): contributions, watches and pins go with the pool and the cache, an injected result is
discarded, a directive batch's return no longer waits. -/
def Slot.atFault (x : Slot) : Slot :=
  { x with contribs := [], watches := [], pins := [], batch := false, dead := x.dead || !x.kind.isPass }

/-- A HELD return is released at entry to FAULT (R107): a read GOOD, a directive batch with the media's status. A read's
slot keeps the media's GOOD. -/
def State.releaseAtFault (s : State) (i : Fin 256) : State :=
  let x := s.slot i
  if x.life = .held then s.endSlot i x.status x.data else s

/-- The head request at entry to FAULT (R90, R107): a waiting write is answered FAULT; a held one is decided in FAULT. -/
def State.headAtFault (s : State) : State :=
  match s.up.head with
  | none => s
  | some h =>
      match h.wait, h.req.kind with
      | .undecided, _ => s.decideHeld
      | _, .write => s.answerHead .fault
      | _, .read => s

/-- The batch in progress is cut off (R161): its results so far go to the status block. -/
def State.batchAtFault (s : State) : State :=
  match s.dir.batch with
  | none => s
  | some b => s.handBatch b

/-- The report writer at entry to FAULT, before FAULT rises: timer stopped, log images discarded (R184); the results of writes
in flight are discarded (R107), so that the status write of the entry waits for none of them (log 55). -/
def Report.atFault (r : Report) : Report :=
  { r with statusDue := false, statusTimer := none, statusShot := none, image := none, imageChanged := false,
           completed := [], logShot := none }

/-- Entry to FAULT clears the FAULT position of the alert mask (R177, R190). -/
def Settings.unmaskFault (s : Settings) : Settings := { s with alertMask := s.alertMask.set 5 false }

/-- The loader's part in the entry to FAULT (R190): the part state and the cause; nothing waits for a grant (R107). -/
def State.faultPart (s : State) (cause : FaultCause) : State :=
  { s with ldr := { s.ldr with part := .fault, fault := some cause, load := .idle, eeprom := none,
                               cats := Vector.replicate 17 ⟨.current, none, false⟩ },
           arb := [] }

/-- The blocks that lose what they hold at entry to FAULT (R60, R81, R125, R155, R184, R190). The recency order of the lines
stays as it stood (log 44). -/
def State.faultBlocks (s : State) : State :=
  { s with pool := Vector.replicate 32 none,
           store := { s.store with lines := Vector.replicate 64 Line.blank, dirtyOrder := [], queue := [] },
           walk := WalkEngine.reset, mend := MendEngine.reset,
           rep := s.rep.atFault, cfg := s.cfg.unmaskFault }

/-- The directive unit is idle, with no flush (R161, R169). -/
def State.faultUnit (s : State) : State := { s with dir := { s.dir with batch := none, mendFrame := none, flush := none } }

/-- The part enters FAULT (R190). The returns leave upstream in this order: HELD slots in ascending number, then the head
write's (log 46). -/
def State.enterFault (s : State) (cause : FaultCause) : State :=
  let released := forEach (allFin 256) (fun i t => t.releaseAtFault i) (s.faultPart cause)
  (((released.headAtFault.mapSlots Slot.atFault).faultBlocks.batchAtFault).faultUnit).raise .fault

/-- An error is found in a table while a command uses it (R190): entry to FAULT from RUNNING; in FAULT the recorded cause
changes and nothing else. -/
def State.tableFault (s : State) (cause : FaultCause) : State :=
  match s.ldr.part with
  | .running => s.enterFault cause
  | .fault => { s with ldr := { s.ldr with fault := some cause } }
  | _ => s

/-- The head request waits with slot `i` (R90). -/
def Head.waitsWith (h : Head) (i : Fin 256) : Bool :=
  match h.wait with
  | .lines j => decide (j = i)
  | .unit j => decide (j = i)
  | .slot _ => false
  | .undecided => false

/-- The head is empty where its request waited with slot `i`, and the request's data and line requests are gone. -/
def State.loseHead (s : State) (i : Fin 256) : State :=
  match s.up.head with
  | none => s
  | some h => if h.waitsWith i then ({ s with up := { s.up with head := none } } : State).dropRequests .write else s

/-- A slot treated as OUTSTANDING with no contributions (R107). One whose timer does not run, or that was STALE, has a fresh
one (log 9). -/
def Slot.inError (x : Slot) (timeout : Nat) : Slot :=
  { x with life := .outstanding,
           timer := some (if x.life = .stale then Timer.start timeout else x.timer.getD (Timer.start timeout)),
           contribs := [], watches := [], held := false, outcomes := [], data := [] }

/-- The slot rule of R107 for a passthrough slot in use that is found in error, in any part state: it is treated as
OUTSTANDING with no contributions, or, where its tag cannot be read back, its request is answered MEDIA_ERROR at once. A FREE
slot has no request, and an injected slot stays as it stands, having no return to send upstream (log 9). -/
def State.slotFault (s : State) (i : Fin 256) (tagReadable : Bool) : State :=
  let x := s.slot i
  if x.kind.isPass = true ∧ x.life ≠ .free then
    if tagReadable then (s.loseHead i).setSlot i (x.inError s.cfg.returnTimeout)
    else (s.loseHead i).endSlot i .mediaError []
  else s

/-- The table error that a command's use finds, if it finds one (log 9). It is found, and acted on, before the command. The
slot rule of R107 applies in every part state; FAULT is entered from RUNNING alone (R190). -/
def State.findError (s : State) : Option TableError → State
  | none => s
  | some .extentMap => s.tableFault .extentMap
  | some .digestCache => s.tableFault .digestCache
  | some .accumulators => s.tableFault .accumulators
  | some (.inFlight i readable) => (s.slotFault i readable).tableFault .inFlight

/-! ### Entry to RUNNING (R188) -/

/-- The restart list of the loaded records (R23). -/
def State.restartList (s : State) : List (Fin 1024) :=
  (allFin 1024).filter fun e => decide ((s.extent e).state = .preparing) || decide ((s.extent e).state = .sealing)

/-- The log side takes head and tail from the header (R184). -/
def Report.fromHeader (r : Report) (c : Settings) : Report :=
  { r with head := c.headerHead, writtenHead := c.headerHead, tail := c.headerTail, image := none, imageChanged := false,
           completed := [], withheld := 0 }

/-- The settings of a header, and the log side, come in force as the part enters RUNNING (R188, R184). -/
def State.loadHeader (s : State) (c : Settings) : State :=
  { s with cfg := c,
           ldr := { s.ldr with part := .running, load := .idle, cats := Vector.replicate 17 ⟨.current, none, false⟩ },
           rep := s.rep.fromHeader c }

/-- The restart list is formed, and with repeat on a pass is due (R23, R123, R188). -/
def State.takeRestart (s : State) (repeatOn : Bool) : State :=
  { s with map := { s.map with restart := s.restartList }, walk := { s.walk with passDue := repeatOn } }

/-- The blocks released by the entry to RUNNING act (R188). -/
def State.releaseBlocks (s : State) (repeatOn : Bool) : State :=
  (((s.decideHeld).takeRestart repeatOn).nextWalk.walkRun).statusDue

/-- The part enters RUNNING with the settings of a header (R188). The head is settled before anything can be logged. The
lookup for a held write, or another use of a table by the blocks released, may find an error (R4, R107; log 9): the part then
goes on into FAULT. -/
def State.enterRunning (s : State) (c : Settings) (err : Option TableError) : State :=
  let t := (s.loadHeader c).settleHead.findError err
  if t.running then t.releaseBlocks c.repeatOn else t

/-! ### The catalogue load (R186, R187) -/

/-- A catalogue read joins the arbiter's queue. -/
def State.queueRead (s : State) (b : Fin 17) : State :=
  s.enqueue (oneBlock (.catalogueRead b) .read (catalogueAddr (s.controlBase.getD 0) b))

/-- A write of a blank catalogue joins the arbiter's queue. -/
def State.queueBlank (s : State) (b : Fin 17) : State :=
  s.enqueue (oneBlock (.blankWrite b) .write (catalogueAddr (s.controlBase.getD 0) b))

/-- Replaces what the loader is doing. -/
def State.setLoad (s : State) (l : Load) : State := { s with ldr := { s.ldr with load := l } }

/-- The index that holds the CONTROL range alone, where C is known (R22). -/
def State.controlIndex (s : State) : List Range :=
  match s.controlBase with
  | none => []
  | some c => [controlRange c]

/-- The extent map emptied to its CONTROL range (R22). -/
def State.emptyMap (s : State) : State :=
  { s with map := { extents := Vector.replicate 1024 Extent.freeForm, index := s.controlIndex, restart := [] } }

/-- The part is in LOADING, with no fault recorded. -/
def State.loading (s : State) : State := { s with ldr := { s.ldr with part := .loading, fault := none } }

/-- LOADING begins: the header read is queued (R186). -/
def State.startLoad (s : State) : State := (s.loading.setLoad (.header 0)).queueRead 0

/-- The load ends in failure (R186, R190): the map is emptied to its CONTROL range and the part enters FAULT. -/
def State.loadFails (s : State) (cause : FaultCause) : State := s.emptyMap.enterFault cause

/-- The 64 records of a record block's bytes. -/
def recordsOf (block : List Byte) : List (List Byte) := (List.range 64).map fun i => (block.drop (64 * i)).take 64

/-- The extent a range of the index belongs to; none is CONTROL. -/
def Range.owner (r : Range) : Option Nat :=
  match r.kind with
  | .copy e _ => some e.val
  | .digest e => some e.val
  | .control => none

/-- Test 5 of R186 on a record's ranges: the range it meets, by owner, where the test fails. A record whose own ranges meet
is its own other extent. -/
def rangeTest (index : List Range) (n : Fin 1024) (rs : List Range) : Option (Option Nat) :=
  if pairwiseDisjoint rs then
    match index.find? fun q => !(rs.all fun r => r.disjoint q) with
    | none => none
    | some q => some q.owner
  else some (some n.val)

/-- Tests the records in ascending extent number and joins those that pass to the index (R22, R186). -/
def loadRecords (capacity : Nat) : List (List Byte) → Nat → List Range → Except FaultCause (List Extent × List Range)
  | [], _, index => .ok ([], index)
  | b :: bs, n, index =>
      match decodeExtent capacity b with
      | .error test => .error (.catalogueRecord n test)
      | .ok e =>
          if e.state = .free then
            match loadRecords capacity bs (n + 1) index with
            | .ok r => .ok (e :: r.1, r.2)
            | .error c => .error c
          else
            let m : Fin 1024 := Fin.ofNat 1024 n
            let rs := e.ranges m
            match rangeTest index m rs with
            | some other => .error (.catalogueOverlap n other)
            | none =>
                match loadRecords capacity bs (n + 1) (joinIndex index rs) with
                | .ok r => .ok (e :: r.1, r.2)
                | .error c => .error c

/-- The extent map as loaded (R22, R186). -/
def State.loadMap (s : State) (es : List Extent) (index : List Range) : State :=
  { s with map := { extents := Vector.ofFn fun i : Fin 1024 => es.getD i.val Extent.freeForm, index := index, restart := [] } }

/-- All 16 record blocks have returned GOOD: the records are tested and loaded (R186). -/
def State.takeRecords (s : State) (c : Settings) (blocks : List (List Byte)) (err : Option TableError) : State :=
  match loadRecords (match s.ldr.setup with | none => 0 | some x => x.capacity) (blocks.flatMap recordsOf) 0 s.controlIndex with
  | .error cause => s.loadFails cause
  | .ok r => (s.loadMap r.1 r.2).enterRunning c err

/-- Every byte is zero: the catalogue is blank (R186). -/
def isBlank (block : List Byte) : Bool := block.all fun b => b == 0

/-- The header block has been read (R186, R187). -/
def State.takeHeader (s : State) (data : List Byte) : State :=
  if isBlank data then (s.setLoad (.blank 1 0)).queueBlank 1
  else
    match decodeHeader data with
    | none => s.loadFails .catalogueHeader
    | some c =>
        forEach ((allFin 17).drop 1) (fun b t => t.queueRead b)
          (s.setLoad (.records c (Vector.replicate 16 none) (Vector.replicate 16 0)))

/-- A record block has been read (R186). -/
def State.takeBlock (s : State) (c : Settings) (got : Vector (Option (List Byte)) 16) (attempts : Vector Nat 16)
    (j : Fin 16) (data : List Byte) (err : Option TableError) : State :=
  let got := got.set j (some data)
  if got.toList.all Option.isSome then s.takeRecords c (got.toList.filterMap id) err
  else s.setLoad (.records c got attempts)

/-- The number among the record blocks of catalogue block `b`. -/
def recordIndex (b : Fin 17) : Fin 16 := ⟨b.val - 1, by omega⟩

/-- A catalogue read has failed (R186): the third failed attempt on a block ends the load. -/
def State.readFailed (s : State) (b : Fin 17) : State :=
  let cause := FaultCause.catalogueRead (catalogueAddr (s.controlBase.getD 0) b)
  match s.ldr.load with
  | .header n => if 2 ≤ n then s.loadFails cause else (s.setLoad (.header (n + 1))).queueRead b
  | .records c got attempts =>
      let n := attempts[recordIndex b]
      if 2 ≤ n then s.loadFails cause
      else (s.setLoad (.records c got (attempts.set (recordIndex b) (n + 1)))).queueRead b
  | _ => s

/-- A catalogue read has ended (R186). -/
def State.readEnded (s : State) (b : Fin 17) (e : MediaEnd) (err : Option TableError) : State :=
  match e with
  | .good data =>
      match s.ldr.load with
      | .header _ => s.takeHeader data
      | .records c got attempts => s.takeBlock c got attempts (recordIndex b) data err
      | _ => s
  | .mediaError => s.readFailed b
  | .timeout => s.readFailed b

/-- The settings of a blank catalogue's header (R187). -/
def State.blankSettings (s : State) : Settings :=
  match s.ldr.setup with
  | none => s.cfg
  | some x => freshHeader x

/-- A write of a blank catalogue has ended (R187): the record blocks in turn, then the header. -/
def State.blankEnded (s : State) (b : Fin 17) (e : MediaEnd) (err : Option TableError) : State :=
  match s.ldr.load with
  | .blank _ attempts =>
      if e.isGood then
        if b.val = 0 then s.enterRunning s.blankSettings err
        else
          let next : Fin 17 := if h : b.val + 1 < 17 then ⟨b.val + 1, h⟩ else 0
          (s.setLoad (.blank next 0)).queueBlank next
      else if 2 ≤ attempts then s.loadFails (.catalogueWrite (catalogueAddr (s.controlBase.getD 0) b))
      else (s.setLoad (.blank b (attempts + 1))).queueBlank b
  | _ => s

/-! ### The EEPROM read (R185) -/

/-- The read in progress is over. -/
def State.eepromOver (s : State) : State := { s with ldr := { s.ldr with eeprom := none } }

/-- An accepted image gives the admission table and the return timeout (R89, R96). -/
def State.takeDefaults (s : State) (x : Setup) : State :=
  { s with cfg := { s.cfg with admission := x.admission, returnTimeout := x.returnTimeout } }

/-- An accepted image gives the control-area base and the shelf capacity (R185). -/
def State.takeSetup (s : State) (x : Setup) : State := { s with ldr := { s.ldr with setup := some x } }

/-- The part is in PASSTHROUGH (R185). -/
def State.passthrough (s : State) : State := { s with ldr := { s.ldr with part := .passthrough } }

/-- The EEPROM read ends, with the image accepted or not (R185, R89, R96). -/
def State.setupRead (s : State) (image : Option Setup) : State :=
  match image, s.ldr.maint with
  | none, true => s.eepromOver.passthrough
  | some x, true => (s.eepromOver.takeDefaults x).passthrough
  | none, false => s.eepromOver.enterFault .setupImage
  | some x, false => (((s.eepromOver.takeDefaults x).takeSetup x).emptyMap).startLoad

/-! ### The owners of injected requests (R94, R98) -/

/-- An injected request has ended: its owner acts; `x` is the slot as it was. Walk and mend chunks whose results are
discarded still lower their engine's count; other discarded results do nothing (R59, R107, R117, R150). `err` is for the
entry to RUNNING. -/
def State.ownerEnded (s : State) (x : Slot) (o : Owner) (e : MediaEnd) (err : Option TableError) : State :=
  match o with
  | .walkChunk _ j => s.walkChunkEnded x j e
  | .mendRead j => s.mendReadEnded x j e
  | .mendWrite j => s.mendWriteEnded x j e
  | .fill l => if x.dead then s else s.fillEnded l e
  | .refill l => if x.dead then s else s.refillEnded l e
  | .writeback l => if x.dead then s else s.writebackEnded l e
  | .status => if x.dead then s else s.statusEnded e.isGood
  | .log => if x.dead then s else s.logEnded e.isGood
  | .catalogueRead b => if x.dead then s else s.readEnded b e err
  | .blankWrite b => if x.dead then s else s.blankEnded b e err
  | .catalogueWrite b => if x.dead then s else s.catalogueEnded b e

end Sys2Proof.Machine
end

