-- ==== Sys2Proof/Machine/Links.lean ====
section
/-!
DEFINITION. Media link loss and return, link reset, and the owners of requests cut off (05_passing_traffic.md, R103 to R107,
and each block's own rule).
-/

namespace Sys2Proof.Machine

/-! ### Requests cut off -/

/-- The owners of the injected requests OUTSTANDING whose results count, in ascending slot number: the order in which they
act (R103; log 50). -/
def State.cutOwners (s : State) : List Owner :=
  s.slots.toList.filterMap fun x =>
    match x.kind with
    | .injected o => if x.life = .outstanding ∧ x.dead = false then some o else none
    | .passthrough _ => none

/-- A writeback was cut off (R58, R60): the line is DIRTY again and is to be written again, as the victim it was. -/
def State.cutWriteback (s : State) (l : Fin 64) : State :=
  let x := s.line l
  if x.state.writes then
    ((s.setLine l { x.writeEnded with cut := true, victim := x.victim }).becomeDirty l).flushCutLine l
  else s

/-- A catalogue write was cut off (R189): the block is CHANGED and is to be issued again. -/
def State.cutCatalogue (s : State) (b : Fin 17) : State := (s.setCat b ⟨.changed, none, true⟩).flushCutBlock b

/-- A status write was cut off (R173): the mark is set again. -/
def State.cutStatus (s : State) : State := { s with rep := { s.rep with statusShot := none, statusDue := true } }

/-- A log write was cut off (R179): the image stays to be written. -/
def State.cutLog (s : State) : State := { s with rep := s.rep.logLost }

/-- What was cut off is queued again (R60, R104, R184, R191): digest lines and then catalogue blocks, each in ascending
number, then the status and the log write (log 42). -/
def State.requeueCut (s : State) : State :=
  let s := forEach (allFin 64) (fun l t =>
    if (t.line l).cut then (t.setLine l { t.line l with cut := false }).queueWriteback l else t) s
  let s := forEach (allFin 17) (fun b t => if (t.cat b).cut then (t.setCat b { t.cat b with cut := false }).queueCat b else t) s
  s.pumpStatus.pumpLog

/-! ### The media link goes down (R103) -/

/-- A digest-line read. -/
def Owner.isLineRead : Owner → Bool
  | .fill _ => true
  | .refill _ => true
  | _ => false

/-- The digest lines being read, in ascending number: FILLING, or CLEAN and refilling (R47, R55). -/
def State.readingLines (s : State) : List (Fin 64) :=
  (allFin 64).filter fun l => decide ((s.line l).state = .filling) || (s.line l).refilling

/-- The read of a digest line fails with the media link, queued or OUTSTANDING alike, with no finding (R53, R60): a fill is
lost, a refill ends as one that fails (R55). -/
def State.lineLinkDown (s : State) (l : Fin 64) : State :=
  if (s.line l).state = .filling then s.fillLost l
  else if (s.line l).refilling then s.refillLost l
  else s

/-- The media link has taken an owner's request (R58, R186, R187). The reads of digest lines are dealt with before, walk and
mend chunks together afterwards. -/
def State.ownerLinkDown (s : State) (o : Owner) : State :=
  match o with
  | .fill _ => s
  | .refill _ => s
  | .writeback l => s.cutWriteback l
  | .status => s.cutStatus
  | .log => s.cutLog
  | .catalogueRead b => s.queueRead b
  | .blankWrite b => s.queueBlank b
  | .catalogueWrite b => s.cutCatalogue b
  | .walkChunk _ _ => s
  | .mendRead _ => s
  | .mendWrite _ => s

/-- A slot leaves the held-return lists it stands in (R78, R103). -/
def State.unhold (s : State) (i : Fin 256) : State :=
  { s with pool := vmap (fun o => o.map fun a => { a with holding := a.holding.filter fun j => decide (j ≠ i) }) s.pool }

/-- One slot as the media link goes down (R103). Injected requests are only freed here; their owners act afterwards. -/
def State.slotLinkDown (s : State) (i : Fin 256) : State :=
  let x := s.slot i
  match x.life, x.kind with
  | .stale, _ => s.setSlot i Slot.freeSlot
  | .outstanding, .passthrough _ => (((s.abandonContributions i).endSlot i .mediaError [])).loseBatchSlot i
  | .held, .passthrough _ => ((s.unhold i).endSlot i .mediaError []).loseBatchSlot i
  | .outstanding, .injected _ => s.setSlot i Slot.freeSlot
  | _, _ => s

/-- A frame copy being reread is cut off, to be begun again at link up (R118). -/
def State.cutWalk (s : State) : State :=
  match s.walk.cur with
  | none => s
  | some w =>
      match w.stage with
      | .reading _ =>
          if w.inFlight then ((s.abandon scrubPos).clearWalk).setWalk (some { w with stage := .cut }) else s
      | _ => s

/-- The media port reports its link down (R103): the head request is answered, a write held undecided too (R88; log 49), then
the slots in ascending number (log 46), then the digest lines being read, then the other owners act (log 50). A digest
line's read that is still queued is withdrawn (log 41). Requests that no slot counts any more make room for the next of a walk
or mend not cut off (R115, R145). -/
def State.mediaLost (s : State) : State :=
  let owners := s.cutOwners
  let lines := s.readingLines
  let s := { s with mediaUp := false }.answerHead .mediaError
  let s := forEach (allFin 256) (fun i t => t.slotLinkDown i) s
  let s := forEach lines (fun l t => t.lineLinkDown l) (s.withdraw Owner.isLineRead)
  let s := forEach owners (fun o t => t.ownerLinkDown o) s
  s.cutWalk.cutMend.feedWalk.feedMend.pokeWalk

/-- The media port reports its link up (R104). -/
def State.mediaBack (s : State) : State :=
  let s : State := ({ s with mediaUp := true } : State).requeueCut
  let s : State :=
    match s.walk.cur with
    | none => s
    | some w => if w.stage = .cut then (s.setWalk (some { w with stage := .ready })).walkRun else s
  s.uncutMend

/-! ### Link reset (R105) -/

/-- A line at a link reset (R60): pins and waiting changes go, and with the line queue the request it was chosen a victim for;
a fill is abandoned, a refill ends with the entries held. -/
def Line.atReset (x : Line) : Line :=
  if x.state = .filling then Line.blank else { x with pins := 0, waiting := [], refilling := false, victim := false }

/-- A WRITING line at a link reset is DIRTY, its writeback queued again at once (R60). -/
def State.lineReset (s : State) (l : Fin 64) : State :=
  let x := s.line l
  match x.state with
  | .filling => { s.setLine l Line.blank with store := (s.setLine l Line.blank).store.sink l }
  | .writing => ((s.setLine l x.atReset).cutWriteback l)
  | .writingRedirtied => ((s.setLine l x.atReset).cutWriteback l)
  | _ => s.setLine l x.atReset

/-- The digest store at a link reset (R60). The FILLING lines take the least recent place in ascending number (R48; log 44). -/
def State.storeReset (s : State) : State :=
  let s := forEach (allFin 64) (fun l t => t.lineReset l) (s.withdraw Owner.isLineRead)
  { s with store := { s.store with queue := [] } }

/-- The current walk waits for a fill of its line, which a link reset is to cut off (R53, R60). -/
def State.walkFills (s : State) : Bool :=
  match s.walk.cur with
  | none => false
  | some w =>
      match w.line with
      | none => false
      | some l => decide ((s.line l).state = .filling) && (decide (w.stage = .waitFill) || decide (w.stage = .auditing))

/-- The walk engine at a link reset, which has taken the walk's pin (R118, R125): the unit is begun again, or a walk that is
stopping stops at once. A walk whose fill the reset cut off (`fillCut`) counts the block's frames as skipped and moves on
(R53; log 47). -/
def State.walkReset (s : State) (fillCut : Bool) : State :=
  match s.walk.cur with
  | none => s
  | some w =>
      let s := s.clearWalk
      if fillCut then
        let w := { w with line := none }
        (if w.stage = .auditing then s.auditAnswer w false [] else s.skipBlock w).walkRun
      else (s.setWalk (some (w.rested w.run))).walkRun

/-- An owner whose request a link reset cut off (R60, R173, R179, R186, R187, R189). Digest lines, walk and mend chunks are
dealt with together. -/
def State.ownerReset (s : State) (o : Owner) : State :=
  match o with
  | .status => s.cutStatus
  | .log => s.cutLog
  | .catalogueRead b => s.queueRead b
  | .blankWrite b => s.queueBlank b
  | .catalogueWrite b => s.cutCatalogue b
  | .fill _ => s
  | .refill _ => s
  | .writeback _ => s
  | .walkChunk _ _ => s
  | .mendRead _ => s
  | .mendWrite _ => s

/-- How many records of a batch have reached the image with `bytes` bytes of the block (R158, R161). -/
def recordsWithin (bytes : Nat) : Nat := bytes / 64 - 1

/-- The block of the batch has reached its image whole: its media return has come (R95, R161). -/
def State.batchWhole (s : State) (b : Batch) : Bool :=
  match b.slot with
  | none => false
  | some i => decide ((s.slot i).life = .held)

/-- The batch once cut off (R161): with the records whose bytes reached the image, and those executed. Its label and record
count are the block's own, also where the header itself has not reached the image (log 19). -/
def State.batchCut (s : State) (b : Batch) (bytes : Nat) : Batch :=
  let got := if s.batchWhole b then b.count else min b.count (recordsWithin bytes)
  { b with cut := true, slot := none, records := max (b.results.length + bit s.dir.mendFrame.isSome) got }

/-- A MEND_FRAME record that waits is answered BUSY, its pin gone with the pin counts (R60, R142). -/
def State.cutFrame (s : State) : State :=
  match s.dir.mendFrame with
  | none => s
  | some q => (s.setAsk { q with line := none }).answerFrame .busy

/-- The batch in progress is cut off (R161): `bytes` of its block have reached the image. One that has ended is over, and one
that was cut off before keeps the records it had received. -/
def State.cutBatch (s : State) (bytes : Nat) : State :=
  match s.dir.batch with
  | none => s
  | some b =>
      if b.ended then s.setBatch none
      else ((if b.cut then s else s.setBatch (some (s.batchCut b bytes))).cutFrame).tryEndBatch

/-- Every slot is FREE and no accumulator is left (R81, R105). -/
def State.clearTraffic (s : State) : State :=
  { s with slots := Vector.replicate 256 Slot.freeSlot, pool := Vector.replicate 32 none }

/-- A link reset while the part is not in FAULT (R60, R81, R105, R118, R155, R161, R184, R191). -/
def State.resetRunning (s : State) (bytes : Nat) : State :=
  let t := (((s.setHead none).cutBatch bytes).clearTraffic).storeReset
  (((forEach s.cutOwners (fun o t => t.ownerReset o) t).requeueCut).walkReset s.walkFills).resetMend

/-- The port, the slots, the arbiter and the report writer at a link reset in FAULT (R105, R184, R191). -/
def State.clearFault (s : State) : State :=
  { s with up := { s.up with head := none }, slots := Vector.replicate 256 Slot.freeSlot, arb := [],
           rep := { s.rep with statusDue := false, statusShot := none, withheld := 0 } }

/-- SETUP is entered again and the EEPROM read again (R191). -/
def State.setupAgain (s : State) : State :=
  { s with ldr := { s.ldr with part := .setup, fault := none, eeprom := some (Timer.start Config.eepromMs) } }

/-- A link reset in FAULT (R191): to LOADING where a setup image is accepted, otherwise to SETUP with the EEPROM read
again. The status write of the entry to FAULT is discarded (R184). -/
def State.resetFault (s : State) : State :=
  let t := s.clearFault.emptyMap
  if s.ldr.setup.isSome then t.startLoad else t.setupAgain

/-- A link reset (R105): it is passed on at the media port, and every block acts. -/
def State.resetLink (s : State) (bytes : Nat) : State :=
  let s := s.sendMedia .linkReset
  if s.ldr.part = .fault then s.resetFault else s.resetRunning bytes

end Sys2Proof.Machine
end

