-- ==== Sys2Proof/Machine/Grant.lean ====
section
/-!
DEFINITION. The injection arbiter's grants (05_passing_traffic.md, R99 to R101; what each owner does as its request is
granted), the line queue's grants (R49) and retirement's effect on the cache (R59).
-/

namespace Sys2Proof.Machine

/-! ### Eligibility (R92, R100, R101) -/

/-- READ or WRITE, by what a request is for. -/
def Owner.kind : Owner → ReqKind
  | .fill _ => .read
  | .refill _ => .read
  | .writeback _ => .write
  | .status => .write
  | .log => .write
  | .catalogueRead _ => .read
  | .blankWrite _ => .write
  | .catalogueWrite _ => .write
  | .walkChunk _ _ => .read
  | .mendRead _ => .read
  | .mendWrite _ => .write

/-- The arbiter may grant the request in the part's state (R101). -/
def State.grantsIn (s : State) (r : InjRequest) : Bool :=
  s.mediaUp &&
    match s.ldr.part with
    | .setup => false
    | .passthrough => false
    | .loading => true
    | .running => true
    | .fault => decide (r.owner = .status)

/-- The request is eligible (R100). -/
def State.eligible (s : State) (r : InjRequest) : Bool :=
  let paced := fun p => decide (s.countSlots Slot.livePass ≤ s.cfg.paceThreshold) && decide (s.outstanding p < s.cfg.paceDepth)
  s.grantsIn r &&
    (if r.owner.isMend then paced Owner.isMend
     else if r.owner.isWalk then paced Owner.isWalk
     else true)

/-- The oldest eligible request of the lowest-numbered class among the eligible ones (R100). -/
def State.nextGrant (s : State) : Option InjRequest :=
  [1, 2, 3, 4, 5].findSome? fun c => s.arb.find? fun r => r.owner.cls == c && s.eligible r

/-- The slot the arbiter may grant (R91, R92). -/
def State.injSlot? (s : State) : Option (Fin 256) :=
  if s.countSlots Slot.countsInjected < min Config.injectedBudget (256 - s.countSlots Slot.countsPass) then s.freeSlot?
  else none

/-! ### What owners do at a grant -/

/-- The report writer at the grant of its status write (R173): the mark clears, the count rises, the image is taken. A batch
that has ended waits for this write unless an earlier one reported it (R160). -/
def State.grantStatus (s : State) : State × List Byte :=
  let count := s.rep.updateCount + 1
  let shot : StatusShot := ⟨count, Vector.ofFn fun i : Fin 6 => (s.rep.flags[i]).isSet,
    match s.dir.batch with | none => false | some b => b.ended && !b.reported⟩
  let s := { s with rep := { s.rep with statusDue := false, updateCount := count, selectedSince := false,
                                        statusShot := some shot } }
  (s, s.statusImage)

/-- The report writer at the grant of its log write (R179): the oldest completed image, or the head image as it stands. -/
def State.grantLog (s : State) : State × List Byte :=
  match s.rep.completed with
  | (_, fs) :: _ => ({ s with rep := { s.rep with logShot := some .completed } }, logBlock fs)
  | [] =>
      ({ s with rep := { s.rep with logShot := some (.headImage s.rep.head), imageChanged := false } },
        logBlock (s.rep.image.getD []))

/-- The bytes of a digest line's block (R38, R57): the entries that belong to frames, each with its check, then zeros. -/
def State.lineImage (s : State) (l : Fin 64) : List Byte :=
  let x := s.line l
  padBlock ((x.entries.take ((s.extent x.extent).slotsOf x.tag)).flatMap Entry.encode)

/-- A DIRTY line is WRITING from the grant of its writeback on (R57). -/
def State.beginWrite (s : State) (l : Fin 64) : State :=
  if (s.line l).state = .dirty then
    (s.setLine l { s.line l with state := .writing, dirtyTimer := none, cut := false }).leaveDirty l
  else s

/-- The digest store at the grant of a writeback (R57), with the PREPARE walk whose unit it is (R130). -/
def State.grantWriteback (s : State) (l : Fin 64) : State × List Byte :=
  let t := s.beginWrite l
  match t.walkWaitsOn l .preparing with
  | none => (t, s.lineImage l)
  | some w => (t.setWalk (some { w with inFlight := true }), s.lineImage l)

/-- The image of a catalogue block (R189). -/
def State.catalogueImage (s : State) (b : Fin 17) : List Byte :=
  if b.val = 0 then s.cfg.encode
  else recordBlock ((s.map.extents.toList.drop (64 * (b.val - 1))).take 64)

/-- The image of a block of a blank catalogue (R187). -/
def State.blankImage (s : State) (b : Fin 17) : List Byte :=
  if b.val = 0 then s.blankSettings.encode else recordBlock (List.replicate 64 Extent.freeForm)

/-- The walk's current unit is in flight (R110), its frame's plan begun. -/
def Walk.granted (w : Walk) : Walk :=
  { w with inFlight := true, plan := w.plan.map fun p => { p with begun := true } }

/-- An engine names a frame copy to its dedicated position (R67): an accumulator of another key is abandoned first. -/
def State.nameCopy (s : State) (p : Fin 32) (mode : AccumMode) (k : FrameKey) (line : Option (Fin 64)) : State :=
  let opened := fun t : State =>
    match line with
    | none => t.openAccum p mode k none
    | some l => (t.pin l).openAccum p mode k (some l)
  match s.accum p with
  | none => opened s
  | some a => if a.key = k then s else opened (s.abandon p)

/-- The walk engine at the grant of a chunk (R67, R115). -/
def State.grantWalk (s : State) (i : Fin 256) (k : FrameKey) (j count : Nat) : State :=
  match s.walk.cur with
  | none => s
  | some w =>
      ((s.setWalk (some w.granted)).nameCopy scrubPos .scrub k w.line).joinRead scrubPos i
        ⟨k, 256 * j, 256 * j + count - 1, 0⟩

/-- The mend engine at the grant of a read (R67, R146): in a verify phase the chunk reserves its run. -/
def State.grantMendRead (s : State) (i : Fin 256) (j count : Nat) : State :=
  match s.mend.active with
  | none => s
  | some m =>
      if m.phase = .copy then s
      else
        let k : FrameKey := ⟨m.extent, m.frame, m.readCopy⟩
        (s.nameCopy mendPos .mend k m.line).joinRead mendPos i ⟨k, 256 * j, 256 * j + count - 1, 0⟩

/-- The mend engine at the grant of a write (R148): the buffer's contents are its data, and the buffer is free again. -/
def State.grantMendWrite (s : State) : State × List Byte :=
  match s.mend.active with
  | none => (s, [])
  | some m =>
      ((s.setMend (some { m with buffer := none })).feedMend,
        match m.buffer with
        | none => []
        | some b => b.2)

/-- The owner's part in a grant, and the data of a write (R100). -/
def State.grantOwner (s : State) (i : Fin 256) (r : InjRequest) : State × List Byte :=
  match r.owner with
  | .fill _ => (s, [])
  | .refill _ => (s, [])
  | .catalogueRead _ => (s, [])
  | .status => s.grantStatus
  | .log => s.grantLog
  | .writeback l => s.grantWriteback l
  | .blankWrite b => (s, s.blankImage b)
  | .catalogueWrite b => (s.setCat b ⟨.writing, none, false⟩, s.catalogueImage b)
  | .walkChunk k j => (s.grantWalk i k j r.count, [])
  | .mendRead j => (s.grantMendRead i j r.count, [])
  | .mendWrite _ => s.grantMendWrite

/-- A slot as an injected request takes it (R100). -/
def Slot.injected (r : InjRequest) (timeout : Nat) : Slot :=
  { Slot.freeSlot with
    life := .outstanding, kind := .injected r.owner, addr := r.addr, count := r.count,
    timer := some (Timer.start timeout) }

/-- The arbiter grants a slot to a request (R100). An injected request carries requester 0 (R82). -/
def State.grant (s : State) (i : Fin 256) (r : InjRequest) : State :=
  let s := { s with arb := s.arb.erase r }.setSlot i (Slot.injected r s.cfg.returnTimeout)
  let g := s.grantOwner i r
  g.1.sendMedia (.request r.owner.kind 0 i r.addr r.count g.2)

/-! ### The line queue (R49) -/

/-- A requester of the line queue has its line, pinned for it. -/
def State.lineGranted (s : State) (user : LineUser) (l : Fin 64) : State :=
  match user with
  | .write =>
      match s.up.head with
      | some ⟨_, _, .lines i⟩ => s.addPin i l
      | _ => s.unpin l
  | .walk =>
      match s.walk.cur with
      | some w => (s.setWalk (some { w with line := some l, stage := .ready })).walkRun
      | none => s.unpin l
  | .mend =>
      match s.mend.active with
      | some m => s.mendGotLine m l
      | none => s.unpin l
  | .mendFrame =>
      match s.dir.mendFrame with
      | some q => s.frameGotLine q l
      | none => s.unpin l

/-- A free line goes to the oldest request of the queue, or none where there is none (R49). A request whose block is in
another line by now takes its pin there. Of several free lines it takes the least recent, as a miss does (log 58). -/
def State.grantLine (s : State) : Option State :=
  match s.store.queue, s.victim? with
  | r :: rest, some v =>
      let s : State := { s with store := { s.store with queue := rest } }
      match s.findLine r.tag with
      | some l => some ((s.pin l).lineGranted r.user l)
      | none => some ((s.takeLine v r.tag r.extent r.fresh).lineGranted r.user v)
  | _, _ => none

/-- Free lines go to the waiting requests, at most `fuel` of them (R59). -/
def State.grantLines : Nat → State → State
  | 0, s => s
  | fuel + 1, s =>
      match s.grantLine with
      | none => s
      | some t => State.grantLines fuel t

/-! ### Retirement and the cache (R16, R59) -/

/-- A request of digest line `l`. -/
def Owner.isOfLine (l : Fin 64) : Owner → Bool
  | .fill k => decide (k = l)
  | .refill k => decide (k = l)
  | .writeback k => decide (k = l)
  | _ => false

/-- The holders of pins on line `l` are told that the line is gone (R51). -/
def State.losePins (s : State) (l : Fin 64) : State :=
  let gone := fun o : Option (Fin 64) => if o = some l then none else o
  let s := s.mapSlots fun x => { x with pins := x.pins.filter fun k => decide (k ≠ l) }
  { s with pool := vmap (fun o => o.map fun a => { a with line := gone a.line }) s.pool,
           walk := { s.walk with cur := s.walk.cur.map fun w => { w with line := gone w.line } },
           mend := { s.mend with active := s.mend.active.map fun m => { m with line := gone m.line } },
           dir := { s.dir with mendFrame := s.dir.mendFrame.map fun q => { q with line := gone q.line } } }

/-- A line is dropped (R59). -/
def State.dropLine (s : State) (l : Fin 64) : State :=
  let ws := (s.line l).waiting
  let s := ((s.withdraw (Owner.isOfLine l)).killOutstanding (Owner.isOfLine l)).losePins l
  let s := (s.setLine l Line.blank).leaveDirty l
  let s := { s with store := s.store.sink l }
  (s.flushDrop l).failWaiting l ws

/-- Every line of an extent is dropped, and its requests leave the line queue (R59). The lines take the least recent place in
ascending number (R48; log 44). -/
def State.dropExtent (s : State) (e : Fin 1024) : State :=
  let s := forEach (allFin 64) (fun l t =>
    if (t.line l).state ≠ .invalid ∧ (t.line l).extent = e then t.dropLine l else t) s
  { s with store := { s.store with queue := s.store.queue.filter fun r => decide (r.extent ≠ e) } }

end Sys2Proof.Machine
end

