-- ==== Sys2Proof/Machine/Start.lean ====
section
/-!
DEFINITION. Meanings: reset, the EEPROM read, link reset, and the two links going down and up. A command whose conditions
do not hold has no effect (log 15).
-/

namespace Sys2Proof.Machine

/-- The outcome of a command that may have changed what is active: the status timer follows (R173). -/
def State.done (s : State) : Host.Outcome State Fault Refusal := .next s.syncStatusTimer

/-- The part right after hardware reset with a MAINT sample (R185). What waits at the part and what has left it stay. -/
def State.hardReset (s : State) (maint : Bool) : State :=
  { State.reset with pending := s.pending, ports := s.ports, ldr := { Loader.reset with maint := maint } }

/-- HARDWARE_RESET (R185). -/
def execHardwareReset (maint : Bool) (s : State) : Host.Outcome State Fault Refusal := .next (s.hardReset maint)

/-- EEPROM_READ_END (R185): the read in progress ends with these bytes, or absent. -/
def execEepromReadEnd (image : Option (List Byte)) (s : State) : Host.Outcome State Fault Refusal :=
  if s.ldr.part = .setup ∧ s.ldr.eeprom.isSome = true then (s.setupRead (image.bind decodeSetup)).done else .next s

/-- EEPROM_READ_TIMEOUT (R185): the read has not ended 100 ms after it began. -/
def execEepromReadTimeout (s : State) : Host.Outcome State Fault Refusal :=
  if s.ldr.part = .setup ∧ timerDue s.ldr.eeprom = true then (s.setupRead none).done else .next s

/-- LINK_RESET (R105). A table error that it finds is acted on once the reset has been taken (log 9). -/
def execLinkReset (batchBytes : Nat) (s : State) (err : Option TableError := none) : Host.Outcome State Fault Refusal :=
  ((s.resetLink batchBytes).findError err).done

/-- UPSTREAM_LINK_DOWN (R106): the part acts as on a link reset, and takes no header until the link is up. -/
def execUpstreamLinkDown (batchBytes : Nat) (s : State) (err : Option TableError := none) : Host.Outcome State Fault Refusal :=
  (({ s with up := { s.up with linkUp := false } }.resetLink batchBytes).findError err).done

/-- UPSTREAM_LINK_UP (R106). -/
def execUpstreamLinkUp (s : State) : Host.Outcome State Fault Refusal := .next { s with up := { s.up with linkUp := true } }

/-- MEDIA_LINK_DOWN (R103). -/
def execMediaLinkDown (s : State) (err : Option TableError := none) : Host.Outcome State Fault Refusal :=
  (s.findError err).mediaLost.done

/-- MEDIA_LINK_UP (R104). -/
def execMediaLinkUp (s : State) (err : Option TableError := none) : Host.Outcome State Fault Refusal :=
  (s.findError err).mediaBack.done

end Sys2Proof.Machine
end

