-- ==== Sys2Proof/Machine/Traffic.lean ====
section
/-!
DEFINITION. Meanings: controller requests and their waits, passthrough returns, unexpected returns, and the return timers
(05_passing_traffic.md). `err` is a table error that the command's use finds (log 9).
-/

namespace Sys2Proof.Machine

/-- The port may take a header: the link is up, nothing is at the head, the part is not in SETUP (R85, R106). -/
def State.takesHeader (s : State) : Bool := s.up.linkUp && s.up.head.isNone && decide (s.ldr.part ≠ .setup)

/-- The head request is taken and decided (R86). -/
def State.request (s : State) (r : Request) : State := if s.takesHeader then s.carryOut r (s.decideRequest r) else s

/-- CONTROLLER_REQUEST (R86). -/
def execControllerRequest (req : Request) (err : Option TableError) (s : State) : Host.Outcome State Fault Refusal :=
  ((s.findError err).request req).done

/-- The head request waiting for a slot takes one (R90, R91). -/
def State.slotTaken (s : State) : State :=
  match s.up.head with
  | some ⟨r, exact, .slot checked⟩ => s.takeSlot r exact checked
  | _ => s

/-- PASSTHROUGH_SLOT_TAKEN (R90). -/
def execPassthroughSlotTaken (err : Option TableError) (s : State) : Host.Outcome State Fault Refusal :=
  ((s.findError err).slotTaken).done

/-- Every line the head write needs is pinned for it and holds its entries (R126). -/
def State.linesReady (s : State) (i : Fin 256) : Bool :=
  s.store.queue.all (fun q => decide (q.user ≠ .write)) && (s.slot i).pins.all fun l => (s.line l).state.holds

/-- The head write whose lines are all present is judged again and decided (R19, R127). -/
def State.writeReady (s : State) : State :=
  match s.up.head with
  | some ⟨r, _, .lines i⟩ => if s.linesReady i then s.writeJudged i r else s
  | _ => s

/-- WRITE_LINES_READY (R127). -/
def execWriteLinesReady (err : Option TableError) (s : State) : Host.Outcome State Fault Refusal :=
  ((s.findError err).writeReady).done

/-- The batch that a directive block begins (R157). -/
def Batch.start (image : List Byte) (slot : Fin 256) : Batch where
  image := image
  count := min 63 (batchCount image)
  clamped := decide (63 < batchCount image)
  label := batchLabel image
  results := []
  records := min 63 (batchCount image)
  slot := some slot
  cut := false
  ended := false
  reported := false

/-- The exact directive-block write is sent, and the directive unit becomes busy with it (R95, R156). -/
def State.directiveProceeds (s : State) : State :=
  match s.up.head with
  | some ⟨r, _, .unit i⟩ =>
      if s.dir.batch.isNone then
        let s := (s.setSlot i { s.slot i with batch := true }).setHead none
        ((s.sendSlot i r).setBatch (some (Batch.start r.data i))).tryEndBatch
      else s
  | _ => s

/-- DIRECTIVE_WRITE_PROCEEDS (R156). -/
def execDirectiveWriteProceeds (err : Option TableError) (s : State) : Host.Outcome State Fault Refusal :=
  ((s.findError err).directiveProceeds).done

/-- The slot awaits a media return of a passthrough request. -/
def State.awaitsPass (s : State) (i : Fin 256) : Bool := (s.slot i).kind.isPass && decide ((s.slot i).life = .outstanding)

/-- A media return matches an OUTSTANDING passthrough slot (R94). A return while the media link is reported down is
dropped (R103). -/
def State.passReturn (s : State) (tag : Fin 256) (status : MediaStatus) (data : List Byte) : State :=
  match (s.slot tag).kind with
  | .passthrough k =>
      if s.mediaUp ∧ s.awaitsPass tag then s.passReturned tag (normalise k (s.slot tag).count status data) else s
  | .injected _ => s

/-- PASSTHROUGH_MEDIA_RETURN (R94). -/
def execPassthroughMediaReturn (tag : Fin 256) (status : MediaStatus) (data : List Byte) (err : Option TableError)
    (s : State) : Host.Outcome State Fault Refusal :=
  ((s.findError err).passReturn tag status data).done

/-- A media return whose slot is not OUTSTANDING (R97). -/
def State.strayReturn (s : State) (tag : Fin 256) (status : MediaStatus) : State :=
  if s.mediaUp ∧ (s.slot tag).life ≠ .outstanding then s.unexpected tag status else s

/-- UNEXPECTED_RETURN (R97). -/
def execUnexpectedReturn (tag : Fin 256) (status : MediaStatus) (err : Option TableError) (s : State) :
    Host.Outcome State Fault Refusal :=
  ((s.findError err).strayReturn tag status).done

/-- The return timer of a passthrough slot expires (R96). -/
def State.passTimeout (s : State) (i : Fin 256) : State :=
  if s.awaitsPass i ∧ timerDue (s.slot i).timer then s.passTimedOut i else s

/-- PASSTHROUGH_RETURN_TIMEOUT (R96). -/
def execPassthroughReturnTimeout (slot : Fin 256) (err : Option TableError) (s : State) : Host.Outcome State Fault Refusal :=
  ((s.findError err).passTimeout slot).done

/-- The timer of a STALE slot expires: the slot becomes FREE (R97). -/
def State.staleTimeout (s : State) (i : Fin 256) : State :=
  if (s.slot i).life = .stale ∧ timerDue (s.slot i).timer = true then s.setSlot i Slot.freeSlot else s

/-- STALE_TIMEOUT (R97). -/
def execStaleTimeout (slot : Fin 256) (err : Option TableError) (s : State) : Host.Outcome State Fault Refusal :=
  ((s.findError err).staleTimeout slot).done

/-- The return timer of an injected slot expires: the slot becomes STALE and its owner is told (R98). -/
def State.injectedTimeout (s : State) (i : Fin 256) (err : Option TableError) : State :=
  let x := s.slot i
  match x.kind with
  | .passthrough _ => s
  | .injected o =>
      if x.life = .outstanding ∧ timerDue x.timer = true then (s.setSlot i x.stale).ownerEnded x o .timeout err else s

/-- INJECTED_RETURN_TIMEOUT (R98). -/
def execInjectedReturnTimeout (slot : Fin 256) (err : Option TableError) (s : State) : Host.Outcome State Fault Refusal :=
  ((s.findError err).injectedTimeout slot err).done

end Sys2Proof.Machine
end

