-- ==== Sys2Proof/Machine/Injection.lean ====
section
/-!
DEFINITION. Meanings: the injection grant and the media returns of injected requests (R94, R100 and the owner's rule).
-/

namespace Sys2Proof.Machine

/-- The arbiter grants the next eligible request a slot, where one may be had (R100). -/
def State.grantNext (s : State) : State :=
  match s.nextGrant, s.injSlot? with
  | some r, some i => s.grant i r
  | _, _ => s

/-- INJECTION_GRANT (R100). -/
def execInjectionGrant (err : Option TableError) (s : State) : Host.Outcome State Fault Refusal :=
  ((s.findError err).grantNext).done

/-- A media return matches an OUTSTANDING injected slot whose owner passes the test (R94): the slot becomes FREE and the
owner has the result. `err` is for the entry to RUNNING, where a table is used anew (R188). -/
def State.injReturn (s : State) (tag : Fin 256) (test : Owner → Bool) (status : MediaStatus) (data : List Byte)
    (err : Option TableError) : State :=
  let x := s.slot tag
  match x.kind with
  | .passthrough _ => s
  | .injected o =>
      if s.mediaUp ∧ x.life = .outstanding ∧ test o then
        (s.setSlot tag Slot.freeSlot).ownerEnded x o (normalise o.kind x.count status data) err
      else s

/-- A digest-line fill. -/
def Owner.isFill : Owner → Bool
  | .fill _ => true
  | _ => false

/-- A digest-line refill. -/
def Owner.isRefill : Owner → Bool
  | .refill _ => true
  | _ => false

/-- A digest writeback. -/
def Owner.isWriteback : Owner → Bool
  | .writeback _ => true
  | _ => false

/-- The status write. -/
def Owner.isStatus : Owner → Bool
  | .status => true
  | _ => false

/-- A finding-log write. -/
def Owner.isLog : Owner → Bool
  | .log => true
  | _ => false

/-- A catalogue read. -/
def Owner.isCatalogueRead : Owner → Bool
  | .catalogueRead _ => true
  | _ => false

/-- A write of a blank catalogue. -/
def Owner.isBlankWrite : Owner → Bool
  | .blankWrite _ => true
  | _ => false

/-- A catalogue write. -/
def Owner.isCatalogueWrite : Owner → Bool
  | .catalogueWrite _ => true
  | _ => false

/-- DIGEST_FILL_RETURN (R52, R53). -/
def execDigestFillReturn (tag : Fin 256) (status : MediaStatus) (data : List Byte) (err : Option TableError) (s : State) :
    Host.Outcome State Fault Refusal :=
  ((s.findError err).injReturn tag Owner.isFill status data err).done

/-- DIGEST_REFILL_RETURN (R55). -/
def execDigestRefillReturn (tag : Fin 256) (status : MediaStatus) (data : List Byte) (err : Option TableError) (s : State) :
    Host.Outcome State Fault Refusal :=
  ((s.findError err).injReturn tag Owner.isRefill status data err).done

/-- DIGEST_WRITEBACK_RETURN (R57, R58). -/
def execDigestWritebackReturn (tag : Fin 256) (status : MediaStatus) (err : Option TableError) (s : State) :
    Host.Outcome State Fault Refusal :=
  ((s.findError err).injReturn tag Owner.isWriteback status [] err).done

/-- WALK_CHUNK_RETURN (R115 to R117, R134, R135). -/
def execWalkChunkReturn (tag : Fin 256) (status : MediaStatus) (data : List Byte) (err : Option TableError) (s : State) :
    Host.Outcome State Fault Refusal :=
  ((s.findError err).injReturn tag Owner.isWalk status data err).done

/-- MEND_READ_RETURN (R146 to R150). -/
def execMendReadReturn (tag : Fin 256) (status : MediaStatus) (data : List Byte) (err : Option TableError) (s : State) :
    Host.Outcome State Fault Refusal :=
  ((s.findError err).injReturn tag Owner.isMendRead status data err).done

/-- MEND_WRITE_RETURN (R148, R150). -/
def execMendWriteReturn (tag : Fin 256) (status : MediaStatus) (err : Option TableError) (s : State) :
    Host.Outcome State Fault Refusal :=
  ((s.findError err).injReturn tag Owner.isMendWrite status [] err).done

/-- STATUS_WRITE_RETURN (R173 to R175, R160). -/
def execStatusWriteReturn (tag : Fin 256) (status : MediaStatus) (err : Option TableError) (s : State) :
    Host.Outcome State Fault Refusal :=
  ((s.findError err).injReturn tag Owner.isStatus status [] err).done

/-- LOG_WRITE_RETURN (R179, R180). -/
def execLogWriteReturn (tag : Fin 256) (status : MediaStatus) (err : Option TableError) (s : State) :
    Host.Outcome State Fault Refusal :=
  ((s.findError err).injReturn tag Owner.isLog status [] err).done

/-- CATALOGUE_READ_RETURN (R186). -/
def execCatalogueReadReturn (tag : Fin 256) (status : MediaStatus) (data : List Byte) (s : State) (err : Option TableError := none) :
    Host.Outcome State Fault Refusal :=
  ((s.findError err).injReturn tag Owner.isCatalogueRead status data err).done

/-- BLANK_CATALOGUE_WRITE_RETURN (R187). -/
def execBlankCatalogueWriteReturn (tag : Fin 256) (status : MediaStatus) (s : State) (err : Option TableError := none) :
    Host.Outcome State Fault Refusal :=
  ((s.findError err).injReturn tag Owner.isBlankWrite status [] err).done

/-- CATALOGUE_WRITE_RETURN (R189). -/
def execCatalogueWriteReturn (tag : Fin 256) (status : MediaStatus) (err : Option TableError) (s : State) :
    Host.Outcome State Fault Refusal :=
  ((s.findError err).injReturn tag Owner.isCatalogueWrite status [] err).done

end Sys2Proof.Machine
end

