-- ==== Sys2Proof/Machine/Timers.lean ====
section
/-!
DEFINITION. Meanings: the timers of the blocks, the line queue's grant, the start of a mend, and the millisecond tick.
-/

namespace Sys2Proof.Machine

/-- CATALOGUE_RETRY_EXPIRY (R189): 5,000 ms after its failed write a block is queued again. -/
def execCatalogueRetryExpiry (block : Fin 17) (s : State) : Host.Outcome State Fault Refusal :=
  if timerDue (s.cat block).retry then .next ((s.setCat block { s.cat block with retry := none }).queueCat block) else .next s

/-- The idle timer of the accumulator at a position is due. -/
def State.idleDue (s : State) (p : Fin 32) : Bool :=
  match s.accum p with
  | none => false
  | some a => timerDue a.idle

/-- IDLE_TIMER_EXPIRY (R79): the accumulator is abandoned, with no finding. -/
def execIdleTimerExpiry (pos : Fin 32) (s : State) (err : Option TableError := none) : Host.Outcome State Fault Refusal :=
  let t := s.findError err
  if t.idleDue pos then .next (t.abandon pos) else .next t

/-- DIRTY_TIMER_EXPIRY (R56): the line's writeback is queued. -/
def execDirtyTimerExpiry (line : Fin 64) (s : State) (err : Option TableError := none) : Host.Outcome State Fault Refusal :=
  let t := s.findError err
  if timerDue (t.line line).dirtyTimer then
    .next ((t.setLine line { t.line line with dirtyTimer := none }).queueWriteback line)
  else .next t

/-- STATUS_TIMER_EXPIRY (R173): the timer restarts and the status-due mark is set. -/
def execStatusTimerExpiry (s : State) : Host.Outcome State Fault Refusal :=
  if timerDue s.rep.statusTimer then
    .next { s with rep := { s.rep with statusTimer := some (Timer.start Config.statusMs) } }.statusDue
  else .next s

/-- The rest timer expires (R123): a pass is due, and starts at once where the engine has no current walk. -/
def State.restExpires (s : State) : State :=
  let s := { s with walk := { s.walk with restTimer := none, passDue := true } }
  if s.walk.cur.isNone then s.nextWalk.walkRun else s

/-- REST_TIMER_EXPIRY (R123). -/
def execRestTimerExpiry (s : State) (err : Option TableError := none) : Host.Outcome State Fault Refusal :=
  let t := s.findError err
  if timerDue t.walk.restTimer then t.restExpires.done else .next t

/-- LINE_QUEUE_GRANT (R49). -/
def execLineQueueGrant (err : Option TableError) (s : State) : Host.Outcome State Fault Refusal :=
  let t := s.findError err
  (t.grantLine.getD t).done

/-- A mend may start (R144): none is active, the media link is up, the part is RUNNING (R140). -/
def State.mendReady (s : State) : Bool := s.mend.active.isNone && s.mediaUp && s.running

/-- MEND_START (R144). -/
def execMendStart (err : Option TableError) (s : State) : Host.Outcome State Fault Refusal :=
  let t := s.findError err
  if t.mendReady then (State.takeMend t.mend.queue.length t).done else t.done

/-! ### The millisecond (R183, log 4) -/

/-- A timer, if it runs, is a millisecond older. -/
def tick? (t : Option Timer) : Option Timer := t.map Timer.tick

/-- Every running timer of the part is a millisecond older. -/
def State.tickTimers (s : State) : State :=
  { s with
    slots := vmap (fun x => { x with timer := tick? x.timer }) s.slots
    pool := vmap (fun o => o.map fun a => { a with idle := tick? a.idle }) s.pool
    store := { s.store with lines := vmap (fun x => { x with dirtyTimer := tick? x.dirtyTimer }) s.store.lines }
    walk := { s.walk with restTimer := tick? s.walk.restTimer }
    rep := { s.rep with statusTimer := tick? s.rep.statusTimer }
    ldr := { s.ldr with eeprom := tick? s.ldr.eeprom,
                        cats := vmap (fun b => { b with retry := tick? b.retry }) s.ldr.cats } }

/-- PART_CLOCK_TICK (R183): the part clock rises by 1, and every running timer is a millisecond older. -/
def execPartClockTick (s : State) : Host.Outcome State Fault Refusal :=
  .next { s.tickTimers with rep := { s.tickTimers.rep with clock := s.rep.clock + 1 } }

end Sys2Proof.Machine
end

