-- ==== Sys2Proof/Machine/DirectiveOps.lean ====
section
/-!
DEFINITION. What each directive does when its record executes, and its result (09_directives.md and the rules it names).
-/

namespace Sys2Proof.Machine

/-- A record's effect and its result (R158, R159). -/
abbrev Effect := State → State × Result

/-- The record next in turn for execution (R158), if the unit is at work and waits for nothing. -/
def State.nextRecord (s : State) : Option Instr :=
  match s.dir.batch with
  | none => none
  | some b =>
      if b.ended = false ∧ s.dir.mendFrame.isNone = true ∧ b.results.length < b.records then
        some (decodeRecord (recordBytes b.image (b.results.length + 1)))
      else none

/-- The record `i` may be executed now: the part is RUNNING and it is the next in turn (R158). -/
def State.executes (s : State) (i : Instr) : Prop := s.running = true ∧ s.nextRecord = some i

/-- A directive command: the record next in turn is executed and has its result; any other record has no effect (log 16). -/
def State.directive (s : State) (i : Instr) (effect : Effect) : Host.Outcome State Fault Refusal :=
  if s.running = true ∧ s.nextRecord = some i then ((effect s).1.addResult (effect s).2).done else .next s

/-- An extent number 0 to 1023 (R159). -/
def extentNumber (n : Nat) : Option (Fin 1024) := if h : n < 1024 then some ⟨n, h⟩ else none

/-! ### Extent directives (R10 to R16, R162, R163) -/

/-- An extent changes state. -/
def State.setExtentState (s : State) (n : Fin 1024) (st : ExtentState) : State :=
  s.changeExtent n { s.extent n with state := st }

/-- DEFINE_EXTENT past its checks (R11): the record and its ranges, then the PREPARE walk. -/
def State.defineNow (s : State) (n : Fin 1024) (e : Extent) : State :=
  let s := s.changeExtent n e
  { s with map := { s.map with index := joinIndex s.map.index (e.ranges n) } }.startWalk
    (Walk.create .prepare none n 0 (e.frames - 1) .full)

/-- DEFINE_EXTENT (R10, R11). -/
def defineEffect (extent : Nat) (geo : Option Extent) : Effect := fun s =>
  match extentNumber extent, geo with
  | some n, some e =>
      if overlapFree s.map.index (e.ranges n) then
        if (s.extent n).state = .free then
          if s.startAnswer false = .started then (s.defineNow n e, .started) else (s, .busy)
        else (s, .refusedState)
      else (s, .refusedOverlap)
  | _, _ => (s, .refusedRange)

/-- The shelf capacity (R185). -/
def State.capacity (s : State) : Nat :=
  match s.ldr.setup with
  | none => 0
  | some x => x.capacity

/-- SEAL_EXTENT (R13). -/
def sealEffect (extent : Nat) : Effect := fun s =>
  match extentNumber extent with
  | none => (s, .refusedRange)
  | some n =>
      if (s.extent n).state = .defined ∨ (s.extent n).state = .opened then
        if s.startAnswer false = .started then
          ((s.setExtentState n .sealing).startWalk (Walk.create .seal none n 0 ((s.extent n).frames - 1) .full), .started)
        else (s, .busy)
      else (s, .refusedState)

/-- A mend queue entry or the active mend concerns the extent (R15); an entry taken from the queue whose mend still waits for
its line concerns it too (R144; log 48). -/
def State.mendConcerns (s : State) (n : Fin 1024) : Bool :=
  s.mend.queue.any (fun k => decide (k.extent = n)) ||
    match s.mend.active with
    | none => false
    | some m => decide (m.extent = n)

/-- The current walk is at work on extent `n` and requires it SEALED (R118). -/
def State.sealedWalkOn (s : State) (n : Fin 1024) : Option Walk :=
  match s.walk.cur with
  | none => none
  | some w =>
      if w.sealedOn n = true ∧ w.run ≠ .suspended then some w else none

/-- Extent `n` has left SEALED (R118): every walk at work on it has the change to find, and the current one, unless it is
SUSPENDED, skips the rest of the extent at once. A verification in flight runs to its answer first, unless the extent was
retired and its line dropped (R59). A walk whose last block is so verified has passed its last unit and ends complete (R124;
log 27). -/
def State.leaveSealed (s : State) (n : Fin 1024) : State :=
  let s : State := { s with walk := s.walk.leave n }
  match s.sealedWalkOn n with
  | none => s
  | some w => if w.stage = .auditing ∧ (s.extent n).state ≠ .free then s else (s.skipRest w).walkRun

/-- The four conditions of R15 and R16, in order; `ok` is the state condition. None where all hold. -/
def State.releaseRefusal (s : State) (n : Fin 1024) (ok : ExtentState → Bool) : Option Result :=
  let e := s.extent n
  if ok e.state = false then some .refusedState
  else if e.cls = .fixed then some .refusedState
  else if s.dir.freeze then some .refusedFrozen
  else if s.mendConcerns n then some .busy
  else none

/-- OPEN_EXTENT past its checks (R15, R81, R118). -/
def State.openNow (s : State) (n : Fin 1024) : State :=
  let s := s.setExtentState n .opened
  let s := s.abandonAll fun a => decide (a.key.extent = n) && (decide (a.mode = .check) || decide (a.mode = .scrub))
  s.leaveSealed n

/-- OPEN_EXTENT (R15). -/
def openEffect (extent : Nat) : Effect := fun s =>
  match extentNumber extent with
  | none => (s, .refusedRange)
  | some n =>
      match s.releaseRefusal n (fun st => decide (st = .sealed)) with
      | some r => (s, r)
      | none => (s.openNow n, .done)

/-- DEFINED, OPEN or SEALED (R16). -/
def ExtentState.retirable : ExtentState → Bool
  | .defined => true
  | .opened => true
  | .sealed => true
  | _ => false

/-- The head write waits for a digest line of extent `n`: it asks for one in the line queue, or pins one (R59, R90). -/
def State.headAwaitsExtent (s : State) (n : Fin 1024) : Bool :=
  match s.up.head with
  | some ⟨_, _, .lines i⟩ =>
      s.store.queue.any (fun q => decide (q.user = .write) && decide (q.extent = n)) ||
        (s.slot i).pins.any fun l => decide ((s.line l).extent = n)
  | _ => false

/-- The head write that waited for lines of a retired extent, with nothing left to wait for, is judged again as plain storage
and proceeds (R59, R90). -/
def State.headFreed (s : State) : State :=
  match s.up.head with
  | some ⟨r, _, .lines i⟩ => if (s.neededBlocks r.addr r.count).isEmpty then s.writeJudged i r else s
  | _ => s

/-- RETIRE_EXTENT past its checks (R16, R59). It ends the wait of the head write only where that waits for a line of this
extent (R90). The lines are dropped before the current walk skips the rest of the extent, so where that drops the last line a
flush includes, FLUSH_DONE stands in the log before the finding of the walk's end: the model's choice (DESIGN CHOICE, log
65). -/
def State.retireNow (s : State) (n : Fin 1024) : State :=
  let waited := s.headAwaitsExtent n
  let s := s.abandonAll fun a => decide (a.key.extent = n)
  let s := s.dropExtent n
  let s := { s with map := { s.map with index := s.map.index.filter fun r => !r.ofExtent n } }
  let s := s.changeExtent n Extent.freeForm
  let s := State.grantLines s.store.queue.length s
  let s := if waited then s.headFreed else s
  s.leaveSealed n

/-- RETIRE_EXTENT (R16). -/
def retireEffect (extent : Nat) : Effect := fun s =>
  match extentNumber extent with
  | none => (s, .refusedRange)
  | some n =>
      match s.releaseRefusal n ExtentState.retirable with
      | some r => (s, r)
      | none => (s.retireNow n, .done)

/-- RESEAL_FRAME (R163, R137). -/
def resealEffect (extent frame source : Nat) : Effect := fun s =>
  match extentNumber extent, CopyId.ofNum source with
  | some n, some c =>
      let e := s.extent n
      if e.state ≠ .sealed then (s, .refusedState)
      else if e.frames ≤ frame then (s, .refusedRange)
      else if c = .copy1 ∧ e.hasReplica = false then (s, .refusedState)
      else if s.dir.freeze then (s, .refusedFrozen)
      else if s.startAnswer false = .started then
        (s.startWalk (Walk.create .seal (some c) n frame frame .full), .started)
      else (s, .busy)
  | _, _ => (s, .refusedRange)

/-! ### Walk and mend directives (R164, R165, R112) -/

/-- CHECK_EXTENT (R164). -/
def checkEffect (extent first last override : Nat) : Effect := fun s =>
  match extentNumber extent, depthOverrideOfCode override with
  | some n, some d =>
      let e := s.extent n
      if e.state ≠ .sealed then (s, .refusedState)
      else if last < first ∨ e.frames ≤ last then (s, .refusedRange)
      else if s.startAnswer false = .started then
        (s.startWalk (Walk.create .check none n first last (d.getD s.cfg.depth)), .started)
      else (s, .busy)
  | _, _ => (s, .refusedRange)

/-- START_PASS answered STARTED (R120, R123). -/
def State.startPassNow (s : State) (depth : Depth) : State :=
  let s := { s with walk := { s.walk with restTimer := none, passDue := false } }
  let r := s.createPass depth
  r.1.startWalk r.2

/-- START_PASS (R164, R109). -/
def startPassEffect (override : Nat) : Effect := fun s =>
  match depthOverrideOfCode override with
  | none => (s, .refusedRange)
  | some d =>
      match s.startAnswer true with
      | .started => (s.startPassNow (d.getD s.cfg.depth), .started)
      | r => (s, r)

/-- SUSPEND_WALK (R112): a walk with no unit in flight stops at once (R110). -/
def suspendEffect : Effect := fun s =>
  match s.walk.cur with
  | none => (s, .refusedState)
  | some w =>
      match w.run with
      | .running =>
          if w.inFlight then (s.setWalk (some { w with run := .suspending }), .done)
          else (s.stopWalk { w with run := .suspending }, .done)
      | .suspending => (s, .done)
      | .suspended => (s, .done)
      | .saving => (s, .busy)

/-- RESUME_WALK (R112). -/
def resumeEffect : Effect := fun s =>
  match s.walk.cur with
  | none => (s, .refusedState)
  | some w =>
      match w.run with
      | .running => (s, .done)
      | .suspending => (s.setWalk (some { w with run := .running }), .done)
      | .suspended => ((s.setWalk (some { w with run := .running })).walkRun, .done)
      | .saving => (s, .busy)

/-- The checks of MEND_FRAME before the mend engine has it (R165): the frame copy, or the refusal. -/
def State.mendFrameCheck (s : State) (extent frame target : Nat) : Except Result FrameKey :=
  match extentNumber extent, CopyId.ofNum target with
  | some n, some c =>
      let e := s.extent n
      if e.state.mendable = false ∨ e.hasReplica = false then .error .refusedState
      else if e.frames ≤ frame then .error .refusedRange
      else .ok ⟨n, frame, c⟩
  | _, _ => .error .refusedRange

/-! ### Settings (R166 to R168) -/

/-- New settings in force and recorded in the header image (R189). -/
def State.changeSettings (s : State) (c : Settings) : State := { s with cfg := c }.markHeader

/-- SET_POLICY (R166): the range, then freeze. -/
def setPolicyEffect (policy : Nat) : Effect := fun s =>
  match Policy.ofCode policy with
  | none => (s, .refusedRange)
  | some p => if s.dir.freeze then (s, .refusedFrozen) else (s.changeSettings { s.cfg with policy := p }, .done)

/-- SET_WALK_DEPTH (R166, R113). -/
def setWalkDepthEffect (depth : Nat) : Effect := fun s =>
  match Depth.ofCode depth with
  | none => (s, .refusedRange)
  | some d => (s.changeSettings { s.cfg with depth := d }, .done)

/-- DONE, or CLAMPED where a value was brought into its range (R166). -/
def clampResult (inRange : Bool) : Result := if inRange then .done else .clamped

/-- SET_PACE (R166, R102, R123): turning repeat off stops the rest timer and clears the pass-due mark. -/
def setPaceEffect (threshold depth repeatCode rest : Nat) : Effect := fun s =>
  if 1 < repeatCode then (s, .refusedRange)
  else
    let on := repeatCode == 1
    let s := s.changeSettings
      { s.cfg with paceThreshold := clamp 0 240 threshold, paceDepth := clamp 1 16 depth, repeatOn := on,
                   restInterval := clamp 0 604800 rest }
    let s := if on then s else { s with walk := { s.walk with restTimer := none, passDue := false } }
    (s, clampResult (threshold ≤ 240 && 1 ≤ depth && depth ≤ 16 && rest ≤ 604800))

/-- SET_TIMERS (R166, R79, R96). -/
def setTimersEffect (timeout idle : Nat) : Effect := fun s =>
  (s.changeSettings { s.cfg with returnTimeout := clamp 100 10000 timeout, idleTime := clamp 50 5000 idle },
    clampResult (100 ≤ timeout && timeout ≤ 10000 && 50 ≤ idle && idle ≤ 5000))

/-- The admission table with the marked entries replaced (R167). -/
def newAdmission (old : Vector Rights 16) (marks : Nat) (rights : List Nat) : Vector Rights 16 :=
  Vector.ofFn fun i : Fin 16 => if bitOf marks i.val then Rights.ofCode (rights.getD i.val 0) else old[i]

/-- Some requester holds both WRITE and DIRECT (R167). -/
def someDirector (t : Vector Rights 16) : Bool := t.toList.any fun r => r.write && r.direct

/-- Some change mark is set (R167). -/
def someMark (marks : Nat) : Bool := (allFin 16).any fun i => bitOf marks i.val

/-- SET_ADMISSION (R167): the lockout check, then freeze; with no mark set nothing changes. -/
def setAdmissionEffect (marks : Nat) (rights : List Nat) : Effect := fun s =>
  let t := newAdmission s.cfg.admission marks rights
  if someDirector t = false then (s, .refusedRange)
  else if s.dir.freeze then (s, .refusedFrozen)
  else (if someMark marks then s.changeSettings { s.cfg with admission := t } else s, .done)

/-- SET_ALERT (R168, R177). -/
def setAlertEffect (mask : Nat) : Effect := fun s => (s.changeSettings { s.cfg with alertMask := maskOf mask }, .done)

/-- SET_CLOCK (R168, R183). -/
def setClockEffect (clock : Nat) : Effect := fun s =>
  ({ s with rep := { s.rep with clock := BitVec.ofNat 64 clock } }, .done)

/-- Count `r` is not later than `seen` (R176). -/
def notLater (r seen : BitVec 32) : Bool := decide ((seen - r).toNat < 2 ^ 31)

/-- One flag at ACK_EVENTS (R176). -/
def Flag.ack (f : Flag) (masked : Bool) (seen : BitVec 32) : Flag :=
  match f.seen with
  | none => f
  | some r => if masked && f.isSet && notLater r seen then Flag.clear else f

/-- ACK_EVENTS (R176). -/
def ackEventsEffect (mask seen : Nat) : Effect := fun s =>
  let m := maskOf mask
  ({ s with rep := { s.rep with
      flags := Vector.ofFn fun i : Fin 6 => (s.rep.flags[i]).ack m[i] (BitVec.ofNat 32 seen) } }, .done)

/-- Slot `t` lies in the slots from the tail up to the written head, both ends included (R181). -/
def Report.tailMayMove (r : Report) (t : Nat) : Bool :=
  decide (t < 4096) && decide ((t + 4096 - r.tail) % 4096 ≤ (r.writtenHead + 4096 - r.tail) % 4096)

/-- MOVE_LOG_TAIL (R181): the move is recorded, the head is settled where it could not be before (R184), and withheld
findings are resumed (R180). -/
def moveLogTailEffect (slot : Nat) : Effect := fun s =>
  let ok := s.rep.tailMayMove slot
  let s := { s with rep := { s.rep with tail := if ok then slot else s.rep.writtenHead } }.recordLog
  (s.settleHead.resumeLog, clampResult ok)

/-- The window a SELECT_WINDOW record names (R168, section 12.2). -/
def windowOf (selection extent : Nat) : Option Window :=
  match selection with
  | 0 => some .summary
  | 1 => (extentNumber extent).map Window.extent
  | 2 => some .accumulators
  | 3 => some .mendQueue
  | 4 => some .walks
  | 5 => some .inflight
  | _ => none

/-- SELECT_WINDOW (R168, R174). -/
def selectWindowEffect (selection extent : Nat) : Effect := fun s =>
  match windowOf selection extent with
  | none => (s, .refusedRange)
  | some w => ({ s with rep := { s.rep with selection := w, selectedSince := true } }, .done)

/-! ### FLUSH and FREEZE (R169, R170) -/

/-- A line joins a flush (R56, R169): DIRTY and WRITING_REDIRTIED lines are to be written, a WRITING line is included through
its write in flight. -/
def State.flushTakeLine (s : State) (l : Fin 64) : State × List (FlushItem (Fin 64)) :=
  match (s.line l).state with
  | .dirty => (s.queueWriteback l, [⟨l, false⟩])
  | .writing => (s, [⟨l, false⟩])
  | .writingRedirtied => (s.setLine l { s.line l with retrigger := true }, [⟨l, true⟩])
  | _ => (s, [])

/-- A catalogue block joins a flush (R169, R189). -/
def State.flushTakeBlock (s : State) (b : Fin 17) : State × List (FlushItem (Fin 17)) :=
  match (s.cat b).state with
  | .changed => ((s.setCat b { s.cat b with retry := none }).queueCat b, [⟨b, false⟩])
  | .writing => (s, [⟨b, false⟩])
  | .writingChanged => (s, [⟨b, true⟩])
  | .current => (s, [])

/-- Takes items in order, with what each adds. -/
def gather {α β : Type} (f : State → α → State × List β) : List α → State → State × List β
  | [], s => (s, [])
  | x :: xs, s =>
      let r := f s x
      let t := gather f xs r.1
      (t.1, r.2 ++ t.2)

/-- FLUSH (R169). The included lines are queued first, then the catalogue blocks, each in ascending number (log 18). -/
def flushEffect : Effect := fun s =>
  if s.dir.flush.isSome then (s, .busy)
  else
    let a := gather State.flushTakeLine (allFin 64) s
    let b := gather State.flushTakeBlock (allFin 17) a.1
    ({ b.1 with dir := { b.1.dir with flush := some ⟨a.2, b.2, 0, 0, 0⟩ } }.tryEndFlush, .started)

/-- FREEZE (R170). -/
def freezeEffect : Effect := fun s => ({ s with dir := { s.dir with freeze := true } }, .done)

/-- A kind that names no directive (R159). -/
def unknownEffect : Effect := fun s => (s, .unknownKind)

end Sys2Proof.Machine
end

