-- ==== Sys2Proof/Machine/Directives.lean ====
section
/-!
DEFINITION. Meanings: the directives, one for each kind of record (09_directives.md). Each executes where its record is the
next in turn of the batch in progress (`State.directive`).
-/

namespace Sys2Proof.Machine

/-- DEFINE_EXTENT (R10, R11, R162). -/
def execDefineExtent (extent cls mendMode policy base0 replica span frames tail mask digestBase : Nat)
    (s : State) (err : Option TableError := none) : Host.Outcome State Fault Refusal :=
  (s.findError err).directive (.defineExtent extent cls mendMode policy base0 replica span frames tail mask digestBase none)
    (defineEffect extent (geometry s.capacity cls mendMode policy base0 replica span frames tail mask digestBase))

/-- SEAL_EXTENT (R13, R162). -/
def execSealExtent (extent : Nat) (s : State) (err : Option TableError := none) : Host.Outcome State Fault Refusal :=
  (s.findError err).directive (.sealExtent extent none) (sealEffect extent)

/-- OPEN_EXTENT (R15, R162). -/
def execOpenExtent (extent : Nat) (s : State) (err : Option TableError := none) : Host.Outcome State Fault Refusal :=
  (s.findError err).directive (.openExtent extent none) (openEffect extent)

/-- RETIRE_EXTENT (R16, R162). -/
def execRetireExtent (extent : Nat) (s : State) (err : Option TableError := none) : Host.Outcome State Fault Refusal :=
  (s.findError err).directive (.retireExtent extent none) (retireEffect extent)

/-- RESEAL_FRAME (R163). -/
def execResealFrame (extent frame source : Nat) (s : State) (err : Option TableError := none) : Host.Outcome State Fault Refusal :=
  (s.findError err).directive (.resealFrame extent frame source none) (resealEffect extent frame source)

/-- CHECK_EXTENT (R164). -/
def execCheckExtent (extent first last override : Nat) (s : State) (err : Option TableError := none) : Host.Outcome State Fault Refusal :=
  (s.findError err).directive (.checkExtent extent first last override none) (checkEffect extent first last override)

/-- START_PASS (R164). -/
def execStartPass (override : Nat) (s : State) (err : Option TableError := none) : Host.Outcome State Fault Refusal :=
  (s.findError err).directive (.startPass override none) (startPassEffect override)

/-- SUSPEND_WALK (R112). -/
def execSuspendWalk (s : State) (err : Option TableError := none) : Host.Outcome State Fault Refusal :=
  (s.findError err).directive (.suspendWalk none) suspendEffect

/-- RESUME_WALK (R112). -/
def execResumeWalk (s : State) (err : Option TableError := none) : Host.Outcome State Fault Refusal :=
  (s.findError err).directive (.resumeWalk none) resumeEffect

/-- The MEND_FRAME record executes (R165): it is refused, or handed to the mend engine, whose answer is its result. -/
def State.mendFrameRecord (s : State) (extent frame target : Nat) : State :=
  match s.mendFrameCheck extent frame target with
  | .error r => s.addResult r
  | .ok k => s.frameAsk k

/-- MEND_FRAME (R142, R165). -/
def execMendFrame (extent frame target : Nat) (s : State) (err : Option TableError := none) : Host.Outcome State Fault Refusal :=
  let t := s.findError err
  if t.running = true ∧ t.nextRecord = some (.mendFrame extent frame target none) then
    (t.mendFrameRecord extent frame target).done
  else .next t

/-- SET_POLICY (R166). -/
def execSetPolicy (policy : Nat) (s : State) : Host.Outcome State Fault Refusal :=
  s.directive (.setPolicy policy) (setPolicyEffect policy)

/-- SET_WALK_DEPTH (R166). -/
def execSetWalkDepth (depth : Nat) (s : State) : Host.Outcome State Fault Refusal :=
  s.directive (.setWalkDepth depth) (setWalkDepthEffect depth)

/-- SET_PACE (R166). -/
def execSetPace (threshold depth repeatCode rest : Nat) (s : State) : Host.Outcome State Fault Refusal :=
  s.directive (.setPace threshold depth repeatCode rest) (setPaceEffect threshold depth repeatCode rest)

/-- SET_TIMERS (R166). -/
def execSetTimers (timeout idle : Nat) (s : State) : Host.Outcome State Fault Refusal :=
  s.directive (.setTimers timeout idle) (setTimersEffect timeout idle)

/-- SET_ADMISSION (R167). -/
def execSetAdmission (marks : Nat) (rights : List Nat) (s : State) : Host.Outcome State Fault Refusal :=
  s.directive (.setAdmission marks rights) (setAdmissionEffect marks rights)

/-- SET_ALERT (R168). -/
def execSetAlert (mask : Nat) (s : State) : Host.Outcome State Fault Refusal :=
  s.directive (.setAlert mask) (setAlertEffect mask)

/-- SET_CLOCK (R168). -/
def execSetClock (clock : Nat) (s : State) : Host.Outcome State Fault Refusal :=
  s.directive (.setClock clock) (setClockEffect clock)

/-- ACK_EVENTS (R168, R176). -/
def execAckEvents (mask seen : Nat) (s : State) : Host.Outcome State Fault Refusal :=
  s.directive (.ackEvents mask seen) (ackEventsEffect mask seen)

/-- MOVE_LOG_TAIL (R168, R181). -/
def execMoveLogTail (slot : Nat) (s : State) : Host.Outcome State Fault Refusal :=
  s.directive (.moveLogTail slot) (moveLogTailEffect slot)

/-- SELECT_WINDOW (R168, R174). -/
def execSelectWindow (selection extent : Nat) (s : State) : Host.Outcome State Fault Refusal :=
  s.directive (.selectWindow selection extent) (selectWindowEffect selection extent)

/-- FLUSH (R169). -/
def execFlush (s : State) (err : Option TableError := none) : Host.Outcome State Fault Refusal :=
  (s.findError err).directive (.flush none) flushEffect

/-- FREEZE (R170). -/
def execFreeze (s : State) : Host.Outcome State Fault Refusal :=
  s.directive .freeze freezeEffect

/-- UNKNOWN_KIND (R159). -/
def execUnknownKind (kind : Nat) (s : State) : Host.Outcome State Fault Refusal :=
  s.directive (.unknownKind kind) unknownEffect

end Sys2Proof.Machine
end

