-- ==== Sys2Proof/Machine/Dispatch.lean ====
section
/-!
DEFINITION. The effect of each command, one arm for each constructor of Instr.
-/

namespace Sys2Proof.Machine

/-- The effect of a command on everything but the queue. -/
def exec (i : Instr) (s : State) : Host.Outcome State Fault Refusal :=
  match i with
  | .hardwareReset maint => Sys2Proof.Machine.execHardwareReset maint s
  | .eepromReadEnd image => Sys2Proof.Machine.execEepromReadEnd image s
  | .eepromReadTimeout => Sys2Proof.Machine.execEepromReadTimeout s
  | .linkReset batchBytes err => Sys2Proof.Machine.execLinkReset batchBytes s err
  | .upstreamLinkDown batchBytes err => Sys2Proof.Machine.execUpstreamLinkDown batchBytes s err
  | .upstreamLinkUp => Sys2Proof.Machine.execUpstreamLinkUp s
  | .mediaLinkDown err => Sys2Proof.Machine.execMediaLinkDown s err
  | .mediaLinkUp err => Sys2Proof.Machine.execMediaLinkUp s err
  | .controllerRequest req err => Sys2Proof.Machine.execControllerRequest req err s
  | .passthroughSlotTaken err => Sys2Proof.Machine.execPassthroughSlotTaken err s
  | .writeLinesReady err => Sys2Proof.Machine.execWriteLinesReady err s
  | .directiveWriteProceeds err => Sys2Proof.Machine.execDirectiveWriteProceeds err s
  | .passthroughMediaReturn tag status data err => Sys2Proof.Machine.execPassthroughMediaReturn tag status data err s
  | .unexpectedReturn tag status err => Sys2Proof.Machine.execUnexpectedReturn tag status err s
  | .passthroughReturnTimeout slot err => Sys2Proof.Machine.execPassthroughReturnTimeout slot err s
  | .staleTimeout slot err => Sys2Proof.Machine.execStaleTimeout slot err s
  | .injectedReturnTimeout slot err => Sys2Proof.Machine.execInjectedReturnTimeout slot err s
  | .injectionGrant err => Sys2Proof.Machine.execInjectionGrant err s
  | .digestFillReturn tag status data err => Sys2Proof.Machine.execDigestFillReturn tag status data err s
  | .digestRefillReturn tag status data err => Sys2Proof.Machine.execDigestRefillReturn tag status data err s
  | .digestWritebackReturn tag status err => Sys2Proof.Machine.execDigestWritebackReturn tag status err s
  | .walkChunkReturn tag status data err => Sys2Proof.Machine.execWalkChunkReturn tag status data err s
  | .mendReadReturn tag status data err => Sys2Proof.Machine.execMendReadReturn tag status data err s
  | .mendWriteReturn tag status err => Sys2Proof.Machine.execMendWriteReturn tag status err s
  | .statusWriteReturn tag status err => Sys2Proof.Machine.execStatusWriteReturn tag status err s
  | .logWriteReturn tag status err => Sys2Proof.Machine.execLogWriteReturn tag status err s
  | .catalogueReadReturn tag status data err => Sys2Proof.Machine.execCatalogueReadReturn tag status data s err
  | .blankCatalogueWriteReturn tag status err => Sys2Proof.Machine.execBlankCatalogueWriteReturn tag status s err
  | .catalogueWriteReturn tag status err => Sys2Proof.Machine.execCatalogueWriteReturn tag status err s
  | .catalogueRetryExpiry block => Sys2Proof.Machine.execCatalogueRetryExpiry block s
  | .idleTimerExpiry pos err => Sys2Proof.Machine.execIdleTimerExpiry pos s err
  | .dirtyTimerExpiry line err => Sys2Proof.Machine.execDirtyTimerExpiry line s err
  | .statusTimerExpiry => Sys2Proof.Machine.execStatusTimerExpiry s
  | .restTimerExpiry err => Sys2Proof.Machine.execRestTimerExpiry s err
  | .lineQueueGrant err => Sys2Proof.Machine.execLineQueueGrant err s
  | .mendStart err => Sys2Proof.Machine.execMendStart err s
  | .defineExtent extent cls mendMode policy base0 replica span frames tail mask digestBase err => Sys2Proof.Machine.execDefineExtent extent cls mendMode policy base0 replica span frames tail mask digestBase s err
  | .sealExtent extent err => Sys2Proof.Machine.execSealExtent extent s err
  | .openExtent extent err => Sys2Proof.Machine.execOpenExtent extent s err
  | .retireExtent extent err => Sys2Proof.Machine.execRetireExtent extent s err
  | .resealFrame extent frame source err => Sys2Proof.Machine.execResealFrame extent frame source s err
  | .checkExtent extent first last override err => Sys2Proof.Machine.execCheckExtent extent first last override s err
  | .startPass override err => Sys2Proof.Machine.execStartPass override s err
  | .suspendWalk err => Sys2Proof.Machine.execSuspendWalk s err
  | .resumeWalk err => Sys2Proof.Machine.execResumeWalk s err
  | .mendFrame extent frame target err => Sys2Proof.Machine.execMendFrame extent frame target s err
  | .setPolicy policy => Sys2Proof.Machine.execSetPolicy policy s
  | .setWalkDepth depth => Sys2Proof.Machine.execSetWalkDepth depth s
  | .setPace threshold depth repeatCode rest => Sys2Proof.Machine.execSetPace threshold depth repeatCode rest s
  | .setTimers timeout idle => Sys2Proof.Machine.execSetTimers timeout idle s
  | .setAdmission marks rights => Sys2Proof.Machine.execSetAdmission marks rights s
  | .setAlert mask => Sys2Proof.Machine.execSetAlert mask s
  | .setClock clock => Sys2Proof.Machine.execSetClock clock s
  | .ackEvents mask seen => Sys2Proof.Machine.execAckEvents mask seen s
  | .moveLogTail slot => Sys2Proof.Machine.execMoveLogTail slot s
  | .selectWindow selection extent => Sys2Proof.Machine.execSelectWindow selection extent s
  | .flush err => Sys2Proof.Machine.execFlush s err
  | .freeze => Sys2Proof.Machine.execFreeze s
  | .unknownKind kind => Sys2Proof.Machine.execUnknownKind kind s
  | .partClockTick => Sys2Proof.Machine.execPartClockTick s

end Sys2Proof.Machine
end

