-- ==== Sys2Proof/Safety.lean ====
section
/-!
DEFINITION. What the part keeps in every step, in the terms the statements use: the limits and the order of its tables.
-/

namespace Sys2Proof.Machine

/-- The mend queue and the finding log within their limits (R140, R178). -/
def State.limits (s : State) : Prop :=
  s.mend.queue.length ≤ 16 ∧ s.mend.queue.Nodup ∧ s.rep.completed.length ≤ 3

/-- The claimed-range index in order: ascending and disjoint (R3). -/
def State.indexOrdered (s : State) : Prop := s.map.index.Pairwise fun a b => a.stop ≤ b.first

/-- The index in order, with no empty range (R3). -/
def State.indexHolds (s : State) : Prop := s.indexOrdered ∧ ∀ r ∈ s.map.index, 0 < r.len

/-- The in-flight table within its budgets, STALE slots counted (R92), and the slot that the head request waits with
ASSIGNED to it (R90). -/
def State.slotsHold (s : State) : Prop :=
  s.countSlots Slot.countsPass ≤ 240 ∧ s.countSlots Slot.countsInjected ≤ 64 ∧
    ∀ h ∈ s.up.head, ∀ i, h.waitsWith i = true → (s.slot i).life = .assigned ∧ (s.slot i).kind.isPass = true

/-- The walk is of kind PASS. -/
def Walk.isPass (w : Walk) : Bool := decide (w.kind = .pass)

/-- The current, the incoming and the saved walks. -/
def WalkEngine.all (e : WalkEngine) : List Walk := e.cur.toList ++ e.incoming.toList ++ e.saved

/-- The current walk is SAVING. -/
def WalkEngine.isSaving (e : WalkEngine) : Bool := e.cur.any fun w => decide (w.run = .saving)

/-- The walk engine within its limits (R108 to R110): walks in RUNNING alone, an incoming walk exactly while the current one
is SAVING, at most two saved walks with the one that is to be, each RUNNING or SUSPENDED, and one PASS walk at most. -/
def State.walksHold (s : State) : Prop :=
  (s.ldr.part ≠ .running → s.walk = WalkEngine.reset) ∧ s.walk.incoming.isSome = s.walk.isSaving ∧
    (∀ w ∈ s.walk.incoming, w.run = .running) ∧ (∀ w ∈ s.walk.saved, w.run = .running ∨ w.run = .suspended) ∧
    s.walk.saved.length + bit s.walk.isSaving ≤ 2 ∧ s.walk.all.countP Walk.isPass ≤ 1

/-- No digest block in two lines (R47). -/
def State.linesApart (s : State) : Prop :=
  ∀ k l, (s.line k).state ≠ .invalid → (s.line l).state ≠ .invalid → (s.line k).tag = (s.line l).tag → k = l

/-- Position 30 alone is the walk engine's and position 31 the mend engine's, and no two accumulators have one mode and one
frame copy (R61). -/
def State.poolApart (s : State) : Prop :=
  (∀ p, ∀ a ∈ s.accum p, (a.mode = .scrub ↔ p = scrubPos) ∧ (a.mode = .mend ↔ p = mendPos)) ∧
    ∀ p q, ∀ a ∈ s.accum p, ∀ b ∈ s.accum q, a.mode = b.mode → a.key = b.key → p = q

/-- A log head or tail, and one in a loaded header, is a slot of the log. -/
def Settings.logFits (c : Settings) : Prop := c.headerHead < 4096 ∧ c.headerTail < 4096

/-- The finding log's tables (R178, R179, R184): heads and tail are slots, a completed image holds a block's 128 findings, the
head image as many as the head stands in its block, and in RUNNING a head image that is not held leaves the head at a block's
first slot or the tail ahead of it. -/
def State.logHolds (s : State) : Prop :=
  s.rep.head < 4096 ∧ s.rep.writtenHead < 4096 ∧ s.rep.tail < 4096 ∧ s.cfg.logFits ∧
    (∀ x ∈ s.rep.completed, x.1 < 32 ∧ x.2.length = 128) ∧ (∀ x ∈ s.rep.image, x.length = s.rep.head % 128) ∧
    (s.ldr.part = .running → s.rep.image = none → s.rep.head % 128 = 0 ∨ s.rep.tailAhead = true) ∧
    (match s.rep.logShot with | some (.headImage h) => h < 4096 | _ => True) ∧
    (match s.ldr.load with | .records c _ _ => c.logFits | _ => True)

/-- In FAULT no load is under way (R190). -/
def State.faultHolds (s : State) : Prop := s.ldr.part = .fault → s.ldr.load = .idle

end Sys2Proof.Machine
end

