-- ==== Sys2Proof/Certificates/Slice0/Obligations.lean ====
section
/-!
DEFINITION. The statements for the provers, and the few notions they are written in. OBLIGATIONS.json lists them with the
rules they rest on.
-/

namespace Sys2Proof.Machine

/-! ### Notions of the statements -/

/-- The command is HARDWARE_RESET. -/
def isReset : Instr → Bool
  | .hardwareReset _ => true
  | _ => false

/-- The command is a link reset: LINK_RESET, or UPSTREAM_LINK_DOWN, at which the part acts as on one (R106). -/
def isLinkReset : Instr → Bool
  | .linkReset _ _ => true
  | .upstreamLinkDown _ _ => true
  | _ => false

/-- The command may give the part other settings than those in force (R89, R166, R167, R185, R188). -/
def givesSettings : Instr → Bool
  | .hardwareReset _ => true
  | .eepromReadEnd _ => true
  | .catalogueReadReturn _ _ _ _ => true
  | .blankCatalogueWriteReturn _ _ _ => true
  | .setPolicy _ => true
  | .setWalkDepth _ => true
  | .setPace _ _ _ _ => true
  | .setTimers _ _ => true
  | .setAdmission _ _ => true
  | _ => false

/-- The command may move the part clock (R183). -/
def movesClock : Instr → Bool
  | .hardwareReset _ => true
  | .setClock _ => true
  | .partClockTick => true
  | _ => false

/-- The command may clear an event flag (R175, R176). -/
def clearsFlags : Instr → Bool
  | .hardwareReset _ => true
  | .ackEvents _ _ => true
  | _ => false

/-- What the step before had at the front of its queue leads from `s` to `t`. -/
def Steps (s : State) (c : Instr) (t : State) : Prop := (∃ cs, s.pending = c :: cs) ∧ step s = .next t

/-- No walk is current and no mend is active. -/
abbrev State.enginesIdle (s : State) : Prop := s.walk.cur = none ∧ s.mend.active = none

/-- No SEAL walk waits for outstanding writes (R132). -/
abbrev State.noSealWait (s : State) : Prop := ∀ w ∈ s.walk.cur, w.stage ≠ .waitWrites

/-- The queue of commands, the ports, the links and the slots are alike. -/
def SamePorts (s t : State) : Prop :=
  t.pending = s.pending ∧ t.ports = s.ports ∧ t.up = s.up ∧ t.mediaUp = s.mediaUp ∧ t.slots = s.slots

/-- The extent map, the pool, the digest store and the two engines are alike. -/
def SameShelf (s t : State) : Prop :=
  t.map = s.map ∧ t.pool = s.pool ∧ t.store = s.store ∧ t.walk = s.walk ∧ t.mend = s.mend

/-- Every slot but `i` is alike. -/
def OtherSlots (s t : State) (i : Fin 256) : Prop := ∀ j, j ≠ i → t.slot j = s.slot j

/-- The record executed has the result: it is the newest of the batch in progress, or of the batch that has just ended and
is over (R159, R160, R161). -/
def Gained (s t : State) (r : Result) : Prop :=
  ∃ b, s.dir.batch = some b ∧
    ((∃ c, t.dir.batch = some c ∧ c.results = b.results ++ [r]) ∨
      (t.dir.batch = none ∧ ∃ l, t.rep.lastBatch = some l ∧ l.results = b.results ++ [r]))

/-- The request went to the media with slot `i`, which holds it OUTSTANDING with its return timer started (R91, R93, R96),
and the head is empty. -/
def SentWith (s t : State) (r : Request) (i : Fin 256) : Prop :=
  t.up = { s.up with head := none } ∧
    t.ports = { s.ports with media := s.ports.media ++ [.request r.kind r.requester i r.addr r.count r.data] } ∧
    (t.slot i).life = .outstanding ∧ (t.slot i).kind = .passthrough r.kind ∧ (t.slot i).requester = r.requester ∧
    (t.slot i).tag = r.tag ∧ (t.slot i).addr = r.addr ∧ (t.slot i).count = r.count ∧
    (t.slot i).timer = some ⟨s.cfg.returnTimeout, 0⟩

/-- One return went upstream, and nothing else left the ports. -/
def Returned (s t : State) (requester : Fin 16) (tag : Nat) (status : UpStatus) (data : List Byte) : Prop :=
  t.ports = { s.ports with upstream := s.ports.upstream ++ [⟨requester, tag, status, data⟩] }

/-- One finding was handed over (R179, R180): placed with FINDING raised, or withheld with LOG_FULL raised where the log was
full. -/
def Logged (s t : State) (f : Finding) : Prop :=
  (s.rep.full = false → t.rep.head = (s.rep.place f).head ∧ t.rep.image = (s.rep.place f).image ∧
    t.rep.completed = (s.rep.place f).completed ∧ (t.flag .finding).isSet = true) ∧
    (s.rep.full = true → t.rep.head = s.rep.head ∧ t.rep.withheld = min 4294967295 (s.rep.withheld + 1) ∧
      (t.flag .logFull).isSet = true)

/-- Two findings were handed over, `f` before `g`, to a log with room for both. -/
def LoggedBoth (s t : State) (f g : Finding) : Prop :=
  s.rep.full = false → (s.rep.place f).full = false → t.rep.head = ((s.rep.place f).place g).head ∧
    t.rep.image = ((s.rep.place f).place g).image ∧ t.rep.completed = ((s.rep.place f).place g).completed ∧
    (t.flag .finding).isSet = true

/-- Nothing was logged and no flag rose. -/
def Unlogged (s t : State) : Prop := t.rep.head = s.rep.head ∧ t.rep.withheld = s.rep.withheld ∧ t.rep.flags = s.rep.flags

/-- Every accumulator but the one at `p` is alike. -/
def OtherAccums (s t : State) (p : Fin 32) : Prop := ∀ q, q ≠ p → t.accum q = s.accum q

/-- Every line but `l` is alike. -/
def OtherLines (s t : State) (l : Fin 64) : Prop := ∀ k, k ≠ l → t.line k = s.line k

/-- Line `l` was taken for a digest block of an extent (R48): FILLING, with the taker's pin, and its fill queued. -/
def TakenForFill (s t : State) (l : Fin 64) (tag : Nat) (e : Fin 1024) : Prop :=
  (t.line l).tag = tag ∧ (t.line l).extent = e ∧ (t.line l).state = .filling ∧ (t.line l).pins = 1 ∧
    (t.line l).waiting = [] ∧ OtherLines s t l ∧ t.arb = s.arb ++ [⟨.fill l, .read, tag, 1⟩]

/-- A line holds the block, and the walk or mend that reads a frame copy of it may begin (R114, R144). -/
def Holding (s : State) (e : Fin 1024) (frame : Nat) (l : Fin 64) : Prop :=
  s.findLine ((s.extent e).digestBlock frame) = some l ∧ (s.line l).state.holds = true ∧ (s.line l).refilling = false

/-- The walk is a PASS or CHECK walk at a unit of its range, the extent SEALED throughout (R114, R118, R119). -/
def Walk.atUnit (w : Walk) (s : State) : Prop :=
  (w.kind = .check ∨ (w.kind = .pass ∧ w.entered = true)) ∧ w.past = false ∧ w.changed = false ∧ w.frame ≤ w.last ∧
    (s.extent w.extent).state = .sealed ∧ 0 < (s.extent w.extent).span ∧ 0 < s.cfg.paceDepth

/-- The walk is a FULL one at a frame copy of its range. -/
def Walk.visits (w : Walk) (s : State) : Prop := w.depth = .full ∧ w.atUnit s

/-- The walk reads the frame copy at its cursor from chunk 0, whose read is queued (R115). -/
def BeginsRead (s t : State) (w : Walk) : Prop :=
  (∃ n v, t.walk.cur = some v ∧ v.stage = .reading n ∧ v.extent = w.extent ∧ v.frame = w.frame ∧ v.copy = w.copy ∧
    v.skipped = w.skipped ∧ v.checked = w.checked ∧ v.mismatches = w.mismatches) ∧
    (⟨.walkChunk w.key 0, .read, (s.extent w.extent).blockAddr w.copy w.frame 0, (s.extent w.extent).chunkLen 0⟩ :
      InjRequest) ∈ t.arb

/-- No walk or mend request is queued. -/
def NoneQueued (t : State) (p : Owner → Bool) : Prop := ∀ r ∈ t.arb, p r.owner = false

/-- Nothing waits for a digest line that is being read. -/
def State.noneAwaitReads (s : State) : Prop :=
  s.dir.mendFrame = none ∧ ∀ l, (s.line l).state = .filling ∨ (s.line l).refilling = true → (s.line l).waiting = []

/-- A digest line, with nothing waiting for it, as the loss of the media link leaves it (R53, R55, R60): INVALID with its pins
if it was FILLING, its refill ended if it was being refilled. -/
def Line.linkLost (x : Line) : Line :=
  if x.state = .filling then { Line.blank with pins := x.pins } else { x with refilling := false }

/-- A queued read of one block. -/
abbrev readOf (o : Owner) (addr : Nat) : InjRequest := ⟨o, .read, addr, 1⟩

/-- A queued write of one block. -/
abbrev writeOf (o : Owner) (addr : Nat) : InjRequest := ⟨o, .write, addr, 1⟩

end Sys2Proof.Machine

open Sys2Proof Sys2Proof.Machine

/-! ### The step, and what holds of every command -/

/-- A step takes the command at the front of the queue and executes it with the rest of the queue left. -/
def Obligations.StepRunsCommand : Prop :=
  ∀ (s : State) (c : Instr) (cs : List Instr), s.pending = c :: cs → step s = exec c (s.withPending cs)

/-- Every command answers a next state in every state, and leaves the queue of waiting commands as it was. That no command
stops is the model's reading of the rules (NOTES.md, Stops); the queue is the model's own (log 1). -/
def Obligations.EveryCommandAnswers : Prop :=
  ∀ (c : Instr) (s : State), ∃ t, exec c s = .next t ∧ t.pending = s.pending

/-- R170, R175, R176, R185: only HARDWARE_RESET clears the freeze flag, and only it changes the maintenance mark; a set event
flag stays set in every step but HARDWARE_RESET and ACK_EVENTS. -/
def Obligations.FreezeAndFlagsKept : Prop :=
  ∀ (s t : State) (c : Instr), Steps s c t →
    (isReset c = false → (s.dir.freeze = true → t.dir.freeze = true) ∧ t.ldr.maint = s.ldr.maint) ∧
      (clearsFlags c = false → ∀ f : EventFlag, (s.flag f).isSet = true → (t.flag f).isSet = true)

/-- R140, R178: every step keeps the mend queue at 16 entries at most, none twice, and the completed log images at three at
most. -/
def Obligations.TableLimitsKept : Prop :=
  ∀ (s t : State), s.limits → step s = .next t → t.limits

/-- R3, R10, R22, R186: every step keeps the claimed-range index ascending and disjoint, with no empty range. -/
def Obligations.IndexKept : Prop := ∀ (s t : State), s.indexHolds → step s = .next t → t.indexHolds

/-- R91, R92: every step keeps the in-flight table within its budgets, STALE slots counted, and the slot that the head request
waits with ASSIGNED. -/
def Obligations.SlotBudgetsKept : Prop := ∀ (s t : State), s.slotsHold → step s = .next t → t.slotsHold

/-- R108 to R110, R125: every step keeps the walk engine within its limits: a walk exists in RUNNING alone, one is incoming
exactly while the current one is SAVING, at most two are saved, and at most one is a PASS walk. -/
def Obligations.WalksKept : Prop := ∀ (s t : State), s.walksHold → step s = .next t → t.walksHold

/-- R47, R61: every step keeps each digest block in one line at most, positions 30 and 31 of the pool to the walk and the mend
engine, and each mode and frame copy to one accumulator at most. -/
def Obligations.LinesAndAccumulatorsKept : Prop :=
  (∀ (s t : State), s.linesApart → step s = .next t → t.linesApart) ∧
    ∀ (s t : State), s.poolApart → step s = .next t → t.poolApart

/-- R178, R179, R184: every step keeps the finding log's heads, tail and images in order; and a finding placed in a log that
is not full raises the unread count by 1, to 4,095 at most. That the head image is held, and empty, from the filling of a
block on is the model's choice (log 54). -/
def Obligations.LogKept : Prop :=
  (∀ (s t : State), s.limits → s.logHolds → step s = .next t → t.logHolds) ∧
    ∀ (r : Report) (f : Finding), r.head < 4096 → r.tail < 4096 → r.full = false →
      (r.place f).unread = r.unread + 1 ∧ (r.place f).unread ≤ 4095

/-- The state after reset meets each invariant that every step keeps. -/
def Obligations.InvariantsAtReset : Prop :=
  State.reset.limits ∧ State.reset.indexHolds ∧ State.reset.slotsHold ∧ State.reset.walksHold ∧ State.reset.linesApart ∧
    State.reset.poolApart ∧ State.reset.logHolds ∧ State.reset.faultHolds

/-- R89, R166, R167, R173, R183: nine settings (admission table, read policy, walk depth, pace threshold and depth, repeat and
rest interval, return timeout, idle time) change in no step but the directives that set them, the EEPROM read, the end of the
catalogue load, and HARDWARE_RESET; the part clock in none but PART_CLOCK_TICK, SET_CLOCK and HARDWARE_RESET; the update
count in none but INJECTION_GRANT and HARDWARE_RESET. -/
def Obligations.SettingsAndClockKept : Prop :=
  ∀ (s t : State) (c : Instr), Steps s c t →
    (givesSettings c = false →
      t.cfg.admission = s.cfg.admission ∧ t.cfg.policy = s.cfg.policy ∧ t.cfg.depth = s.cfg.depth ∧
        t.cfg.paceThreshold = s.cfg.paceThreshold ∧ t.cfg.paceDepth = s.cfg.paceDepth ∧ t.cfg.repeatOn = s.cfg.repeatOn ∧
        t.cfg.restInterval = s.cfg.restInterval ∧ t.cfg.returnTimeout = s.cfg.returnTimeout ∧ t.cfg.idleTime = s.cfg.idleTime) ∧
      (movesClock c = false → t.rep.clock = s.rep.clock) ∧
      (isReset c = false → (∀ e, c ≠ .injectionGrant e) → t.rep.updateCount = s.rep.updateCount)

/-- R185, R190, R191: RUNNING is left only to FAULT, or by HARDWARE_RESET; FAULT only by HARDWARE_RESET or a link reset. In
FAULT no load is under way, which every step keeps. -/
def Obligations.RunningLeftOnlyToFault : Prop :=
  ∀ (s t : State) (c : Instr), Steps s c t → s.faultHolds →
    t.faultHolds ∧
      (isReset c = false → s.ldr.part = .running → t.ldr.part = .running ∨ t.ldr.part = .fault) ∧
      (isReset c = false → isLinkReset c = false → s.ldr.part = .fault → t.ldr.part = .fault)

/-! ### Resets, the EEPROM, the links -/

/-- R185 and each block's own rule: the state HARDWARE_RESET leaves, whatever was before. -/
def Obligations.HardwareReset : Prop :=
  ∀ (maint : Bool) (s : State), ∃ t, exec (.hardwareReset maint) s = .next t ∧
    t.ldr.part = .setup ∧ t.ldr.maint = maint ∧ t.ldr.eeprom = some ⟨100, 0⟩ ∧ t.ldr.setup = none ∧
    (∀ i, (t.slot i).life = .free) ∧ t.arb = [] ∧ t.up.head = none ∧ t.mediaUp = false ∧
    (∀ e, t.extent e = Extent.freeForm) ∧ t.map.index = [] ∧ t.map.restart = [] ∧
    (∀ p, t.accum p = none) ∧ (∀ l, (t.line l).state = .invalid ∧ (t.line l).pins = 0) ∧ t.store.queue = [] ∧
    t.walk.cur = none ∧ t.walk.incoming = none ∧ t.walk.saved = [] ∧ t.walk.restTimer = none ∧ t.walk.passDue = false ∧
    t.mend.queue = [] ∧ t.mend.active = none ∧
    t.dir.batch = none ∧ t.dir.freeze = false ∧ t.dir.flush = none ∧
    t.rep.updateCount = 0 ∧ (∀ f, t.flag f = ⟨false, none⟩) ∧ t.rep.statusDue = false ∧ t.rep.statusTimer = none ∧
    t.rep.selection = .summary ∧ t.rep.lastBatch = none ∧ t.rep.head = 0 ∧ t.rep.writtenHead = 0 ∧ t.rep.tail = 0 ∧
    t.rep.image = none ∧ t.rep.completed = [] ∧ t.rep.withheld = 0 ∧ t.rep.clock = 0 ∧
    t.cfg.passNumber = 0 ∧ t.cfg.depth = .full ∧ t.cfg.paceThreshold = 32 ∧ t.cfg.paceDepth = 4 ∧ t.cfg.repeatOn = false ∧
    t.cfg.restInterval = 0 ∧ t.cfg.returnTimeout = 2000 ∧ t.cfg.idleTime = 500 ∧
    (∀ i : Fin 16, t.cfg.admission[i] = ⟨false, false, false⟩) ∧ (∀ i : Fin 6, t.cfg.alertMask[i] = false)

/-- R105, R106: what a link reset leaves while the part is not in FAULT, with no walk current and no mend active: it is passed
on, the head request and every slot and accumulator are gone with no return, no line keeps a pin or a waiting change, and
freeze, map, settings and event flags are kept. R60: a FILLING line is INVALID, one that was being written is DIRTY with its
writeback queued, any other keeps its state and entries. R161: a batch at work is cut off at the records that had reached the
image, or is over with its results handed on where these are executed; how many bytes had, the command says, and the label is
the block's own (log 19). R173, R189: a status or catalogue write in flight is queued again. -/
def Obligations.LinkResetClearsTraffic : Prop :=
  ∀ (s : State) (n : Nat), s.ldr.part ≠ .fault → s.enginesIdle →
    ∃ t u, exec (.linkReset n none) s = .next t ∧ exec (.upstreamLinkDown n none) s = .next u ∧
      t.up = { s.up with head := none } ∧ u.up = ⟨false, none⟩ ∧
      ∀ x, x = t ∨ x = u →
        x.ports = { s.ports with media := s.ports.media ++ [.linkReset] } ∧ (∀ i, (x.slot i).life = .free) ∧
        (∀ p, x.accum p = none) ∧ (∀ l, (x.line l).pins = 0 ∧ (x.line l).waiting = []) ∧ x.store.queue = [] ∧
        x.map = s.map ∧ x.cfg = s.cfg ∧ x.dir.freeze = s.dir.freeze ∧ x.rep.flags = s.rep.flags ∧
        x.rep.clock = s.rep.clock ∧ x.mediaUp = s.mediaUp ∧ x.ldr.part = s.ldr.part ∧ x.mend.queue = s.mend.queue ∧
        x.walk.saved = s.walk.saved ∧
        (∀ l, (s.line l).state = .filling → x.line l = Line.blank) ∧
        (∀ l, (s.line l).state.writes = true → (x.line l).state = .dirty ∧ (x.line l).dirtyTimer = some ⟨5000, 0⟩ ∧
          (x.line l).entries = (s.line l).entries ∧ (x.line l).tag = (s.line l).tag ∧ x.queued (.writeback l) = true) ∧
        (∀ l, (s.line l).state = .clean ∨ (s.line l).state = .dirty → (x.line l).state = (s.line l).state ∧
          (x.line l).entries = (s.line l).entries ∧ (x.line l).tag = (s.line l).tag ∧
          (x.line l).dirtyTimer = (s.line l).dirtyTimer ∧ (x.line l).refilling = false) ∧
        (∀ i, (s.slot i).life = .outstanding → (s.slot i).kind = .injected .status → (s.slot i).dead = false →
          s.ldr.part = .running → s.controlBase.isSome = true → x.rep.statusShot = none ∧ x.queued .status = true) ∧
        (∀ i b, (s.slot i).life = .outstanding → (s.slot i).kind = .injected (.catalogueWrite b) → (s.slot i).dead = false →
          (x.cat b).state = .changed ∧ x.queued (.catalogueWrite b) = true) ∧
        (∀ b, s.dir.batch = some b → b.ended = true → x.dir.batch = none) ∧
        (∀ b, s.dir.batch = some b → b.ended = false → b.cut = false → s.dir.mendFrame = none →
          (∀ i, b.slot = some i → (s.slot i).life ≠ .held) →
          (b.results.length < min b.count (n / 64 - 1) → x.rep.lastBatch = s.rep.lastBatch ∧ x.dir.batch =
            some { b with cut := true, slot := none, records := min b.count (n / 64 - 1) }) ∧
          (min b.count (n / 64 - 1) ≤ b.results.length → x.dir.batch = none ∧
            x.rep.lastBatch = some ⟨b.label, b.count, b.clamped, b.results⟩ ∧
            (s.ldr.part = .running → s.controlBase.isSome = true → s.rep.statusShot = none → x.queued .status = true))) ∧
        (∀ b, s.dir.batch = some b → b.ended = false → b.cut = true → s.dir.mendFrame = none →
          b.results.length < b.records → x.dir.batch = some b)

/-- R191, R184: a link reset in FAULT: LOADING with the header read queued where a setup image is accepted, otherwise SETUP
with the EEPROM read again; flags, update count, clock, freeze and selection are kept. -/
def Obligations.LinkResetLeavesFault : Prop :=
  ∀ (s : State) (n : Nat), s.ldr.part = .fault →
    ∃ t u, exec (.linkReset n none) s = .next t ∧ exec (.upstreamLinkDown n none) s = .next u ∧
      ∀ x, x = t ∨ x = u →
        x.ports = { s.ports with media := s.ports.media ++ [.linkReset] } ∧ (∀ i, (x.slot i).life = .free) ∧
        x.up.head = none ∧ (∀ e, x.extent e = Extent.freeForm) ∧ x.ldr.fault = none ∧
        (match s.ldr.setup with
          | some m => x.ldr.part = .loading ∧ x.arb = [readOf (.catalogueRead 0) (m.base + 34)] ∧
              x.map.index = [⟨.control, m.base, 51⟩]
          | none => x.ldr.part = .setup ∧ x.arb = [] ∧ x.map.index = [] ∧ x.ldr.eeprom = some ⟨100, 0⟩) ∧
        x.rep.statusDue = false ∧ x.rep.statusShot = none ∧ x.rep.withheld = 0 ∧ x.rep.flags = s.rep.flags ∧
        x.rep.updateCount = s.rep.updateCount ∧ x.rep.clock = s.rep.clock ∧ x.rep.selection = s.rep.selection ∧
        x.dir.freeze = s.dir.freeze

/-- R185, R89, R96: what the end of the EEPROM read does, by the maintenance mark and the image: PASSTHROUGH with the image's
defaults if it is accepted, LOADING with the header read queued, or FAULT. A read given up after 100 ms is taken as one that
found no image. That an accepted image's admission table and return timeout are taken with the maintenance mark set is the
model's choice (log 20). -/
def Obligations.EepromReadEnds : Prop :=
  ∀ (s : State) (image : Option (List Byte)) (c : Instr), s.ldr.part = .setup →
    ((s.ldr.eeprom.isSome = true ∧ c = .eepromReadEnd image) ∨
      (timerDue s.ldr.eeprom = true ∧ image = none ∧ c = .eepromReadTimeout)) →
    ∃ t, exec c s = .next t ∧ t.ldr.eeprom = none ∧
      match s.ldr.maint, image.bind decodeSetup with
      | true, none => t.ldr.part = .passthrough ∧ t.cfg = s.cfg
      | true, some x => t.ldr.part = .passthrough ∧ t.cfg.admission = x.admission ∧ t.cfg.returnTimeout = x.returnTimeout
      | false, some x => t.ldr.part = .loading ∧ t.ldr.setup = some x ∧ t.cfg.admission = x.admission ∧
          t.cfg.returnTimeout = x.returnTimeout ∧ t.map.index = [⟨.control, x.base, 51⟩] ∧
          t.arb = s.arb ++ [readOf (.catalogueRead 0) (x.base + 34)]
      | false, none => t.ldr.part = .fault ∧ t.ldr.fault = some .setupImage ∧ (t.flag .fault).isSet = true

/-- R103, R104, R106: the links going down and up, with no request at the head, no walk current and no mend active: the port's
state is taken. At media link down every FILLING line becomes INVALID with its pins and every refill ends with the entries
held, its read queued or in flight, nothing waiting for it; that the queued read is withdrawn is the model's inference (log
41). The one request in flight is cut off: a passthrough one is answered MEDIA_ERROR, a writeback leaves its line DIRTY and a
catalogue write its block CHANGED, to be written again, a status or log write stays to be made, a catalogue read or blank write
is queued again. None logs. At media link up each digest line and catalogue block whose write was cut off is queued again. -/
def Obligations.LinksDownAndUp : Prop :=
  ∀ (s : State),
    (∃ t, exec .upstreamLinkUp s = .next t ∧ t = { s with up := { s.up with linkUp := true } }) ∧
    (s.enginesIdle → s.up.head = none → s.noneAwaitReads →
      let kept := s.arb.filter fun r => !r.owner.isLineRead
      ((∀ i, (s.slot i).life = .free) →
        ∃ t, exec (.mediaLinkDown none) s = .next t ∧ t.mediaUp = false ∧ t.slots = s.slots ∧ t.ports = s.ports ∧
          t.up = s.up ∧ t.arb = kept ∧ (∀ l, t.line l = (s.line l).linkLost) ∧ t.store.queue = s.store.queue ∧
          t.map = s.map ∧ t.pool = s.pool ∧ t.walk = s.walk ∧ t.mend = s.mend ∧ t.dir = s.dir ∧ t.ldr = s.ldr ∧
          t.cfg = s.cfg ∧ Unlogged s t) ∧
      (∀ (i : Fin 256) (k : ReqKind), s.dir.batch = none → (s.slot i).life = .outstanding →
        (s.slot i).kind = .passthrough k → (s.slot i).contribs = [] → (∀ j, j ≠ i → (s.slot j).life = .free) →
        ∃ t, exec (.mediaLinkDown none) s = .next t ∧ t.mediaUp = false ∧ (∀ j, (t.slot j).life = .free) ∧ t.arb = kept ∧
          (∀ l, l ∉ (s.slot i).pins → t.line l = (s.line l).linkLost) ∧ Unlogged s t ∧
          Returned s t (s.slot i).requester (s.slot i).tag .mediaError []) ∧
      (∀ (i : Fin 256) (o : Owner), s.dir.batch = none → (s.slot i).life = .outstanding → (s.slot i).kind = .injected o →
        (s.slot i).dead = false → (∀ j, j ≠ i → (s.slot j).life = .free) →
        ∃ t, exec (.mediaLinkDown none) s = .next t ∧ t.mediaUp = false ∧ (∀ j, (t.slot j).life = .free) ∧
          t.ports = s.ports ∧ Unlogged s t ∧ (∀ l, o ≠ .writeback l → t.line l = (s.line l).linkLost) ∧
          ((∀ b, o ≠ .catalogueRead b ∧ o ≠ .blankWrite b) → t.arb = kept) ∧
          (∀ l, o = .fill l → (s.line l).state = .filling → (t.line l).state = .invalid ∧ (t.line l).pins = (s.line l).pins) ∧
          (∀ l, o = .refill l → (s.line l).state ≠ .filling → t.line l = { s.line l with refilling := false }) ∧
          (∀ l, o = .writeback l → (s.line l).state.writes = true → (t.line l).state = .dirty ∧ (t.line l).cut = true ∧
            (t.line l).dirtyTimer = some ⟨5000, 0⟩ ∧ (t.line l).entries = (s.line l).entries) ∧
          (o = .status → t.rep.statusShot = none ∧ t.rep.statusDue = true) ∧
          (o = .log → t.rep.logShot = none ∧ t.rep.completed = s.rep.completed ∧ t.rep.writtenHead = s.rep.writtenHead) ∧
          (∀ b, o = .catalogueWrite b → t.cat b = ⟨.changed, none, true⟩) ∧
          (∀ b c, o = .catalogueRead b → s.controlBase = some c → t.arb = kept ++ [readOf (.catalogueRead b) (c + 34 + b.val)]) ∧
          (∀ b c, o = .blankWrite b → s.controlBase = some c → t.arb = kept ++ [writeOf (.blankWrite b) (c + 34 + b.val)]))) ∧
    (s.enginesIdle →
      ∃ t, exec (.mediaLinkUp none) s = .next t ∧ t.mediaUp = true ∧ t.slots = s.slots ∧ t.ports = s.ports ∧ t.up = s.up ∧
        s.arb <+: t.arb ∧ t.map = s.map ∧ t.pool = s.pool ∧ t.dir = s.dir ∧ t.cfg = s.cfg ∧
        (∀ l, (s.line l).cut = true → t.queued (.writeback l) = true ∧ (t.line l).cut = false) ∧
        (∀ b, (s.cat b).cut = true → t.queued (.catalogueWrite b) = true ∧ (t.cat b).cut = false))

/-- R118, R125, R155: a current walk at work on a frame copy, or an active mend, across the links, with no request at the head
and no batch. At media link down it is cut off and keeps its cursor, no request of it is queued and its accumulator is gone;
at media link up it begins its frame copy, or its attempt, again; as the link goes down nothing waits for a digest line being
read. At a link reset a walk that is stopping is SUSPENDED at the
same unit, a RUNNING one begins it again with its line pinned anew, and the mend begins again at VERIFY_SOURCE, attempt 1. The
line that holds their entry stays. -/
def Obligations.LinkCutsEngines : Prop :=
  ∀ (s : State), s.up.head = none → s.dir.batch = none →
    (∀ (w : Walk) (n : Nat), s.walk.cur = some w → s.mend.active = none → w.stage = .reading n → w.inFlight = true →
      s.noneAwaitReads →
      (∀ j, (s.slot j).life = .free ∨
        ((s.slot j).life = .outstanding ∧ ∃ o : Owner, (s.slot j).kind = .injected o ∧ o.isWalk = true)) →
      ∃ t, exec (.mediaLinkDown none) s = .next t ∧ t.mediaUp = false ∧ t.walk = { s.walk with cur := some { w with stage := .cut } } ∧
        t.accum scrubPos = none ∧ NoneQueued t Owner.isWalk ∧ (∀ j, (t.slot j).life = .free) ∧ t.ports = s.ports ∧
        Unlogged s t) ∧
    (∀ (w : Walk) (l : Fin 64), s.walk.cur = some w → s.mend.active = none → w.stage = .cut → w.visits s →
      (w.run = .running ∨ (w.inFlight = true ∧ w.run ≠ .suspended)) → w.line = some l →
      (s.line l).tag = (s.extent w.extent).digestBlock w.frame → (s.line l).state.holds = true → (s.line l).refilling = false →
      ((s.entryIn l w.frame).copyState w.copy = .sealed ∨ (s.entryIn l w.frame).copyState w.copy = .suspect) →
      s.inHand Owner.isWalk < s.cfg.paceDepth →
      ∃ t, exec (.mediaLinkUp none) s = .next t ∧ BeginsRead s t w ∧ t.ports = s.ports ∧ t.slots = s.slots) ∧
    (∀ (w : Walk) (n k : Nat), s.ldr.part ≠ .fault → s.walk.cur = some w → s.mend.active = none → w.stage = .reading n →
      w.frame ≤ w.last → w.past = false →
      (w.run = .suspending → ∃ t v, exec (.linkReset k none) s = .next t ∧ t.walk = { s.walk with cur := some v } ∧
        v.run = .suspended ∧ v.extent = w.extent ∧ v.frame = w.frame ∧ v.copy = w.copy ∧ v.line = none ∧
        v.skipped = w.skipped ∧ NoneQueued t Owner.isWalk ∧ Unlogged s t) ∧
      (∀ l, w.run = .running → w.visits s → Holding s w.extent w.frame l →
        ((s.entryIn l w.frame).copyState w.copy = .sealed ∨ (s.entryIn l w.frame).copyState w.copy = .suspect) →
        ∃ t, exec (.linkReset k none) s = .next t ∧ BeginsRead s t w ∧ (t.line l).pins = 1 ∧ Unlogged s t)) ∧
    (∀ (m : Mend), s.mend.active = some m → s.walk.cur = none → (m.stage = .working ∨ m.stage = .comparing) →
      s.noneAwaitReads →
      (∀ j, (s.slot j).life = .free ∨
        ((s.slot j).life = .outstanding ∧ ∃ o : Owner, (s.slot j).kind = .injected o ∧ o.isMend = true)) →
      ∃ t, exec (.mediaLinkDown none) s = .next t ∧ t.mediaUp = false ∧
        t.mend = { s.mend with active := some { m with stage := .cut, buffer := none } } ∧ t.accum mendPos = none ∧
        NoneQueued t Owner.isMend ∧ (∀ j, (t.slot j).life = .free) ∧ t.ports = s.ports ∧ Unlogged s t) ∧
    (∀ (m : Mend), s.mend.active = some m → s.walk.cur = none → m.stage = .cut → s.inHand Owner.isMend = 0 →
      0 < s.cfg.paceDepth → 0 < (s.extent m.extent).span →
      ∃ t v, exec (.mediaLinkUp none) s = .next t ∧ t.mend = { s.mend with active := some v } ∧ v.stage = .working ∧
        v.phase = (if m.attempt = 1 then .verifySource else .copy) ∧ v.attempt = m.attempt ∧ v.buffer = none ∧
        v.line = m.line ∧ v.extent = m.extent ∧ v.frame = m.frame ∧ v.target = m.target ∧
        (⟨.mendRead 0, .read, (s.extent m.extent).blockAddr m.target.other m.frame 0, (s.extent m.extent).chunkLen 0⟩ :
          InjRequest) ∈ t.arb) ∧
    (∀ (m : Mend) (l : Fin 64) (k : Nat), s.ldr.part ≠ .fault → s.mend.active = some m → s.walk.cur = none →
      (m.stage = .working ∨ m.stage = .comparing ∨ m.stage = .cut) → Holding s m.extent m.frame l →
      0 < s.cfg.paceDepth → 0 < (s.extent m.extent).span →
      ∃ t v, exec (.linkReset k none) s = .next t ∧ t.mend = { s.mend with active := some v } ∧ v.stage = .working ∧
        v.phase = .verifySource ∧ v.attempt = 1 ∧ v.buffer = none ∧ v.line = some l ∧ v.extent = m.extent ∧
        v.frame = m.frame ∧ v.target = m.target ∧ (t.line l).pins = 1 ∧ (t.line l).entries = (s.line l).entries ∧
        (⟨.mendRead 0, .read, (s.extent m.extent).blockAddr m.target.other m.frame 0, (s.extent m.extent).chunkLen 0⟩ :
          InjRequest) ∈ t.arb ∧ Unlogged s t)

/-- R107, R190: a table error that a command's use finds. In RUNNING the part enters FAULT with its cause: FAULT rises
unmasked, one status write is queued and nothing else, the pool, the cache, the walks, the mend and the directive unit are
emptied with no finding, map, freeze, clock and the selection stay; HELD returns leave, and a write at the head is answered
FAULT. In FAULT the recorded cause changes and nothing else. In any part state a passthrough slot found in error is treated as
OUTSTANDING with no contributions, or its request is answered MEDIA_ERROR where its tag cannot be read back. The model's
choices, of which the rules do not speak: that this holds of an ASSIGNED and of a STALE slot too, that an injected slot in
error stays as it stands, and that no other part state is left by a table error (log 9); and that the status write is queued
though one be in flight (log 55). -/
def Obligations.TableErrorEntersFault : Prop :=
  ∀ (s : State) (c : Instr) (e : TableError) (cause : FaultCause), s.store.queue = [] →
    (c = .lineQueueGrant (some e) ∨ (∃ p, c = .idleTimerExpiry p (some e) ∧ s.accum p = none) ∨
      (∃ l, c = .dirtyTimerExpiry l (some e) ∧ (s.line l).dirtyTimer = none)) →
    ((e = .extentMap ∧ cause = .extentMap) ∨ (e = .digestCache ∧ cause = .digestCache) ∨
      (e = .accumulators ∧ cause = .accumulators) ∨
      ∃ i b, e = .inFlight i b ∧ cause = .inFlight ∧ (s.slot i).kind.isPass = false) →
    (s.ldr.part = .running → (s.up.head = none ∨ ∃ r x b, s.up.head = some ⟨r, x, .slot b⟩ ∧ r.kind = .write) →
      ∃ t, exec c s = .next t ∧ t.ldr.part = .fault ∧ t.ldr.fault = some cause ∧ t.ldr.load = .idle ∧
        (t.flag .fault).isSet = true ∧ t.cfg = { s.cfg with alertMask := s.cfg.alertMask.set 5 false } ∧
        (∀ p, t.accum p = none) ∧ (∀ l, t.line l = Line.blank) ∧ t.walk = WalkEngine.reset ∧ t.mend = MendEngine.reset ∧
        t.dir = ⟨none, none, s.dir.freeze, none⟩ ∧ t.map = s.map ∧ t.up.head = none ∧ t.rep.head = s.rep.head ∧
        t.rep.clock = s.rep.clock ∧ t.rep.updateCount = s.rep.updateCount ∧ t.rep.selection = s.rep.selection ∧
        t.rep.image = none ∧ t.rep.completed = [] ∧ t.rep.statusTimer = none ∧
        (∀ base, s.controlBase = some base → t.arb = [writeOf .status (base + 1)]) ∧
        (∀ i, (t.slot i).life = if (s.slot i).life = .held then .free else (s.slot i).life) ∧
        (∀ i, (t.slot i).contribs = [] ∧ (t.slot i).watches = []) ∧
        (∀ b, s.dir.batch = some b → t.rep.lastBatch = some ⟨b.label, b.count, b.clamped, b.results⟩) ∧
        ((∀ i, (s.slot i).life ≠ .held) → s.up.head = none → t.ports = s.ports) ∧
        (∀ r x b, (∀ i, (s.slot i).life ≠ .held) → s.up.head = some ⟨r, x, .slot b⟩ → Returned s t r.requester r.tag .fault []) ∧
        (∀ i, (s.slot i).life = .held → (∀ j, j ≠ i → (s.slot j).life ≠ .held) → s.up.head = none →
          Returned s t (s.slot i).requester (s.slot i).tag (s.slot i).status (s.slot i).data)) ∧
    (s.ldr.part = .fault → ∃ t, exec c s = .next t ∧ t.ldr = { s.ldr with fault := some cause } ∧ SamePorts s t ∧ t.arb = s.arb ∧
      SameShelf s t ∧ t.dir = s.dir ∧ t.cfg = s.cfg ∧ Unlogged s t) ∧
    (s.ldr.part ≠ .running → s.ldr.part ≠ .fault → ∃ t, exec c s = .next t ∧ t.ldr = s.ldr ∧ SamePorts s t ∧ t.arb = s.arb ∧
      SameShelf s t ∧ t.dir = s.dir ∧ t.cfg = s.cfg ∧ Unlogged s t) ∧
    (∀ (i : Fin 256) (k : ReqKind), s.ldr.part = .running → s.up.head = none → (s.slot i).life ≠ .free →
      (s.slot i).kind = .passthrough k → (∀ j, j ≠ i → (s.slot j).life ≠ .held) →
      let entered := fun t : State => t.ldr.part = .fault ∧ t.ldr.fault = some .inFlight ∧ (t.flag .fault).isSet = true ∧
        (∀ j, j ≠ i → (t.slot j).life = (s.slot j).life ∧ (t.slot j).contribs = []) ∧ (∀ p, t.accum p = none) ∧
        (∀ l, t.line l = Line.blank) ∧ t.map = s.map ∧ t.up.head = none
      (∃ t, exec (.lineQueueGrant (some (.inFlight i true))) s = .next t ∧ entered t ∧ t.ports = s.ports ∧
        (t.slot i).life = .outstanding ∧ (t.slot i).kind = .passthrough k ∧ (t.slot i).requester = (s.slot i).requester ∧
        (t.slot i).tag = (s.slot i).tag ∧ (t.slot i).timer.isSome = true ∧ (t.slot i).contribs = [] ∧
        (t.slot i).watches = [] ∧ (t.slot i).held = false) ∧
      (∃ t, exec (.lineQueueGrant (some (.inFlight i false))) s = .next t ∧ entered t ∧ (t.slot i).life = .free ∧
        Returned s t (s.slot i).requester (s.slot i).tag .mediaError [])) ∧
    (∀ (i : Fin 256) (k : ReqKind), s.ldr.part ≠ .running → s.up.head = none → (s.slot i).life ≠ .free →
      (s.slot i).kind = .passthrough k →
      (∃ t, exec (.lineQueueGrant (some (.inFlight i true))) s = .next t ∧ t.ports = s.ports ∧ OtherSlots s t i ∧
        (t.slot i).life = .outstanding ∧ (t.slot i).kind = .passthrough k ∧ (t.slot i).requester = (s.slot i).requester ∧
        (t.slot i).tag = (s.slot i).tag ∧ (t.slot i).timer.isSome = true ∧ (t.slot i).contribs = [] ∧
        (t.slot i).watches = [] ∧ (t.slot i).held = false ∧ t.ldr.part = s.ldr.part) ∧
      (∃ t, exec (.lineQueueGrant (some (.inFlight i false))) s = .next t ∧ OtherSlots s t i ∧ t.slot i = Slot.freeSlot ∧
        Returned s t (s.slot i).requester (s.slot i).tag .mediaError [] ∧ t.ldr.part = s.ldr.part))

/-! ### Controller requests -/

/-- R86, R87, R89: the requests that are answered as soon as they are decided, with no data and nothing forwarded: one that
fails its form, one while the media link is down, one that lacks its right in RUNNING, and a write in FAULT. The first step
that answers decides. -/
def Obligations.RequestsAnsweredAtOnce : Prop :=
  ∀ (s : State) (r : Request) (status : UpStatus), s.takesHeader = true →
    ((s.formFails r = true ∧ status = .refused) ∨
      (s.formFails r = false ∧ s.mediaUp = false ∧ status = .mediaError) ∨
      (s.formFails r = false ∧ s.mediaUp = true ∧ s.ldr.part = .running ∧ s.hasRight r = false ∧ status = .refused) ∨
      (s.formFails r = false ∧ s.mediaUp = true ∧ s.ldr.part = .fault ∧ r.kind = .write ∧ status = .fault)) →
    ∃ t, exec (.controllerRequest r none) s = .next t ∧
      t.ports = { s.ports with upstream := s.ports.upstream ++ [⟨r.requester, r.tag, status, []⟩] } ∧ t.up = s.up ∧
      t.slots = s.slots ∧ t.arb = s.arb ∧ SameShelf s t ∧ t.dir = s.dir ∧ t.ldr = s.ldr ∧ t.cfg = s.cfg ∧
      t.rep.head = s.rep.head ∧ t.rep.flags = s.rep.flags

/-- R87: a request fails its form exactly on one of the four conditions; taken, it is then answered REFUSED with its own
requester and tag and is not forwarded, and every slot, the earlier request's too, is as it was. -/
def Obligations.FormTest : Prop :=
  ∀ (s : State) (r : Request),
    (s.formFails r = true ↔
      (r.count = 0 ∨ 256 < r.count) ∨ 63 < r.tag ∨ 2 ^ 40 < r.addr + r.count ∨
        ∃ i, (s.slot i).life.live = true ∧ (s.slot i).kind.isPass = true ∧ (s.slot i).requester = r.requester ∧
          (s.slot i).tag = r.tag) ∧
    (s.takesHeader = true → s.formFails r = true →
      ∃ t, exec (.controllerRequest r none) s = .next t ∧ t.slots = s.slots ∧ t.up.head = none ∧
        t.ports = { s.ports with upstream := s.ports.upstream ++ [⟨r.requester, r.tag, .refused, []⟩] })

/-- R86, R90 to R93: a request that is decided forward where nothing of it is protected or checked (any request in
PASSTHROUGH, a read in FAULT, a permitted read in LOADING) takes the lowest-numbered FREE slot and goes to the media with the
slot's number as its tag, or waits at the head where no slot may be had; one that waited outside RUNNING takes a slot when one
may be had, and goes. -/
def Obligations.PlainRequestForwarded : Prop :=
  (∀ (s : State) (r : Request), s.takesHeader = true → s.formFails r = false → s.mediaUp = true →
    (s.ldr.part = .passthrough ∨ (s.ldr.part = .fault ∧ r.kind = .read) ∨
      (s.ldr.part = .loading ∧ r.kind = .read ∧ s.hasRight r = true)) →
    ∃ t, exec (.controllerRequest r none) s = .next t ∧ t.arb = s.arb ∧ SameShelf s t ∧ t.cfg = s.cfg ∧ t.ldr = s.ldr ∧
      match s.passSlot? with
      | none => t.up = { s.up with head := some ⟨r, false, .slot false⟩ } ∧ t.ports = s.ports ∧ t.slots = s.slots
      | some i => SentWith s t r i ∧ OtherSlots s t i) ∧
    ∀ (s : State) (r : Request) (i : Fin 256) (checked : Bool), s.up.head = some ⟨r, false, .slot checked⟩ →
      s.ldr.part ≠ .running → s.passSlot? = some i →
      ∃ t, exec (.passthroughSlotTaken none) s = .next t ∧ SentWith s t r i ∧ OtherSlots s t i ∧ t.arb = s.arb ∧
        SameShelf s t ∧ t.dir = s.dir

/-- R20, R64, R65, R70, R90, R93: a read decided in RUNNING, at once or once it may have a slot, goes to the media with it. A
frame copy of a SEALED extent is offered as CHECK: an accumulator of it reserves the blocks not reserved yet, or is watched
where there are none, or is abandoned where nine runs would stand, a return it holds then going upstream where no other
verdict is awaited; without one, an accumulator is opened at the first free traffic position where the digest block is in a
line that is FILLING, or holds the copy SEALED or SUSPECT, or where a line can be taken for it, which is then filled, whatever
waits in the line queue; otherwise the read goes unchecked, a MENDING copy that no mend rewrites made SUSPECT (R154). Two
frame copies are offered in address order. -/
def Obligations.ReadInRunning : Prop :=
  ∀ (s : State) (r : Request) (i : Fin 256) (c : Instr), s.ldr.part = .running → r.kind = .read → s.passSlot? = some i →
    ((c = .controllerRequest r none ∧ s.takesHeader = true ∧ s.formFails r = false ∧ s.mediaUp = true ∧
        s.hasRight r = true) ∨
      ∃ exact, c = .passthroughSlotTaken none ∧ s.up.head = some ⟨r, exact, .slot true⟩) →
    ((∀ u ∈ (s.touched r.addr r.count).take 4, (s.extent u.key.extent).state ≠ .sealed) →
      ∃ t, exec c s = .next t ∧ SentWith s t r i ∧ (t.slot i).contribs = [] ∧ (t.slot i).watches = [] ∧ OtherSlots s t i ∧
        t.arb = s.arb ∧ SameShelf s t) ∧
    (∀ u, s.touched r.addr r.count = [u] → (s.extent u.key.extent).state = .sealed → u.first ≤ u.last →
      (∀ p a, s.findAccum .check u.key = some p → s.accum p = some a →
        (a.holding = [] ∨ (insertRun u.first u.last a.runs).length ≤ 8) →
        ∃ t, exec c s = .next t ∧ SentWith s t r i ∧ t.arb = s.arb ∧ t.map = s.map ∧ t.walk = s.walk ∧ t.mend = s.mend ∧
          OtherAccums s t p ∧
          (8 < (insertRun u.first u.last a.runs).length →
            t.accum p = none ∧ (t.slot i).contribs = [] ∧ (t.slot i).watches = []) ∧
          ((insertRun u.first u.last a.runs).length ≤ 8 → gaps a.runs u.first u.last = [] →
            t.pool = s.pool ∧ (t.slot i).contribs = [] ∧ (t.slot i).watches = [p] ∧ OtherSlots s t i) ∧
          ((insertRun u.first u.last a.runs).length ≤ 8 → gaps a.runs u.first u.last ≠ [] →
            t.accum p = some { a with runs := insertRun u.first u.last a.runs, pendingCount := a.pendingCount + 1,
                                      idle := none } ∧
            (t.slot i).contribs = [⟨p, u.first, u.start, gaps a.runs u.first u.last, 0, 0⟩] ∧ (t.slot i).watches = [] ∧
            OtherSlots s t i)) ∧
      (∀ p a j, s.findAccum .check u.key = some p → s.accum p = some a → a.holding = [j] →
        8 < (insertRun u.first u.last a.runs).length → (s.slot j).life = .held → (s.slot j).held = true →
        (s.slot j).batch = false → (∀ q b, q ≠ p → s.accum q = some b → j ∉ b.holding) →
        ∃ t, exec c s = .next t ∧ t.accum p = none ∧ OtherAccums s t p ∧ (t.slot i).life = .outstanding ∧
          (t.slot i).contribs = [] ∧ (t.slot i).watches = [] ∧ t.slot j = Slot.freeSlot ∧
          t.ports.media = s.ports.media ++ [.request r.kind r.requester i r.addr r.count r.data] ∧
          t.ports.upstream = s.ports.upstream ++
            [⟨(s.slot j).requester, (s.slot j).tag, heldStatus (s.slot j).outcomes, (s.slot j).data⟩]) ∧
      (s.findAccum .check u.key = none →
        let block := (s.extent u.key.extent).digestBlock u.key.frame
        let opened := fun l : Fin 64 =>
          { Accum.opened .check u.key (some l) with runs := [(u.first, u.last)], pendingCount := 1 }
        (s.freeTraffic? = none → ∃ t, exec c s = .next t ∧ SentWith s t r i ∧ (t.slot i).contribs = [] ∧ OtherSlots s t i ∧
          t.arb = s.arb ∧ SameShelf s t) ∧
        (∀ p l, s.freeTraffic? = some p → s.findLine block = some l →
          ((s.line l).state = .filling ∨ ((s.line l).state.holds = true ∧
            ((s.entryIn l u.key.frame).copyState u.key.copy = .sealed ∨
              (s.entryIn l u.key.frame).copyState u.key.copy = .suspect))) →
          ∃ t, exec c s = .next t ∧ SentWith s t r i ∧ t.arb = s.arb ∧ OtherSlots s t i ∧ OtherAccums s t p ∧
            t.accum p = some (opened l) ∧ (t.slot i).contribs = [⟨p, u.first, u.start, [(u.first, u.last)], 0, 0⟩] ∧
            t.line l = { s.line l with pins := (s.line l).pins + 1 } ∧ OtherLines s t l) ∧
        (∀ p l, s.freeTraffic? = some p → s.findLine block = some l → (s.line l).state.holds = true →
          (s.entryIn l u.key.frame).copyState u.key.copy ∉ [CopyState.sealed, .suspect, .mending] →
          ∃ t, exec c s = .next t ∧ SentWith s t r i ∧ t.arb = s.arb ∧ OtherSlots s t i ∧ t.pool = s.pool ∧
            (t.slot i).contribs = [] ∧ ∀ k, t.line k = s.line k) ∧
        (∀ p l, s.freeTraffic? = some p → s.findLine block = some l → (s.line l).state.holds = true →
          (s.entryIn l u.key.frame).copyState u.key.copy = .mending →
          ((∃ m, s.mend.active = some m ∧ m.key = u.key ∧ m.begun = true) →
            ∃ t, exec c s = .next t ∧ SentWith s t r i ∧ t.arb = s.arb ∧ OtherSlots s t i ∧ t.pool = s.pool ∧
              (t.slot i).contribs = [] ∧ ∀ k, t.line k = s.line k) ∧
          (s.mend.active = none → (s.line l).extent = u.key.extent → (s.line l).waits = false →
            (s.line l).entries.length = 256 → u.key.frame < (s.extent u.key.extent).frames →
            (u.key.copy = .copy1 → (s.extent u.key.extent).hasReplica = true) →
            ∃ t, exec c s = .next t ∧ SentWith s t r i ∧ OtherSlots s t i ∧ t.pool = s.pool ∧ (t.slot i).contribs = [] ∧
              t.entryIn l u.key.frame = (s.entryIn l u.key.frame).setCopy u.key.copy .suspect ∧ OtherLines s t l ∧
              (t.line l).pins = (s.line l).pins)) ∧
        (∀ p v, s.freeTraffic? = some p → s.findLine block = none → s.victim? = some v →
          ∃ t, exec c s = .next t ∧ SentWith s t r i ∧ OtherSlots s t i ∧ OtherAccums s t p ∧ t.accum p = some (opened v) ∧
            (t.slot i).contribs = [⟨p, u.first, u.start, [(u.first, u.last)], 0, 0⟩] ∧
            TakenForFill s t v block u.key.extent ∧ t.store.queue = s.store.queue) ∧
        (∀ p, s.freeTraffic? = some p → s.findLine block = none → s.victim? = none →
          ∃ t, exec c s = .next t ∧ SentWith s t r i ∧ OtherSlots s t i ∧ t.pool = s.pool ∧ (t.slot i).contribs = [] ∧
            t.store.queue = s.store.queue))) ∧
    ∀ u v, s.touched r.addr r.count = [u, v] → (s.extent u.key.extent).state = .sealed →
      (s.extent v.key.extent).state = .sealed → u.key ≠ v.key → u.first ≤ u.last → v.first ≤ v.last →
      (∀ p q a b, s.findAccum .check u.key = some p → s.findAccum .check v.key = some q → s.accum p = some a →
        s.accum q = some b → (insertRun u.first u.last a.runs).length ≤ 8 → (insertRun v.first v.last b.runs).length ≤ 8 →
        gaps a.runs u.first u.last ≠ [] → gaps b.runs v.first v.last ≠ [] →
        ∃ t, exec c s = .next t ∧ SentWith s t r i ∧ OtherSlots s t i ∧ t.arb = s.arb ∧
          t.accum p = some { a with runs := insertRun u.first u.last a.runs, pendingCount := a.pendingCount + 1,
                                    idle := none } ∧
          t.accum q = some { b with runs := insertRun v.first v.last b.runs, pendingCount := b.pendingCount + 1,
                                    idle := none } ∧
          (∀ x, x ≠ p → x ≠ q → t.accum x = s.accum x) ∧
          (t.slot i).contribs = [⟨p, u.first, u.start, gaps a.runs u.first u.last, 0, 0⟩,
            ⟨q, v.first, v.start, gaps b.runs v.first v.last, 0, 0⟩]) ∧
      (∀ (p q : Fin 32) (l k : Fin 64), s.findAccum .check u.key = none → s.findAccum .check v.key = none →
        s.freeTraffic? = some p → p < q → q.val < 30 → s.accum q = none → (∀ x, p < x → x < q → s.accum x ≠ none) →
        s.findLine ((s.extent u.key.extent).digestBlock u.key.frame) = some l →
        s.findLine ((s.extent v.key.extent).digestBlock v.key.frame) = some k →
        (s.line l).state.holds = true → (s.line k).state.holds = true →
        ((s.entryIn l u.key.frame).copyState u.key.copy = .sealed ∨
          (s.entryIn l u.key.frame).copyState u.key.copy = .suspect) →
        ((s.entryIn k v.key.frame).copyState v.key.copy = .sealed ∨
          (s.entryIn k v.key.frame).copyState v.key.copy = .suspect) →
        ∃ t, exec c s = .next t ∧ SentWith s t r i ∧ OtherSlots s t i ∧ t.arb = s.arb ∧
          t.accum p = some { Accum.opened .check u.key (some l) with runs := [(u.first, u.last)], pendingCount := 1 } ∧
          t.accum q = some { Accum.opened .check v.key (some k) with runs := [(v.first, v.last)], pendingCount := 1 } ∧
          (∀ x, x ≠ p → x ≠ q → t.accum x = s.accum x) ∧
          (t.slot i).contribs = [⟨p, u.first, u.start, [(u.first, u.last)], 0, 0⟩,
            ⟨q, v.first, v.start, [(v.first, v.last)], 0, 0⟩] ∧
          ∀ x, (t.line x).pins = (s.line x).pins + (if x = l then 1 else 0) + (if x = k then 1 else 0))

/-- R18, R90, R126, R156: a write that has its slot in RUNNING: the exact directive-block write waits for the unit; one with
no piece in a DEFINED or OPEN extent goes to the media; one that needs one digest block, or two, pins the line of each, takes
one for it, or waits in the line queue, the lower block first; one that needs three is answered REFUSED with a WRITE_REFUSED
finding that names the first block of the third. That a write joins the line queue behind others though a line could be taken
(log 14), and that one that waited for its slot is judged again (log 28), are the model's choices. -/
def Obligations.WriteInRunning : Prop :=
  ∀ (s : State) (r : Request) (i : Fin 256) (exact : Bool) (c : Instr), s.ldr.part = .running → r.kind = .write →
    s.passSlot? = some i →
    ((c = .controllerRequest r none ∧ s.takesHeader = true ∧ s.formFails r = false ∧ s.mediaUp = true ∧
        s.hasRight r = true ∧ exact = s.isExact r ∧ s.judge exact r.addr r.count = .allowed) ∨
      (c = .passthroughSlotTaken none ∧ s.up.head = some ⟨r, exact, .slot true⟩)) →
    let waits := { s.up with head := some ⟨r, false, .lines i⟩ }
    let held := fun pins : List (Fin 64) => { Slot.assigned r with pins := pins }
    let refusal := fun block : Nat =>
      s.findingNow .writeRefused none none none r.requester.val (block % 2 ^ 32) (block / 2 ^ 32)
    (exact = true → ∃ t, exec c s = .next t ∧ t.up = { s.up with head := some ⟨r, true, .unit i⟩ } ∧
      t.slot i = Slot.assigned r ∧ OtherSlots s t i ∧ t.ports = s.ports ∧ t.arb = s.arb ∧ SameShelf s t ∧ t.dir = s.dir) ∧
    (exact = false → s.judge false r.addr r.count = .refused → ∃ t, exec c s = .next t ∧ t.up = { s.up with head := none } ∧
      t.slot i = Slot.freeSlot ∧ OtherSlots s t i ∧ Returned s t r.requester r.tag .refused [] ∧
      Logged s t (refusal (s.firstRefused false r.addr r.count))) ∧
    (exact = false → s.judge false r.addr r.count = .busy → ∃ t, exec c s = .next t ∧ t.up = { s.up with head := none } ∧
      t.slot i = Slot.freeSlot ∧ OtherSlots s t i ∧ t.arb = s.arb ∧ Returned s t r.requester r.tag .busy [] ∧
      Unlogged s t) ∧
    (exact = false → s.judge false r.addr r.count = .allowed →
      (s.ingestTouched r.addr r.count = [] → ∃ t, exec c s = .next t ∧ SentWith s t r i ∧ (t.slot i).contribs = [] ∧
        (t.slot i).pins = [] ∧ OtherSlots s t i ∧ t.arb = s.arb ∧ SameShelf s t ∧ Unlogged s t) ∧
      (∀ block e l, s.neededBlocks r.addr r.count = [(block, e)] → s.findLine block = some l →
        ∃ t, exec c s = .next t ∧ t.up = waits ∧ t.slot i = held [l] ∧ OtherSlots s t i ∧ t.ports = s.ports ∧
          t.arb = s.arb ∧ t.line l = { s.line l with pins := (s.line l).pins + 1 } ∧ OtherLines s t l ∧
          t.store.queue = s.store.queue) ∧
      (∀ block e v, s.neededBlocks r.addr r.count = [(block, e)] → s.findLine block = none → s.store.queue = [] →
        s.victim? = some v →
        ∃ t, exec c s = .next t ∧ t.up = waits ∧ t.slot i = held [v] ∧ OtherSlots s t i ∧ t.ports = s.ports ∧
          TakenForFill s t v block e ∧ t.store.queue = []) ∧
      (∀ block e, s.neededBlocks r.addr r.count = [(block, e)] → s.findLine block = none →
        (s.store.queue ≠ [] ∨ s.victim? = none) →
        ∃ t, exec c s = .next t ∧ t.up = waits ∧ t.slot i = held [] ∧ OtherSlots s t i ∧ t.ports = s.ports ∧
          t.store.queue = s.store.queue ++ [⟨.write, block, e, false⟩]) ∧
      (∀ b1 e1 b2 e2, s.neededBlocks r.addr r.count = [(b1, e1), (b2, e2)] → b1 ≠ b2 →
        let lined := fun (t : State) (pins : List (Fin 64)) (queue : List LineRequest) =>
          exec c s = .next t ∧ t.up = waits ∧ t.slot i = held pins ∧ OtherSlots s t i ∧ t.ports = s.ports ∧
            t.store.queue = queue
        let asks : List LineRequest := [⟨.write, b1, e1, false⟩, ⟨.write, b2, e2, false⟩]
        (∀ l k, s.findLine b1 = some l → s.findLine b2 = some k →
          ∃ t, lined t [l, k] s.store.queue ∧ t.arb = s.arb ∧
            ∀ x, (t.line x).pins = (s.line x).pins + (if x = l then 1 else 0) + (if x = k then 1 else 0)) ∧
        (∀ l v, s.findLine b1 = some l → s.findLine b2 = none → s.store.queue = [] → (s.pin l).victim? = some v →
          ∃ t, lined t [l, v] [] ∧ TakenForFill (s.pin l) t v b2 e2) ∧
        (∀ l, s.findLine b1 = some l → s.findLine b2 = none → (s.store.queue ≠ [] ∨ (s.pin l).victim? = none) →
          ∃ t, lined t [l] (s.store.queue ++ asks.drop 1) ∧ (t.line l).pins = (s.line l).pins + 1) ∧
        (∀ v k, s.findLine b1 = none → s.store.queue = [] → s.victim? = some v →
          (s.takeForFill v b1 e1).findLine b2 = some k →
          ∃ t, lined t [v, k] [] ∧ (t.line k).pins = (s.line k).pins + 1 ∧ (t.line v).tag = b1 ∧
            (t.line v).state = .filling ∧ t.arb = s.arb ++ [readOf (.fill v) b1]) ∧
        (∀ v w, s.findLine b1 = none → s.store.queue = [] → s.victim? = some v →
          (s.takeForFill v b1 e1).findLine b2 = none → (s.takeForFill v b1 e1).victim? = some w →
          ∃ t, lined t [v, w] [] ∧ TakenForFill (s.takeForFill v b1 e1) t w b2 e2 ∧ (t.line v).state = .filling ∧
            (t.line v).tag = b1) ∧
        (∀ v, s.findLine b1 = none → s.store.queue = [] → s.victim? = some v →
          (s.takeForFill v b1 e1).findLine b2 = none → (s.takeForFill v b1 e1).victim? = none →
          ∃ t, lined t [v] (asks.drop 1) ∧ (t.line v).state = .filling ∧ (t.line v).tag = b1) ∧
        (∀ k, s.findLine b1 = none → (s.store.queue ≠ [] ∨ s.victim? = none) → s.findLine b2 = some k →
          ∃ t, lined t [k] (s.store.queue ++ asks.take 1) ∧ (t.line k).pins = (s.line k).pins + 1) ∧
        (s.findLine b1 = none → s.findLine b2 = none → (s.store.queue ≠ [] ∨ s.victim? = none) →
          ∃ t, lined t [] (s.store.queue ++ asks))) ∧
      (∀ b1 b2 b3 rest, s.neededBlocks r.addr r.count = b1 :: b2 :: b3 :: rest →
        ∃ t, exec c s = .next t ∧ t.up = { s.up with head := none } ∧ t.slot i = Slot.freeSlot ∧ OtherSlots s t i ∧
          Returned s t r.requester r.tag .refused [] ∧ Logged s t (refusal (s.firstInBlock r b3.1))))

/-- R18: a controller write in RUNNING that a piece of it refuses is answered REFUSED and reaches no media, and one
WRITE_REFUSED finding, which names the requester and the first block of a refusing piece, is handed over; one that is only
busy is answered BUSY, with no finding. -/
def Obligations.ProtectedWriteStopped : Prop :=
  ∀ (s : State) (r : Request), s.takesHeader = true → s.formFails r = false → s.mediaUp = true → s.ldr.part = .running →
    r.kind = .write → s.hasRight r = true →
    (s.judge (s.isExact r) r.addr r.count = .refused →
      ∃ t, exec (.controllerRequest r none) s = .next t ∧ t.slots = s.slots ∧ SameShelf s t ∧ t.up = s.up ∧
        Returned s t r.requester r.tag .refused [] ∧
        Logged s t (s.findingNow .writeRefused none none none r.requester.val
          (s.firstRefused (s.isExact r) r.addr r.count % 2 ^ 32) (s.firstRefused (s.isExact r) r.addr r.count / 2 ^ 32))) ∧
    (s.judge (s.isExact r) r.addr r.count = .busy →
      ∃ t, exec (.controllerRequest r none) s = .next t ∧ t.slots = s.slots ∧ SameShelf s t ∧ t.up = s.up ∧
        Returned s t r.requester r.tag .busy [] ∧ Unlogged s t)

/-- R4: the pieces of a request are its blocks, in order, each once. R18: a write with one block in a digest area, in a copy
of a SEALED extent, or, not being the exact directive-block write, in the control area, is judged REFUSED whatever else it
touches. -/
def Obligations.PiecesAndProtection : Prop :=
  (∀ (s : State) (addr count : Nat), s.indexOrdered →
    (s.pieces addr count).flatMap (fun p => List.range' p.first p.len) = List.range' addr count) ∧
  ∀ (s : State) (exact : Bool) (addr count block : Nat) (q : Range), s.indexOrdered → q ∈ s.map.index →
    q.first ≤ block → block < q.stop → addr ≤ block → block < addr + count →
    ((∃ e, q.kind = .digest e) ∨ (∃ e c, q.kind = .copy e c ∧ (s.extent e).state = .sealed) ∨
      (q.kind = .control ∧ exact = false)) →
    s.judge exact addr count = .refused

/-- R127, R19: a write whose lines are all present is judged again and decided: refused, answered BUSY, or sent to the media
with its slot's number as its tag. Each frame copy of a DEFINED or OPEN extent that an allowed one touches, whose line takes
changes, is UNSEALED. R64, R66, R69: where it touches one such copy alone, the SEAL accumulator of the copy takes its run and
its digest, or is abandoned where the run overlaps or makes a ninth; without one, an accumulator is opened at the first free
traffic position, where there is one. The mend engine is idle. That a piece whose extent was defined after the wait began is
decided with the rest, its line not waited for, is the model's choice (log 64). -/
def Obligations.WriteWithItsLines : Prop :=
  ∀ (s : State) (r : Request) (exact : Bool) (i : Fin 256), s.up.head = some ⟨r, exact, .lines i⟩ → s.linesReady i = true →
    (s.judge false r.addr r.count = .allowed →
      ∃ t, exec (.writeLinesReady none) s = .next t ∧ t.up.head = none ∧
        t.ports.media = s.ports.media ++ [.request r.kind r.requester i r.addr r.count r.data] ∧
        (t.slot i).life = .outstanding ∧ (t.slot i).timer = some ⟨s.cfg.returnTimeout, 0⟩ ∧
        (∀ u ∈ s.ingestTouched r.addr r.count, ∀ l, s.mend.active = none → s.lineOf u.key.extent u.key.frame = some l →
          (s.line l).waits = false → (s.line l).state.holds = true → (s.line l).entries.length = 256 →
          u.key.frame < (s.extent u.key.extent).frames → (s.entryIn l u.key.frame).copyState u.key.copy ≠ .absent →
          (u.key.copy = .copy1 → (s.extent u.key.extent).hasReplica = true) →
          (t.entryIn l u.key.frame).copyState u.key.copy = .unsealed) ∧
        (∀ u, s.touched r.addr r.count = [u] → (s.extent u.key.extent).state.ingest = true → s.mend.active = none →
          (s.slot i).contribs = [] →
          let d := fun p => Contribution.digest (s.extent u.key.extent) ⟨p, u.first, u.start, [(u.first, u.last)], 0, 0⟩ r.data
          let joined := fun p => (⟨p, u.first, u.start, [(u.first, u.last)], (d p).1, (d p).2⟩ : Contribution)
          (∀ p a, s.findAccum .seal u.key = some p → s.accum p = some a → a.holding = [] → OtherAccums s t p ∧
            (overlapsRuns a.runs u.first u.last = true ∨ 8 < (insertRun u.first u.last a.runs).length →
              t.accum p = none ∧ (t.slot i).contribs = []) ∧
            (overlapsRuns a.runs u.first u.last = false → (insertRun u.first u.last a.runs).length ≤ 8 →
              t.accum p = some { a with runs := insertRun u.first u.last a.runs, pendingCount := a.pendingCount + 1,
                                        idle := none } ∧ (t.slot i).contribs = [joined p])) ∧
          (∀ p l, s.findAccum .seal u.key = none → s.freeTraffic? = some p → s.lineOf u.key.extent u.key.frame = some l →
            OtherAccums s t p ∧ t.accum p = some { Accum.opened .seal u.key (some l) with
              runs := [(u.first, u.last)], pendingCount := 1 } ∧ (t.slot i).contribs = [joined p] ∧
            (t.line l).pins = (s.line l).pins + 1) ∧
          (s.findAccum .seal u.key = none → s.freeTraffic? = none → t.pool = s.pool ∧ (t.slot i).contribs = []))) ∧
    (s.judge false r.addr r.count ≠ .allowed →
      ∃ t, exec (.writeLinesReady none) s = .next t ∧ t.up.head = none ∧ t.ports.media = s.ports.media ∧
        (t.slot i).life = .free ∧ ∃ u, t.ports.upstream = s.ports.upstream ++ [u] ∧ u.data = [] ∧
          u.requester = (s.slot i).requester ∧ u.tag = (s.slot i).tag ∧
          u.status = if s.judge false r.addr r.count = .busy then .busy else .refused)

/-- R95, R156, R157: the exact directive-block write that waits for the unit is sent when the unit is idle, its slot marked,
and its block becomes the batch in progress, with at most 63 records. R160: its media return is HELD with the media's status,
and does not go upstream before the batch has ended and been reported. -/
def Obligations.DirectiveBlock : Prop :=
  (∀ (s : State) (r : Request) (exact : Bool) (i : Fin 256), s.up.head = some ⟨r, exact, .unit i⟩ → s.dir.batch = none →
    ∃ t, exec (.directiveWriteProceeds none) s = .next t ∧ t.up = { s.up with head := none } ∧
      t.ports = { s.ports with media := s.ports.media ++ [.request r.kind r.requester i r.addr r.count r.data] } ∧
      (t.slot i).life = .outstanding ∧ (t.slot i).batch = true ∧ OtherSlots s t i ∧ SameShelf s t ∧ t.cfg = s.cfg ∧
      ∃ b, t.dir.batch = some b ∧ b.image = r.data ∧ b.count = min 63 (batchCount r.data) ∧
        b.clamped = decide (63 < batchCount r.data) ∧ b.label = batchLabel r.data ∧ b.results = [] ∧ b.slot = some i ∧
        b.ended = decide (batchCount r.data = 0)) ∧
  ∀ (s : State) (i : Fin 256) (status : MediaStatus) (b : Batch), s.mediaUp = true →
    (s.slot i).life = .outstanding → (s.slot i).kind = .passthrough .write → (s.slot i).batch = true →
    s.dir.batch = some b → ¬(b.ended = true ∧ b.reported = true) →
    ∃ t, exec (.passthroughMediaReturn i status [] none) s = .next t ∧ t.ports = s.ports ∧ t.dir = s.dir ∧
      t.slot i = { s.slot i with life := .held, timer := none,
                                 status := if status = .good then .good else .mediaError } ∧ OtherSlots s t i

/-! ### Returns and timers of the in-flight table -/

/-- R83, R84, R94: the media return of a passthrough request that owes nothing to an accumulator goes upstream with the
request's requester and tag, GOOD with a read's data, or MEDIA_ERROR where the return is not GOOD or a read's data is not the
request's; its slot becomes FREE. -/
def Obligations.PassthroughReturnGoesUp : Prop :=
  ∀ (s : State) (i : Fin 256) (k : ReqKind) (status : MediaStatus) (data : List Byte), s.mediaUp = true →
    (s.slot i).life = .outstanding → (s.slot i).kind = .passthrough k → (s.slot i).batch = false →
    (s.slot i).contribs = [] → (s.slot i).watches = [] → (s.slot i).held = false → s.noSealWait →
    ∃ t, exec (.passthroughMediaReturn i status data none) s = .next t ∧ (t.slot i).life = .free ∧ OtherSlots s t i ∧
      t.ports.media = s.ports.media ∧ t.arb = s.arb ∧ t.map = s.map ∧ t.pool = s.pool ∧ t.dir = s.dir ∧
      t.ports.upstream = s.ports.upstream ++
        [⟨(s.slot i).requester, (s.slot i).tag,
          if status = .good ∧ (k = .read → data.length = (s.slot i).count * 4096) then .good else .mediaError,
          if status = .good ∧ k = .read ∧ data.length = (s.slot i).count * 4096 then data else []⟩]

/-- R71 to R78, R96, R128, R19: the end of a passthrough request that contributes to one SEAL or CHECK accumulator, which
holds no return, with no walk and no mend. GOOD commits its digest: an incomplete accumulator waits on; a complete CHECK one
asks for its verdict, by which the entry changes and the return goes up, CHECK_FAILED where it failed under MARK, or is HELD
while the line is read; a complete SEAL one hands its digest to the entry. MEDIA_ERROR abandons the accumulator with a
finding, whose first detail is the first block the contribution had newly reserved (the model's reading of R72, log 35), the
return timer's expiry with none. -/
def Obligations.AccumulatorReturns : Prop :=
  ∀ (s : State) (i : Fin 256) (k : ReqKind) (data : List Byte) (c : Contribution) (a : Accum),
    (s.slot i).life = .outstanding → (s.slot i).kind = .passthrough k → (s.slot i).batch = false →
    (s.slot i).watches = [] → (s.slot i).held = false → (s.slot i).outcomes = [] → (s.slot i).contribs = [c] →
    s.accum c.pos = some a → a.holding = [] → (∀ q b, q ≠ c.pos → s.accum q = some b → i ∉ b.holding) →
    s.walk.cur = none → s.mend.active = none →
    let ext := s.extent a.key.extent
    let sums := match k with | .read => c.digest ext data | .write => (c.a, c.b)
    let a2 := a.commit ext.span s.cfg.idleTime sums.1 sums.2
    let back := match k with | .read => data | .write => []
    let named := fun kind d1 d2 d3 =>
      s.findingNow kind (some a.key.extent.val) (some a.key.frame) (some a.key.copy.num) d1 d2 d3
    (s.mediaUp = true → (k = .read → data.length = (s.slot i).count * 4096) →
      ∃ t, exec (.passthroughMediaReturn i .good data none) s = .next t ∧
      (a2.complete ext.span = false → t.accum c.pos = some a2 ∧ OtherAccums s t c.pos ∧ t.slot i = Slot.freeSlot ∧
        OtherSlots s t i ∧ Returned s t (s.slot i).requester (s.slot i).tag .good back ∧ t.arb = s.arb ∧ t.map = s.map ∧
        t.mend = s.mend ∧ Unlogged s t) ∧
      (∀ l, a2.complete ext.span = true → a.mode = .check → k = .read → s.lineOf a.key.extent a.key.frame = some l →
        (s.line l).waits = false → (s.line l).state.holds = true → ext.state ≠ .preparing → a.key.frame < ext.frames →
        (s.line l).entries.length = 256 →
        let r := (s.entryIn l a.key.frame).verdict a.key.copy a2.a a2.b
        let failed := r.2 = .failedSuspect ∨ r.2 = .failedUnchanged ∨ ∃ o, r.2 = .failedLost o
        t.accum c.pos = none ∧ OtherAccums s t c.pos ∧ t.slot i = Slot.freeSlot ∧ t.entryIn l a.key.frame = r.1 ∧
          (failed → s.policyOf a.key.extent = .mark →
            Returned s t (s.slot i).requester (s.slot i).tag .checkFailed data) ∧
          (¬failed ∨ s.policyOf a.key.extent = .pass → Returned s t (s.slot i).requester (s.slot i).tag .good data) ∧
          (r.2 = .failedSuspect → s.ldr.part = .running → Logged s t (named .frameMismatch a2.a a2.b ext.span)) ∧
          (r.2 = .passed true → s.ldr.part = .running → Logged s t (named .frameRecovered a2.a a2.b ext.span)) ∧
          (r.2 = .passed false ∨ r.2 = .failedUnchanged ∨ r.2 = .noVerdict → Unlogged s t)) ∧
      (∀ l, a2.complete ext.span = true → a.mode = .check → k = .read → s.lineOf a.key.extent a.key.frame = some l →
        (s.line l).waits = true →
        t.accum c.pos = some { a2 with holding := [i], awaiting := true, idle := none } ∧ OtherAccums s t c.pos ∧
          (t.slot i).life = .held ∧ (t.slot i).data = data ∧ (t.slot i).timer = none ∧ t.ports = s.ports ∧ Unlogged s t ∧
          (t.line l).waiting = (s.line l).waiting ++
            [⟨a.key.frame, .accum c.pos, .verdict a.key.copy a2.a a2.b⟩]) ∧
      (∀ l, a2.complete ext.span = true → a.mode = .seal → k = .write → s.lineOf a.key.extent a.key.frame = some l →
        (s.line l).waits = false → (s.line l).state.holds = true → ext.state ≠ .preparing → a.key.frame < ext.frames →
        (s.line l).entries.length = 256 →
        t.accum c.pos = none ∧ OtherAccums s t c.pos ∧ t.slot i = Slot.freeSlot ∧
          t.entryIn l a.key.frame = ((s.entryIn l a.key.frame).complete a.key.copy a2.a a2.b).1 ∧
          Returned s t (s.slot i).requester (s.slot i).tag .good [])) ∧
    (∀ status : MediaStatus, s.mediaUp = true →
      (status ≠ .good ∨ (k = .read ∧ data.length ≠ (s.slot i).count * 4096)) →
      ∃ t, exec (.passthroughMediaReturn i status data none) s = .next t ∧ t.accum c.pos = none ∧ OtherAccums s t c.pos ∧
        t.slot i = Slot.freeSlot ∧ Returned s t (s.slot i).requester (s.slot i).tag .mediaError [] ∧
        (s.ldr.part = .running → Logged s t (named .mediaError c.firstBlock a.reserved a.pendingCount))) ∧
    (∀ x, (s.slot i).timer = some x → x.length ≤ x.elapsed → (∀ b ∈ s.dir.batch, b.slot ≠ some i) →
      ∃ t, exec (.passthroughReturnTimeout i none) s = .next t ∧ t.accum c.pos = none ∧ OtherAccums s t c.pos ∧
        (t.slot i).life = .stale ∧ (t.slot i).contribs = [] ∧
        Returned s t (s.slot i).requester (s.slot i).tag .timeout [] ∧ Unlogged s t)

/-- R97: a return whose slot is not OUTSTANDING is dropped: a STALE slot becomes FREE, any other slot keeps its life state,
nothing goes upstream, and in RUNNING UNEXPECTED_RETURN is handed over with the tag and the slot's life state. That nothing is
logged in the other part states is the model's reading for SETUP, LOADING and PASSTHROUGH (log 13). -/
def Obligations.UnexpectedReturnDropped : Prop :=
  ∀ (s : State) (i : Fin 256) (status : MediaStatus), s.mediaUp = true → (s.slot i).life ≠ .outstanding →
    ∃ t, exec (.unexpectedReturn i status none) s = .next t ∧ t.ports = s.ports ∧ OtherSlots s t i ∧ SameShelf s t ∧
      t.dir = s.dir ∧ (t.slot i).life = (if (s.slot i).life = .stale then .free else (s.slot i).life) ∧
      (s.ldr.part = .running →
        ∃ f : Finding, f.kind = .unexpectedReturn ∧ f.d1 = i.val ∧ f.d3 = (s.slot i).life.code ∧ f.extent = none ∧
          f.pass = s.cfg.passNumber ∧ f.clock = s.rep.clock ∧ (∀ n, status = .other n → f.d2 = n) ∧ Logged s t f) ∧
      (s.ldr.part ≠ .running → Unlogged s t)

/-- R96: the expiry of a passthrough request's return timer sends TIMEOUT upstream and leaves the slot STALE with its timer
started again; it logs nothing. R97: a STALE slot whose timer expires becomes FREE, and nothing else changes; that a slot
which is not STALE, or whose timer is not due, is left as it was is the model's choice (logs 4 and 15). -/
def Obligations.ReturnTimeout : Prop :=
  (∀ (s : State) (i : Fin 256) (k : ReqKind) (x : Timer), (s.slot i).life = .outstanding →
    (s.slot i).kind = .passthrough k → (s.slot i).timer = some x → x.length ≤ x.elapsed → (s.slot i).contribs = [] →
    (∀ b ∈ s.dir.batch, b.slot ≠ some i) → s.noSealWait →
    ∃ t, exec (.passthroughReturnTimeout i none) s = .next t ∧ (t.slot i).life = .stale ∧
      (t.slot i).timer = some ⟨x.length, 0⟩ ∧ (t.slot i).pins = [] ∧ OtherSlots s t i ∧
      Returned s t (s.slot i).requester (s.slot i).tag .timeout [] ∧
      t.pool = s.pool ∧ t.map = s.map ∧ t.arb = s.arb ∧ Unlogged s t) ∧
  ∀ (s : State) (i : Fin 256),
    ∃ t, exec (.staleTimeout i none) s = .next t ∧ t.ports = s.ports ∧ t.up = s.up ∧ t.arb = s.arb ∧ SameShelf s t ∧
      t.dir = s.dir ∧ t.ldr = s.ldr ∧ t.cfg = s.cfg ∧ t.mediaUp = s.mediaUp ∧ Unlogged s t ∧ OtherSlots s t i ∧
      t.slot i = if (s.slot i).life = .stale ∧ timerDue (s.slot i).timer = true then Slot.freeSlot else s.slot i

/-- R98: the expiry of an injected request's return timer leaves the slot STALE and tells its owner, while the walk and the
mend of a clause are the only ones at work and no request stands at the head. R53, R55, R58, R117, R149, R150, R173, R179,
R186, R187, R189: a fill leaves its line INVALID with its pins, a refill its line as it was, a writeback its line DIRTY, each
with one TIMEOUT finding; a status or log write is to be made again; a catalogue read or blank write is tried again; a
catalogue write leaves its block CHANGED with its retry timer; a chunk of a SUSPENDING CHECK walk ends its frame copy as
skipped and the walk stops; a mend chunk in attempt 1 begins attempt 2 at COPY. An owner whose result was to be discarded does
nothing. -/
def Obligations.InjectedTimeout : Prop :=
  ∀ (s : State) (i : Fin 256) (o : Owner) (x : Timer), (s.slot i).life = .outstanding → (s.slot i).kind = .injected o →
    (s.slot i).timer = some x → x.length ≤ x.elapsed →
    let late := fun t : State => (t.slot i).life = .stale ∧ (t.slot i).timer = some ⟨x.length, 0⟩ ∧ t.ports = s.ports
    (o = .status → (s.slot i).dead = false → s.rep.statusShot.isSome = true →
      ∃ t, exec (.injectedReturnTimeout i none) s = .next t ∧ late t ∧ OtherSlots s t i ∧ t.rep.statusShot = none ∧
        t.rep.statusDue = true ∧ SameShelf s t ∧ Unlogged s t) ∧
    (o.isWalk = false → o.isMend = false → (s.slot i).dead = true →
      ∃ t, exec (.injectedReturnTimeout i none) s = .next t ∧ late t ∧ OtherSlots s t i ∧ t.arb = s.arb ∧ SameShelf s t ∧
        t.ldr = s.ldr ∧ t.dir = s.dir ∧ Unlogged s t) ∧
    ((s.slot i).dead = false → s.enginesIdle → s.dir.mendFrame = none → s.dir.flush = none → s.up.head = none →
      s.store.queue = [] →
      ∃ t, exec (.injectedReturnTimeout i none) s = .next t ∧
        (∀ l, (o = .fill l ∨ o = .refill l ∨ (o = .writeback l ∧ (s.line l).state.writes = true ∧
            (s.line l).retrigger = false)) → (s.line l).waiting = [] → late t ∧ OtherSlots s t i ∧ OtherLines s t l ∧
          (o = .fill l → (t.line l).state = .invalid ∧ (t.line l).pins = (s.line l).pins) ∧
          (o = .refill l → t.line l = { s.line l with refilling := false }) ∧
          (o = .writeback l → (t.line l).state = .dirty ∧ (t.line l).dirtyTimer = some ⟨5000, 0⟩ ∧
            (t.line l).entries = (s.line l).entries) ∧
          (s.ldr.part = .running → Logged s t (s.findingNow .timeout (some (s.line l).extent.val)
            (some ((s.extent (s.line l).extent).firstFrame (s.line l).tag)) none ((s.line l).tag % 2 ^ 32)
            ((s.line l).tag / 2 ^ 32) 0))) ∧
        (o = .log → s.rep.logShot.isSome = true → late t ∧ t.rep.logShot = none ∧ t.rep.completed = s.rep.completed ∧
          t.rep.writtenHead = s.rep.writtenHead ∧ SameShelf s t ∧ Unlogged s t) ∧
        (∀ n c, o = .catalogueRead 0 → s.ldr.load = .header n → n < 2 → s.controlBase = some c → late t ∧
          t.ldr.load = .header (n + 1) ∧ t.arb = s.arb ++ [readOf (.catalogueRead 0) (c + 34)] ∧ Unlogged s t) ∧
        (∀ b n c, o = .blankWrite b → s.ldr.load = .blank b n → n < 2 → s.controlBase = some c → late t ∧
          t.ldr.load = .blank b (n + 1) ∧ t.arb = s.arb ++ [writeOf (.blankWrite b) (c + 34 + b.val)] ∧ Unlogged s t) ∧
        (∀ b c, o = .catalogueWrite b → s.controlBase = some c → late t ∧ t.cat b = ⟨.changed, some ⟨5000, 0⟩, false⟩ ∧
          (s.ldr.part = .running → Logged s t (s.findingNow .timeout none none none ((c + 34 + b.val) % 2 ^ 32)
            ((c + 34 + b.val) / 2 ^ 32) 0)))) ∧
    (∀ (w : Walk) (k : FrameKey) (j : Nat), o = .walkChunk k j → (s.slot i).dead = false → s.walk.cur = some w →
      s.mend.active = none → w.kind = .check → w.run = .suspending → w.plan = none → s.ldr.part = .running →
      (∀ a, s.accum scrubPos = some a → a.holding = []) →
      ∃ t v, exec (.injectedReturnTimeout i none) s = .next t ∧ late t ∧ t.walk = { s.walk with cur := some v } ∧
        v.run = .suspended ∧ v.extent = w.extent ∧ v.line = none ∧ v.skipped = min 4294967295 (w.skipped + 1) ∧
        v.checked = w.checked ∧ v.mismatches = w.mismatches ∧ t.accum scrubPos = none ∧ NoneQueued t Owner.isWalk ∧
        Logged s t (s.findingNow .timeout (some w.extent.val) (some w.frame) (some w.copy.num) (256 * j)
          (match s.accum scrubPos with | some a => a.reserved | none => 0)
          (match s.accum scrubPos with | some a => a.pendingCount | none => 0))) ∧
    (∀ (m : Mend) (j : Nat), (o = .mendRead j ∨ o = .mendWrite j) → (s.slot i).dead = false → s.mend.active = some m →
      s.walk.cur = none → (m.phase = .copy ∨ m.phase = .verifyTarget) → m.attempt = 1 → s.ldr.part = .running →
      (∀ a, s.accum mendPos = some a → a.holding = []) → (∀ q, q ≠ i → (s.slot q).life = .free) → 0 < s.cfg.paceDepth →
      0 < (s.extent m.extent).span →
      ∃ t v, exec (.injectedReturnTimeout i none) s = .next t ∧ late t ∧ t.mend = { s.mend with active := some v } ∧
        v.stage = .working ∧ v.phase = .copy ∧ v.attempt = 2 ∧ v.buffer = none ∧ v.extent = m.extent ∧ v.frame = m.frame ∧
        v.target = m.target ∧ v.line = m.line ∧ t.accum mendPos = none ∧
        (⟨.mendRead 0, .read, (s.extent m.extent).blockAddr m.target.other m.frame 0, (s.extent m.extent).chunkLen 0⟩ :
          InjRequest) ∈ t.arb ∧
        Logged s t (s.findingNow .mendTimeout (some m.extent.val) (some m.frame)
          (some (match o with | .mendRead _ => m.readCopy.num | _ => m.target.num)) (256 * j) m.phase.code 1))

/-- R99 to R101: the arbiter's next grant takes the slot and goes to the media with requester 0 and the slot's number as its
tag; it leaves the queue. Its owner acts, and gives a write its data: R173, the status image with the update count raised by 1
and the mark cleared, which counts its own slot and no longer its own request (the model's reading, log 17); R57, a digest
line's image, the line WRITING if it was DIRTY; R179, the oldest completed log image or the head image; R187, R189, a
catalogue block's image, the block WRITING; R67, R115, R146, a walk's or a verifying mend's chunk reserves its run in the
engine's accumulator, opened for the frame copy where none stands, neither engine's accumulator holding a return; R148, a
mend's copy takes the buffer. Where none may be granted nothing moves. -/
def Obligations.InjectionGranted : Prop :=
  ∀ (s : State),
    (∀ (r : InjRequest) (i : Fin 256), s.nextGrant = some r → s.injSlot? = some i →
      (∀ a, s.accum scrubPos = some a → a.holding = []) → (∀ a, s.accum mendPos = some a → a.holding = []) →
      ∃ t data, exec (.injectionGrant none) s = .next t ∧
        t.ports = { s.ports with media := s.ports.media ++ [.request r.owner.kind 0 i r.addr r.count data] } ∧
        (t.slot i).life = .outstanding ∧ (t.slot i).kind = .injected r.owner ∧
        (t.slot i).timer = some ⟨s.cfg.returnTimeout, 0⟩ ∧ t.map = s.map ∧ t.cfg = s.cfg ∧ Unlogged s t ∧
        (r.owner.kind = .read → data = []) ∧
        (r.owner.isMendWrite = false → t.arb = s.arb.erase r) ∧
        (r.owner.isWalk = false → r.owner.isMend = false → OtherSlots s t i ∧ t.mend = s.mend ∧ t.pool = s.pool) ∧
        (r.owner ≠ .status → t.rep.updateCount = s.rep.updateCount) ∧
        (r.owner = .status → t.rep.updateCount = s.rep.updateCount + 1 ∧ t.rep.statusDue = false ∧
          t.rep.selectedSince = false ∧ data = t.statusImage ∧
          ∃ shot, t.rep.statusShot = some shot ∧ shot.count = s.rep.updateCount + 1 ∧
            ∀ f : EventFlag, shot.shown[f.idx] = (s.flag f).isSet) ∧
        (∀ l, r.owner = .writeback l → data = s.lineImage l ∧ OtherLines s t l ∧
          ((s.line l).state = .dirty →
            t.line l = { s.line l with state := .writing, dirtyTimer := none, cut := false }) ∧
          ((s.line l).state ≠ .dirty → t.line l = s.line l)) ∧
        (r.owner = .log → match s.rep.completed with
          | (_, fs) :: _ => data = logBlock fs ∧ t.rep.logShot = some .completed
          | [] => data = logBlock (s.rep.image.getD []) ∧ t.rep.logShot = some (.headImage s.rep.head) ∧
              t.rep.imageChanged = false) ∧
        (∀ b, r.owner = .catalogueWrite b → data = s.catalogueImage b ∧ t.cat b = ⟨.writing, none, false⟩) ∧
        (∀ b, r.owner = .blankWrite b → data = s.blankImage b ∧ t.ldr = s.ldr) ∧
        (∀ k j w, r.owner = .walkChunk k j → s.walk.cur = some w → 0 < r.count →
          t.walk = { s.walk with cur := some w.granted } ∧
          (∀ l, s.accum scrubPos = none → w.line = some l → OtherSlots s t i ∧ OtherAccums s t scrubPos ∧
            t.accum scrubPos = some { Accum.opened .scrub k (some l) with
              runs := [(256 * j, 256 * j + r.count - 1)], pendingCount := 1 } ∧
            (t.slot i).contribs = [⟨scrubPos, 256 * j, 0, [(256 * j, 256 * j + r.count - 1)], 0, 0⟩] ∧
            (t.line l).pins = (s.line l).pins + 1) ∧
          (∀ a, s.accum scrubPos = some a → a.key = k → a.mode = .scrub →
            (insertRun (256 * j) (256 * j + r.count - 1) a.runs).length ≤ 8 →
            gaps a.runs (256 * j) (256 * j + r.count - 1) ≠ [] → OtherSlots s t i ∧ OtherAccums s t scrubPos ∧
            t.accum scrubPos = some { a with runs := insertRun (256 * j) (256 * j + r.count - 1) a.runs,
                                             pendingCount := a.pendingCount + 1, idle := none })) ∧
        (∀ j m, r.owner = .mendRead j → s.mend.active = some m → 0 < r.count →
          (m.phase = .copy → t.pool = s.pool ∧ t.mend = s.mend ∧ OtherSlots s t i) ∧
          (∀ l, m.phase ≠ .copy → s.accum mendPos = none → m.line = some l → OtherSlots s t i ∧ OtherAccums s t mendPos ∧
            t.accum mendPos = some { Accum.opened .mend ⟨m.extent, m.frame, m.readCopy⟩ (some l) with
              runs := [(256 * j, 256 * j + r.count - 1)], pendingCount := 1 } ∧
            (t.slot i).contribs = [⟨mendPos, 256 * j, 0, [(256 * j, 256 * j + r.count - 1)], 0, 0⟩])) ∧
        (∀ j m n bytes, r.owner = .mendWrite j → s.mend.active = some m → m.buffer = some (n, bytes) →
          data = bytes ∧ t.pool = s.pool ∧ OtherSlots s t i ∧
            ∃ v, t.mend = { s.mend with active := some v } ∧ v.buffer = none ∧ v.stage = m.stage ∧ v.phase = m.phase ∧
              v.attempt = m.attempt)) ∧
    (s.nextGrant = none ∨ s.injSlot? = none →
      ∃ t, exec (.injectionGrant none) s = .next t ∧ SamePorts s t ∧ t.arb = s.arb ∧ SameShelf s t)

/-- R91, R92: a passthrough request may take a slot exactly while fewer than 240 slots hold passthrough requests, STALE ones
counted, and a slot is FREE; an injected one exactly while fewer than 64, and fewer than the passthrough ones leave of 256,
hold injected requests and a slot is FREE; either takes the lowest-numbered FREE slot. R99, R100, R102: what the arbiter
grants is queued and eligible, no eligible request of a lower class is queued, and none of its class before it; a walk or mend
request is granted only at or under the pace threshold and under the pace depth; and where a request is eligible one is
granted. R100, R101: with the media link up, in RUNNING and LOADING, requests of classes 1 to 3 are eligible whatever the pace
settings, so that one is granted while one of them is queued; in FAULT only the status write is; in SETUP and PASSTHROUGH, and
with the link down, none is. -/
def Obligations.SlotAndGrantChoice : Prop :=
  ∀ (s : State),
    let passes := s.slots.toList.countP fun x => x.kind.isPass && decide (x.life ≠ .free)
    let injected := s.slots.toList.countP fun x => !x.kind.isPass && decide (x.life ≠ .free)
    (∀ i : Fin 256, s.passSlot? = some i →
      (s.slot i).life = .free ∧ (∀ j, j < i → (s.slot j).life ≠ .free) ∧ passes < 240) ∧
    (s.passSlot? = none → (∀ i, (s.slot i).life ≠ .free) ∨ 240 ≤ passes) ∧
    (∀ i : Fin 256, s.injSlot? = some i →
      (s.slot i).life = .free ∧ (∀ j, j < i → (s.slot j).life ≠ .free) ∧ injected < 64) ∧
    (s.injSlot? = none → (∀ i, (s.slot i).life ≠ .free) ∨ 64 ≤ injected ∨ 256 ≤ injected + passes) ∧
    (∀ r : InjRequest, s.nextGrant = some r →
      r ∈ s.arb ∧ s.eligible r = true ∧ s.mediaUp = true ∧ (∀ q ∈ s.arb, s.eligible q = true → r.owner.cls ≤ q.owner.cls) ∧
        (∃ before after, s.arb = before ++ r :: after ∧
          ∀ q ∈ before, s.eligible q = true → q.owner.cls ≠ r.owner.cls) ∧
        (r.owner.isWalk = true → s.countSlots Slot.livePass ≤ s.cfg.paceThreshold ∧
          s.outstanding Owner.isWalk < s.cfg.paceDepth) ∧
        (r.owner.isMend = true → s.countSlots Slot.livePass ≤ s.cfg.paceThreshold ∧
          s.outstanding Owner.isMend < s.cfg.paceDepth)) ∧
    (s.nextGrant = none → ∀ q ∈ s.arb, s.eligible q = false) ∧
    (∀ q : InjRequest, s.mediaUp = true → (s.ldr.part = .running ∨ s.ldr.part = .loading) →
      (q.owner.cls ≤ 3 → s.eligible q = true ∧ (q ∈ s.arb → ∃ r, s.nextGrant = some r ∧ r.owner.cls ≤ q.owner.cls)) ∧
      (q.owner.cls = 4 → (s.eligible q = true ↔
        s.countSlots Slot.livePass ≤ s.cfg.paceThreshold ∧ s.outstanding Owner.isMend < s.cfg.paceDepth)) ∧
      (q.owner.cls = 5 → (s.eligible q = true ↔
        s.countSlots Slot.livePass ≤ s.cfg.paceThreshold ∧ s.outstanding Owner.isWalk < s.cfg.paceDepth))) ∧
    (s.mediaUp = true → s.ldr.part = .fault → ∀ q : InjRequest, s.eligible q = true → q.owner = .status) ∧
    ((s.mediaUp = false ∨ s.ldr.part = .setup ∨ s.ldr.part = .passthrough) →
      (∀ q : InjRequest, s.eligible q = false) ∧ s.nextGrant = none)

/-! ### The digest store -/

/-- R52, R55: a fill or refill that returns GOOD, on a line that is not INVALID and where no change waits: each entry that
belongs to a frame is taken, or DIGEST_LOST where it is damaged, and the rest of the line is zeros; the line is CLEAN, or
DIRTY with its dirty timer started where an entry was damaged. R53, R55: a fill that fails leaves its line INVALID with its
pins; a refill that fails leaves the line's entries as they were; either hands over one MEDIA_ERROR finding in RUNNING, which
names the extent, the first frame of the block and the block. No walk, mend or MEND_FRAME record is at work and, for a
failure, no write waits at the head of the link. -/
def Obligations.DigestReadEnds : Prop :=
  ∀ (s : State) (i : Fin 256) (l : Fin 64) (status : MediaStatus) (data : List Byte), s.enginesIdle → s.dir.mendFrame = none →
    s.mediaUp = true → (s.slot i).life = .outstanding → (s.slot i).count = 1 → (s.slot i).dead = false →
    (s.line l).waiting = [] →
    let ext := s.extent (s.line l).extent
    let n := ext.slotsOf (s.line l).tag
    let read := fun j => decodeEntry ext.hasReplica ((data.drop (16 * j)).take 16)
    ∀ c, ((s.slot i).kind = .injected (.fill l) ∧ c = Instr.digestFillReturn i status data none) ∨
        ((s.slot i).kind = .injected (.refill l) ∧ c = Instr.digestRefillReturn i status data none) →
      (status = .good → data.length = 4096 → (s.line l).state ≠ .invalid →
        ∃ t, exec c s = .next t ∧ t.ports = s.ports ∧ t.up = s.up ∧ t.slot i = Slot.freeSlot ∧ OtherSlots s t i ∧
        t.map = s.map ∧ t.pool = s.pool ∧ t.walk = s.walk ∧ t.mend = s.mend ∧ t.dir = s.dir ∧ t.cfg = s.cfg ∧
        t.ldr = s.ldr ∧ OtherLines s t l ∧
        (t.line l).tag = (s.line l).tag ∧ (t.line l).pins = (s.line l).pins ∧ (t.line l).refilling = false ∧
        (t.line l).entries.length = 256 ∧ (∀ j, n ≤ j → j < 256 → (t.line l).entry j = Entry.zero) ∧
        (∀ j, j < n → (t.line l).entry j = match read j with
          | .ok e => e
          | .error _ => Entry.digestLost ext.hasReplica) ∧
        ((∀ j, j < n → (read j).isOk = true) → (t.line l).state = .clean ∧ t.arb = s.arb ∧ Unlogged s t) ∧
        (∀ j, j < n → (read j).isOk = false → (t.line l).state = .dirty ∧ (t.line l).dirtyTimer = some ⟨5000, 0⟩ ∧
          (s.ldr.part = .running → (t.flag .finding).isSet = true ∨ (t.flag .logFull).isSet = true))) ∧
      (s.up.head = none → (status ≠ .good ∨ data.length ≠ 4096) →
        ∃ t, exec c s = .next t ∧ t.ports = s.ports ∧ t.up = s.up ∧ t.slot i = Slot.freeSlot ∧ OtherSlots s t i ∧
        t.map = s.map ∧ t.pool = s.pool ∧ t.walk = s.walk ∧ t.mend = s.mend ∧ t.dir = s.dir ∧ t.cfg = s.cfg ∧
        t.ldr = s.ldr ∧ OtherLines s t l ∧
        ((s.slot i).kind = .injected (.fill l) → (t.line l).state = .invalid ∧ (t.line l).pins = (s.line l).pins) ∧
        ((s.slot i).kind = .injected (.refill l) → t.line l = { s.line l with refilling := false }) ∧
        (s.ldr.part = .running → Logged s t (s.findingNow .mediaError (some (s.line l).extent.val)
          (some (ext.firstFrame (s.line l).tag)) none ((s.line l).tag % 2 ^ 32) ((s.line l).tag / 2 ^ 32) 0)))

/-- R57, R58: the end of a writeback, with no flush in progress, no walk and nothing in the line queue: GOOD leaves a WRITING
line CLEAN and a WRITING_REDIRTIED one DIRTY with its timer started, queued again at once where a trigger came during the
write; a failure leaves a line that was being written DIRTY with its timer started and hands over one MEDIA_ERROR finding in
RUNNING, which names the extent, the first frame of the block and the block. The entries are kept. -/
def Obligations.WritebackReturns : Prop :=
  ∀ (s : State) (i : Fin 256) (l : Fin 64) (status : MediaStatus), s.walk.cur = none → s.dir.flush = none →
    s.store.queue = [] → s.mediaUp = true → (s.slot i).life = .outstanding → (s.slot i).kind = .injected (.writeback l) →
    (s.slot i).dead = false →
    ∃ t, exec (.digestWritebackReturn i status none) s = .next t ∧ t.ports = s.ports ∧ t.up = s.up ∧
      t.slot i = Slot.freeSlot ∧ OtherSlots s t i ∧ t.map = s.map ∧ t.pool = s.pool ∧ t.walk = s.walk ∧ t.mend = s.mend ∧
      t.dir = s.dir ∧ t.cfg = s.cfg ∧ t.ldr = s.ldr ∧ (∀ k, k ≠ l → t.line k = s.line k) ∧
      (t.line l).tag = (s.line l).tag ∧ (t.line l).entries = (s.line l).entries ∧ (t.line l).pins = (s.line l).pins ∧
      (status = .good → (s.line l).state = .writing →
        (t.line l).state = .clean ∧ (t.line l).dirtyTimer = none ∧ t.arb = s.arb ∧ t.rep.flags = s.rep.flags) ∧
      (status = .good → (s.line l).state = .writingRedirtied →
        (t.line l).state = .dirty ∧ (t.line l).dirtyTimer = some ⟨5000, 0⟩ ∧ t.rep.flags = s.rep.flags ∧
          ((s.line l).retrigger = true → t.queued (.writeback l) = true) ∧
          ((s.line l).retrigger = false → t.arb = s.arb)) ∧
      (status ≠ .good → (s.line l).state.writes = true →
        (t.line l).state = .dirty ∧ (t.line l).dirtyTimer = some ⟨5000, 0⟩ ∧
          ((s.line l).retrigger = true → t.queued (.writeback l) = true) ∧
          (s.ldr.part = .running → Logged s t (s.findingNow .mediaError (some (s.line l).extent.val)
            (some ((s.extent (s.line l).extent).firstFrame (s.line l).tag)) none ((s.line l).tag % 2 ^ 32)
            ((s.line l).tag / 2 ^ 32) 0)))

/-- R56, R123, R173, R189: what the expiry of a dirty timer, a catalogue block's retry timer, the status timer and the rest
timer does; the rest timer is stated while a walk is current. R183: at a millisecond the part clock rises by 1 and every
running timer is a millisecond older, and nothing else changes. That an expiry command whose timer is not due does nothing,
and that the tick advances the timers, is the model's choice (logs 4 and 15). -/
def Obligations.TimersExpire : Prop :=
  ∀ (s : State),
    (∀ l, (timerDue (s.line l).dirtyTimer = false → exec (.dirtyTimerExpiry l none) s = .next s) ∧
      (timerDue (s.line l).dirtyTimer = true → ∃ t, exec (.dirtyTimerExpiry l none) s = .next t ∧ SamePorts s t ∧
        t.line l = { s.line l with dirtyTimer := none } ∧ (∀ k, k ≠ l → t.line k = s.line k) ∧ t.map = s.map ∧
        t.pool = s.pool ∧ t.walk = s.walk ∧ t.mend = s.mend ∧ t.dir = s.dir ∧ t.rep = s.rep ∧ t.ldr = s.ldr ∧
        t.cfg = s.cfg ∧
        t.arb = if s.queued (.writeback l) = true then s.arb else s.arb ++ [writeOf (.writeback l) (s.line l).tag])) ∧
    (∀ b c, s.controlBase = some c → (timerDue (s.cat b).retry = false → exec (.catalogueRetryExpiry b) s = .next s) ∧
      (timerDue (s.cat b).retry = true → ∃ t, exec (.catalogueRetryExpiry b) s = .next t ∧ SamePorts s t ∧
        SameShelf s t ∧ t.cat b = { s.cat b with retry := none } ∧ (∀ k, k ≠ b → t.cat k = s.cat k) ∧ t.dir = s.dir ∧
        t.rep = s.rep ∧ t.cfg = s.cfg ∧ t.ldr.part = s.ldr.part ∧
        t.arb = if s.queued (.catalogueWrite b) = true then s.arb
          else s.arb ++ [writeOf (.catalogueWrite b) (c + 34 + b.val)])) ∧
    ((timerDue s.rep.statusTimer = false → exec .statusTimerExpiry s = .next s) ∧
      (timerDue s.rep.statusTimer = true → ∃ t, exec .statusTimerExpiry s = .next t ∧ SamePorts s t ∧ SameShelf s t ∧
        t.dir = s.dir ∧ t.ldr = s.ldr ∧ t.cfg = s.cfg ∧ t.rep.statusTimer = some ⟨1000, 0⟩ ∧ t.rep.statusDue = true ∧
        t.rep.flags = s.rep.flags ∧ t.rep.head = s.rep.head ∧ t.rep.updateCount = s.rep.updateCount ∧
        (s.ldr.part = .running → s.controlBase.isSome = true → s.rep.statusShot = none →
          t.queued .status = true))) ∧
    ((timerDue s.walk.restTimer = false → exec (.restTimerExpiry none) s = .next s) ∧
      (timerDue s.walk.restTimer = true → s.walk.cur.isSome = true → ∃ t, exec (.restTimerExpiry none) s = .next t ∧
        SamePorts s t ∧ t.arb = s.arb ∧ t.map = s.map ∧ t.pool = s.pool ∧ t.store = s.store ∧ t.mend = s.mend ∧
        t.dir = s.dir ∧ t.ldr = s.ldr ∧ t.cfg = s.cfg ∧
        t.walk = { s.walk with restTimer := none, passDue := true })) ∧
    ∃ t, exec .partClockTick s = .next t ∧ t.rep.clock = s.rep.clock + 1 ∧
    (∀ i, t.slot i = { s.slot i with timer := (s.slot i).timer.map fun x => ⟨x.length, x.elapsed + 1⟩ }) ∧
    (∀ p, t.accum p = (s.accum p).map fun a => { a with idle := a.idle.map fun x => ⟨x.length, x.elapsed + 1⟩ }) ∧
    (∀ l, t.line l = { s.line l with dirtyTimer := (s.line l).dirtyTimer.map fun x => ⟨x.length, x.elapsed + 1⟩ }) ∧
    (∀ b, t.cat b = { s.cat b with retry := (s.cat b).retry.map fun x => ⟨x.length, x.elapsed + 1⟩ }) ∧
    t.walk = { s.walk with restTimer := s.walk.restTimer.map fun x => ⟨x.length, x.elapsed + 1⟩ } ∧
    t.rep = { s.rep with clock := s.rep.clock + 1,
                         statusTimer := s.rep.statusTimer.map fun x => ⟨x.length, x.elapsed + 1⟩ } ∧
    t.store = { s.store with lines := t.store.lines } ∧
    t.ldr = { s.ldr with eeprom := s.ldr.eeprom.map fun x => ⟨x.length, x.elapsed + 1⟩, cats := t.ldr.cats } ∧
    t.pending = s.pending ∧ t.ports = s.ports ∧ t.up = s.up ∧ t.mediaUp = s.mediaUp ∧
    t.arb = s.arb ∧ t.map = s.map ∧ t.mend = s.mend ∧ t.dir = s.dir ∧ t.cfg = s.cfg

/-- R48, R49: a free line goes to the oldest request of the line queue. It is the least recent takeable line, which becomes
FILLING with one pin, the requester's, and a fill queued; where another line holds the block by now a write's pin is taken
there. R53, R114, R119, R142, R144: a write's slot holds the pin; a FULL walk waits for the fill, and an AUDIT walk's
verification is in flight; a mend, and a MEND_FRAME record, wait for the fill. With an empty queue or no takeable line nothing
happens. That of several free lines it is the least recent is the model's choice (log 58). -/
def Obligations.LineQueueGranted : Prop :=
  ∀ (s : State),
    (∀ (tag : Nat) (e : Fin 1024) (rest : List LineRequest) (v : Fin 64) (q : Request) (i : Fin 256),
      s.store.queue = ⟨.write, tag, e, false⟩ :: rest → s.victim? = some v → s.up.head = some ⟨q, false, .lines i⟩ →
      ∃ t, exec (.lineQueueGrant none) s = .next t ∧ t.store.queue = rest ∧ t.ports = s.ports ∧ t.up = s.up ∧
        OtherSlots s t i ∧ t.map = s.map ∧ t.pool = s.pool ∧ t.walk = s.walk ∧ t.mend = s.mend ∧ t.dir = s.dir ∧
        t.ldr = s.ldr ∧ t.cfg = s.cfg ∧
        match s.findLine tag with
        | some l => t.line l = { s.line l with pins := (s.line l).pins + 1 } ∧ OtherLines s t l ∧ t.arb = s.arb ∧
            t.slot i = { s.slot i with pins := (s.slot i).pins ++ [l] }
        | none => TakenForFill s t v tag e ∧ t.slot i = { s.slot i with pins := (s.slot i).pins ++ [v] }) ∧
    (∀ (user : LineUser) (tag : Nat) (e : Fin 1024) (rest : List LineRequest) (v : Fin 64),
      s.store.queue = ⟨user, tag, e, false⟩ :: rest → s.victim? = some v → s.findLine tag = none →
      ∃ t, exec (.lineQueueGrant none) s = .next t ∧
        (∀ w, user = .walk → s.walk.cur = some w → w.run = .running → w.atUnit s → w.extent = e →
          (s.extent e).digestBlock w.frame = tag → TakenForFill s t v tag e ∧ t.store.queue = rest ∧ SamePorts s t ∧
          t.map = s.map ∧ t.pool = s.pool ∧ t.mend = s.mend ∧ t.dir = s.dir ∧ Unlogged s t ∧
          (w.depth = .full → t.walk = { s.walk with cur := some { w with line := some v, stage := .waitFill } }) ∧
          (w.depth = .audit →
            t.walk = { s.walk with cur := some { w with line := some v, stage := .auditing, inFlight := true } })) ∧
        (∀ m, user = .mend → s.mend.active = some m → TakenForFill s t v tag e ∧ t.store.queue = rest ∧ SamePorts s t ∧
          t.map = s.map ∧ t.pool = s.pool ∧ t.walk = s.walk ∧ t.dir = s.dir ∧ Unlogged s t ∧
          t.mend = { s.mend with active := some { m with line := some v, stage := .lineFill } }) ∧
        (∀ q, user = .mendFrame → s.dir.mendFrame = some q → TakenForFill s t v tag e ∧ t.store.queue = rest ∧
          SamePorts s t ∧ t.map = s.map ∧ t.pool = s.pool ∧ t.walk = s.walk ∧ t.mend = s.mend ∧ Unlogged s t ∧
          t.dir = { s.dir with mendFrame := some { q with line := some v, wait := .fill } })) ∧
    (s.store.queue = [] ∨ s.victim? = none →
      ∃ t, exec (.lineQueueGrant none) s = .next t ∧ SamePorts s t ∧ t.arb = s.arb ∧ SameShelf s t)

/-- R43, R44: a mismatch and a match on copy c, by the state of c and of the other copy, in one table: the entry after and the
store's answer. No field of the entry but the copy states changes. -/
def Obligations.MatchAndMismatch : Prop :=
  ∀ (e : Entry) (c : CopyId),
    let own := e.copyState c
    let o := e.copyState c.other
    (own = .sealed → o ≠ .suspect → o ≠ .lost → e.mismatch c = (e.setCopy c .suspect, .failedSuspect)) ∧
    ((own = .sealed ∨ own = .suspect) → (o = .suspect ∨ o = .lost) →
      e.mismatch c = ({ e with copy0 := .lost, copy1 := .lost }, .failedLost o)) ∧
    (own = .suspect → o ≠ .suspect → o ≠ .lost → e.mismatch c = (e, .failedUnchanged)) ∧
    (own ≠ .sealed → own ≠ .suspect → e.mismatch c = (e, .notApplied) ∧ e.matched c = (e, .notApplied)) ∧
    (own = .suspect → e.matched c = (e.setCopy c .sealed, .passed true)) ∧
    (own = .sealed → e.matched c = (e, .passed false)) ∧
    (e.setCopy c .suspect).copyState c.other = o ∧ (e.setCopy c .sealed).copyState c.other = o

/-- R35, R38, R41: every digest entry that may stand on the media decodes, from the 16 bytes that encode it, to itself. -/
def Obligations.EntryRoundTrip : Prop :=
  ∀ (hasReplica : Bool) (e : Entry), e.a < 2147483647 → e.b < 2147483647 → e.lastPass < 2 ^ 32 → e.copy0 ≠ .absent →
    (e.copy1 = .absent ↔ hasReplica = false) → e.encode.length = 16 ∧ decodeEntry hasReplica e.encode = .ok e

/-! ### Digests and checks -/

/-- R36: the computed check of an all-zero record is 1 and its stored one 0, so that it fails; and in a record of up to 256
guarded bytes that passes, a change of one guarded byte makes the check fail. -/
def Obligations.CheckCatchesOneByte : Prop :=
  (∀ n, weightedCheck (zeros n) = 1 ∧ checkPasses n (zeros (n + 2)) = false) ∧
    (∀ (bytes : List Byte) (n k : Nat) (b : Byte), n ≤ 256 → bytes.length = n + 2 → k < n → bytes[k]? ≠ some b →
      checkPasses n bytes = true → checkPasses n (bytes.set k b) = false)

/-- R25, R30: the partial digests of two runs of blocks that follow each other combine to that of both; combination takes them
in either order; bytes of a frame's last block from the tail on do not count. -/
def Obligations.DigestOfParts : Prop :=
  (∀ (e : Extent) (data : List Byte) (n m k i : Nat),
    runDigest e data (n + m) k i = combine (runDigest e data n k i) (runDigest e data m (k + n) (i + n))) ∧
  (∀ x y z, combine x y = combine y x ∧ combine (combine x y) z = combine x (combine y z)) ∧
  (∀ (e : Extent) (block rest : List Byte), 1 ≤ e.span → e.tail ≤ 4096 → block.length = 4096 →
    rest.length = 4096 - e.tail →
    blockDigest e (e.span - 1) (block.take e.tail ++ rest) = blockDigest e (e.span - 1) block)

/-! ### Accumulators, walks, mends -/

/-- R79, R80: the idle timer of an accumulator that holds no return expires: its position is free, contributions to it are
gone, its line's pin is released, nothing is logged. That an expiry command whose timer is not due does nothing is the model's
choice (logs 4 and 15). -/
def Obligations.IdleTimerAbandons : Prop :=
  ∀ (s : State) (p : Fin 32) (a : Accum), s.accum p = some a → a.holding = [] →
    (timerDue a.idle = false → exec (.idleTimerExpiry p none) s = .next s) ∧
    (timerDue a.idle = true →
      ∃ t, exec (.idleTimerExpiry p none) s = .next t ∧ t.accum p = none ∧ (∀ q, q ≠ p → t.accum q = s.accum q) ∧
        (∀ i, t.slot i = (s.slot i).dropAccum p) ∧
        (∀ l, (t.line l).pins = (s.line l).pins - (if a.line = some l then 1 else 0) ∧
          (t.line l).entries = (s.line l).entries ∧ (t.line l).state = (s.line l).state) ∧
        t.ports = s.ports ∧ t.up = s.up ∧ t.arb = s.arb ∧ t.map = s.map ∧ t.walk = s.walk ∧ t.mend = s.mend ∧
        t.dir = s.dir ∧ t.rep = s.rep ∧ t.ldr = s.ldr ∧ t.cfg = s.cfg)

/-- R71, R115: a walk chunk that returns GOOD while others are pending is committed: its partial digest joins the sums of the
SCRUB accumulator, whose pending count falls by one, and the walk stays at its frame copy. R73, R116: the chunk that completes
the accumulator of a SUSPENDING CHECK walk, or FULL PASS walk before the last frame of its extent, gives the verdict on the
entry a line holds: entry, findings, counts and, in a pass, the stamp, as the store's answer says. R117: a chunk of it that
returns MEDIA_ERROR, or GOOD without its data (R83), abandons the accumulator, takes a SEALED copy to SUSPECT and counts the
copy as skipped, with one finding. R110, R114: either way the walk then stops, its cursor at the next frame copy. -/
def Obligations.WalkChunkCommitted : Prop :=
  (∀ (s : State) (i : Fin 256) (k : FrameKey) (j : Nat) (data : List Byte) (w : Walk) (x : Accum) (c : Contribution),
    s.walk.cur = some w → s.accum 30 = some x → x.mode = .scrub → 1 < x.pendingCount → s.mediaUp = true →
    (s.slot i).life = .outstanding → (s.slot i).kind = .injected (.walkChunk k j) → (s.slot i).dead = false →
    (s.slot i).contribs = [c] → c.pos = 30 → data.length = (s.slot i).count * 4096 →
    ∃ t w2, exec (.walkChunkReturn i .good data none) s = .next t ∧ t.slot i = Slot.freeSlot ∧ OtherSlots s t i ∧
      t.accum 30 = some { x with
        a := (combine (x.a, x.b) (c.digest (s.extent x.key.extent) data)).1
        b := (combine (x.a, x.b) (c.digest (s.extent x.key.extent) data)).2
        pendingCount := x.pendingCount - 1 } ∧
      (∀ q, q ≠ 30 → t.accum q = s.accum q) ∧ t.walk.cur = some w2 ∧ w2.frame = w.frame ∧ w2.copy = w.copy ∧
      w2.extent = w.extent ∧ w2.run = w.run ∧ w2.checked = w.checked ∧ w2.mismatches = w.mismatches ∧
      w2.skipped = w.skipped ∧ s.arb <+: t.arb ∧ t.ports = s.ports ∧ t.up = s.up ∧ t.map = s.map ∧ t.store = s.store ∧
      t.mend = s.mend ∧ t.dir = s.dir ∧ t.ldr = s.ldr ∧ t.cfg = s.cfg ∧ t.rep.head = s.rep.head ∧
      t.rep.flags = s.rep.flags) ∧
  ∀ (s : State) (i : Fin 256) (j : Nat) (w : Walk) (x : Accum) (l : Fin 64), s.walk.cur = some w → s.mend.active = none →
    s.ldr.part = .running → s.mediaUp = true → w.run = .suspending → w.plan = none → w.past = false → w.frame ≤ w.last →
    (w.kind = .check ∨ (w.kind = .pass ∧ w.depth = .full ∧ w.frame < w.last)) →
    (s.slot i).life = .outstanding → (s.slot i).kind = .injected (.walkChunk w.key j) → (s.slot i).dead = false →
    s.accum 30 = some x → x.mode = .scrub → x.key = w.key → x.holding = [] →
    s.lineOf w.extent w.frame = some l → (s.line l).waits = false → (s.line l).state.holds = true →
    (s.line l).entries.length = 256 → (s.extent w.extent).state ≠ .preparing → w.frame < (s.extent w.extent).frames →
    (w.copy = .copy1 → (s.extent w.extent).hasReplica = true) →
    let ext := s.extent w.extent
    let e := s.entryIn l w.frame
    let found := fun kind d1 d2 d3 => s.findingNow kind (some w.extent.val) (some w.frame) (some w.copy.num) d1 d2 d3
    let stopped := fun (t : State) (after : Entry) (checked mismatches skipped : Nat) =>
      ∃ v, t.walk = { s.walk with cur := some v } ∧ v.run = .suspended ∧ v.line = none ∧ v.extent = w.extent ∧
        (v.frame, v.copy) = (if w.copy = .copy0 ∧ ext.hasReplica = true then (w.frame, CopyId.copy1)
          else (w.frame + 1, CopyId.copy0)) ∧
        v.checked = min 4294967295 (w.checked + checked) ∧ v.mismatches = min 4294967295 (w.mismatches + mismatches) ∧
        v.skipped = min 4294967295 (w.skipped + skipped) ∧ t.entryIn l w.frame = after
    let frame := fun t : State => t.slot i = Slot.freeSlot ∧ (∀ q, q ≠ i → (t.slot q).life = (s.slot q).life) ∧
      t.accum 30 = none ∧ OtherAccums s t 30 ∧ NoneQueued t Owner.isWalk ∧ t.ports = s.ports ∧ t.up = s.up ∧
      t.map = s.map ∧ t.dir = s.dir ∧ t.ldr = s.ldr ∧ t.cfg = s.cfg ∧
      ∀ k, k ≠ l → (t.line k).entries = (s.line k).entries ∧ (t.line k).state = (s.line k).state
    (∀ (data : List Byte) (c : Contribution), data.length = (s.slot i).count * 4096 → (s.slot i).contribs = [c] →
      c.pos = 30 →
      let x2 := x.commit ext.span s.cfg.idleTime (c.digest ext data).1 (c.digest ext data).2
      let own := e.copyState w.copy
      let bad := e.copyState w.copy.other = .suspect ∨ e.copyState w.copy.other = .lost
      let stamped := fun a : Entry => if w.kind = .pass then { a with lastPass := s.cfg.passNumber } else a
      x2.complete ext.span = true →
      ∃ t, exec (.walkChunkReturn i .good data none) s = .next t ∧ frame t ∧
        (own = .sealed → e.equal x2.a x2.b = true → stopped t (stamped e) 1 0 0 ∧ Unlogged s t) ∧
        (own = .suspect → e.equal x2.a x2.b = true → stopped t (stamped (e.setCopy w.copy .sealed)) 1 0 0 ∧
          Logged s t (found .frameRecovered x2.a x2.b ext.span)) ∧
        (own = .sealed → e.equal x2.a x2.b = false → ¬bad → stopped t (e.setCopy w.copy .suspect) 1 1 0 ∧
          Logged s t (found .frameMismatch x2.a x2.b ext.span)) ∧
        (own = .suspect → e.equal x2.a x2.b = false → ¬bad → stopped t e 1 1 0 ∧ Unlogged s t) ∧
        ((own = .sealed ∨ own = .suspect) → e.equal x2.a x2.b = false → bad → stopped t e.bothLost 1 1 0 ∧
          LoggedBoth s t (found .frameLost x2.a x2.b (e.copyState w.copy.other).code)
            (found .frameMismatch x2.a x2.b ext.span)) ∧
        (own ≠ .sealed → own ≠ .suspect → stopped t e 0 0 0 ∧ Unlogged s t)) ∧
    ∀ (status : MediaStatus) (data : List Byte), (status ≠ .good ∨ data.length ≠ (s.slot i).count * 4096) →
      ∃ t, exec (.walkChunkReturn i status data none) s = .next t ∧ frame t ∧
        stopped t (if e.copyState w.copy = .sealed then e.setCopy w.copy .suspect else e) 0 0 1 ∧
        Logged s t (found .mediaError (256 * j) x.reserved x.pendingCount)

/-- R109, R164, R120: CHECK_EXTENT and START_PASS over a RUNNING walk that has a unit in flight: STARTED; the current walk
goes to SAVING and the new one is incoming, with the range and depth the record gives. A new pass raises the pass number,
stops the rest timer and clears the pass-due mark. With two saved walks both are BUSY and nothing starts. -/
def Obligations.WalksStart : Prop :=
  ∀ (s : State) (w : Walk), s.walk.cur = some w → w.run = .running → w.inFlight = true → w.stage ≠ .ready →
    s.walk.incoming = none →
    (∀ (n : Fin 1024) (first last code : Nat) (d : Option Depth), s.executes (.checkExtent n.val first last code none) →
      (s.extent n).state = .sealed → first ≤ last → last < (s.extent n).frames → depthOverrideOfCode code = some d →
      ∃ t, exec (.checkExtent n.val first last code none) s = .next t ∧ SamePorts s t ∧ t.map = s.map ∧ t.pool = s.pool ∧
        t.store = s.store ∧ t.mend = s.mend ∧ t.cfg = s.cfg ∧ t.ldr = s.ldr ∧
        (s.walk.saved.length < 2 → Gained s t .started ∧ t.walk =
          { s.walk with cur := some { w with run := .saving },
                        incoming := some (Walk.create .check none n first last (d.getD s.cfg.depth)) }) ∧
        (2 ≤ s.walk.saved.length → Gained s t .busy ∧ t.walk = s.walk)) ∧
    (∀ (code : Nat) (d : Option Depth), s.executes (.startPass code none) → depthOverrideOfCode code = some d →
      w.kind ≠ .pass → (∀ v ∈ s.walk.saved, v.kind ≠ .pass) →
      ∃ t, exec (.startPass code none) s = .next t ∧ SamePorts s t ∧ t.map = s.map ∧ t.pool = s.pool ∧ t.store = s.store ∧
        t.mend = s.mend ∧ t.ldr.part = s.ldr.part ∧
        (s.walk.saved.length < 2 → Gained s t .started ∧
          t.cfg = { s.cfg with
            passNumber := if s.cfg.passNumber = 4294967295 then 1 else s.cfg.passNumber + 1 } ∧
          t.walk = { cur := some { w with run := .saving }
                     incoming := some (Walk.create .pass none 0 0 0 (d.getD s.cfg.depth))
                     saved := s.walk.saved
                     restTimer := none
                     passDue := false }) ∧
        (2 ≤ s.walk.saved.length → Gained s t .busy ∧ t.walk = s.walk ∧ t.cfg = s.cfg))

/-- R11, R13, R109, R137, R163: DEFINE_EXTENT, SEAL_EXTENT and RESEAL_FRAME past their checks, over a RUNNING walk that has a
unit in flight and at most one saved walk: STARTED; the extent's record takes its new state, a defined extent's ranges join
the index, and the PREPARE or SEAL walk is incoming. R10, R11, R13, R163: their refusals, the first failing condition
deciding, which leave map, walks and settings as they were; and the geometry conditions of R10. -/
def Obligations.ExtentWalksStart : Prop :=
  (∀ (s : State) (w : Walk) (n : Fin 1024), s.walk.cur = some w → w.run = .running → w.inFlight = true →
    w.stage ≠ .ready → s.walk.saved.length < 2 →
    (∀ (cls mode policy base0 replica span frames tail mask digestBase : Nat) (e : Extent),
      s.executes (.defineExtent n.val cls mode policy base0 replica span frames tail mask digestBase none) →
      geometry s.capacity cls mode policy base0 replica span frames tail mask digestBase = some e →
      overlapFree s.map.index (e.ranges n) = true → (s.extent n).state = .free →
      ∃ t, exec (.defineExtent n.val cls mode policy base0 replica span frames tail mask digestBase none) s = .next t ∧
        SamePorts s t ∧ Gained s t .started ∧ t.extent n = e ∧ e.state = .preparing ∧
        (∀ k, k ≠ n → t.extent k = s.extent k) ∧ t.map.index = joinIndex s.map.index (e.ranges n) ∧
        t.walk = { s.walk with cur := some { w with run := .saving },
                               incoming := some (Walk.create .prepare none n 0 (frames - 1) .full) } ∧
        t.store = s.store ∧ t.pool = s.pool ∧ t.mend = s.mend ∧ t.cfg = s.cfg) ∧
    (s.executes (.sealExtent n.val none) → ((s.extent n).state = .defined ∨ (s.extent n).state = .opened) →
      ∃ t, exec (.sealExtent n.val none) s = .next t ∧ SamePorts s t ∧ Gained s t .started ∧
        t.extent n = { s.extent n with state := .sealing } ∧ (∀ k, k ≠ n → t.extent k = s.extent k) ∧
        t.map.index = s.map.index ∧
        t.walk = { s.walk with cur := some { w with run := .saving },
                               incoming := some (Walk.create .seal none n 0 ((s.extent n).frames - 1) .full) } ∧
        t.store = s.store ∧ t.pool = s.pool ∧ t.mend = s.mend ∧ t.cfg = s.cfg) ∧
    (∀ (frame source : Nat) (c : CopyId), s.executes (.resealFrame n.val frame source none) → CopyId.ofNum source = some c →
      (s.extent n).state = .sealed → frame < (s.extent n).frames →
      (c = .copy1 → (s.extent n).hasReplica = true) →
      ∃ t, exec (.resealFrame n.val frame source none) s = .next t ∧ SamePorts s t ∧ t.map = s.map ∧ t.store = s.store ∧
        t.pool = s.pool ∧ t.mend = s.mend ∧ t.cfg = s.cfg ∧
        (s.dir.freeze = true → Gained s t .refusedFrozen ∧ t.walk = s.walk) ∧
        (s.dir.freeze = false → Gained s t .started ∧
          t.walk = { s.walk with cur := some { w with run := .saving },
                                 incoming := some (Walk.create .seal (some c) n frame frame .full) }))) ∧
  (∀ s : State,
    let refused := fun (c : Instr) (r : Result) => ∃ t, exec c s = .next t ∧ Gained s t r ∧ SamePorts s t ∧ SameShelf s t ∧
      t.cfg = s.cfg ∧ t.ldr = s.ldr
    let busy := ∃ w, s.walk.cur = some w ∧ (w.run = .saving ∨ w.run = .suspending ∨ 2 ≤ s.walk.saved.length)
    (∀ (extent cls mode policy base0 replica span frames tail mask digestBase : Nat) (c : Instr),
      c = .defineExtent extent cls mode policy base0 replica span frames tail mask digestBase none → s.executes c →
      let geo := geometry s.capacity cls mode policy base0 replica span frames tail mask digestBase
      (1024 ≤ extent ∨ geo = none → refused c .refusedRange) ∧
      (∀ (n : Fin 1024) (e : Extent), extent = n.val → geo = some e →
        (overlapFree s.map.index (e.ranges n) = false → refused c .refusedOverlap) ∧
        (overlapFree s.map.index (e.ranges n) = true → (s.extent n).state ≠ .free → refused c .refusedState) ∧
        (overlapFree s.map.index (e.ranges n) = true → (s.extent n).state = .free → busy → refused c .busy))) ∧
    (∀ extent, s.executes (.sealExtent extent none) →
      (1024 ≤ extent → refused (.sealExtent extent none) .refusedRange) ∧
      (∀ n : Fin 1024, extent = n.val →
        ((s.extent n).state ≠ .defined → (s.extent n).state ≠ .opened → refused (.sealExtent extent none) .refusedState) ∧
        ((s.extent n).state = .defined ∨ (s.extent n).state = .opened → busy →
          refused (.sealExtent extent none) .busy))) ∧
    (∀ (extent frame source : Nat) (c : Instr), c = .resealFrame extent frame source none → s.executes c →
      (1024 ≤ extent ∨ 2 ≤ source → refused c .refusedRange) ∧
      (∀ n : Fin 1024, extent = n.val → source < 2 →
        ((s.extent n).state ≠ .sealed → refused c .refusedState) ∧
        ((s.extent n).state = .sealed → (s.extent n).frames ≤ frame → refused c .refusedRange) ∧
        ((s.extent n).state = .sealed → frame < (s.extent n).frames →
          (source = 1 → (s.extent n).hasReplica = false → refused c .refusedState) ∧
          (source = 0 ∨ (s.extent n).hasReplica = true → (s.dir.freeze = true → refused c .refusedFrozen) ∧
            (s.dir.freeze = false → busy → refused c .busy)))))) ∧
  ∀ capacity cls mode policy base0 replica span frames tail mask digestBase : Nat,
    (geometry capacity cls mode policy base0 replica span frames tail mask digestBase).isSome = true ↔
      cls ≤ 1 ∧ mode ≤ 1 ∧ policy ≤ 2 ∧ 1 ≤ span ∧ span ≤ 65536 ∧ 1 ≤ frames ∧ frames ≤ 16777216 ∧ 1 ≤ tail ∧
        tail ≤ 4096 ∧ mask ≠ 4294967295 ∧ base0 + span * frames ≤ capacity ∧
        (replica = 1099511627775 ∨ replica + span * frames ≤ capacity) ∧ digestBase + (frames + 255) / 256 ≤ capacity

/-- R110, R112: SUSPEND_WALK and RESUME_WALK by the run state of the current walk. A SUSPENDED walk that resumes is RUNNING
and fetches its next unit again (R114): a FULL one with a frame copy to reread, whose entry a line holds, begins to read it;
one whose digest block is in no line waits for its fill; a CHECK walk past its last unit ends (R111, R124). R118, R137: a CHECK
or accept-mode SEAL walk whose extent is not, or was not throughout, in the state it requires skips the rest and ends with its
finding, the CHECK walk incomplete. Saved walks are not reached. That a walk with no unit in flight stops at once, its queued
requests and its pin gone (log 38), and the mark by which a change in between is found (log 52), are the model's readings. -/
def Obligations.SuspendAndResume : Prop :=
  ∀ (s : State),
    (s.executes (.suspendWalk none) → ∃ t, exec (.suspendWalk none) s = .next t ∧ t.ports = s.ports ∧ t.up = s.up ∧ t.map = s.map ∧
      t.pool = s.pool ∧ t.mend = s.mend ∧ t.cfg = s.cfg ∧ t.ldr = s.ldr ∧ t.walk.saved = s.walk.saved ∧
      t.walk.incoming = s.walk.incoming ∧
      match s.walk.cur with
      | none => Gained s t .refusedState ∧ t.walk = s.walk
      | some w => match w.run with
        | .running => Gained s t .done ∧
            (w.inFlight = true → t.walk.cur = some { w with run := .suspending }) ∧
            (w.inFlight = false → ∃ v, t.walk.cur = some v ∧ v.run = .suspended ∧ v.extent = w.extent ∧
              v.frame = w.frame ∧ v.copy = w.copy ∧ v.line = none ∧ ∀ r ∈ t.arb, r.owner.isWalk = false)
        | .suspending => Gained s t .done ∧ t.walk = s.walk
        | .suspended => Gained s t .done ∧ t.walk = s.walk
        | .saving => Gained s t .busy ∧ t.walk = s.walk) ∧
    (s.executes (.resumeWalk none) → (∀ w ∈ s.walk.cur, w.run ≠ .suspended) →
      ∃ t, exec (.resumeWalk none) s = .next t ∧ SamePorts s t ∧ t.map = s.map ∧ t.pool = s.pool ∧
      t.store = s.store ∧ t.mend = s.mend ∧ t.cfg = s.cfg ∧ t.ldr = s.ldr ∧ t.walk.saved = s.walk.saved ∧
      match s.walk.cur with
      | none => Gained s t .refusedState ∧ t.walk = s.walk
      | some w => match w.run with
        | .running => Gained s t .done ∧ t.walk = s.walk
        | .suspending => Gained s t .done ∧ t.walk.cur = some { w with run := .running }
        | .suspended => True
        | .saving => Gained s t .busy ∧ t.walk = s.walk) ∧
    ∀ w, s.executes (.resumeWalk none) → s.walk.cur = some w → w.run = .suspended → w.stage = .ready → w.line = none →
      let block := (s.extent w.extent).digestBlock w.frame
      (∀ l, w.visits s → Holding s w.extent w.frame l → s.inHand Owner.isWalk < s.cfg.paceDepth →
        ((s.entryIn l w.frame).copyState w.copy = .sealed ∨ (s.entryIn l w.frame).copyState w.copy = .suspect) →
        ∃ t v, exec (.resumeWalk none) s = .next t ∧ Gained s t .done ∧ BeginsRead s t w ∧ t.walk.cur = some v ∧
          v.run = .running ∧ v.line = some l ∧ t.line l = { s.line l with pins := (s.line l).pins + 1 } ∧
          OtherLines s t l ∧ t.walk.saved = s.walk.saved ∧ SamePorts s t ∧ t.map = s.map ∧ t.pool = s.pool) ∧
      (∀ v, w.visits s → s.findLine block = none → s.store.queue = [] → s.victim? = some v →
        (∀ b ∈ s.dir.batch, b.results.length + 1 < b.records) →
        ∃ t, exec (.resumeWalk none) s = .next t ∧ Gained s t .done ∧ TakenForFill s t v block w.extent ∧
          t.walk = { s.walk with cur := some { w with run := .running, line := some v, stage := .waitFill } } ∧
          SamePorts s t ∧ t.map = s.map ∧ t.pool = s.pool) ∧
      (w.kind = .check → w.past = true → s.walk.saved = [] → s.map.restart = [] → s.walk.passDue = false →
        ∃ t, exec (.resumeWalk none) s = .next t ∧ Gained s t .done ∧ t.walk.cur = none ∧
          (t.flag .walkEnd).isSet = true ∧ SamePorts s t ∧ t.map = s.map ∧ t.pool = s.pool ∧
          Logged s t (s.findingNow .checkDone (some w.extent.val) (some w.first) (some (if w.incomplete = true then 1 else 0))
            w.checked w.mismatches w.skipped)) ∧
      (w.changed = true ∨ (s.extent w.extent).state ≠ .sealed → w.past = false → w.frame ≤ w.last →
        s.walk.saved = [] → s.map.restart = [] → s.walk.passDue = false → (w.kind = .check ∨ (w.kind = .seal ∧ w.source.isSome = true)) →
        ∃ t, exec (.resumeWalk none) s = .next t ∧ Gained s t .done ∧ t.walk.cur = none ∧
          (t.flag .walkEnd).isSet = true ∧ NoneQueued t Owner.isWalk ∧ t.ports = s.ports ∧ t.up = s.up ∧ t.map = s.map ∧
          t.pool = s.pool ∧ (∀ l, (t.line l).entries = (s.line l).entries) ∧
          (w.kind = .check → Logged s t (s.findingNow .checkDone (some w.extent.val) (some w.first) (some 1) w.checked
            w.mismatches w.skipped)) ∧
          (∀ c : CopyId, w.kind = .seal → w.source = some c → Logged s t (s.findingNow .sealDone (some w.extent.val)
            (some w.first) (some c.num) w.checked w.mismatches w.skipped)))

/-- R144: a mend starts from the head of the queue: its line, which holds the entry, is pinned; the target, SUSPECT with a
SEALED source, becomes MENDING; attempt 1 begins at VERIFY_SOURCE with the first read of the source queued. With a mend
active, the link down, the part not RUNNING or the queue empty, nothing starts. -/
def Obligations.MendStarts : Prop :=
  ∀ (s : State),
    (∀ (k : FrameKey) (rest : List FrameKey) (l : Fin 64), s.mendReady = true → s.mend.queue = k :: rest →
      (s.extent k.extent).state = .sealed → (s.extent k.extent).hasReplica = true → k.frame < (s.extent k.extent).frames →
      0 < (s.extent k.extent).span → s.findLine ((s.extent k.extent).digestBlock k.frame) = some l →
      (s.line l).extent = k.extent → (s.line l).state.holds = true → (s.line l).waits = false →
      (s.line l).entries.length = 256 → (s.entryIn l k.frame).copyState k.copy = .suspect →
      (s.entryIn l k.frame).copyState k.copy.other = .sealed → (∀ p, s.accum p = none) →
      s.inHand Owner.isMend < s.cfg.paceDepth →
      ∃ t m, exec (.mendStart none) s = .next t ∧ t.mend.queue = rest ∧ t.mend.active = some m ∧ m.extent = k.extent ∧
        m.frame = k.frame ∧ m.target = k.copy ∧ m.stage = .working ∧ m.phase = .verifySource ∧ m.attempt = 1 ∧
        m.line = some l ∧ (t.line l).pins = (s.line l).pins + 1 ∧
        t.entryIn l k.frame = (s.entryIn l k.frame).setCopy k.copy .mending ∧
        (∀ j, j ≠ l → t.line j = s.line j) ∧
        (⟨.mendRead 0, .read, (s.extent k.extent).blockAddr k.copy.other k.frame 0, (s.extent k.extent).chunkLen 0⟩ :
          InjRequest) ∈ t.arb ∧
        SamePorts s t ∧ t.map = s.map ∧ t.pool = s.pool ∧ t.walk = s.walk ∧ t.dir = s.dir ∧ t.cfg = s.cfg ∧
        t.ldr = s.ldr ∧ t.rep.flags = s.rep.flags ∧ t.rep.statusTimer.isSome = true) ∧
    (s.mendReady = false ∨ s.mend.queue = [] →
      ∃ t, exec (.mendStart none) s = .next t ∧ SamePorts s t ∧ t.arb = s.arb ∧ SameShelf s t)

/-- R148: in COPY a chunk's read that returns GOOD fills the mend buffer, and its write to the target is queued; the return
GOOD of the last chunk's write begins VERIFY_TARGET. R146, R147, R149, R151, R152: in a verify phase the return GOOD of the
last chunk completes the MEND accumulator, and its digest is compared with the entry. A good source begins COPY; a bad one
sets both copies LOST with a FRAME_LOST finding and ends the mend; an equal target becomes SEALED with MEND_DONE; an unequal
one begins attempt 2 at COPY, or is LOST with MEND_FAILED 1 in attempt 2; a source or target that has left its state ends the
mend with MEND_FAILED 3, or 6 where the target is no longer MENDING (log 24). R150: a MEDIA_ERROR logs MEND_MEDIA_ERROR and,
in VERIFY_SOURCE, makes both copies SUSPECT with MEND_FAILED 5, in attempt 1 begins attempt 2 at COPY, in attempt 2 sets the
target LOST with MEND_FAILED 2. -/
def Obligations.MendCopiesAndVerifies : Prop :=
  (∀ (s : State) (i : Fin 256) (j : Nat) (m : Mend), s.mend.active = some m → m.phase = .copy → s.mediaUp = true →
    (s.slot i).life = .outstanding → (s.slot i).dead = false →
    (∀ data : List Byte, (s.slot i).kind = .injected (.mendRead j) → data.length = (s.slot i).count * 4096 →
      ∃ t, exec (.mendReadReturn i .good data none) s = .next t ∧ t.slot i = Slot.freeSlot ∧ OtherSlots s t i ∧
        t.mend = { s.mend with active := some { m with buffer := some (j, data) } } ∧ t.ports = s.ports ∧ t.up = s.up ∧
        t.map = s.map ∧ t.pool = s.pool ∧ t.store = s.store ∧ t.walk = s.walk ∧ t.dir = s.dir ∧ t.cfg = s.cfg ∧
        t.ldr = s.ldr ∧ t.rep.head = s.rep.head ∧ t.rep.flags = s.rep.flags ∧
        (m.stage = .working → s.arb = [] → (∀ q, q ≠ i → (s.slot q).life = .free) → 0 < s.cfg.paceDepth →
          t.arb = [⟨.mendWrite j, .write, (s.extent m.extent).blockAddr m.target m.frame (256 * j),
            (s.extent m.extent).chunkLen j⟩])) ∧
    ((s.slot i).kind = .injected (.mendWrite j) → (s.extent m.extent).chunks ≤ j + 1 →
      ∃ t m2, exec (.mendWriteReturn i .good none) s = .next t ∧ t.slot i = Slot.freeSlot ∧ OtherSlots s t i ∧
        t.mend = { s.mend with active := some m2 } ∧ m2.phase = .verifyTarget ∧ m2.stage = .working ∧
        m2.buffer = none ∧ m2.attempt = m.attempt ∧ m2.extent = m.extent ∧ m2.frame = m.frame ∧ m2.target = m.target ∧
        m2.line = m.line ∧ s.arb <+: t.arb ∧ t.ports = s.ports ∧ t.up = s.up ∧ t.map = s.map ∧ t.pool = s.pool ∧
        t.store = s.store ∧ t.walk = s.walk ∧ t.dir = s.dir ∧ t.cfg = s.cfg ∧ t.ldr = s.ldr ∧
        t.rep.head = s.rep.head ∧ t.rep.flags = s.rep.flags)) ∧
  ∀ (s : State) (i : Fin 256) (j : Nat) (m : Mend) (l : Fin 64), s.mend.active = some m → m.stage = .working →
    s.ldr.part = .running → s.mediaUp = true → (s.slot i).life = .outstanding → (s.slot i).dead = false →
    s.lineOf m.extent m.frame = some l → (s.line l).waits = false → (s.line l).state.holds = true →
    (s.line l).entries.length = 256 → (s.extent m.extent).state ≠ .preparing → (s.extent m.extent).hasReplica = true →
    m.frame < (s.extent m.extent).frames → s.walk.cur = none →
    let ext := s.extent m.extent
    let e := s.entryIn l m.frame
    let found := fun kind (copy : CopyId) d1 d2 d3 =>
      s.findingNow kind (some m.extent.val) (some m.frame) (some copy.num) d1 d2 d3
    let closed := fun (t : State) (after : Entry) =>
      t.mend.active = none ∧ t.accum mendPos = none ∧ t.entryIn l m.frame = after ∧ (t.flag .mendEnd).isSet = true
    let again := fun (t : State) (attempt : Nat) => t.accum mendPos = none ∧ t.entryIn l m.frame = e ∧
      (∃ v, t.mend = { s.mend with active := some v } ∧ v.stage = .working ∧ v.phase = .copy ∧ v.attempt = attempt ∧
        v.buffer = none ∧ v.extent = m.extent ∧ v.frame = m.frame ∧ v.target = m.target ∧ v.line = m.line) ∧
      (s.arb = [] → (∀ q, q ≠ i → (s.slot q).life = .free) → 0 < s.cfg.paceDepth → 0 < ext.span →
        (⟨.mendRead 0, .read, ext.blockAddr m.target.other m.frame 0, ext.chunkLen 0⟩ : InjRequest) ∈ t.arb)
    let others := fun t : State => ∀ k, k ≠ l → (t.line k).entries = (s.line k).entries ∧ (t.line k).state = (s.line k).state
    (∀ (data : List Byte) (x : Accum) (c : Contribution), (s.slot i).kind = .injected (.mendRead j) →
      data.length = (s.slot i).count * 4096 → m.phase ≠ .copy → s.accum mendPos = some x →
      x.key = ⟨m.extent, m.frame, m.readCopy⟩ → x.holding = [] → (s.slot i).contribs = [c] → c.pos = mendPos →
      let x2 := x.commit ext.span s.cfg.idleTime (c.digest ext data).1 (c.digest ext data).2
      x2.complete ext.span = true →
      ∃ t, exec (.mendReadReturn i .good data none) s = .next t ∧ t.slot i = Slot.freeSlot ∧ t.ports = s.ports ∧
        t.map = s.map ∧ t.cfg = s.cfg ∧ others t ∧
        (m.phase = .verifySource → e.copyState m.target.other = .sealed →
          (e.equal x2.a x2.b = true → again t m.attempt ∧ Unlogged s t) ∧
          (e.equal x2.a x2.b = false → closed t e.bothLost ∧
            Logged s t (found .frameLost m.target.other x2.a x2.b (e.copyState m.target).code))) ∧
        (m.phase = .verifySource → e.copyState m.target.other ≠ .sealed → e.copyState m.target = .mending →
          closed t (e.setCopy m.target .suspect) ∧ Logged s t (found .mendFailed m.target m.lastA m.lastB 3)) ∧
        (m.phase = .verifyTarget → e.copyState m.target = .mending →
          (e.equal x2.a x2.b = true → closed t (e.setCopy m.target .sealed) ∧
            Logged s t (found .mendDone m.target x2.a x2.b m.attempt)) ∧
          (e.equal x2.a x2.b = false → m.attempt = 1 → again t 2 ∧ Unlogged s t) ∧
          (e.equal x2.a x2.b = false → m.attempt ≠ 1 → closed t (e.setCopy m.target .lost) ∧
            Logged s t (found .mendFailed m.target x2.a x2.b 1))) ∧
        ((m.phase = .verifyTarget ∨ e.copyState m.target.other ≠ .sealed) → e.copyState m.target ≠ .mending →
          closed t e ∧ Logged s t (found .mendFailed m.target m.lastA m.lastB 6))) ∧
    (∀ (status : MediaStatus) (data : List Byte) (copy : CopyId) (c : Instr),
      ((s.slot i).kind = .injected (.mendRead j) ∧ (status ≠ .good ∨ data.length ≠ (s.slot i).count * 4096) ∧
          copy = m.readCopy ∧ c = .mendReadReturn i status data none) ∨
        ((s.slot i).kind = .injected (.mendWrite j) ∧ status ≠ .good ∧ copy = m.target ∧ m.phase = .copy ∧
          c = .mendWriteReturn i status none) →
      (∀ a, s.accum mendPos = some a → a.holding = []) → e.copyState m.target = .mending →
      let failed := found .mendMediaError copy (256 * j) m.phase.code m.attempt
      ∃ t, exec c s = .next t ∧ t.slot i = Slot.freeSlot ∧ t.ports = s.ports ∧ t.map = s.map ∧ t.cfg = s.cfg ∧
        others t ∧ NoneQueued t Owner.isMendWrite ∧
        (m.phase = .verifySource → e.copyState m.target.other = .sealed →
          closed t ((e.setCopy m.target.other .suspect).setCopy m.target .suspect) ∧
            LoggedBoth s t failed (found .mendFailed m.target m.lastA m.lastB 5)) ∧
        (m.phase ≠ .verifySource → m.attempt = 1 → again t 2 ∧ Logged s t failed) ∧
        (m.phase ≠ .verifySource → m.attempt ≠ 1 → closed t (e.setCopy m.target .lost) ∧
          LoggedBoth s t failed (found .mendFailed m.target m.lastA m.lastB 2)))

/-- R142, R165: MEND_FRAME on a frame copy that may be mended, whose entry a line holds, joins the mend queue at its end and
answers DONE; one that fails a check answers its refusal and leaves the queue. -/
def Obligations.MendFrameQueued : Prop :=
  ∀ (s : State) (extent frame target : Nat), s.executes (.mendFrame extent frame target none) →
    (∀ r, s.mendFrameCheck extent frame target = .error r →
      ∃ t, exec (.mendFrame extent frame target none) s = .next t ∧ Gained s t r ∧ SamePorts s t ∧ SameShelf s t ∧
        t.cfg = s.cfg ∧ t.ldr = s.ldr) ∧
    (∀ (k : FrameKey) (l : Fin 64), s.mendFrameCheck extent frame target = .ok k →
      s.findLine ((s.extent k.extent).digestBlock k.frame) = some l → (s.line l).state ≠ .filling →
      (s.entryIn l k.frame).copyState k.copy = .suspect → (s.entryIn l k.frame).copyState k.copy.other = .sealed →
      s.mendPresent k = false → s.mend.queue.length < 16 →
      ∃ t, exec (.mendFrame extent frame target none) s = .next t ∧ Gained s t .done ∧ SamePorts s t ∧
        t.mend = { s.mend with queue := s.mend.queue ++ [k] } ∧ t.map = s.map ∧ t.pool = s.pool ∧ t.walk = s.walk ∧
        (∀ j, t.line j = s.line j) ∧ t.cfg = s.cfg ∧ t.ldr = s.ldr)

/-- R15, R16: OPEN_EXTENT and RETIRE_EXTENT by their four conditions in order, with no walk current and no accumulator in use.
An opened extent keeps its ranges, a retired one is of the FREE form and its ranges leave the index. R59: retirement drops
each line of the extent, and no request of such a line stays queued. R118: a saved walk at work on the extent, which it
requires SEALED, has the change to find; that it is remembered as a mark is the model's choice (log 52). R118, R124: a RUNNING
CHECK walk of the extent, whose
SCRUB accumulator is the only one in use, ends at the release, incomplete, where it has no verification in flight at
OPEN_EXTENT. For a retirement the head write, where there is one, waits for no line of the extent, and keeps waiting (R90), no
line is asked for, and no flush and no MEND_FRAME record is in progress. That a mend that still waits for its line makes the
answer BUSY (log 48), and that the walk ends within the release's own step (log 27), are the model's choices. -/
def Obligations.ExtentReleased : Prop :=
  ∀ (s : State) (n : Fin 1024),
    let late := if (s.extent n).cls = .fixed then some Result.refusedState else if s.dir.freeze = true then some .refusedFrozen
      else if s.mendConcerns n = true then some .busy else none
    let leaves := fun t : State => t.extent n = Extent.freeForm ∧ (∀ k, k ≠ n → t.extent k = s.extent k) ∧
      t.map.index = s.map.index.filter fun q => !q.ofExtent n
    let noticed := fun t : State => t.walk.cur = none ∧ t.walk.restTimer = s.walk.restTimer ∧
      t.walk.passDue = s.walk.passDue ∧ t.walk.saved = s.walk.saved.map fun w =>
        { w with changed := w.changed || decide (w.extent = n ∧ w.requires = .sealed ∧ w.past = false ∧
          (w.kind = .pass → w.entered = true)) }
    let dropped := fun t : State =>
      (∀ l, (s.line l).state ≠ .invalid → (s.line l).extent = n → t.line l = Line.blank ∧ t.queued (.fill l) = false ∧
        t.queued (.refill l) = false ∧ t.queued (.writeback l) = false) ∧
      (s.walk.cur = none → ∀ l, (s.line l).state = .invalid ∨ (s.line l).extent ≠ n → t.line l = s.line l)
    let ended := fun (t : State) (w : Walk) => t.walk.cur = none ∧ (t.flag .walkEnd).isSet = true ∧
      t.accum scrubPos = none ∧ NoneQueued t Owner.isWalk ∧
      Logged s t (s.findingNow .checkDone (some n.val) (some w.first) (some 1) w.checked w.mismatches w.skipped)
    let alone := fun w : Walk => s.walk.cur = some w ∧ w.kind = .check ∧ w.run = .running ∧ w.extent = n ∧ w.past = false ∧
      s.walk.saved = [] ∧ s.map.restart = [] ∧ s.walk.passDue = false ∧
      ∀ p a, s.accum p = some a → p = scrubPos ∧ a.mode = .scrub ∧ a.key.extent = n ∧ a.holding = []
    let calm := s.headAwaitsExtent n = false ∧ s.store.queue = [] ∧ s.dir.flush = none ∧ s.dir.mendFrame = none ∧
      ∀ l, (s.line l).state ≠ .invalid → (s.line l).extent = n → (s.line l).waiting = []
    (s.executes (.openExtent n.val none) → s.walk.cur = none → (∀ p, s.accum p = none) →
      ∃ t, exec (.openExtent n.val none) s = .next t ∧ SamePorts s t ∧ t.pool = s.pool ∧ t.store = s.store ∧
        t.mend = s.mend ∧ t.cfg = s.cfg ∧
        match (if (s.extent n).state ≠ .sealed then some Result.refusedState else late) with
        | some r => Gained s t r ∧ t.map = s.map ∧ t.walk = s.walk
        | none => Gained s t .done ∧ noticed t ∧ t.extent n = { s.extent n with state := .opened } ∧
            (∀ k, k ≠ n → t.extent k = s.extent k) ∧ t.map.index = s.map.index) ∧
    (s.executes (.retireExtent n.val none) → s.walk.cur = none → (∀ p, s.accum p = none) → s.headAwaitsExtent n = false →
      s.store.queue = [] → (∀ l, (s.line l).state = .invalid ∨ (s.line l).extent ≠ n) →
      ∃ t, exec (.retireExtent n.val none) s = .next t ∧ SamePorts s t ∧ t.pool = s.pool ∧ t.store = s.store ∧
        t.mend = s.mend ∧ t.cfg = s.cfg ∧
        match (if (s.extent n).state ≠ .defined ∧ (s.extent n).state ≠ .opened ∧ (s.extent n).state ≠ .sealed then
          some Result.refusedState else late) with
        | some r => Gained s t r ∧ t.map = s.map ∧ t.walk = s.walk
        | none => Gained s t .done ∧ leaves t ∧ noticed t) ∧
    (s.executes (.retireExtent n.val none) → (s.extent n).state.retirable = true → late = none → calm →
      (s.walk.cur = none → (∀ p, s.accum p = none) →
        ∃ t, exec (.retireExtent n.val none) s = .next t ∧ Gained s t .done ∧ leaves t ∧ dropped t ∧ t.ports = s.ports ∧
          t.up = s.up ∧ Unlogged s t) ∧
      (∀ w, alone w → ∃ t, exec (.retireExtent n.val none) s = .next t ∧ Gained s t .done ∧ leaves t ∧ dropped t ∧
        ended t w ∧ t.ports = s.ports ∧ t.up = s.up)) ∧
    (∀ w, s.executes (.openExtent n.val none) → (s.extent n).state = .sealed → late = none → alone w → w.stage ≠ .auditing →
      ∃ t, exec (.openExtent n.val none) s = .next t ∧ Gained s t .done ∧ ended t w ∧
        t.extent n = { s.extent n with state := .opened } ∧ (∀ k, k ≠ n → t.extent k = s.extent k) ∧
        t.map.index = s.map.index ∧ t.ports = s.ports ∧ t.up = s.up)

/-! ### The report writer -/

/-- R160, R173 to R175: the end of a status write. GOOD: a flag shown whose count is absent takes the write's count, the
selection returns to SUMMARY unless selected since, and an ended batch that the image carried, its return HELD, is over with
its return sent; a failure sets the status-due mark again and changes no flag. -/
def Obligations.StatusWriteReturns : Prop :=
  ∀ (s : State) (i : Fin 256) (status : MediaStatus) (shot : StatusShot), s.mediaUp = true →
    (s.slot i).life = .outstanding → (s.slot i).kind = .injected .status → (s.slot i).dead = false →
    s.rep.statusShot = some shot →
    ∃ t, exec (.statusWriteReturn i status none) s = .next t ∧ t.slot i = Slot.freeSlot ∧ t.rep.statusShot = none ∧
      t.rep.updateCount = s.rep.updateCount ∧ t.rep.head = s.rep.head ∧ t.map = s.map ∧ t.pool = s.pool ∧
      t.walk = s.walk ∧ t.mend = s.mend ∧ t.ldr = s.ldr ∧ t.cfg = s.cfg ∧
      (status ≠ .good → t.rep.statusDue = true ∧ t.rep.flags = s.rep.flags ∧ t.rep.selection = s.rep.selection ∧
        t.ports = s.ports ∧ t.dir = s.dir ∧ OtherSlots s t i ∧ t.store = s.store) ∧
      (status = .good →
        t.rep.selection = (if s.rep.selectedSince = true then s.rep.selection else .summary) ∧
        (∀ f : EventFlag, t.flag f =
          if (s.flag f).isSet = true ∧ shot.shown[f.idx] = true ∧ (s.flag f).seen = none then ⟨true, some shot.count⟩
          else s.flag f) ∧
        (shot.batch = false → t.ports = s.ports ∧ t.dir = s.dir ∧ OtherSlots s t i ∧ t.store = s.store) ∧
        (∀ (b : Batch) (j : Fin 256), shot.batch = true → s.dir.batch = some b → b.ended = true → b.slot = some j →
          j ≠ i → (s.slot j).life = .held → t.dir = { s.dir with batch := none } ∧ (t.slot j).life = .free ∧
            t.ports = { s.ports with upstream := s.ports.upstream ++
              [⟨(s.slot j).requester, (s.slot j).tag, (s.slot j).status, []⟩] }))

/-- R179: the end of a log write while nothing is withheld. GOOD of a completed image discards it and moves the written head
to the next block, recorded in the header image; GOOD of the head image moves the written head to the head it carried; after a
failure every image stays to be written, and nothing is logged. -/
def Obligations.LogWriteReturns : Prop :=
  ∀ (s : State) (i : Fin 256) (status : MediaStatus) (shot : LogShot), s.mediaUp = true →
    (s.slot i).life = .outstanding → (s.slot i).kind = .injected .log → (s.slot i).dead = false →
    s.rep.logShot = some shot → s.rep.withheld = 0 →
    ∃ t, exec (.logWriteReturn i status none) s = .next t ∧ t.slot i = Slot.freeSlot ∧ OtherSlots s t i ∧
      t.ports = s.ports ∧ t.up = s.up ∧ SameShelf s t ∧ t.dir = s.dir ∧ t.rep.logShot = none ∧ t.rep.head = s.rep.head ∧
      t.rep.tail = s.rep.tail ∧ t.rep.image = s.rep.image ∧ t.rep.flags = s.rep.flags ∧ t.rep.withheld = 0 ∧
      (∀ b fs rest, status = .good → shot = .completed → s.rep.completed = (b, fs) :: rest →
        t.rep.completed = rest ∧ t.rep.writtenHead = (b + 1) * 128 % 4096 ∧
          t.cfg = { s.cfg with headerHead := (b + 1) * 128 % 4096, headerTail := s.rep.tail } ∧
          (s.ldr.part = .running → (t.cat 0).state ≠ .current)) ∧
      (∀ h, status = .good → shot = .headImage h → t.rep.completed = s.rep.completed ∧ t.rep.writtenHead = h ∧
        (h % 128 ≠ 0 → t.cfg = s.cfg)) ∧
      (status ≠ .good → t.rep.completed = s.rep.completed ∧ t.rep.writtenHead = s.rep.writtenHead ∧ t.cfg = s.cfg ∧
        (∀ h, shot = .headImage h → h / 128 = s.rep.head / 128 → t.rep.imageChanged = s.rep.image.isSome))

/-- R176: ACK_EVENTS clears each flag that its mask names, that is set, and whose remembered count is present and not later
than the seen count, compared cyclically; every other flag is untouched, the result is DONE, and the status-due mark is not
set by it (it is set by the batch's end, where this record is the last). -/
def Obligations.EventsAcknowledged : Prop :=
  ∀ (s : State) (mask seen : Nat), s.executes (.ackEvents mask seen) →
    ∃ t, exec (.ackEvents mask seen) s = .next t ∧ Gained s t .done ∧ SamePorts s t ∧ SameShelf s t ∧ t.cfg = s.cfg ∧
      t.ldr = s.ldr ∧ t.rep.head = s.rep.head ∧
      (∀ b, s.dir.batch = some b → b.results.length + 1 < b.records → t.rep.statusDue = s.rep.statusDue) ∧
      ∀ f : EventFlag,
        ((mask / 2 ^ f.idx.val % 2 = 1 ∧ (s.flag f).isSet = true ∧
            ∃ r, (s.flag f).seen = some r ∧ (seen + 4294967296 - r.toNat) % 4294967296 < 2147483648) →
          t.flag f = ⟨false, none⟩) ∧
        (¬(mask / 2 ^ f.idx.val % 2 = 1 ∧ (s.flag f).isSet = true ∧
            ∃ r, (s.flag f).seen = some r ∧ (seen + 4294967296 - r.toNat) % 4294967296 < 2147483648) →
          t.flag f = s.flag f)

/-- R181: MOVE_LOG_TAIL moves the tail to its slot where the slot lies from the tail to the written head, and to the written
head otherwise; the written head and the tail are recorded in the header image. R180: where the log is then not full while
findings are withheld, one LOG_RESUMED finding with their count is placed, and the count is 0. That the head is settled as the
tail moves, before the resumption, is the model's choice (log 36, from R184). -/
def Obligations.LogTailMoves : Prop :=
  ∀ (s : State) (slot : Nat), s.executes (.moveLogTail slot) →
    let fits := slot ≤ 4095 ∧
      (slot + 4096 - s.rep.tail) % 4096 ≤ (s.rep.writtenHead + 4096 - s.rep.tail) % 4096
    let moved := fun x : Nat => ({ s with rep := { s.rep with tail := x } } : State).settleHead.rep
    let resumed := fun x : Nat => (moved x).place (s.findingNow .logResumed none none none s.rep.withheld 0 0)
    ∃ t, exec (.moveLogTail slot) s = .next t ∧ SamePorts s t ∧ SameShelf s t ∧
      (fits → t.rep.tail = slot ∧ Gained s t .done) ∧
      (¬fits → t.rep.tail = s.rep.writtenHead ∧ Gained s t .clamped) ∧
      t.cfg = { s.cfg with headerHead := t.rep.writtenHead, headerTail := t.rep.tail } ∧
      (t.cat 0).state ≠ .current ∧ t.rep.writtenHead = (moved t.rep.tail).writtenHead ∧
      (0 < s.rep.withheld → (moved t.rep.tail).full = false →
        t.rep.withheld = 0 ∧ (t.flag .finding).isSet = true ∧ t.rep.head = (resumed t.rep.tail).head ∧
          t.rep.image = (resumed t.rep.tail).image ∧ t.rep.completed = (resumed t.rep.tail).completed) ∧
      (s.rep.withheld = 0 ∨ (moved t.rep.tail).full = true →
        t.rep.withheld = s.rep.withheld ∧ t.rep.head = (moved t.rep.tail).head ∧
          t.rep.image = (moved t.rep.tail).image ∧ t.rep.completed = (moved t.rep.tail).completed ∧
          t.rep.flags = s.rep.flags)

/-! ### Settings, the directive unit, the catalogue -/

/-- R89, R166 to R168, R177: what the directives that set the part leave in force, with their results: the range checks, the
clamping, freeze, and the lockout check of SET_ADMISSION, which refuses a table in which no requester has both WRITE and
DIRECT. Every other setting is as it was. -/
def Obligations.SettingsTaken : Prop :=
  ∀ (s : State),
    (∀ code, s.executes (.setPolicy code) → ∃ t, exec (.setPolicy code) s = .next t ∧ SamePorts s t ∧ SameShelf s t ∧
      match Policy.ofCode code, s.dir.freeze with
      | none, _ => Gained s t .refusedRange ∧ t.cfg = s.cfg
      | some _, true => Gained s t .refusedFrozen ∧ t.cfg = s.cfg
      | some p, false => Gained s t .done ∧ t.cfg = { s.cfg with policy := p }) ∧
    (∀ code, s.executes (.setWalkDepth code) → ∃ t, exec (.setWalkDepth code) s = .next t ∧ SamePorts s t ∧
      SameShelf s t ∧
      match Depth.ofCode code with
      | none => Gained s t .refusedRange ∧ t.cfg = s.cfg
      | some d => Gained s t .done ∧ t.cfg = { s.cfg with depth := d }) ∧
    (∀ threshold depth code rest, s.executes (.setPace threshold depth code rest) →
      ∃ t, exec (.setPace threshold depth code rest) s = .next t ∧ SamePorts s t ∧ t.map = s.map ∧ t.pool = s.pool ∧
        t.store = s.store ∧ t.mend = s.mend ∧ t.walk.cur = s.walk.cur ∧
        (1 < code → Gained s t .refusedRange ∧ t.cfg = s.cfg ∧ t.walk = s.walk) ∧
        (code ≤ 1 → t.cfg = { s.cfg with
            paceThreshold := min threshold 240, paceDepth := max 1 (min depth 16), repeatOn := decide (code = 1),
            restInterval := min rest 604800 } ∧
          Gained s t (if threshold ≤ 240 ∧ 1 ≤ depth ∧ depth ≤ 16 ∧ rest ≤ 604800 then .done else .clamped)) ∧
        (code = 0 → t.walk = { s.walk with restTimer := none, passDue := false }) ∧ (code = 1 → t.walk = s.walk)) ∧
    (∀ timeout idle, s.executes (.setTimers timeout idle) → ∃ t, exec (.setTimers timeout idle) s = .next t ∧
      SamePorts s t ∧ SameShelf s t ∧
      t.cfg = { s.cfg with returnTimeout := max 100 (min timeout 10000), idleTime := max 50 (min idle 5000) } ∧
      Gained s t (if 100 ≤ timeout ∧ timeout ≤ 10000 ∧ 50 ≤ idle ∧ idle ≤ 5000 then .done else .clamped)) ∧
    (∀ mask, s.executes (.setAlert mask) → ∃ t, exec (.setAlert mask) s = .next t ∧ SamePorts s t ∧ SameShelf s t ∧
      Gained s t .done ∧ t.cfg = { s.cfg with alertMask := t.cfg.alertMask } ∧
      (∀ f : Fin 6, t.cfg.alertMask[f] = decide (mask / 2 ^ f.val % 2 = 1)) ∧
      (s.ldr.part ≠ .passthrough → (t.alertLow = true ↔
        ∃ f : EventFlag, (t.flag f).isSet = true ∧ mask / 2 ^ f.idx.val % 2 = 0))) ∧
    (∀ (marks : Nat) (rights : List Nat), s.executes (.setAdmission marks rights) →
      let table := fun i : Fin 16 =>
        if marks / 2 ^ i.val % 2 = 1 then Rights.ofCode (rights.getD i.val 0) else s.cfg.admission[i]
      ∃ t, exec (.setAdmission marks rights) s = .next t ∧ SamePorts s t ∧ SameShelf s t ∧
        ((∀ i, ((table i).write && (table i).direct) = false) → Gained s t .refusedRange ∧ t.cfg = s.cfg) ∧
        (∀ i, (table i).write = true → (table i).direct = true → s.dir.freeze = true →
          Gained s t .refusedFrozen ∧ t.cfg = s.cfg) ∧
        (∀ i, (table i).write = true → (table i).direct = true → s.dir.freeze = false →
          Gained s t .done ∧ t.cfg = { s.cfg with admission := t.cfg.admission } ∧
            ∀ j : Fin 16, t.cfg.admission[j] = table j))

/-- R159, R168 to R170, R174: SET_CLOCK, SELECT_WINDOW, FREEZE, a record of an unknown kind, and FLUSH, which queues every
DIRTY line and every CHANGED catalogue block, ends at once where there is nothing to write, and is BUSY while one is in
progress. -/
def Obligations.UnitDirectives : Prop :=
  ∀ (s : State),
    (∀ clock, s.executes (.setClock clock) → ∃ t, exec (.setClock clock) s = .next t ∧ SamePorts s t ∧ SameShelf s t ∧
      t.cfg = s.cfg ∧ t.ldr = s.ldr ∧ Gained s t .done ∧ t.rep.clock = BitVec.ofNat 64 clock) ∧
    (∀ selection extent, s.executes (.selectWindow selection extent) →
      ∃ t, exec (.selectWindow selection extent) s = .next t ∧ SamePorts s t ∧ SameShelf s t ∧ t.cfg = s.cfg ∧
        t.ldr = s.ldr ∧
        match windowOf selection extent with
        | none => Gained s t .refusedRange ∧ t.rep.selection = s.rep.selection
        | some x => Gained s t .done ∧ t.rep.selection = x) ∧
    (s.executes .freeze → ∃ t, exec .freeze s = .next t ∧ SamePorts s t ∧ SameShelf s t ∧ t.cfg = s.cfg ∧ t.ldr = s.ldr ∧
      Gained s t .done ∧ t.dir.freeze = true) ∧
    (∀ kind, s.executes (.unknownKind kind) → ∃ t, exec (.unknownKind kind) s = .next t ∧ SamePorts s t ∧
      SameShelf s t ∧ t.cfg = s.cfg ∧ t.ldr = s.ldr ∧ Gained s t .unknownKind) ∧
    (s.executes (.flush none) → ∃ t, exec (.flush none) s = .next t ∧ SamePorts s t ∧ t.map = s.map ∧ t.pool = s.pool ∧
      t.walk = s.walk ∧ t.mend = s.mend ∧ t.cfg = s.cfg ∧ (∀ l, (t.line l).entries = (s.line l).entries) ∧
      (s.dir.flush.isSome = true → Gained s t .busy ∧ t.dir.flush = s.dir.flush ∧ t.store = s.store) ∧
      (s.dir.flush = none → Gained s t .started ∧
        (∀ l, (s.line l).state = .dirty → t.queued (.writeback l) = true) ∧
        (∀ b, (s.cat b).state = .changed → t.queued (.catalogueWrite b) = true) ∧
        ((∀ l, (s.line l).state = .clean ∨ (s.line l).state = .invalid) → (∀ b, (s.cat b).state = .current) →
          t.dir.flush = none ∧ (t.flag .flushEnd).isSet = true)))

/-- R186, R187: the header read's return: a blank header block begins the writes of a blank catalogue, one queued at a time
(log 21, the model's choice); a header that fails its tests ends the load in FAULT; a valid one queues the 16 record reads, in
ascending number (log 21). A record block's return waits for the others; with the last of them the 1,024 records are tested
and loaded in ascending extent number: CATALOGUE_RECORD or CATALOGUE_OVERLAP ends the load in FAULT with the map emptied (of
several ranges met the first is named, log 22), else the part enters RUNNING with the records, their ranges and the header's
settings (no extent in PREPARING or SEALING, repeat off, the head at a block's first slot, no request held, no walk current or
saved). A failed read is queued again, and the third failure ends the load; R190: the status window then shows CATALOGUE_READ
and the block's address. -/
def Obligations.CatalogueReads : Prop :=
  ∀ (s : State) (i : Fin 256) (status : MediaStatus) (data : List Byte) (c : Nat), s.mediaUp = true →
    s.ldr.part = .loading → s.controlBase = some c → (s.slot i).life = .outstanding → (s.slot i).dead = false →
    (s.slot i).count = 1 →
    (∀ n, s.ldr.load = .header n → (s.slot i).kind = .injected (.catalogueRead 0) →
      ∃ t, exec (.catalogueReadReturn i status data none) s = .next t ∧
        ((status = .good ∧ data = zeros 4096) → t.ldr.part = .loading ∧ t.ldr.load = .blank 1 0 ∧
          t.arb = s.arb ++ [writeOf (.blankWrite 1) (c + 35)] ∧ t.slot i = Slot.freeSlot ∧ OtherSlots s t i ∧
          t.ports = s.ports ∧ SameShelf s t ∧ t.cfg = s.cfg) ∧
        ((status = .good ∧ data.length = 4096 ∧ data ≠ zeros 4096) →
          (decodeHeader data = none → t.ldr.part = .fault ∧ t.ldr.fault = some .catalogueHeader ∧
            (t.flag .fault).isSet = true ∧ t.map.index = [⟨.control, c, 51⟩]) ∧
          (∀ h, decodeHeader data = some h → t.ldr.part = .loading ∧
            t.ldr.load = .records h (Vector.replicate 16 none) (Vector.replicate 16 0) ∧ t.cfg = s.cfg ∧ SameShelf s t ∧
            t.arb = s.arb ++ (List.finRange 16).map fun b => readOf (.catalogueRead b.succ) (c + 35 + b.val))) ∧
        ((status ≠ .good ∨ data.length ≠ 4096) →
          (n < 2 → t.ldr.part = .loading ∧ t.ldr.load = .header (n + 1) ∧
            t.arb = s.arb ++ [readOf (.catalogueRead 0) (c + 34)] ∧ SameShelf s t ∧ t.cfg = s.cfg) ∧
          (2 ≤ n → t.ldr.part = .fault ∧ t.ldr.fault = some (.catalogueRead (c + 34)) ∧ (t.flag .fault).isSet = true ∧
            t.windowBytes.take 12 = [6, 5, 0, 0] ++ leBytes 8 (c + 34)))) ∧
    (∀ (h : Settings) (got : Vector (Option (List Byte)) 16) (tries : Vector Nat 16) (j : Fin 16),
      s.ldr.load = .records h got tries → (s.slot i).kind = .injected (.catalogueRead j.succ) →
      let all := (got.set j (some data)).toList
      let records := (all.filterMap id).flatMap recordsOf
      ∃ t, exec (.catalogueReadReturn i status data none) s = .next t ∧
        ((status = .good ∧ data.length = 4096) →
          (all.all Option.isSome = false → t.ldr.part = .loading ∧ t.ldr.load = .records h (got.set j (some data)) tries ∧
            t.slot i = Slot.freeSlot ∧ OtherSlots s t i ∧ t.arb = s.arb ∧ t.ports = s.ports ∧ SameShelf s t ∧ t.cfg = s.cfg) ∧
          (∀ cause, all.all Option.isSome = true → loadRecords s.capacity records 0 [⟨.control, c, 51⟩] = .error cause →
            t.ldr.part = .fault ∧ t.ldr.fault = some cause ∧ (t.flag .fault).isSet = true ∧
              t.map.index = [⟨.control, c, 51⟩] ∧ ∀ e, t.extent e = Extent.freeForm) ∧
          (∀ r, all.all Option.isSome = true → loadRecords s.capacity records 0 [⟨.control, c, 51⟩] = .ok r →
            (∀ x ∈ r.1, x.state ≠ .preparing ∧ x.state ≠ .sealing) → h.repeatOn = false → h.headerHead % 128 = 0 →
            s.up.head = none → s.walk.cur = none → s.walk.saved = [] →
            t.ldr.part = .running ∧ t.ldr.load = .idle ∧ t.cfg = h ∧ t.map.index = r.2 ∧ t.map.restart = [] ∧
              (∀ e : Fin 1024, t.extent e = r.1.getD e.val Extent.freeForm) ∧ t.rep.head = h.headerHead ∧
              t.rep.writtenHead = h.headerHead ∧ t.rep.tail = h.headerTail ∧ t.rep.statusDue = true ∧ t.walk.cur = none ∧
              ∀ k, t.cat k = ⟨.current, none, false⟩)) ∧
        ((status ≠ .good ∨ data.length ≠ 4096) →
          (tries[j] < 2 → t.ldr.part = .loading ∧ t.ldr.load = .records h got (tries.set j (tries[j] + 1)) ∧
            t.arb = s.arb ++ [readOf (.catalogueRead j.succ) (c + 35 + j.val)] ∧ SameShelf s t ∧ t.cfg = s.cfg) ∧
          (2 ≤ tries[j] → t.ldr.part = .fault ∧ t.ldr.fault = some (.catalogueRead (c + 35 + j.val)) ∧
            (t.flag .fault).isSet = true ∧ t.windowBytes.take 12 = [6, 5, 0, 0] ++ leBytes 8 (c + 35 + j.val))))

/-- R187 to R189: writes of a blank catalogue go on block by block, one queued at a time (log 21, the model's choice), with
the header last, and are tried three times; the header's return GOOD takes the part to RUNNING with the fresh header's
settings (no walk saved, no extent in use); a catalogue write that returns GOOD leaves its block CURRENT, or CHANGED and
queued again where it changed meanwhile, and one that fails leaves it CHANGED with its 5,000 ms retry timer and a finding.
R190: where the third failure of a blank catalogue's write ends the load, the status window shows CATALOGUE_WRITE and the
block's address. -/
def Obligations.CatalogueWritesReturn : Prop :=
  ∀ (s : State) (i : Fin 256) (status : MediaStatus) (b : Fin 17) (c : Nat), s.mediaUp = true →
    s.controlBase = some c → (s.slot i).life = .outstanding → (s.slot i).dead = false →
    (∀ n, (s.slot i).kind = .injected (.blankWrite b) → s.ldr.part = .loading → s.ldr.load = .blank b n →
      ∃ t, exec (.blankCatalogueWriteReturn i status none) s = .next t ∧
        (∀ next : Fin 17, status = .good → b ≠ 0 → next.val = (b.val + 1) % 17 → t.ldr.part = .loading ∧
          t.ldr.load = .blank next 0 ∧ t.arb = s.arb ++ [writeOf (.blankWrite next) (c + 34 + next.val)] ∧
          t.slot i = Slot.freeSlot ∧ OtherSlots s t i ∧ t.ports = s.ports ∧ SameShelf s t ∧ t.cfg = s.cfg) ∧
        (∀ x, status = .good → b = 0 → s.ldr.setup = some x → s.walk.cur = none → s.walk.saved = [] →
          s.up.head = none → (∀ e, (s.extent e).state = .free) → t.ldr.part = .running ∧ t.cfg = freshHeader x ∧
          t.rep.head = 0 ∧ t.rep.tail = 0 ∧ t.rep.statusDue = true ∧ t.walk.cur = none ∧ t.map.restart = [] ∧
          (∀ k, t.cat k = ⟨.current, none, false⟩)) ∧
        (status ≠ .good → n < 2 → t.ldr.part = .loading ∧ t.ldr.load = .blank b (n + 1) ∧
          t.arb = s.arb ++ [writeOf (.blankWrite b) (c + 34 + b.val)] ∧ SameShelf s t ∧ t.cfg = s.cfg) ∧
        (status ≠ .good → 2 ≤ n → t.ldr.part = .fault ∧ t.ldr.fault = some (.catalogueWrite (c + 34 + b.val)) ∧
          (t.flag .fault).isSet = true ∧ t.windowBytes.take 12 = [6, 6, 0, 0] ++ leBytes 8 (c + 34 + b.val))) ∧
    ((s.slot i).kind = .injected (.catalogueWrite b) → s.dir.flush = none →
      ∃ t, exec (.catalogueWriteReturn i status none) s = .next t ∧ t.slot i = Slot.freeSlot ∧ OtherSlots s t i ∧
        t.ports = s.ports ∧ SameShelf s t ∧ t.cfg = s.cfg ∧ t.dir = s.dir ∧ t.ldr.part = s.ldr.part ∧
        (∀ k, k ≠ b → t.cat k = s.cat k) ∧
        (status = .good → (s.cat b).state = .writing → t.cat b = ⟨.current, none, false⟩ ∧ t.arb = s.arb) ∧
        (status = .good → (s.cat b).state = .writingChanged → (t.cat b).state = .changed ∧
          t.queued (.catalogueWrite b) = true) ∧
        (status ≠ .good → t.cat b = ⟨.changed, some ⟨5000, 0⟩, false⟩ ∧
          (s.ldr.part = .running → s.rep.full = false → t.rep.head = (s.rep.head + 1) % 4096)))
end

