-- ==== Sys2Proof/Laws/State.lean ====
section
/-!
SUPPORT. The small lemmas of State: reading a table after a write of it, what each operation of Machine/Ops.lean
leaves as it was, field by field, and the first bytes of the status window in FAULT.
-/

namespace Sys2Proof.Machine

/-- A loop leaves alone what each of its turns leaves alone. -/
theorem forEach_eq {α β : Type} (g : State → β) {f : α → State → State} {b : β} (hf : ∀ x t, g (f x t) = g t) :
    ∀ (xs : List α) {s : State}, g s = b → g (forEach xs f s) = b
  | [], _, h => h
  | x :: xs, s, h => forEach_eq g hf xs ((hf x s).trans h)

@[simp] theorem Store.touch_lines (st : Store) (l : Fin 64) : (st.touch l).lines = st.lines := rfl
@[simp] theorem Store.touch_queue (st : Store) (l : Fin 64) : (st.touch l).queue = st.queue := rfl
@[simp] theorem Store.touch_dirtyOrder (st : Store) (l : Fin 64) : (st.touch l).dirtyOrder = st.dirtyOrder := rfl
@[simp] theorem Store.sink_lines (st : Store) (l : Fin 64) : (st.sink l).lines = st.lines := rfl
@[simp] theorem Store.sink_queue (st : Store) (l : Fin 64) : (st.sink l).queue = st.queue := rfl
@[simp] theorem Store.sink_dirtyOrder (st : Store) (l : Fin 64) : (st.sink l).dirtyOrder = st.dirtyOrder := rfl

/-! ### The mark that an extent's change leaves on walks (R118) -/

@[simp] theorem Walk.leave_run (w : Walk) (n : Fin 1024) : (w.leave n).run = w.run := by unfold Walk.leave; split <;> rfl
@[simp] theorem Walk.leave_kind (w : Walk) (n : Fin 1024) : (w.leave n).kind = w.kind := by unfold Walk.leave; split <;> rfl
@[simp] theorem Walk.leave_changed (w : Walk) (n : Fin 1024) : (w.leave n).changed = (w.changed || w.sealedOn n) := by
  unfold Walk.leave; split <;> simp_all
theorem Walk.leave_of_not_sealedOn {w : Walk} {n : Fin 1024} (h : w.sealedOn n = false) : w.leave n = w := by simp [Walk.leave, h]

@[simp] theorem WalkEngine.leave_restTimer (e : WalkEngine) (n : Fin 1024) : (e.leave n).restTimer = e.restTimer := rfl
@[simp] theorem WalkEngine.leave_passDue (e : WalkEngine) (n : Fin 1024) : (e.leave n).passDue = e.passDue := rfl
@[simp] theorem WalkEngine.leave_saved (e : WalkEngine) (n : Fin 1024) : (e.leave n).saved = e.saved.map (Walk.leave · n) := rfl
@[simp] theorem WalkEngine.leave_cur (e : WalkEngine) (n : Fin 1024) : (e.leave n).cur = e.cur.map (Walk.leave · n) := rfl
@[simp] theorem WalkEngine.leave_incoming (e : WalkEngine) (n : Fin 1024) :
    (e.leave n).incoming = e.incoming.map (Walk.leave · n) := rfl

/-! ### Reading a table after a write of it -/

theorem State.slot_setSlot (s : State) (i j : Fin 256) (x : Slot) :
    (s.setSlot i x).slot j = if j = i then x else s.slot j := by
  simp only [State.slot, State.setSlot, Fin.getElem_fin, Vector.getElem_set]
  by_cases h : j = i
  · simp [h]
  · rw [if_neg h, if_neg (fun c => h (Fin.ext c.symm))]

@[simp] theorem State.slot_setSlot_self (s : State) (i : Fin 256) (x : Slot) : (s.setSlot i x).slot i = x := by
  simp [State.slot_setSlot]

theorem State.extent_setExtent (s : State) (i j : Fin 1024) (x : Extent) :
    (s.setExtent i x).extent j = if j = i then x else s.extent j := by
  simp only [State.extent, State.setExtent, Fin.getElem_fin, Vector.getElem_set]
  by_cases h : j = i
  · simp [h]
  · rw [if_neg h, if_neg (fun c => h (Fin.ext c.symm))]

@[simp] theorem State.extent_setExtent_self (s : State) (i : Fin 1024) (x : Extent) : (s.setExtent i x).extent i = x := by
  simp [State.extent_setExtent]

theorem State.accum_setAccum (s : State) (i j : Fin 32) (x : Option Accum) :
    (s.setAccum i x).accum j = if j = i then x else s.accum j := by
  simp only [State.accum, State.setAccum, Fin.getElem_fin, Vector.getElem_set]
  by_cases h : j = i
  · simp [h]
  · rw [if_neg h, if_neg (fun c => h (Fin.ext c.symm))]

@[simp] theorem State.accum_setAccum_self (s : State) (i : Fin 32) (x : Option Accum) : (s.setAccum i x).accum i = x := by
  simp [State.accum_setAccum]

theorem State.line_setLine (s : State) (i j : Fin 64) (x : Line) :
    (s.setLine i x).line j = if j = i then x else s.line j := by
  simp only [State.line, State.setLine, Fin.getElem_fin, Vector.getElem_set]
  by_cases h : j = i
  · simp [h]
  · rw [if_neg h, if_neg (fun c => h (Fin.ext c.symm))]

@[simp] theorem State.line_setLine_self (s : State) (i : Fin 64) (x : Line) : (s.setLine i x).line i = x := by
  simp [State.line_setLine]

theorem State.cat_setCat (s : State) (i j : Fin 17) (x : CatBlock) :
    (s.setCat i x).cat j = if j = i then x else s.cat j := by
  simp only [State.cat, State.setCat, Fin.getElem_fin, Vector.getElem_set]
  by_cases h : j = i
  · simp [h]
  · rw [if_neg h, if_neg (fun c => h (Fin.ext c.symm))]

@[simp] theorem State.cat_setCat_self (s : State) (i : Fin 17) (x : CatBlock) : (s.setCat i x).cat i = x := by
  simp [State.cat_setCat]

@[simp] theorem getElem_vmap {α β : Type} {n : Nat} (f : α → β) (v : Vector α n) (i : Nat) (h : i < n) :
    (vmap f v)[i] = f v[i] := by
  simp [vmap]

@[simp] theorem State.slot_mapSlots (s : State) (f : Slot → Slot) (i : Fin 256) : (s.mapSlots f).slot i = f (s.slot i) := by
  simp [State.slot, State.mapSlots]

/-! ### Reading a table that did not change -/

theorem State.slot_congr {s t : State} (h : t.slots = s.slots) (i : Fin 256) : t.slot i = s.slot i := by
  unfold State.slot; rw [h]

theorem State.extent_congr {s t : State} (h : t.map = s.map) (i : Fin 1024) : t.extent i = s.extent i := by
  unfold State.extent; rw [h]

theorem State.accum_congr {s t : State} (h : t.pool = s.pool) (i : Fin 32) : t.accum i = s.accum i := by
  unfold State.accum; rw [h]

theorem State.line_congr {s t : State} (h : t.store = s.store) (i : Fin 64) : t.line i = s.line i := by
  unfold State.line; rw [h]

theorem State.cat_congr {s t : State} (h : t.ldr = s.ldr) (i : Fin 17) : t.cat i = s.cat i := by
  unfold State.cat; rw [h]

/-! ### What the operations leave as it was -/

@[simp] theorem State.setExtent_pending (τ : State) (e : Fin 1024) (x : Extent) : (τ.setExtent e x).pending = τ.pending := rfl

@[simp] theorem State.setExtent_ports (τ : State) (e : Fin 1024) (x : Extent) : (τ.setExtent e x).ports = τ.ports := rfl

@[simp] theorem State.setExtent_up (τ : State) (e : Fin 1024) (x : Extent) : (τ.setExtent e x).up = τ.up := rfl

@[simp] theorem State.setExtent_mediaUp (τ : State) (e : Fin 1024) (x : Extent) : (τ.setExtent e x).mediaUp = τ.mediaUp := rfl

@[simp] theorem State.setExtent_slots (τ : State) (e : Fin 1024) (x : Extent) : (τ.setExtent e x).slots = τ.slots := rfl

@[simp] theorem State.setExtent_arb (τ : State) (e : Fin 1024) (x : Extent) : (τ.setExtent e x).arb = τ.arb := rfl

@[simp] theorem State.setExtent_cfg (τ : State) (e : Fin 1024) (x : Extent) : (τ.setExtent e x).cfg = τ.cfg := rfl

@[simp] theorem State.setExtent_pool (τ : State) (e : Fin 1024) (x : Extent) : (τ.setExtent e x).pool = τ.pool := rfl

@[simp] theorem State.setExtent_store (τ : State) (e : Fin 1024) (x : Extent) : (τ.setExtent e x).store = τ.store := rfl

@[simp] theorem State.setExtent_walk (τ : State) (e : Fin 1024) (x : Extent) : (τ.setExtent e x).walk = τ.walk := rfl

@[simp] theorem State.setExtent_mend (τ : State) (e : Fin 1024) (x : Extent) : (τ.setExtent e x).mend = τ.mend := rfl

@[simp] theorem State.setExtent_dir (τ : State) (e : Fin 1024) (x : Extent) : (τ.setExtent e x).dir = τ.dir := rfl

@[simp] theorem State.setExtent_rep (τ : State) (e : Fin 1024) (x : Extent) : (τ.setExtent e x).rep = τ.rep := rfl

@[simp] theorem State.setExtent_ldr (τ : State) (e : Fin 1024) (x : Extent) : (τ.setExtent e x).ldr = τ.ldr := rfl

@[simp] theorem State.setExtent_map_index (τ : State) (e : Fin 1024) (x : Extent) : (τ.setExtent e x).map.index = τ.map.index := rfl

@[simp] theorem State.setExtent_map_restart (τ : State) (e : Fin 1024) (x : Extent) : (τ.setExtent e x).map.restart = τ.map.restart := rfl

@[simp] theorem State.setSlot_pending (τ : State) (i : Fin 256) (x : Slot) : (τ.setSlot i x).pending = τ.pending := rfl

@[simp] theorem State.setSlot_ports (τ : State) (i : Fin 256) (x : Slot) : (τ.setSlot i x).ports = τ.ports := rfl

@[simp] theorem State.setSlot_up (τ : State) (i : Fin 256) (x : Slot) : (τ.setSlot i x).up = τ.up := rfl

@[simp] theorem State.setSlot_mediaUp (τ : State) (i : Fin 256) (x : Slot) : (τ.setSlot i x).mediaUp = τ.mediaUp := rfl

@[simp] theorem State.setSlot_arb (τ : State) (i : Fin 256) (x : Slot) : (τ.setSlot i x).arb = τ.arb := rfl

@[simp] theorem State.setSlot_cfg (τ : State) (i : Fin 256) (x : Slot) : (τ.setSlot i x).cfg = τ.cfg := rfl

@[simp] theorem State.setSlot_map (τ : State) (i : Fin 256) (x : Slot) : (τ.setSlot i x).map = τ.map := rfl

@[simp] theorem State.setSlot_pool (τ : State) (i : Fin 256) (x : Slot) : (τ.setSlot i x).pool = τ.pool := rfl

@[simp] theorem State.setSlot_store (τ : State) (i : Fin 256) (x : Slot) : (τ.setSlot i x).store = τ.store := rfl

@[simp] theorem State.setSlot_walk (τ : State) (i : Fin 256) (x : Slot) : (τ.setSlot i x).walk = τ.walk := rfl

@[simp] theorem State.setSlot_mend (τ : State) (i : Fin 256) (x : Slot) : (τ.setSlot i x).mend = τ.mend := rfl

@[simp] theorem State.setSlot_dir (τ : State) (i : Fin 256) (x : Slot) : (τ.setSlot i x).dir = τ.dir := rfl

@[simp] theorem State.setSlot_rep (τ : State) (i : Fin 256) (x : Slot) : (τ.setSlot i x).rep = τ.rep := rfl

@[simp] theorem State.setSlot_ldr (τ : State) (i : Fin 256) (x : Slot) : (τ.setSlot i x).ldr = τ.ldr := rfl

@[simp] theorem State.mapSlots_pending (τ : State) (f : Slot → Slot) : (τ.mapSlots f).pending = τ.pending := rfl

@[simp] theorem State.mapSlots_ports (τ : State) (f : Slot → Slot) : (τ.mapSlots f).ports = τ.ports := rfl

@[simp] theorem State.mapSlots_up (τ : State) (f : Slot → Slot) : (τ.mapSlots f).up = τ.up := rfl

@[simp] theorem State.mapSlots_mediaUp (τ : State) (f : Slot → Slot) : (τ.mapSlots f).mediaUp = τ.mediaUp := rfl

@[simp] theorem State.mapSlots_arb (τ : State) (f : Slot → Slot) : (τ.mapSlots f).arb = τ.arb := rfl

@[simp] theorem State.mapSlots_cfg (τ : State) (f : Slot → Slot) : (τ.mapSlots f).cfg = τ.cfg := rfl

@[simp] theorem State.mapSlots_map (τ : State) (f : Slot → Slot) : (τ.mapSlots f).map = τ.map := rfl

@[simp] theorem State.mapSlots_pool (τ : State) (f : Slot → Slot) : (τ.mapSlots f).pool = τ.pool := rfl

@[simp] theorem State.mapSlots_store (τ : State) (f : Slot → Slot) : (τ.mapSlots f).store = τ.store := rfl

@[simp] theorem State.mapSlots_walk (τ : State) (f : Slot → Slot) : (τ.mapSlots f).walk = τ.walk := rfl

@[simp] theorem State.mapSlots_mend (τ : State) (f : Slot → Slot) : (τ.mapSlots f).mend = τ.mend := rfl

@[simp] theorem State.mapSlots_dir (τ : State) (f : Slot → Slot) : (τ.mapSlots f).dir = τ.dir := rfl

@[simp] theorem State.mapSlots_rep (τ : State) (f : Slot → Slot) : (τ.mapSlots f).rep = τ.rep := rfl

@[simp] theorem State.mapSlots_ldr (τ : State) (f : Slot → Slot) : (τ.mapSlots f).ldr = τ.ldr := rfl

@[simp] theorem State.setAccum_pending (τ : State) (p : Fin 32) (x : Option Accum) : (τ.setAccum p x).pending = τ.pending := rfl

@[simp] theorem State.setAccum_ports (τ : State) (p : Fin 32) (x : Option Accum) : (τ.setAccum p x).ports = τ.ports := rfl

@[simp] theorem State.setAccum_up (τ : State) (p : Fin 32) (x : Option Accum) : (τ.setAccum p x).up = τ.up := rfl

@[simp] theorem State.setAccum_mediaUp (τ : State) (p : Fin 32) (x : Option Accum) : (τ.setAccum p x).mediaUp = τ.mediaUp := rfl

@[simp] theorem State.setAccum_slots (τ : State) (p : Fin 32) (x : Option Accum) : (τ.setAccum p x).slots = τ.slots := rfl

@[simp] theorem State.setAccum_arb (τ : State) (p : Fin 32) (x : Option Accum) : (τ.setAccum p x).arb = τ.arb := rfl

@[simp] theorem State.setAccum_cfg (τ : State) (p : Fin 32) (x : Option Accum) : (τ.setAccum p x).cfg = τ.cfg := rfl

@[simp] theorem State.setAccum_map (τ : State) (p : Fin 32) (x : Option Accum) : (τ.setAccum p x).map = τ.map := rfl

@[simp] theorem State.setAccum_store (τ : State) (p : Fin 32) (x : Option Accum) : (τ.setAccum p x).store = τ.store := rfl

@[simp] theorem State.setAccum_walk (τ : State) (p : Fin 32) (x : Option Accum) : (τ.setAccum p x).walk = τ.walk := rfl

@[simp] theorem State.setAccum_mend (τ : State) (p : Fin 32) (x : Option Accum) : (τ.setAccum p x).mend = τ.mend := rfl

@[simp] theorem State.setAccum_dir (τ : State) (p : Fin 32) (x : Option Accum) : (τ.setAccum p x).dir = τ.dir := rfl

@[simp] theorem State.setAccum_rep (τ : State) (p : Fin 32) (x : Option Accum) : (τ.setAccum p x).rep = τ.rep := rfl

@[simp] theorem State.setAccum_ldr (τ : State) (p : Fin 32) (x : Option Accum) : (τ.setAccum p x).ldr = τ.ldr := rfl

@[simp] theorem State.setLine_pending (τ : State) (l : Fin 64) (x : Line) : (τ.setLine l x).pending = τ.pending := rfl

@[simp] theorem State.setLine_ports (τ : State) (l : Fin 64) (x : Line) : (τ.setLine l x).ports = τ.ports := rfl

@[simp] theorem State.setLine_up (τ : State) (l : Fin 64) (x : Line) : (τ.setLine l x).up = τ.up := rfl

@[simp] theorem State.setLine_mediaUp (τ : State) (l : Fin 64) (x : Line) : (τ.setLine l x).mediaUp = τ.mediaUp := rfl

@[simp] theorem State.setLine_slots (τ : State) (l : Fin 64) (x : Line) : (τ.setLine l x).slots = τ.slots := rfl

@[simp] theorem State.setLine_arb (τ : State) (l : Fin 64) (x : Line) : (τ.setLine l x).arb = τ.arb := rfl

@[simp] theorem State.setLine_cfg (τ : State) (l : Fin 64) (x : Line) : (τ.setLine l x).cfg = τ.cfg := rfl

@[simp] theorem State.setLine_map (τ : State) (l : Fin 64) (x : Line) : (τ.setLine l x).map = τ.map := rfl

@[simp] theorem State.setLine_pool (τ : State) (l : Fin 64) (x : Line) : (τ.setLine l x).pool = τ.pool := rfl

@[simp] theorem State.setLine_walk (τ : State) (l : Fin 64) (x : Line) : (τ.setLine l x).walk = τ.walk := rfl

@[simp] theorem State.setLine_mend (τ : State) (l : Fin 64) (x : Line) : (τ.setLine l x).mend = τ.mend := rfl

@[simp] theorem State.setLine_dir (τ : State) (l : Fin 64) (x : Line) : (τ.setLine l x).dir = τ.dir := rfl

@[simp] theorem State.setLine_rep (τ : State) (l : Fin 64) (x : Line) : (τ.setLine l x).rep = τ.rep := rfl

@[simp] theorem State.setLine_ldr (τ : State) (l : Fin 64) (x : Line) : (τ.setLine l x).ldr = τ.ldr := rfl

@[simp] theorem State.setLine_store_queue (τ : State) (l : Fin 64) (x : Line) : (τ.setLine l x).store.queue = τ.store.queue := rfl

@[simp] theorem State.setLine_store_recency (τ : State) (l : Fin 64) (x : Line) : (τ.setLine l x).store.recency = τ.store.recency := rfl

@[simp] theorem State.setLine_store_dirtyOrder (τ : State) (l : Fin 64) (x : Line) : (τ.setLine l x).store.dirtyOrder = τ.store.dirtyOrder := rfl

@[simp] theorem State.setCat_pending (τ : State) (b : Fin 17) (x : CatBlock) : (τ.setCat b x).pending = τ.pending := rfl

@[simp] theorem State.setCat_ports (τ : State) (b : Fin 17) (x : CatBlock) : (τ.setCat b x).ports = τ.ports := rfl

@[simp] theorem State.setCat_up (τ : State) (b : Fin 17) (x : CatBlock) : (τ.setCat b x).up = τ.up := rfl

@[simp] theorem State.setCat_mediaUp (τ : State) (b : Fin 17) (x : CatBlock) : (τ.setCat b x).mediaUp = τ.mediaUp := rfl

@[simp] theorem State.setCat_slots (τ : State) (b : Fin 17) (x : CatBlock) : (τ.setCat b x).slots = τ.slots := rfl

@[simp] theorem State.setCat_arb (τ : State) (b : Fin 17) (x : CatBlock) : (τ.setCat b x).arb = τ.arb := rfl

@[simp] theorem State.setCat_cfg (τ : State) (b : Fin 17) (x : CatBlock) : (τ.setCat b x).cfg = τ.cfg := rfl

@[simp] theorem State.setCat_map (τ : State) (b : Fin 17) (x : CatBlock) : (τ.setCat b x).map = τ.map := rfl

@[simp] theorem State.setCat_pool (τ : State) (b : Fin 17) (x : CatBlock) : (τ.setCat b x).pool = τ.pool := rfl

@[simp] theorem State.setCat_store (τ : State) (b : Fin 17) (x : CatBlock) : (τ.setCat b x).store = τ.store := rfl

@[simp] theorem State.setCat_walk (τ : State) (b : Fin 17) (x : CatBlock) : (τ.setCat b x).walk = τ.walk := rfl

@[simp] theorem State.setCat_mend (τ : State) (b : Fin 17) (x : CatBlock) : (τ.setCat b x).mend = τ.mend := rfl

@[simp] theorem State.setCat_dir (τ : State) (b : Fin 17) (x : CatBlock) : (τ.setCat b x).dir = τ.dir := rfl

@[simp] theorem State.setCat_rep (τ : State) (b : Fin 17) (x : CatBlock) : (τ.setCat b x).rep = τ.rep := rfl

@[simp] theorem State.setCat_ldr_part (τ : State) (b : Fin 17) (x : CatBlock) : (τ.setCat b x).ldr.part = τ.ldr.part := rfl

@[simp] theorem State.setCat_ldr_maint (τ : State) (b : Fin 17) (x : CatBlock) : (τ.setCat b x).ldr.maint = τ.ldr.maint := rfl

@[simp] theorem State.setCat_ldr_eeprom (τ : State) (b : Fin 17) (x : CatBlock) : (τ.setCat b x).ldr.eeprom = τ.ldr.eeprom := rfl

@[simp] theorem State.setCat_ldr_setup (τ : State) (b : Fin 17) (x : CatBlock) : (τ.setCat b x).ldr.setup = τ.ldr.setup := rfl

@[simp] theorem State.setCat_ldr_load (τ : State) (b : Fin 17) (x : CatBlock) : (τ.setCat b x).ldr.load = τ.ldr.load := rfl

@[simp] theorem State.setCat_ldr_fault (τ : State) (b : Fin 17) (x : CatBlock) : (τ.setCat b x).ldr.fault = τ.ldr.fault := rfl

@[simp] theorem State.sendUp_pending (τ : State) (r : UpReturn) : (τ.sendUp r).pending = τ.pending := rfl

@[simp] theorem State.sendUp_up (τ : State) (r : UpReturn) : (τ.sendUp r).up = τ.up := rfl

@[simp] theorem State.sendUp_mediaUp (τ : State) (r : UpReturn) : (τ.sendUp r).mediaUp = τ.mediaUp := rfl

@[simp] theorem State.sendUp_slots (τ : State) (r : UpReturn) : (τ.sendUp r).slots = τ.slots := rfl

@[simp] theorem State.sendUp_arb (τ : State) (r : UpReturn) : (τ.sendUp r).arb = τ.arb := rfl

@[simp] theorem State.sendUp_cfg (τ : State) (r : UpReturn) : (τ.sendUp r).cfg = τ.cfg := rfl

@[simp] theorem State.sendUp_map (τ : State) (r : UpReturn) : (τ.sendUp r).map = τ.map := rfl

@[simp] theorem State.sendUp_pool (τ : State) (r : UpReturn) : (τ.sendUp r).pool = τ.pool := rfl

@[simp] theorem State.sendUp_store (τ : State) (r : UpReturn) : (τ.sendUp r).store = τ.store := rfl

@[simp] theorem State.sendUp_walk (τ : State) (r : UpReturn) : (τ.sendUp r).walk = τ.walk := rfl

@[simp] theorem State.sendUp_mend (τ : State) (r : UpReturn) : (τ.sendUp r).mend = τ.mend := rfl

@[simp] theorem State.sendUp_dir (τ : State) (r : UpReturn) : (τ.sendUp r).dir = τ.dir := rfl

@[simp] theorem State.sendUp_rep (τ : State) (r : UpReturn) : (τ.sendUp r).rep = τ.rep := rfl

@[simp] theorem State.sendUp_ldr (τ : State) (r : UpReturn) : (τ.sendUp r).ldr = τ.ldr := rfl

@[simp] theorem State.sendUp_ports_media (τ : State) (r : UpReturn) : (τ.sendUp r).ports.media = τ.ports.media := rfl

@[simp] theorem State.sendMedia_pending (τ : State) (m : MediaSend) : (τ.sendMedia m).pending = τ.pending := rfl

@[simp] theorem State.sendMedia_up (τ : State) (m : MediaSend) : (τ.sendMedia m).up = τ.up := rfl

@[simp] theorem State.sendMedia_mediaUp (τ : State) (m : MediaSend) : (τ.sendMedia m).mediaUp = τ.mediaUp := rfl

@[simp] theorem State.sendMedia_slots (τ : State) (m : MediaSend) : (τ.sendMedia m).slots = τ.slots := rfl

@[simp] theorem State.sendMedia_arb (τ : State) (m : MediaSend) : (τ.sendMedia m).arb = τ.arb := rfl

@[simp] theorem State.sendMedia_cfg (τ : State) (m : MediaSend) : (τ.sendMedia m).cfg = τ.cfg := rfl

@[simp] theorem State.sendMedia_map (τ : State) (m : MediaSend) : (τ.sendMedia m).map = τ.map := rfl

@[simp] theorem State.sendMedia_pool (τ : State) (m : MediaSend) : (τ.sendMedia m).pool = τ.pool := rfl

@[simp] theorem State.sendMedia_store (τ : State) (m : MediaSend) : (τ.sendMedia m).store = τ.store := rfl

@[simp] theorem State.sendMedia_walk (τ : State) (m : MediaSend) : (τ.sendMedia m).walk = τ.walk := rfl

@[simp] theorem State.sendMedia_mend (τ : State) (m : MediaSend) : (τ.sendMedia m).mend = τ.mend := rfl

@[simp] theorem State.sendMedia_dir (τ : State) (m : MediaSend) : (τ.sendMedia m).dir = τ.dir := rfl

@[simp] theorem State.sendMedia_rep (τ : State) (m : MediaSend) : (τ.sendMedia m).rep = τ.rep := rfl

@[simp] theorem State.sendMedia_ldr (τ : State) (m : MediaSend) : (τ.sendMedia m).ldr = τ.ldr := rfl

@[simp] theorem State.sendMedia_ports_upstream (τ : State) (m : MediaSend) : (τ.sendMedia m).ports.upstream = τ.ports.upstream := rfl

@[simp] theorem State.enqueue_pending (τ : State) (r : InjRequest) : (τ.enqueue r).pending = τ.pending := rfl

@[simp] theorem State.enqueue_ports (τ : State) (r : InjRequest) : (τ.enqueue r).ports = τ.ports := rfl

@[simp] theorem State.enqueue_up (τ : State) (r : InjRequest) : (τ.enqueue r).up = τ.up := rfl

@[simp] theorem State.enqueue_mediaUp (τ : State) (r : InjRequest) : (τ.enqueue r).mediaUp = τ.mediaUp := rfl

@[simp] theorem State.enqueue_slots (τ : State) (r : InjRequest) : (τ.enqueue r).slots = τ.slots := rfl

@[simp] theorem State.enqueue_cfg (τ : State) (r : InjRequest) : (τ.enqueue r).cfg = τ.cfg := rfl

@[simp] theorem State.enqueue_map (τ : State) (r : InjRequest) : (τ.enqueue r).map = τ.map := rfl

@[simp] theorem State.enqueue_pool (τ : State) (r : InjRequest) : (τ.enqueue r).pool = τ.pool := rfl

@[simp] theorem State.enqueue_store (τ : State) (r : InjRequest) : (τ.enqueue r).store = τ.store := rfl

@[simp] theorem State.enqueue_walk (τ : State) (r : InjRequest) : (τ.enqueue r).walk = τ.walk := rfl

@[simp] theorem State.enqueue_mend (τ : State) (r : InjRequest) : (τ.enqueue r).mend = τ.mend := rfl

@[simp] theorem State.enqueue_dir (τ : State) (r : InjRequest) : (τ.enqueue r).dir = τ.dir := rfl

@[simp] theorem State.enqueue_rep (τ : State) (r : InjRequest) : (τ.enqueue r).rep = τ.rep := rfl

@[simp] theorem State.enqueue_ldr (τ : State) (r : InjRequest) : (τ.enqueue r).ldr = τ.ldr := rfl

@[simp] theorem State.withdraw_pending (τ : State) (p : Owner → Bool) : (τ.withdraw p).pending = τ.pending := rfl

@[simp] theorem State.withdraw_ports (τ : State) (p : Owner → Bool) : (τ.withdraw p).ports = τ.ports := rfl

@[simp] theorem State.withdraw_up (τ : State) (p : Owner → Bool) : (τ.withdraw p).up = τ.up := rfl

@[simp] theorem State.withdraw_mediaUp (τ : State) (p : Owner → Bool) : (τ.withdraw p).mediaUp = τ.mediaUp := rfl

@[simp] theorem State.withdraw_slots (τ : State) (p : Owner → Bool) : (τ.withdraw p).slots = τ.slots := rfl

@[simp] theorem State.withdraw_cfg (τ : State) (p : Owner → Bool) : (τ.withdraw p).cfg = τ.cfg := rfl

@[simp] theorem State.withdraw_map (τ : State) (p : Owner → Bool) : (τ.withdraw p).map = τ.map := rfl

@[simp] theorem State.withdraw_pool (τ : State) (p : Owner → Bool) : (τ.withdraw p).pool = τ.pool := rfl

@[simp] theorem State.withdraw_store (τ : State) (p : Owner → Bool) : (τ.withdraw p).store = τ.store := rfl

@[simp] theorem State.withdraw_walk (τ : State) (p : Owner → Bool) : (τ.withdraw p).walk = τ.walk := rfl

@[simp] theorem State.withdraw_mend (τ : State) (p : Owner → Bool) : (τ.withdraw p).mend = τ.mend := rfl

@[simp] theorem State.withdraw_dir (τ : State) (p : Owner → Bool) : (τ.withdraw p).dir = τ.dir := rfl

@[simp] theorem State.withdraw_rep (τ : State) (p : Owner → Bool) : (τ.withdraw p).rep = τ.rep := rfl

@[simp] theorem State.withdraw_ldr (τ : State) (p : Owner → Bool) : (τ.withdraw p).ldr = τ.ldr := rfl

@[simp] theorem State.killOutstanding_pending (τ : State) (p : Owner → Bool) : (τ.killOutstanding p).pending = τ.pending := by
  unfold State.killOutstanding
  repeat' (first | rfl | (simp; done) | split | intro _)

@[simp] theorem State.killOutstanding_ports (τ : State) (p : Owner → Bool) : (τ.killOutstanding p).ports = τ.ports := by
  unfold State.killOutstanding
  repeat' (first | rfl | (simp; done) | split | intro _)

@[simp] theorem State.killOutstanding_up (τ : State) (p : Owner → Bool) : (τ.killOutstanding p).up = τ.up := by
  unfold State.killOutstanding
  repeat' (first | rfl | (simp; done) | split | intro _)

@[simp] theorem State.killOutstanding_mediaUp (τ : State) (p : Owner → Bool) : (τ.killOutstanding p).mediaUp = τ.mediaUp := by
  unfold State.killOutstanding
  repeat' (first | rfl | (simp; done) | split | intro _)

@[simp] theorem State.killOutstanding_arb (τ : State) (p : Owner → Bool) : (τ.killOutstanding p).arb = τ.arb := by
  unfold State.killOutstanding
  repeat' (first | rfl | (simp; done) | split | intro _)

@[simp] theorem State.killOutstanding_cfg (τ : State) (p : Owner → Bool) : (τ.killOutstanding p).cfg = τ.cfg := by
  unfold State.killOutstanding
  repeat' (first | rfl | (simp; done) | split | intro _)

@[simp] theorem State.killOutstanding_map (τ : State) (p : Owner → Bool) : (τ.killOutstanding p).map = τ.map := by
  unfold State.killOutstanding
  repeat' (first | rfl | (simp; done) | split | intro _)

@[simp] theorem State.killOutstanding_pool (τ : State) (p : Owner → Bool) : (τ.killOutstanding p).pool = τ.pool := by
  unfold State.killOutstanding
  repeat' (first | rfl | (simp; done) | split | intro _)

@[simp] theorem State.killOutstanding_store (τ : State) (p : Owner → Bool) : (τ.killOutstanding p).store = τ.store := by
  unfold State.killOutstanding
  repeat' (first | rfl | (simp; done) | split | intro _)

@[simp] theorem State.killOutstanding_walk (τ : State) (p : Owner → Bool) : (τ.killOutstanding p).walk = τ.walk := by
  unfold State.killOutstanding
  repeat' (first | rfl | (simp; done) | split | intro _)

@[simp] theorem State.killOutstanding_mend (τ : State) (p : Owner → Bool) : (τ.killOutstanding p).mend = τ.mend := by
  unfold State.killOutstanding
  repeat' (first | rfl | (simp; done) | split | intro _)

@[simp] theorem State.killOutstanding_dir (τ : State) (p : Owner → Bool) : (τ.killOutstanding p).dir = τ.dir := by
  unfold State.killOutstanding
  repeat' (first | rfl | (simp; done) | split | intro _)

@[simp] theorem State.killOutstanding_rep (τ : State) (p : Owner → Bool) : (τ.killOutstanding p).rep = τ.rep := by
  unfold State.killOutstanding
  repeat' (first | rfl | (simp; done) | split | intro _)

@[simp] theorem State.killOutstanding_ldr (τ : State) (p : Owner → Bool) : (τ.killOutstanding p).ldr = τ.ldr := by
  unfold State.killOutstanding
  repeat' (first | rfl | (simp; done) | split | intro _)

@[simp] theorem State.pin_pending (τ : State) (l : Fin 64) : (τ.pin l).pending = τ.pending := by
  simp [State.pin]

@[simp] theorem State.pin_ports (τ : State) (l : Fin 64) : (τ.pin l).ports = τ.ports := by
  simp [State.pin]

@[simp] theorem State.pin_up (τ : State) (l : Fin 64) : (τ.pin l).up = τ.up := by
  simp [State.pin]

@[simp] theorem State.pin_mediaUp (τ : State) (l : Fin 64) : (τ.pin l).mediaUp = τ.mediaUp := by
  simp [State.pin]

@[simp] theorem State.pin_slots (τ : State) (l : Fin 64) : (τ.pin l).slots = τ.slots := by
  simp [State.pin]

@[simp] theorem State.pin_arb (τ : State) (l : Fin 64) : (τ.pin l).arb = τ.arb := by
  simp [State.pin]

@[simp] theorem State.pin_cfg (τ : State) (l : Fin 64) : (τ.pin l).cfg = τ.cfg := by
  simp [State.pin]

@[simp] theorem State.pin_map (τ : State) (l : Fin 64) : (τ.pin l).map = τ.map := by
  simp [State.pin]

@[simp] theorem State.pin_pool (τ : State) (l : Fin 64) : (τ.pin l).pool = τ.pool := by
  simp [State.pin]

@[simp] theorem State.pin_walk (τ : State) (l : Fin 64) : (τ.pin l).walk = τ.walk := by
  simp [State.pin]

@[simp] theorem State.pin_mend (τ : State) (l : Fin 64) : (τ.pin l).mend = τ.mend := by
  simp [State.pin]

@[simp] theorem State.pin_dir (τ : State) (l : Fin 64) : (τ.pin l).dir = τ.dir := by
  simp [State.pin]

@[simp] theorem State.pin_rep (τ : State) (l : Fin 64) : (τ.pin l).rep = τ.rep := by
  simp [State.pin]

@[simp] theorem State.pin_ldr (τ : State) (l : Fin 64) : (τ.pin l).ldr = τ.ldr := by
  simp [State.pin]

@[simp] theorem State.pin_store_queue (τ : State) (l : Fin 64) : (τ.pin l).store.queue = τ.store.queue := by
  simp [State.pin]

@[simp] theorem State.pin_store_dirtyOrder (τ : State) (l : Fin 64) : (τ.pin l).store.dirtyOrder = τ.store.dirtyOrder := by
  simp [State.pin]

@[simp] theorem State.unpin_pending (τ : State) (l : Fin 64) : (τ.unpin l).pending = τ.pending := by
  simp [State.unpin]

@[simp] theorem State.unpin_ports (τ : State) (l : Fin 64) : (τ.unpin l).ports = τ.ports := by
  simp [State.unpin]

@[simp] theorem State.unpin_up (τ : State) (l : Fin 64) : (τ.unpin l).up = τ.up := by
  simp [State.unpin]

@[simp] theorem State.unpin_mediaUp (τ : State) (l : Fin 64) : (τ.unpin l).mediaUp = τ.mediaUp := by
  simp [State.unpin]

@[simp] theorem State.unpin_slots (τ : State) (l : Fin 64) : (τ.unpin l).slots = τ.slots := by
  simp [State.unpin]

@[simp] theorem State.unpin_arb (τ : State) (l : Fin 64) : (τ.unpin l).arb = τ.arb := by
  simp [State.unpin]

@[simp] theorem State.unpin_cfg (τ : State) (l : Fin 64) : (τ.unpin l).cfg = τ.cfg := by
  simp [State.unpin]

@[simp] theorem State.unpin_map (τ : State) (l : Fin 64) : (τ.unpin l).map = τ.map := by
  simp [State.unpin]

@[simp] theorem State.unpin_pool (τ : State) (l : Fin 64) : (τ.unpin l).pool = τ.pool := by
  simp [State.unpin]

@[simp] theorem State.unpin_walk (τ : State) (l : Fin 64) : (τ.unpin l).walk = τ.walk := by
  simp [State.unpin]

@[simp] theorem State.unpin_mend (τ : State) (l : Fin 64) : (τ.unpin l).mend = τ.mend := by
  simp [State.unpin]

@[simp] theorem State.unpin_dir (τ : State) (l : Fin 64) : (τ.unpin l).dir = τ.dir := by
  simp [State.unpin]

@[simp] theorem State.unpin_rep (τ : State) (l : Fin 64) : (τ.unpin l).rep = τ.rep := by
  simp [State.unpin]

@[simp] theorem State.unpin_ldr (τ : State) (l : Fin 64) : (τ.unpin l).ldr = τ.ldr := by
  simp [State.unpin]

@[simp] theorem State.unpin_store_queue (τ : State) (l : Fin 64) : (τ.unpin l).store.queue = τ.store.queue := by
  simp [State.unpin]

@[simp] theorem State.unpin_store_recency (τ : State) (l : Fin 64) : (τ.unpin l).store.recency = τ.store.recency := by
  simp [State.unpin]

@[simp] theorem State.unpin_store_dirtyOrder (τ : State) (l : Fin 64) : (τ.unpin l).store.dirtyOrder = τ.store.dirtyOrder := by
  simp [State.unpin]

@[simp] theorem State.unpin?_pending (τ : State)  (o : Option (Fin 64)) : (τ.unpin?  o).pending = τ.pending := by
  unfold State.unpin?
  repeat' (first | rfl | (simp; done) | split | intro _)

@[simp] theorem State.unpin?_ports (τ : State)  (o : Option (Fin 64)) : (τ.unpin?  o).ports = τ.ports := by
  unfold State.unpin?
  repeat' (first | rfl | (simp; done) | split | intro _)

@[simp] theorem State.unpin?_up (τ : State)  (o : Option (Fin 64)) : (τ.unpin?  o).up = τ.up := by
  unfold State.unpin?
  repeat' (first | rfl | (simp; done) | split | intro _)

@[simp] theorem State.unpin?_mediaUp (τ : State)  (o : Option (Fin 64)) : (τ.unpin?  o).mediaUp = τ.mediaUp := by
  unfold State.unpin?
  repeat' (first | rfl | (simp; done) | split | intro _)

@[simp] theorem State.unpin?_slots (τ : State)  (o : Option (Fin 64)) : (τ.unpin?  o).slots = τ.slots := by
  unfold State.unpin?
  repeat' (first | rfl | (simp; done) | split | intro _)

@[simp] theorem State.unpin?_arb (τ : State)  (o : Option (Fin 64)) : (τ.unpin?  o).arb = τ.arb := by
  unfold State.unpin?
  repeat' (first | rfl | (simp; done) | split | intro _)

@[simp] theorem State.unpin?_cfg (τ : State)  (o : Option (Fin 64)) : (τ.unpin?  o).cfg = τ.cfg := by
  unfold State.unpin?
  repeat' (first | rfl | (simp; done) | split | intro _)

@[simp] theorem State.unpin?_map (τ : State)  (o : Option (Fin 64)) : (τ.unpin?  o).map = τ.map := by
  unfold State.unpin?
  repeat' (first | rfl | (simp; done) | split | intro _)

@[simp] theorem State.unpin?_pool (τ : State)  (o : Option (Fin 64)) : (τ.unpin?  o).pool = τ.pool := by
  unfold State.unpin?
  repeat' (first | rfl | (simp; done) | split | intro _)

@[simp] theorem State.unpin?_walk (τ : State)  (o : Option (Fin 64)) : (τ.unpin?  o).walk = τ.walk := by
  unfold State.unpin?
  repeat' (first | rfl | (simp; done) | split | intro _)

@[simp] theorem State.unpin?_mend (τ : State)  (o : Option (Fin 64)) : (τ.unpin?  o).mend = τ.mend := by
  unfold State.unpin?
  repeat' (first | rfl | (simp; done) | split | intro _)

@[simp] theorem State.unpin?_dir (τ : State)  (o : Option (Fin 64)) : (τ.unpin?  o).dir = τ.dir := by
  unfold State.unpin?
  repeat' (first | rfl | (simp; done) | split | intro _)

@[simp] theorem State.unpin?_rep (τ : State)  (o : Option (Fin 64)) : (τ.unpin?  o).rep = τ.rep := by
  unfold State.unpin?
  repeat' (first | rfl | (simp; done) | split | intro _)

@[simp] theorem State.unpin?_ldr (τ : State)  (o : Option (Fin 64)) : (τ.unpin?  o).ldr = τ.ldr := by
  unfold State.unpin?
  repeat' (first | rfl | (simp; done) | split | intro _)

@[simp] theorem State.unpin?_store_queue (τ : State)  (o : Option (Fin 64)) : (τ.unpin?  o).store.queue = τ.store.queue := by
  unfold State.unpin?
  repeat' (first | rfl | (simp; done) | split | intro _)

@[simp] theorem State.unpin?_store_recency (τ : State)  (o : Option (Fin 64)) : (τ.unpin?  o).store.recency = τ.store.recency := by
  unfold State.unpin?
  repeat' (first | rfl | (simp; done) | split | intro _)

@[simp] theorem State.unpin?_store_dirtyOrder (τ : State)  (o : Option (Fin 64)) : (τ.unpin?  o).store.dirtyOrder = τ.store.dirtyOrder := by
  unfold State.unpin?
  repeat' (first | rfl | (simp; done) | split | intro _)

@[simp] theorem State.queueCat_pending (τ : State) (b : Fin 17) : (τ.queueCat b).pending = τ.pending := by
  unfold State.queueCat
  repeat' (first | rfl | (simp; done) | split | intro _)

@[simp] theorem State.queueCat_ports (τ : State) (b : Fin 17) : (τ.queueCat b).ports = τ.ports := by
  unfold State.queueCat
  repeat' (first | rfl | (simp; done) | split | intro _)

@[simp] theorem State.queueCat_up (τ : State) (b : Fin 17) : (τ.queueCat b).up = τ.up := by
  unfold State.queueCat
  repeat' (first | rfl | (simp; done) | split | intro _)

@[simp] theorem State.queueCat_mediaUp (τ : State) (b : Fin 17) : (τ.queueCat b).mediaUp = τ.mediaUp := by
  unfold State.queueCat
  repeat' (first | rfl | (simp; done) | split | intro _)

@[simp] theorem State.queueCat_slots (τ : State) (b : Fin 17) : (τ.queueCat b).slots = τ.slots := by
  unfold State.queueCat
  repeat' (first | rfl | (simp; done) | split | intro _)

@[simp] theorem State.queueCat_cfg (τ : State) (b : Fin 17) : (τ.queueCat b).cfg = τ.cfg := by
  unfold State.queueCat
  repeat' (first | rfl | (simp; done) | split | intro _)

@[simp] theorem State.queueCat_map (τ : State) (b : Fin 17) : (τ.queueCat b).map = τ.map := by
  unfold State.queueCat
  repeat' (first | rfl | (simp; done) | split | intro _)

@[simp] theorem State.queueCat_pool (τ : State) (b : Fin 17) : (τ.queueCat b).pool = τ.pool := by
  unfold State.queueCat
  repeat' (first | rfl | (simp; done) | split | intro _)

@[simp] theorem State.queueCat_store (τ : State) (b : Fin 17) : (τ.queueCat b).store = τ.store := by
  unfold State.queueCat
  repeat' (first | rfl | (simp; done) | split | intro _)

@[simp] theorem State.queueCat_walk (τ : State) (b : Fin 17) : (τ.queueCat b).walk = τ.walk := by
  unfold State.queueCat
  repeat' (first | rfl | (simp; done) | split | intro _)

@[simp] theorem State.queueCat_mend (τ : State) (b : Fin 17) : (τ.queueCat b).mend = τ.mend := by
  unfold State.queueCat
  repeat' (first | rfl | (simp; done) | split | intro _)

@[simp] theorem State.queueCat_dir (τ : State) (b : Fin 17) : (τ.queueCat b).dir = τ.dir := by
  unfold State.queueCat
  repeat' (first | rfl | (simp; done) | split | intro _)

@[simp] theorem State.queueCat_rep (τ : State) (b : Fin 17) : (τ.queueCat b).rep = τ.rep := by
  unfold State.queueCat
  repeat' (first | rfl | (simp; done) | split | intro _)

@[simp] theorem State.queueCat_ldr (τ : State) (b : Fin 17) : (τ.queueCat b).ldr = τ.ldr := by
  unfold State.queueCat
  repeat' (first | rfl | (simp; done) | split | intro _)

@[simp] theorem State.markCat_pending (τ : State) (b : Fin 17) : (τ.markCat b).pending = τ.pending := by
  unfold State.markCat
  repeat' (first | rfl | (simp; done) | split | intro _)

@[simp] theorem State.markCat_ports (τ : State) (b : Fin 17) : (τ.markCat b).ports = τ.ports := by
  unfold State.markCat
  repeat' (first | rfl | (simp; done) | split | intro _)

@[simp] theorem State.markCat_up (τ : State) (b : Fin 17) : (τ.markCat b).up = τ.up := by
  unfold State.markCat
  repeat' (first | rfl | (simp; done) | split | intro _)

@[simp] theorem State.markCat_mediaUp (τ : State) (b : Fin 17) : (τ.markCat b).mediaUp = τ.mediaUp := by
  unfold State.markCat
  repeat' (first | rfl | (simp; done) | split | intro _)

@[simp] theorem State.markCat_slots (τ : State) (b : Fin 17) : (τ.markCat b).slots = τ.slots := by
  unfold State.markCat
  repeat' (first | rfl | (simp; done) | split | intro _)

@[simp] theorem State.markCat_cfg (τ : State) (b : Fin 17) : (τ.markCat b).cfg = τ.cfg := by
  unfold State.markCat
  repeat' (first | rfl | (simp; done) | split | intro _)

@[simp] theorem State.markCat_map (τ : State) (b : Fin 17) : (τ.markCat b).map = τ.map := by
  unfold State.markCat
  repeat' (first | rfl | (simp; done) | split | intro _)

@[simp] theorem State.markCat_pool (τ : State) (b : Fin 17) : (τ.markCat b).pool = τ.pool := by
  unfold State.markCat
  repeat' (first | rfl | (simp; done) | split | intro _)

@[simp] theorem State.markCat_store (τ : State) (b : Fin 17) : (τ.markCat b).store = τ.store := by
  unfold State.markCat
  repeat' (first | rfl | (simp; done) | split | intro _)

@[simp] theorem State.markCat_walk (τ : State) (b : Fin 17) : (τ.markCat b).walk = τ.walk := by
  unfold State.markCat
  repeat' (first | rfl | (simp; done) | split | intro _)

@[simp] theorem State.markCat_mend (τ : State) (b : Fin 17) : (τ.markCat b).mend = τ.mend := by
  unfold State.markCat
  repeat' (first | rfl | (simp; done) | split | intro _)

@[simp] theorem State.markCat_dir (τ : State) (b : Fin 17) : (τ.markCat b).dir = τ.dir := by
  unfold State.markCat
  repeat' (first | rfl | (simp; done) | split | intro _)

@[simp] theorem State.markCat_rep (τ : State) (b : Fin 17) : (τ.markCat b).rep = τ.rep := by
  unfold State.markCat
  repeat' (first | rfl | (simp; done) | split | intro _)

@[simp] theorem State.markCat_ldr_part (τ : State) (b : Fin 17) : (τ.markCat b).ldr.part = τ.ldr.part := by
  unfold State.markCat
  repeat' (first | rfl | (simp; done) | split | intro _)

@[simp] theorem State.markCat_ldr_maint (τ : State) (b : Fin 17) : (τ.markCat b).ldr.maint = τ.ldr.maint := by
  unfold State.markCat
  repeat' (first | rfl | (simp; done) | split | intro _)

@[simp] theorem State.markCat_ldr_eeprom (τ : State) (b : Fin 17) : (τ.markCat b).ldr.eeprom = τ.ldr.eeprom := by
  unfold State.markCat
  repeat' (first | rfl | (simp; done) | split | intro _)

@[simp] theorem State.markCat_ldr_setup (τ : State) (b : Fin 17) : (τ.markCat b).ldr.setup = τ.ldr.setup := by
  unfold State.markCat
  repeat' (first | rfl | (simp; done) | split | intro _)

@[simp] theorem State.markCat_ldr_load (τ : State) (b : Fin 17) : (τ.markCat b).ldr.load = τ.ldr.load := by
  unfold State.markCat
  repeat' (first | rfl | (simp; done) | split | intro _)

@[simp] theorem State.markCat_ldr_fault (τ : State) (b : Fin 17) : (τ.markCat b).ldr.fault = τ.ldr.fault := by
  unfold State.markCat
  repeat' (first | rfl | (simp; done) | split | intro _)

@[simp] theorem State.markHeader_pending (τ : State)  : τ.markHeader.pending = τ.pending := by
  simp [State.markHeader]

@[simp] theorem State.markHeader_ports (τ : State)  : τ.markHeader.ports = τ.ports := by
  simp [State.markHeader]

@[simp] theorem State.markHeader_up (τ : State)  : τ.markHeader.up = τ.up := by
  simp [State.markHeader]

@[simp] theorem State.markHeader_mediaUp (τ : State)  : τ.markHeader.mediaUp = τ.mediaUp := by
  simp [State.markHeader]

@[simp] theorem State.markHeader_slots (τ : State)  : τ.markHeader.slots = τ.slots := by
  simp [State.markHeader]

@[simp] theorem State.markHeader_cfg (τ : State)  : τ.markHeader.cfg = τ.cfg := by
  simp [State.markHeader]

@[simp] theorem State.markHeader_map (τ : State)  : τ.markHeader.map = τ.map := by
  simp [State.markHeader]

@[simp] theorem State.markHeader_pool (τ : State)  : τ.markHeader.pool = τ.pool := by
  simp [State.markHeader]

@[simp] theorem State.markHeader_store (τ : State)  : τ.markHeader.store = τ.store := by
  simp [State.markHeader]

@[simp] theorem State.markHeader_walk (τ : State)  : τ.markHeader.walk = τ.walk := by
  simp [State.markHeader]

@[simp] theorem State.markHeader_mend (τ : State)  : τ.markHeader.mend = τ.mend := by
  simp [State.markHeader]

@[simp] theorem State.markHeader_dir (τ : State)  : τ.markHeader.dir = τ.dir := by
  simp [State.markHeader]

@[simp] theorem State.markHeader_rep (τ : State)  : τ.markHeader.rep = τ.rep := by
  simp [State.markHeader]

@[simp] theorem State.markHeader_ldr_part (τ : State)  : τ.markHeader.ldr.part = τ.ldr.part := by
  simp [State.markHeader]

@[simp] theorem State.markHeader_ldr_maint (τ : State)  : τ.markHeader.ldr.maint = τ.ldr.maint := by
  simp [State.markHeader]

@[simp] theorem State.markHeader_ldr_eeprom (τ : State)  : τ.markHeader.ldr.eeprom = τ.ldr.eeprom := by
  simp [State.markHeader]

@[simp] theorem State.markHeader_ldr_setup (τ : State)  : τ.markHeader.ldr.setup = τ.ldr.setup := by
  simp [State.markHeader]

@[simp] theorem State.markHeader_ldr_load (τ : State)  : τ.markHeader.ldr.load = τ.ldr.load := by
  simp [State.markHeader]

@[simp] theorem State.markHeader_ldr_fault (τ : State)  : τ.markHeader.ldr.fault = τ.ldr.fault := by
  simp [State.markHeader]

@[simp] theorem State.changeExtent_pending (τ : State) (e : Fin 1024) (x : Extent) : (τ.changeExtent e x).pending = τ.pending := by
  simp [State.changeExtent]

@[simp] theorem State.changeExtent_ports (τ : State) (e : Fin 1024) (x : Extent) : (τ.changeExtent e x).ports = τ.ports := by
  simp [State.changeExtent]

@[simp] theorem State.changeExtent_up (τ : State) (e : Fin 1024) (x : Extent) : (τ.changeExtent e x).up = τ.up := by
  simp [State.changeExtent]

@[simp] theorem State.changeExtent_mediaUp (τ : State) (e : Fin 1024) (x : Extent) : (τ.changeExtent e x).mediaUp = τ.mediaUp := by
  simp [State.changeExtent]

@[simp] theorem State.changeExtent_slots (τ : State) (e : Fin 1024) (x : Extent) : (τ.changeExtent e x).slots = τ.slots := by
  simp [State.changeExtent]

@[simp] theorem State.changeExtent_cfg (τ : State) (e : Fin 1024) (x : Extent) : (τ.changeExtent e x).cfg = τ.cfg := by
  simp [State.changeExtent]

@[simp] theorem State.changeExtent_pool (τ : State) (e : Fin 1024) (x : Extent) : (τ.changeExtent e x).pool = τ.pool := by
  simp [State.changeExtent]

@[simp] theorem State.changeExtent_store (τ : State) (e : Fin 1024) (x : Extent) : (τ.changeExtent e x).store = τ.store := by
  simp [State.changeExtent]

@[simp] theorem State.changeExtent_walk (τ : State) (e : Fin 1024) (x : Extent) : (τ.changeExtent e x).walk = τ.walk := by
  simp [State.changeExtent]

@[simp] theorem State.changeExtent_mend (τ : State) (e : Fin 1024) (x : Extent) : (τ.changeExtent e x).mend = τ.mend := by
  simp [State.changeExtent]

@[simp] theorem State.changeExtent_dir (τ : State) (e : Fin 1024) (x : Extent) : (τ.changeExtent e x).dir = τ.dir := by
  simp [State.changeExtent]

@[simp] theorem State.changeExtent_rep (τ : State) (e : Fin 1024) (x : Extent) : (τ.changeExtent e x).rep = τ.rep := by
  simp [State.changeExtent]

@[simp] theorem State.changeExtent_map_index (τ : State) (e : Fin 1024) (x : Extent) : (τ.changeExtent e x).map.index = τ.map.index := by
  simp [State.changeExtent]

@[simp] theorem State.changeExtent_map_restart (τ : State) (e : Fin 1024) (x : Extent) : (τ.changeExtent e x).map.restart = τ.map.restart := by
  simp [State.changeExtent]

@[simp] theorem State.changeExtent_ldr_part (τ : State) (e : Fin 1024) (x : Extent) : (τ.changeExtent e x).ldr.part = τ.ldr.part := by
  simp [State.changeExtent]

@[simp] theorem State.changeExtent_ldr_maint (τ : State) (e : Fin 1024) (x : Extent) : (τ.changeExtent e x).ldr.maint = τ.ldr.maint := by
  simp [State.changeExtent]

@[simp] theorem State.changeExtent_ldr_eeprom (τ : State) (e : Fin 1024) (x : Extent) : (τ.changeExtent e x).ldr.eeprom = τ.ldr.eeprom := by
  simp [State.changeExtent]

@[simp] theorem State.changeExtent_ldr_setup (τ : State) (e : Fin 1024) (x : Extent) : (τ.changeExtent e x).ldr.setup = τ.ldr.setup := by
  simp [State.changeExtent]

@[simp] theorem State.changeExtent_ldr_load (τ : State) (e : Fin 1024) (x : Extent) : (τ.changeExtent e x).ldr.load = τ.ldr.load := by
  simp [State.changeExtent]

@[simp] theorem State.changeExtent_ldr_fault (τ : State) (e : Fin 1024) (x : Extent) : (τ.changeExtent e x).ldr.fault = τ.ldr.fault := by
  simp [State.changeExtent]

/-! ### The status window in FAULT (R190, section 12.3) -/

@[simp] theorem leBytes_length : ∀ n x : Nat, (leBytes n x).length = n
  | 0, _ => rfl
  | n + 1, x => congrArg (· + 1) (leBytes_length n (x / 256))

/-- Every cause has its detail in eight bytes. -/
@[simp] theorem FaultCause.detail_length (c : FaultCause) : c.detail.length = 8 := by
  cases c <;> simp [FaultCause.detail, zeros]

/-- In FAULT the window opens with its selection code, the cause, two zero bytes and the eight bytes of the detail. -/
theorem State.windowBytes_fault {s : State} {c : FaultCause} (hp : s.ldr.part = .fault) (hf : s.ldr.fault = some c) :
    s.windowBytes.take 12 = leBytes 1 6 ++ leBytes 1 c.code ++ zeros 2 ++ c.detail := by
  simp only [State.windowBytes, hp, hf, padTo]
  exact List.take_left' (by simp [zeros])

end Sys2Proof.Machine
end

