-- ==== Sys2Proof/Laws/FrameFlags.lean ====
section
/-!
SUPPORT. What each operation of Machine/Flags.lean leaves as it was, field by field.
-/

namespace Sys2Proof.Machine

@[simp] theorem Report.updateCount_place (r : Report) (f : Finding) : (r.place f).updateCount = r.updateCount := by
  unfold Report.place; dsimp only; split <;> rfl

@[simp] theorem Report.flags_place (r : Report) (f : Finding) : (r.place f).flags = r.flags := by
  unfold Report.place; dsimp only; split <;> rfl

@[simp] theorem Report.statusDue_place (r : Report) (f : Finding) : (r.place f).statusDue = r.statusDue := by
  unfold Report.place; dsimp only; split <;> rfl

@[simp] theorem Report.statusTimer_place (r : Report) (f : Finding) : (r.place f).statusTimer = r.statusTimer := by
  unfold Report.place; dsimp only; split <;> rfl

@[simp] theorem Report.statusShot_place (r : Report) (f : Finding) : (r.place f).statusShot = r.statusShot := by
  unfold Report.place; dsimp only; split <;> rfl

@[simp] theorem Report.selection_place (r : Report) (f : Finding) : (r.place f).selection = r.selection := by
  unfold Report.place; dsimp only; split <;> rfl

@[simp] theorem Report.selectedSince_place (r : Report) (f : Finding) : (r.place f).selectedSince = r.selectedSince := by
  unfold Report.place; dsimp only; split <;> rfl

@[simp] theorem Report.lastBatch_place (r : Report) (f : Finding) : (r.place f).lastBatch = r.lastBatch := by
  unfold Report.place; dsimp only; split <;> rfl

@[simp] theorem Report.writtenHead_place (r : Report) (f : Finding) : (r.place f).writtenHead = r.writtenHead := by
  unfold Report.place; dsimp only; split <;> rfl

@[simp] theorem Report.tail_place (r : Report) (f : Finding) : (r.place f).tail = r.tail := by
  unfold Report.place; dsimp only; split <;> rfl

@[simp] theorem Report.withheld_place (r : Report) (f : Finding) : (r.place f).withheld = r.withheld := by
  unfold Report.place; dsimp only; split <;> rfl

@[simp] theorem Report.logShot_place (r : Report) (f : Finding) : (r.place f).logShot = r.logShot := by
  unfold Report.place; dsimp only; split <;> rfl

@[simp] theorem Report.clock_place (r : Report) (f : Finding) : (r.place f).clock = r.clock := by
  unfold Report.place; dsimp only; split <;> rfl

@[simp] theorem Report.head_place (r : Report) (f : Finding) : (r.place f).head = (r.head + 1) % 4096 := by
  unfold Report.place; dsimp only; split <;> rfl

@[simp] theorem State.pumpStatus_pending (τ : State)  : τ.pumpStatus.pending = τ.pending := by
  unfold State.pumpStatus
  repeat' (first | rfl | (simp; done) | split | intro _)

@[simp] theorem State.pumpStatus_ports (τ : State)  : τ.pumpStatus.ports = τ.ports := by
  unfold State.pumpStatus
  repeat' (first | rfl | (simp; done) | split | intro _)

@[simp] theorem State.pumpStatus_up (τ : State)  : τ.pumpStatus.up = τ.up := by
  unfold State.pumpStatus
  repeat' (first | rfl | (simp; done) | split | intro _)

@[simp] theorem State.pumpStatus_mediaUp (τ : State)  : τ.pumpStatus.mediaUp = τ.mediaUp := by
  unfold State.pumpStatus
  repeat' (first | rfl | (simp; done) | split | intro _)

@[simp] theorem State.pumpStatus_slots (τ : State)  : τ.pumpStatus.slots = τ.slots := by
  unfold State.pumpStatus
  repeat' (first | rfl | (simp; done) | split | intro _)

@[simp] theorem State.pumpStatus_cfg (τ : State)  : τ.pumpStatus.cfg = τ.cfg := by
  unfold State.pumpStatus
  repeat' (first | rfl | (simp; done) | split | intro _)

@[simp] theorem State.pumpStatus_map (τ : State)  : τ.pumpStatus.map = τ.map := by
  unfold State.pumpStatus
  repeat' (first | rfl | (simp; done) | split | intro _)

@[simp] theorem State.pumpStatus_pool (τ : State)  : τ.pumpStatus.pool = τ.pool := by
  unfold State.pumpStatus
  repeat' (first | rfl | (simp; done) | split | intro _)

@[simp] theorem State.pumpStatus_store (τ : State)  : τ.pumpStatus.store = τ.store := by
  unfold State.pumpStatus
  repeat' (first | rfl | (simp; done) | split | intro _)

@[simp] theorem State.pumpStatus_walk (τ : State)  : τ.pumpStatus.walk = τ.walk := by
  unfold State.pumpStatus
  repeat' (first | rfl | (simp; done) | split | intro _)

@[simp] theorem State.pumpStatus_mend (τ : State)  : τ.pumpStatus.mend = τ.mend := by
  unfold State.pumpStatus
  repeat' (first | rfl | (simp; done) | split | intro _)

@[simp] theorem State.pumpStatus_dir (τ : State)  : τ.pumpStatus.dir = τ.dir := by
  unfold State.pumpStatus
  repeat' (first | rfl | (simp; done) | split | intro _)

@[simp] theorem State.pumpStatus_rep (τ : State)  : τ.pumpStatus.rep = τ.rep := by
  unfold State.pumpStatus
  repeat' (first | rfl | (simp; done) | split | intro _)

@[simp] theorem State.pumpStatus_ldr (τ : State)  : τ.pumpStatus.ldr = τ.ldr := by
  unfold State.pumpStatus
  repeat' (first | rfl | (simp; done) | split | intro _)

@[simp] theorem State.statusDue_pending (τ : State)  : τ.statusDue.pending = τ.pending := by
  simp [State.statusDue]

@[simp] theorem State.statusDue_ports (τ : State)  : τ.statusDue.ports = τ.ports := by
  simp [State.statusDue]

@[simp] theorem State.statusDue_up (τ : State)  : τ.statusDue.up = τ.up := by
  simp [State.statusDue]

@[simp] theorem State.statusDue_mediaUp (τ : State)  : τ.statusDue.mediaUp = τ.mediaUp := by
  simp [State.statusDue]

@[simp] theorem State.statusDue_slots (τ : State)  : τ.statusDue.slots = τ.slots := by
  simp [State.statusDue]

@[simp] theorem State.statusDue_cfg (τ : State)  : τ.statusDue.cfg = τ.cfg := by
  simp [State.statusDue]

@[simp] theorem State.statusDue_map (τ : State)  : τ.statusDue.map = τ.map := by
  simp [State.statusDue]

@[simp] theorem State.statusDue_pool (τ : State)  : τ.statusDue.pool = τ.pool := by
  simp [State.statusDue]

@[simp] theorem State.statusDue_store (τ : State)  : τ.statusDue.store = τ.store := by
  simp [State.statusDue]

@[simp] theorem State.statusDue_walk (τ : State)  : τ.statusDue.walk = τ.walk := by
  simp [State.statusDue]

@[simp] theorem State.statusDue_mend (τ : State)  : τ.statusDue.mend = τ.mend := by
  simp [State.statusDue]

@[simp] theorem State.statusDue_dir (τ : State)  : τ.statusDue.dir = τ.dir := by
  simp [State.statusDue]

@[simp] theorem State.statusDue_ldr (τ : State)  : τ.statusDue.ldr = τ.ldr := by
  simp [State.statusDue]

@[simp] theorem State.statusDue_rep_updateCount (τ : State)  : τ.statusDue.rep.updateCount = τ.rep.updateCount := by
  simp [State.statusDue]

@[simp] theorem State.statusDue_rep_flags (τ : State)  : τ.statusDue.rep.flags = τ.rep.flags := by
  simp [State.statusDue]

@[simp] theorem State.statusDue_rep_statusTimer (τ : State)  : τ.statusDue.rep.statusTimer = τ.rep.statusTimer := by
  simp [State.statusDue]

@[simp] theorem State.statusDue_rep_statusShot (τ : State)  : τ.statusDue.rep.statusShot = τ.rep.statusShot := by
  simp [State.statusDue]

@[simp] theorem State.statusDue_rep_selection (τ : State)  : τ.statusDue.rep.selection = τ.rep.selection := by
  simp [State.statusDue]

@[simp] theorem State.statusDue_rep_selectedSince (τ : State)  : τ.statusDue.rep.selectedSince = τ.rep.selectedSince := by
  simp [State.statusDue]

@[simp] theorem State.statusDue_rep_lastBatch (τ : State)  : τ.statusDue.rep.lastBatch = τ.rep.lastBatch := by
  simp [State.statusDue]

@[simp] theorem State.statusDue_rep_head (τ : State)  : τ.statusDue.rep.head = τ.rep.head := by
  simp [State.statusDue]

@[simp] theorem State.statusDue_rep_writtenHead (τ : State)  : τ.statusDue.rep.writtenHead = τ.rep.writtenHead := by
  simp [State.statusDue]

@[simp] theorem State.statusDue_rep_tail (τ : State)  : τ.statusDue.rep.tail = τ.rep.tail := by
  simp [State.statusDue]

@[simp] theorem State.statusDue_rep_withheld (τ : State)  : τ.statusDue.rep.withheld = τ.rep.withheld := by
  simp [State.statusDue]

@[simp] theorem State.statusDue_rep_clock (τ : State)  : τ.statusDue.rep.clock = τ.rep.clock := by
  simp [State.statusDue]

@[simp] theorem State.statusDue_rep_completed (τ : State)  : τ.statusDue.rep.completed = τ.rep.completed := by
  simp [State.statusDue]

@[simp] theorem State.raise_pending (τ : State) (f : EventFlag) : (τ.raise f).pending = τ.pending := by
  simp [State.raise]

@[simp] theorem State.raise_ports (τ : State) (f : EventFlag) : (τ.raise f).ports = τ.ports := by
  simp [State.raise]

@[simp] theorem State.raise_up (τ : State) (f : EventFlag) : (τ.raise f).up = τ.up := by
  simp [State.raise]

@[simp] theorem State.raise_mediaUp (τ : State) (f : EventFlag) : (τ.raise f).mediaUp = τ.mediaUp := by
  simp [State.raise]

@[simp] theorem State.raise_slots (τ : State) (f : EventFlag) : (τ.raise f).slots = τ.slots := by
  simp [State.raise]

@[simp] theorem State.raise_cfg (τ : State) (f : EventFlag) : (τ.raise f).cfg = τ.cfg := by
  simp [State.raise]

@[simp] theorem State.raise_map (τ : State) (f : EventFlag) : (τ.raise f).map = τ.map := by
  simp [State.raise]

@[simp] theorem State.raise_pool (τ : State) (f : EventFlag) : (τ.raise f).pool = τ.pool := by
  simp [State.raise]

@[simp] theorem State.raise_store (τ : State) (f : EventFlag) : (τ.raise f).store = τ.store := by
  simp [State.raise]

@[simp] theorem State.raise_walk (τ : State) (f : EventFlag) : (τ.raise f).walk = τ.walk := by
  simp [State.raise]

@[simp] theorem State.raise_mend (τ : State) (f : EventFlag) : (τ.raise f).mend = τ.mend := by
  simp [State.raise]

@[simp] theorem State.raise_dir (τ : State) (f : EventFlag) : (τ.raise f).dir = τ.dir := by
  simp [State.raise]

@[simp] theorem State.raise_ldr (τ : State) (f : EventFlag) : (τ.raise f).ldr = τ.ldr := by
  simp [State.raise]

@[simp] theorem State.raise_rep_updateCount (τ : State) (f : EventFlag) : (τ.raise f).rep.updateCount = τ.rep.updateCount := by
  simp [State.raise]

@[simp] theorem State.raise_rep_statusTimer (τ : State) (f : EventFlag) : (τ.raise f).rep.statusTimer = τ.rep.statusTimer := by
  simp [State.raise]

@[simp] theorem State.raise_rep_selection (τ : State) (f : EventFlag) : (τ.raise f).rep.selection = τ.rep.selection := by
  simp [State.raise]

@[simp] theorem State.raise_rep_selectedSince (τ : State) (f : EventFlag) : (τ.raise f).rep.selectedSince = τ.rep.selectedSince := by
  simp [State.raise]

@[simp] theorem State.raise_rep_lastBatch (τ : State) (f : EventFlag) : (τ.raise f).rep.lastBatch = τ.rep.lastBatch := by
  simp [State.raise]

@[simp] theorem State.raise_rep_head (τ : State) (f : EventFlag) : (τ.raise f).rep.head = τ.rep.head := by
  simp [State.raise]

@[simp] theorem State.raise_rep_writtenHead (τ : State) (f : EventFlag) : (τ.raise f).rep.writtenHead = τ.rep.writtenHead := by
  simp [State.raise]

@[simp] theorem State.raise_rep_tail (τ : State) (f : EventFlag) : (τ.raise f).rep.tail = τ.rep.tail := by
  simp [State.raise]

@[simp] theorem State.raise_rep_withheld (τ : State) (f : EventFlag) : (τ.raise f).rep.withheld = τ.rep.withheld := by
  simp [State.raise]

@[simp] theorem State.raise_rep_clock (τ : State) (f : EventFlag) : (τ.raise f).rep.clock = τ.rep.clock := by
  simp [State.raise]

@[simp] theorem State.raise_rep_completed (τ : State) (f : EventFlag) : (τ.raise f).rep.completed = τ.rep.completed := by
  simp [State.raise]

@[simp] theorem State.pumpLog_pending (τ : State)  : τ.pumpLog.pending = τ.pending := by
  unfold State.pumpLog
  try dsimp only
  repeat' (first | rfl | (simp; done) | split | intro _)

@[simp] theorem State.pumpLog_ports (τ : State)  : τ.pumpLog.ports = τ.ports := by
  unfold State.pumpLog
  try dsimp only
  repeat' (first | rfl | (simp; done) | split | intro _)

@[simp] theorem State.pumpLog_up (τ : State)  : τ.pumpLog.up = τ.up := by
  unfold State.pumpLog
  try dsimp only
  repeat' (first | rfl | (simp; done) | split | intro _)

@[simp] theorem State.pumpLog_mediaUp (τ : State)  : τ.pumpLog.mediaUp = τ.mediaUp := by
  unfold State.pumpLog
  try dsimp only
  repeat' (first | rfl | (simp; done) | split | intro _)

@[simp] theorem State.pumpLog_slots (τ : State)  : τ.pumpLog.slots = τ.slots := by
  unfold State.pumpLog
  try dsimp only
  repeat' (first | rfl | (simp; done) | split | intro _)

@[simp] theorem State.pumpLog_cfg (τ : State)  : τ.pumpLog.cfg = τ.cfg := by
  unfold State.pumpLog
  try dsimp only
  repeat' (first | rfl | (simp; done) | split | intro _)

@[simp] theorem State.pumpLog_map (τ : State)  : τ.pumpLog.map = τ.map := by
  unfold State.pumpLog
  try dsimp only
  repeat' (first | rfl | (simp; done) | split | intro _)

@[simp] theorem State.pumpLog_pool (τ : State)  : τ.pumpLog.pool = τ.pool := by
  unfold State.pumpLog
  try dsimp only
  repeat' (first | rfl | (simp; done) | split | intro _)

@[simp] theorem State.pumpLog_store (τ : State)  : τ.pumpLog.store = τ.store := by
  unfold State.pumpLog
  try dsimp only
  repeat' (first | rfl | (simp; done) | split | intro _)

@[simp] theorem State.pumpLog_walk (τ : State)  : τ.pumpLog.walk = τ.walk := by
  unfold State.pumpLog
  try dsimp only
  repeat' (first | rfl | (simp; done) | split | intro _)

@[simp] theorem State.pumpLog_mend (τ : State)  : τ.pumpLog.mend = τ.mend := by
  unfold State.pumpLog
  try dsimp only
  repeat' (first | rfl | (simp; done) | split | intro _)

@[simp] theorem State.pumpLog_dir (τ : State)  : τ.pumpLog.dir = τ.dir := by
  unfold State.pumpLog
  try dsimp only
  repeat' (first | rfl | (simp; done) | split | intro _)

@[simp] theorem State.pumpLog_rep (τ : State)  : τ.pumpLog.rep = τ.rep := by
  unfold State.pumpLog
  try dsimp only
  repeat' (first | rfl | (simp; done) | split | intro _)

@[simp] theorem State.pumpLog_ldr (τ : State)  : τ.pumpLog.ldr = τ.ldr := by
  unfold State.pumpLog
  try dsimp only
  repeat' (first | rfl | (simp; done) | split | intro _)

@[simp] theorem State.placeFinding_pending (τ : State) (f : Finding) : (τ.placeFinding f).pending = τ.pending := by
  simp [State.placeFinding]

@[simp] theorem State.placeFinding_ports (τ : State) (f : Finding) : (τ.placeFinding f).ports = τ.ports := by
  simp [State.placeFinding]

@[simp] theorem State.placeFinding_up (τ : State) (f : Finding) : (τ.placeFinding f).up = τ.up := by
  simp [State.placeFinding]

@[simp] theorem State.placeFinding_mediaUp (τ : State) (f : Finding) : (τ.placeFinding f).mediaUp = τ.mediaUp := by
  simp [State.placeFinding]

@[simp] theorem State.placeFinding_slots (τ : State) (f : Finding) : (τ.placeFinding f).slots = τ.slots := by
  simp [State.placeFinding]

@[simp] theorem State.placeFinding_cfg (τ : State) (f : Finding) : (τ.placeFinding f).cfg = τ.cfg := by
  simp [State.placeFinding]

@[simp] theorem State.placeFinding_map (τ : State) (f : Finding) : (τ.placeFinding f).map = τ.map := by
  simp [State.placeFinding]

@[simp] theorem State.placeFinding_pool (τ : State) (f : Finding) : (τ.placeFinding f).pool = τ.pool := by
  simp [State.placeFinding]

@[simp] theorem State.placeFinding_store (τ : State) (f : Finding) : (τ.placeFinding f).store = τ.store := by
  simp [State.placeFinding]

@[simp] theorem State.placeFinding_walk (τ : State) (f : Finding) : (τ.placeFinding f).walk = τ.walk := by
  simp [State.placeFinding]

@[simp] theorem State.placeFinding_mend (τ : State) (f : Finding) : (τ.placeFinding f).mend = τ.mend := by
  simp [State.placeFinding]

@[simp] theorem State.placeFinding_dir (τ : State) (f : Finding) : (τ.placeFinding f).dir = τ.dir := by
  simp [State.placeFinding]

@[simp] theorem State.placeFinding_ldr (τ : State) (f : Finding) : (τ.placeFinding f).ldr = τ.ldr := by
  simp [State.placeFinding]

@[simp] theorem State.placeFinding_rep_updateCount (τ : State) (f : Finding) : (τ.placeFinding f).rep.updateCount = τ.rep.updateCount := by
  simp [State.placeFinding]

@[simp] theorem State.placeFinding_rep_statusTimer (τ : State) (f : Finding) : (τ.placeFinding f).rep.statusTimer = τ.rep.statusTimer := by
  simp [State.placeFinding]

@[simp] theorem State.placeFinding_rep_selection (τ : State) (f : Finding) : (τ.placeFinding f).rep.selection = τ.rep.selection := by
  simp [State.placeFinding]

@[simp] theorem State.placeFinding_rep_selectedSince (τ : State) (f : Finding) : (τ.placeFinding f).rep.selectedSince = τ.rep.selectedSince := by
  simp [State.placeFinding]

@[simp] theorem State.placeFinding_rep_lastBatch (τ : State) (f : Finding) : (τ.placeFinding f).rep.lastBatch = τ.rep.lastBatch := by
  simp [State.placeFinding]

@[simp] theorem State.placeFinding_rep_writtenHead (τ : State) (f : Finding) : (τ.placeFinding f).rep.writtenHead = τ.rep.writtenHead := by
  simp [State.placeFinding]

@[simp] theorem State.placeFinding_rep_tail (τ : State) (f : Finding) : (τ.placeFinding f).rep.tail = τ.rep.tail := by
  simp [State.placeFinding]

@[simp] theorem State.placeFinding_rep_withheld (τ : State) (f : Finding) : (τ.placeFinding f).rep.withheld = τ.rep.withheld := by
  simp [State.placeFinding]

@[simp] theorem State.placeFinding_rep_clock (τ : State) (f : Finding) : (τ.placeFinding f).rep.clock = τ.rep.clock := by
  simp [State.placeFinding]

@[simp] theorem State.handFinding_pending (τ : State) (f : Finding) : (τ.handFinding f).pending = τ.pending := by
  unfold State.handFinding
  repeat' (first | rfl | (simp; done) | split | intro _)

@[simp] theorem State.handFinding_ports (τ : State) (f : Finding) : (τ.handFinding f).ports = τ.ports := by
  unfold State.handFinding
  repeat' (first | rfl | (simp; done) | split | intro _)

@[simp] theorem State.handFinding_up (τ : State) (f : Finding) : (τ.handFinding f).up = τ.up := by
  unfold State.handFinding
  repeat' (first | rfl | (simp; done) | split | intro _)

@[simp] theorem State.handFinding_mediaUp (τ : State) (f : Finding) : (τ.handFinding f).mediaUp = τ.mediaUp := by
  unfold State.handFinding
  repeat' (first | rfl | (simp; done) | split | intro _)

@[simp] theorem State.handFinding_slots (τ : State) (f : Finding) : (τ.handFinding f).slots = τ.slots := by
  unfold State.handFinding
  repeat' (first | rfl | (simp; done) | split | intro _)

@[simp] theorem State.handFinding_cfg (τ : State) (f : Finding) : (τ.handFinding f).cfg = τ.cfg := by
  unfold State.handFinding
  repeat' (first | rfl | (simp; done) | split | intro _)

@[simp] theorem State.handFinding_map (τ : State) (f : Finding) : (τ.handFinding f).map = τ.map := by
  unfold State.handFinding
  repeat' (first | rfl | (simp; done) | split | intro _)

@[simp] theorem State.handFinding_pool (τ : State) (f : Finding) : (τ.handFinding f).pool = τ.pool := by
  unfold State.handFinding
  repeat' (first | rfl | (simp; done) | split | intro _)

@[simp] theorem State.handFinding_store (τ : State) (f : Finding) : (τ.handFinding f).store = τ.store := by
  unfold State.handFinding
  repeat' (first | rfl | (simp; done) | split | intro _)

@[simp] theorem State.handFinding_walk (τ : State) (f : Finding) : (τ.handFinding f).walk = τ.walk := by
  unfold State.handFinding
  repeat' (first | rfl | (simp; done) | split | intro _)

@[simp] theorem State.handFinding_mend (τ : State) (f : Finding) : (τ.handFinding f).mend = τ.mend := by
  unfold State.handFinding
  repeat' (first | rfl | (simp; done) | split | intro _)

@[simp] theorem State.handFinding_dir (τ : State) (f : Finding) : (τ.handFinding f).dir = τ.dir := by
  unfold State.handFinding
  repeat' (first | rfl | (simp; done) | split | intro _)

@[simp] theorem State.handFinding_ldr (τ : State) (f : Finding) : (τ.handFinding f).ldr = τ.ldr := by
  unfold State.handFinding
  repeat' (first | rfl | (simp; done) | split | intro _)

@[simp] theorem State.handFinding_rep_updateCount (τ : State) (f : Finding) : (τ.handFinding f).rep.updateCount = τ.rep.updateCount := by
  unfold State.handFinding
  repeat' (first | rfl | (simp; done) | split | intro _)

@[simp] theorem State.handFinding_rep_statusTimer (τ : State) (f : Finding) : (τ.handFinding f).rep.statusTimer = τ.rep.statusTimer := by
  unfold State.handFinding
  repeat' (first | rfl | (simp; done) | split | intro _)

@[simp] theorem State.handFinding_rep_selection (τ : State) (f : Finding) : (τ.handFinding f).rep.selection = τ.rep.selection := by
  unfold State.handFinding
  repeat' (first | rfl | (simp; done) | split | intro _)

@[simp] theorem State.handFinding_rep_selectedSince (τ : State) (f : Finding) : (τ.handFinding f).rep.selectedSince = τ.rep.selectedSince := by
  unfold State.handFinding
  repeat' (first | rfl | (simp; done) | split | intro _)

@[simp] theorem State.handFinding_rep_lastBatch (τ : State) (f : Finding) : (τ.handFinding f).rep.lastBatch = τ.rep.lastBatch := by
  unfold State.handFinding
  repeat' (first | rfl | (simp; done) | split | intro _)

@[simp] theorem State.handFinding_rep_writtenHead (τ : State) (f : Finding) : (τ.handFinding f).rep.writtenHead = τ.rep.writtenHead := by
  unfold State.handFinding
  repeat' (first | rfl | (simp; done) | split | intro _)

@[simp] theorem State.handFinding_rep_tail (τ : State) (f : Finding) : (τ.handFinding f).rep.tail = τ.rep.tail := by
  unfold State.handFinding
  repeat' (first | rfl | (simp; done) | split | intro _)

@[simp] theorem State.handFinding_rep_clock (τ : State) (f : Finding) : (τ.handFinding f).rep.clock = τ.rep.clock := by
  unfold State.handFinding
  repeat' (first | rfl | (simp; done) | split | intro _)

@[simp] theorem State.log_pending (τ : State) (kind : FindingKind) (extent frame copy : Option Nat) (d1 d2 d3 : Nat) : (τ.log kind extent frame copy d1 d2 d3).pending = τ.pending := by
  simp [State.log]

@[simp] theorem State.log_ports (τ : State) (kind : FindingKind) (extent frame copy : Option Nat) (d1 d2 d3 : Nat) : (τ.log kind extent frame copy d1 d2 d3).ports = τ.ports := by
  simp [State.log]

@[simp] theorem State.log_up (τ : State) (kind : FindingKind) (extent frame copy : Option Nat) (d1 d2 d3 : Nat) : (τ.log kind extent frame copy d1 d2 d3).up = τ.up := by
  simp [State.log]

@[simp] theorem State.log_mediaUp (τ : State) (kind : FindingKind) (extent frame copy : Option Nat) (d1 d2 d3 : Nat) : (τ.log kind extent frame copy d1 d2 d3).mediaUp = τ.mediaUp := by
  simp [State.log]

@[simp] theorem State.log_slots (τ : State) (kind : FindingKind) (extent frame copy : Option Nat) (d1 d2 d3 : Nat) : (τ.log kind extent frame copy d1 d2 d3).slots = τ.slots := by
  simp [State.log]

@[simp] theorem State.log_cfg (τ : State) (kind : FindingKind) (extent frame copy : Option Nat) (d1 d2 d3 : Nat) : (τ.log kind extent frame copy d1 d2 d3).cfg = τ.cfg := by
  simp [State.log]

@[simp] theorem State.log_map (τ : State) (kind : FindingKind) (extent frame copy : Option Nat) (d1 d2 d3 : Nat) : (τ.log kind extent frame copy d1 d2 d3).map = τ.map := by
  simp [State.log]

@[simp] theorem State.log_pool (τ : State) (kind : FindingKind) (extent frame copy : Option Nat) (d1 d2 d3 : Nat) : (τ.log kind extent frame copy d1 d2 d3).pool = τ.pool := by
  simp [State.log]

@[simp] theorem State.log_store (τ : State) (kind : FindingKind) (extent frame copy : Option Nat) (d1 d2 d3 : Nat) : (τ.log kind extent frame copy d1 d2 d3).store = τ.store := by
  simp [State.log]

@[simp] theorem State.log_walk (τ : State) (kind : FindingKind) (extent frame copy : Option Nat) (d1 d2 d3 : Nat) : (τ.log kind extent frame copy d1 d2 d3).walk = τ.walk := by
  simp [State.log]

@[simp] theorem State.log_mend (τ : State) (kind : FindingKind) (extent frame copy : Option Nat) (d1 d2 d3 : Nat) : (τ.log kind extent frame copy d1 d2 d3).mend = τ.mend := by
  simp [State.log]

@[simp] theorem State.log_dir (τ : State) (kind : FindingKind) (extent frame copy : Option Nat) (d1 d2 d3 : Nat) : (τ.log kind extent frame copy d1 d2 d3).dir = τ.dir := by
  simp [State.log]

@[simp] theorem State.log_ldr (τ : State) (kind : FindingKind) (extent frame copy : Option Nat) (d1 d2 d3 : Nat) : (τ.log kind extent frame copy d1 d2 d3).ldr = τ.ldr := by
  simp [State.log]

@[simp] theorem State.log_rep_updateCount (τ : State) (kind : FindingKind) (extent frame copy : Option Nat) (d1 d2 d3 : Nat) : (τ.log kind extent frame copy d1 d2 d3).rep.updateCount = τ.rep.updateCount := by
  simp [State.log]

@[simp] theorem State.log_rep_statusTimer (τ : State) (kind : FindingKind) (extent frame copy : Option Nat) (d1 d2 d3 : Nat) : (τ.log kind extent frame copy d1 d2 d3).rep.statusTimer = τ.rep.statusTimer := by
  simp [State.log]

@[simp] theorem State.log_rep_selection (τ : State) (kind : FindingKind) (extent frame copy : Option Nat) (d1 d2 d3 : Nat) : (τ.log kind extent frame copy d1 d2 d3).rep.selection = τ.rep.selection := by
  simp [State.log]

@[simp] theorem State.log_rep_selectedSince (τ : State) (kind : FindingKind) (extent frame copy : Option Nat) (d1 d2 d3 : Nat) : (τ.log kind extent frame copy d1 d2 d3).rep.selectedSince = τ.rep.selectedSince := by
  simp [State.log]

@[simp] theorem State.log_rep_lastBatch (τ : State) (kind : FindingKind) (extent frame copy : Option Nat) (d1 d2 d3 : Nat) : (τ.log kind extent frame copy d1 d2 d3).rep.lastBatch = τ.rep.lastBatch := by
  simp [State.log]

@[simp] theorem State.log_rep_writtenHead (τ : State) (kind : FindingKind) (extent frame copy : Option Nat) (d1 d2 d3 : Nat) : (τ.log kind extent frame copy d1 d2 d3).rep.writtenHead = τ.rep.writtenHead := by
  simp [State.log]

@[simp] theorem State.log_rep_tail (τ : State) (kind : FindingKind) (extent frame copy : Option Nat) (d1 d2 d3 : Nat) : (τ.log kind extent frame copy d1 d2 d3).rep.tail = τ.rep.tail := by
  simp [State.log]

@[simp] theorem State.log_rep_clock (τ : State) (kind : FindingKind) (extent frame copy : Option Nat) (d1 d2 d3 : Nat) : (τ.log kind extent frame copy d1 d2 d3).rep.clock = τ.rep.clock := by
  simp [State.log]

@[simp] theorem State.logCopy_pending (τ : State) (kind : FindingKind) (k : FrameKey) (d1 d2 d3 : Nat) : (τ.logCopy kind k d1 d2 d3).pending = τ.pending := by
  simp [State.logCopy]

@[simp] theorem State.logCopy_ports (τ : State) (kind : FindingKind) (k : FrameKey) (d1 d2 d3 : Nat) : (τ.logCopy kind k d1 d2 d3).ports = τ.ports := by
  simp [State.logCopy]

@[simp] theorem State.logCopy_up (τ : State) (kind : FindingKind) (k : FrameKey) (d1 d2 d3 : Nat) : (τ.logCopy kind k d1 d2 d3).up = τ.up := by
  simp [State.logCopy]

@[simp] theorem State.logCopy_mediaUp (τ : State) (kind : FindingKind) (k : FrameKey) (d1 d2 d3 : Nat) : (τ.logCopy kind k d1 d2 d3).mediaUp = τ.mediaUp := by
  simp [State.logCopy]

@[simp] theorem State.logCopy_slots (τ : State) (kind : FindingKind) (k : FrameKey) (d1 d2 d3 : Nat) : (τ.logCopy kind k d1 d2 d3).slots = τ.slots := by
  simp [State.logCopy]

@[simp] theorem State.logCopy_cfg (τ : State) (kind : FindingKind) (k : FrameKey) (d1 d2 d3 : Nat) : (τ.logCopy kind k d1 d2 d3).cfg = τ.cfg := by
  simp [State.logCopy]

@[simp] theorem State.logCopy_map (τ : State) (kind : FindingKind) (k : FrameKey) (d1 d2 d3 : Nat) : (τ.logCopy kind k d1 d2 d3).map = τ.map := by
  simp [State.logCopy]

@[simp] theorem State.logCopy_pool (τ : State) (kind : FindingKind) (k : FrameKey) (d1 d2 d3 : Nat) : (τ.logCopy kind k d1 d2 d3).pool = τ.pool := by
  simp [State.logCopy]

@[simp] theorem State.logCopy_store (τ : State) (kind : FindingKind) (k : FrameKey) (d1 d2 d3 : Nat) : (τ.logCopy kind k d1 d2 d3).store = τ.store := by
  simp [State.logCopy]

@[simp] theorem State.logCopy_walk (τ : State) (kind : FindingKind) (k : FrameKey) (d1 d2 d3 : Nat) : (τ.logCopy kind k d1 d2 d3).walk = τ.walk := by
  simp [State.logCopy]

@[simp] theorem State.logCopy_mend (τ : State) (kind : FindingKind) (k : FrameKey) (d1 d2 d3 : Nat) : (τ.logCopy kind k d1 d2 d3).mend = τ.mend := by
  simp [State.logCopy]

@[simp] theorem State.logCopy_dir (τ : State) (kind : FindingKind) (k : FrameKey) (d1 d2 d3 : Nat) : (τ.logCopy kind k d1 d2 d3).dir = τ.dir := by
  simp [State.logCopy]

@[simp] theorem State.logCopy_ldr (τ : State) (kind : FindingKind) (k : FrameKey) (d1 d2 d3 : Nat) : (τ.logCopy kind k d1 d2 d3).ldr = τ.ldr := by
  simp [State.logCopy]

@[simp] theorem State.logCopy_rep_updateCount (τ : State) (kind : FindingKind) (k : FrameKey) (d1 d2 d3 : Nat) : (τ.logCopy kind k d1 d2 d3).rep.updateCount = τ.rep.updateCount := by
  simp [State.logCopy]

@[simp] theorem State.logCopy_rep_statusTimer (τ : State) (kind : FindingKind) (k : FrameKey) (d1 d2 d3 : Nat) : (τ.logCopy kind k d1 d2 d3).rep.statusTimer = τ.rep.statusTimer := by
  simp [State.logCopy]

@[simp] theorem State.logCopy_rep_selection (τ : State) (kind : FindingKind) (k : FrameKey) (d1 d2 d3 : Nat) : (τ.logCopy kind k d1 d2 d3).rep.selection = τ.rep.selection := by
  simp [State.logCopy]

@[simp] theorem State.logCopy_rep_selectedSince (τ : State) (kind : FindingKind) (k : FrameKey) (d1 d2 d3 : Nat) : (τ.logCopy kind k d1 d2 d3).rep.selectedSince = τ.rep.selectedSince := by
  simp [State.logCopy]

@[simp] theorem State.logCopy_rep_lastBatch (τ : State) (kind : FindingKind) (k : FrameKey) (d1 d2 d3 : Nat) : (τ.logCopy kind k d1 d2 d3).rep.lastBatch = τ.rep.lastBatch := by
  simp [State.logCopy]

@[simp] theorem State.logCopy_rep_writtenHead (τ : State) (kind : FindingKind) (k : FrameKey) (d1 d2 d3 : Nat) : (τ.logCopy kind k d1 d2 d3).rep.writtenHead = τ.rep.writtenHead := by
  simp [State.logCopy]

@[simp] theorem State.logCopy_rep_tail (τ : State) (kind : FindingKind) (k : FrameKey) (d1 d2 d3 : Nat) : (τ.logCopy kind k d1 d2 d3).rep.tail = τ.rep.tail := by
  simp [State.logCopy]

@[simp] theorem State.logCopy_rep_clock (τ : State) (kind : FindingKind) (k : FrameKey) (d1 d2 d3 : Nat) : (τ.logCopy kind k d1 d2 d3).rep.clock = τ.rep.clock := by
  simp [State.logCopy]

@[simp] theorem State.resumeLog_pending (τ : State)  : τ.resumeLog.pending = τ.pending := by
  unfold State.resumeLog
  try dsimp only
  repeat' (first | rfl | (simp; done) | split | intro _)

@[simp] theorem State.resumeLog_ports (τ : State)  : τ.resumeLog.ports = τ.ports := by
  unfold State.resumeLog
  try dsimp only
  repeat' (first | rfl | (simp; done) | split | intro _)

@[simp] theorem State.resumeLog_up (τ : State)  : τ.resumeLog.up = τ.up := by
  unfold State.resumeLog
  try dsimp only
  repeat' (first | rfl | (simp; done) | split | intro _)

@[simp] theorem State.resumeLog_mediaUp (τ : State)  : τ.resumeLog.mediaUp = τ.mediaUp := by
  unfold State.resumeLog
  try dsimp only
  repeat' (first | rfl | (simp; done) | split | intro _)

@[simp] theorem State.resumeLog_slots (τ : State)  : τ.resumeLog.slots = τ.slots := by
  unfold State.resumeLog
  try dsimp only
  repeat' (first | rfl | (simp; done) | split | intro _)

@[simp] theorem State.resumeLog_cfg (τ : State)  : τ.resumeLog.cfg = τ.cfg := by
  unfold State.resumeLog
  try dsimp only
  repeat' (first | rfl | (simp; done) | split | intro _)

@[simp] theorem State.resumeLog_map (τ : State)  : τ.resumeLog.map = τ.map := by
  unfold State.resumeLog
  try dsimp only
  repeat' (first | rfl | (simp; done) | split | intro _)

@[simp] theorem State.resumeLog_pool (τ : State)  : τ.resumeLog.pool = τ.pool := by
  unfold State.resumeLog
  try dsimp only
  repeat' (first | rfl | (simp; done) | split | intro _)

@[simp] theorem State.resumeLog_store (τ : State)  : τ.resumeLog.store = τ.store := by
  unfold State.resumeLog
  try dsimp only
  repeat' (first | rfl | (simp; done) | split | intro _)

@[simp] theorem State.resumeLog_walk (τ : State)  : τ.resumeLog.walk = τ.walk := by
  unfold State.resumeLog
  try dsimp only
  repeat' (first | rfl | (simp; done) | split | intro _)

@[simp] theorem State.resumeLog_mend (τ : State)  : τ.resumeLog.mend = τ.mend := by
  unfold State.resumeLog
  try dsimp only
  repeat' (first | rfl | (simp; done) | split | intro _)

@[simp] theorem State.resumeLog_dir (τ : State)  : τ.resumeLog.dir = τ.dir := by
  unfold State.resumeLog
  try dsimp only
  repeat' (first | rfl | (simp; done) | split | intro _)

@[simp] theorem State.resumeLog_ldr (τ : State)  : τ.resumeLog.ldr = τ.ldr := by
  unfold State.resumeLog
  try dsimp only
  repeat' (first | rfl | (simp; done) | split | intro _)

@[simp] theorem State.resumeLog_rep_updateCount (τ : State)  : τ.resumeLog.rep.updateCount = τ.rep.updateCount := by
  unfold State.resumeLog
  try dsimp only
  repeat' (first | rfl | (simp; done) | split | intro _)

@[simp] theorem State.resumeLog_rep_statusTimer (τ : State)  : τ.resumeLog.rep.statusTimer = τ.rep.statusTimer := by
  unfold State.resumeLog
  try dsimp only
  repeat' (first | rfl | (simp; done) | split | intro _)

@[simp] theorem State.resumeLog_rep_selection (τ : State)  : τ.resumeLog.rep.selection = τ.rep.selection := by
  unfold State.resumeLog
  try dsimp only
  repeat' (first | rfl | (simp; done) | split | intro _)

@[simp] theorem State.resumeLog_rep_selectedSince (τ : State)  : τ.resumeLog.rep.selectedSince = τ.rep.selectedSince := by
  unfold State.resumeLog
  try dsimp only
  repeat' (first | rfl | (simp; done) | split | intro _)

@[simp] theorem State.resumeLog_rep_lastBatch (τ : State)  : τ.resumeLog.rep.lastBatch = τ.rep.lastBatch := by
  unfold State.resumeLog
  try dsimp only
  repeat' (first | rfl | (simp; done) | split | intro _)

@[simp] theorem State.resumeLog_rep_writtenHead (τ : State)  : τ.resumeLog.rep.writtenHead = τ.rep.writtenHead := by
  unfold State.resumeLog
  try dsimp only
  repeat' (first | rfl | (simp; done) | split | intro _)

@[simp] theorem State.resumeLog_rep_tail (τ : State)  : τ.resumeLog.rep.tail = τ.rep.tail := by
  unfold State.resumeLog
  try dsimp only
  repeat' (first | rfl | (simp; done) | split | intro _)

@[simp] theorem State.resumeLog_rep_clock (τ : State)  : τ.resumeLog.rep.clock = τ.rep.clock := by
  unfold State.resumeLog
  try dsimp only
  repeat' (first | rfl | (simp; done) | split | intro _)

@[simp] theorem State.recordLog_pending (τ : State)  : τ.recordLog.pending = τ.pending := by
  simp [State.recordLog]

@[simp] theorem State.recordLog_ports (τ : State)  : τ.recordLog.ports = τ.ports := by
  simp [State.recordLog]

@[simp] theorem State.recordLog_up (τ : State)  : τ.recordLog.up = τ.up := by
  simp [State.recordLog]

@[simp] theorem State.recordLog_mediaUp (τ : State)  : τ.recordLog.mediaUp = τ.mediaUp := by
  simp [State.recordLog]

@[simp] theorem State.recordLog_slots (τ : State)  : τ.recordLog.slots = τ.slots := by
  simp [State.recordLog]

@[simp] theorem State.recordLog_map (τ : State)  : τ.recordLog.map = τ.map := by
  simp [State.recordLog]

@[simp] theorem State.recordLog_pool (τ : State)  : τ.recordLog.pool = τ.pool := by
  simp [State.recordLog]

@[simp] theorem State.recordLog_store (τ : State)  : τ.recordLog.store = τ.store := by
  simp [State.recordLog]

@[simp] theorem State.recordLog_walk (τ : State)  : τ.recordLog.walk = τ.walk := by
  simp [State.recordLog]

@[simp] theorem State.recordLog_mend (τ : State)  : τ.recordLog.mend = τ.mend := by
  simp [State.recordLog]

@[simp] theorem State.recordLog_dir (τ : State)  : τ.recordLog.dir = τ.dir := by
  simp [State.recordLog]

@[simp] theorem State.recordLog_rep (τ : State)  : τ.recordLog.rep = τ.rep := by
  simp [State.recordLog]

@[simp] theorem State.recordLog_cfg_passNumber (τ : State)  : τ.recordLog.cfg.passNumber = τ.cfg.passNumber := by
  simp [State.recordLog]

@[simp] theorem State.recordLog_cfg_policy (τ : State)  : τ.recordLog.cfg.policy = τ.cfg.policy := by
  simp [State.recordLog]

@[simp] theorem State.recordLog_cfg_depth (τ : State)  : τ.recordLog.cfg.depth = τ.cfg.depth := by
  simp [State.recordLog]

@[simp] theorem State.recordLog_cfg_paceThreshold (τ : State)  : τ.recordLog.cfg.paceThreshold = τ.cfg.paceThreshold := by
  simp [State.recordLog]

@[simp] theorem State.recordLog_cfg_paceDepth (τ : State)  : τ.recordLog.cfg.paceDepth = τ.cfg.paceDepth := by
  simp [State.recordLog]

@[simp] theorem State.recordLog_cfg_repeatOn (τ : State)  : τ.recordLog.cfg.repeatOn = τ.cfg.repeatOn := by
  simp [State.recordLog]

@[simp] theorem State.recordLog_cfg_restInterval (τ : State)  : τ.recordLog.cfg.restInterval = τ.cfg.restInterval := by
  simp [State.recordLog]

@[simp] theorem State.recordLog_cfg_returnTimeout (τ : State)  : τ.recordLog.cfg.returnTimeout = τ.cfg.returnTimeout := by
  simp [State.recordLog]

@[simp] theorem State.recordLog_cfg_idleTime (τ : State)  : τ.recordLog.cfg.idleTime = τ.cfg.idleTime := by
  simp [State.recordLog]

@[simp] theorem State.recordLog_cfg_admission (τ : State)  : τ.recordLog.cfg.admission = τ.cfg.admission := by
  simp [State.recordLog]

@[simp] theorem State.recordLog_cfg_alertMask (τ : State)  : τ.recordLog.cfg.alertMask = τ.cfg.alertMask := by
  simp [State.recordLog]

@[simp] theorem State.recordLog_ldr_part (τ : State)  : τ.recordLog.ldr.part = τ.ldr.part := by
  simp [State.recordLog]

@[simp] theorem State.recordLog_ldr_maint (τ : State)  : τ.recordLog.ldr.maint = τ.ldr.maint := by
  simp [State.recordLog]

@[simp] theorem State.recordLog_ldr_eeprom (τ : State)  : τ.recordLog.ldr.eeprom = τ.ldr.eeprom := by
  simp [State.recordLog]

@[simp] theorem State.recordLog_ldr_setup (τ : State)  : τ.recordLog.ldr.setup = τ.ldr.setup := by
  simp [State.recordLog]

@[simp] theorem State.recordLog_ldr_load (τ : State)  : τ.recordLog.ldr.load = τ.ldr.load := by
  simp [State.recordLog]

@[simp] theorem State.recordLog_ldr_fault (τ : State)  : τ.recordLog.ldr.fault = τ.ldr.fault := by
  simp [State.recordLog]

@[simp] theorem State.settleHead_pending (τ : State)  : τ.settleHead.pending = τ.pending := by
  unfold State.settleHead
  try dsimp only
  repeat' (first | rfl | (simp; done) | split | intro _)

@[simp] theorem State.settleHead_ports (τ : State)  : τ.settleHead.ports = τ.ports := by
  unfold State.settleHead
  try dsimp only
  repeat' (first | rfl | (simp; done) | split | intro _)

@[simp] theorem State.settleHead_up (τ : State)  : τ.settleHead.up = τ.up := by
  unfold State.settleHead
  try dsimp only
  repeat' (first | rfl | (simp; done) | split | intro _)

@[simp] theorem State.settleHead_mediaUp (τ : State)  : τ.settleHead.mediaUp = τ.mediaUp := by
  unfold State.settleHead
  try dsimp only
  repeat' (first | rfl | (simp; done) | split | intro _)

@[simp] theorem State.settleHead_slots (τ : State)  : τ.settleHead.slots = τ.slots := by
  unfold State.settleHead
  try dsimp only
  repeat' (first | rfl | (simp; done) | split | intro _)

@[simp] theorem State.settleHead_map (τ : State)  : τ.settleHead.map = τ.map := by
  unfold State.settleHead
  try dsimp only
  repeat' (first | rfl | (simp; done) | split | intro _)

@[simp] theorem State.settleHead_pool (τ : State)  : τ.settleHead.pool = τ.pool := by
  unfold State.settleHead
  try dsimp only
  repeat' (first | rfl | (simp; done) | split | intro _)

@[simp] theorem State.settleHead_store (τ : State)  : τ.settleHead.store = τ.store := by
  unfold State.settleHead
  try dsimp only
  repeat' (first | rfl | (simp; done) | split | intro _)

@[simp] theorem State.settleHead_walk (τ : State)  : τ.settleHead.walk = τ.walk := by
  unfold State.settleHead
  try dsimp only
  repeat' (first | rfl | (simp; done) | split | intro _)

@[simp] theorem State.settleHead_mend (τ : State)  : τ.settleHead.mend = τ.mend := by
  unfold State.settleHead
  try dsimp only
  repeat' (first | rfl | (simp; done) | split | intro _)

@[simp] theorem State.settleHead_dir (τ : State)  : τ.settleHead.dir = τ.dir := by
  unfold State.settleHead
  try dsimp only
  repeat' (first | rfl | (simp; done) | split | intro _)

@[simp] theorem State.settleHead_cfg_passNumber (τ : State)  : τ.settleHead.cfg.passNumber = τ.cfg.passNumber := by
  unfold State.settleHead
  try dsimp only
  repeat' (first | rfl | (simp; done) | split | intro _)

@[simp] theorem State.settleHead_cfg_policy (τ : State)  : τ.settleHead.cfg.policy = τ.cfg.policy := by
  unfold State.settleHead
  try dsimp only
  repeat' (first | rfl | (simp; done) | split | intro _)

@[simp] theorem State.settleHead_cfg_depth (τ : State)  : τ.settleHead.cfg.depth = τ.cfg.depth := by
  unfold State.settleHead
  try dsimp only
  repeat' (first | rfl | (simp; done) | split | intro _)

@[simp] theorem State.settleHead_cfg_paceThreshold (τ : State)  : τ.settleHead.cfg.paceThreshold = τ.cfg.paceThreshold := by
  unfold State.settleHead
  try dsimp only
  repeat' (first | rfl | (simp; done) | split | intro _)

@[simp] theorem State.settleHead_cfg_paceDepth (τ : State)  : τ.settleHead.cfg.paceDepth = τ.cfg.paceDepth := by
  unfold State.settleHead
  try dsimp only
  repeat' (first | rfl | (simp; done) | split | intro _)

@[simp] theorem State.settleHead_cfg_repeatOn (τ : State)  : τ.settleHead.cfg.repeatOn = τ.cfg.repeatOn := by
  unfold State.settleHead
  try dsimp only
  repeat' (first | rfl | (simp; done) | split | intro _)

@[simp] theorem State.settleHead_cfg_restInterval (τ : State)  : τ.settleHead.cfg.restInterval = τ.cfg.restInterval := by
  unfold State.settleHead
  try dsimp only
  repeat' (first | rfl | (simp; done) | split | intro _)

@[simp] theorem State.settleHead_cfg_returnTimeout (τ : State)  : τ.settleHead.cfg.returnTimeout = τ.cfg.returnTimeout := by
  unfold State.settleHead
  try dsimp only
  repeat' (first | rfl | (simp; done) | split | intro _)

@[simp] theorem State.settleHead_cfg_idleTime (τ : State)  : τ.settleHead.cfg.idleTime = τ.cfg.idleTime := by
  unfold State.settleHead
  try dsimp only
  repeat' (first | rfl | (simp; done) | split | intro _)

@[simp] theorem State.settleHead_cfg_admission (τ : State)  : τ.settleHead.cfg.admission = τ.cfg.admission := by
  unfold State.settleHead
  try dsimp only
  repeat' (first | rfl | (simp; done) | split | intro _)

@[simp] theorem State.settleHead_cfg_alertMask (τ : State)  : τ.settleHead.cfg.alertMask = τ.cfg.alertMask := by
  unfold State.settleHead
  try dsimp only
  repeat' (first | rfl | (simp; done) | split | intro _)

@[simp] theorem State.settleHead_rep_updateCount (τ : State)  : τ.settleHead.rep.updateCount = τ.rep.updateCount := by
  unfold State.settleHead
  try dsimp only
  repeat' (first | rfl | (simp; done) | split | intro _)

@[simp] theorem State.settleHead_rep_flags (τ : State)  : τ.settleHead.rep.flags = τ.rep.flags := by
  unfold State.settleHead
  try dsimp only
  repeat' (first | rfl | (simp; done) | split | intro _)

@[simp] theorem State.settleHead_rep_statusDue (τ : State)  : τ.settleHead.rep.statusDue = τ.rep.statusDue := by
  unfold State.settleHead
  try dsimp only
  repeat' (first | rfl | (simp; done) | split | intro _)

@[simp] theorem State.settleHead_rep_statusTimer (τ : State)  : τ.settleHead.rep.statusTimer = τ.rep.statusTimer := by
  unfold State.settleHead
  try dsimp only
  repeat' (first | rfl | (simp; done) | split | intro _)

@[simp] theorem State.settleHead_rep_statusShot (τ : State)  : τ.settleHead.rep.statusShot = τ.rep.statusShot := by
  unfold State.settleHead
  try dsimp only
  repeat' (first | rfl | (simp; done) | split | intro _)

@[simp] theorem State.settleHead_rep_selection (τ : State)  : τ.settleHead.rep.selection = τ.rep.selection := by
  unfold State.settleHead
  try dsimp only
  repeat' (first | rfl | (simp; done) | split | intro _)

@[simp] theorem State.settleHead_rep_selectedSince (τ : State)  : τ.settleHead.rep.selectedSince = τ.rep.selectedSince := by
  unfold State.settleHead
  try dsimp only
  repeat' (first | rfl | (simp; done) | split | intro _)

@[simp] theorem State.settleHead_rep_lastBatch (τ : State)  : τ.settleHead.rep.lastBatch = τ.rep.lastBatch := by
  unfold State.settleHead
  try dsimp only
  repeat' (first | rfl | (simp; done) | split | intro _)

@[simp] theorem State.settleHead_rep_tail (τ : State)  : τ.settleHead.rep.tail = τ.rep.tail := by
  unfold State.settleHead
  try dsimp only
  repeat' (first | rfl | (simp; done) | split | intro _)

@[simp] theorem State.settleHead_rep_withheld (τ : State)  : τ.settleHead.rep.withheld = τ.rep.withheld := by
  unfold State.settleHead
  try dsimp only
  repeat' (first | rfl | (simp; done) | split | intro _)

@[simp] theorem State.settleHead_rep_clock (τ : State)  : τ.settleHead.rep.clock = τ.rep.clock := by
  unfold State.settleHead
  try dsimp only
  repeat' (first | rfl | (simp; done) | split | intro _)

@[simp] theorem State.settleHead_rep_completed (τ : State)  : τ.settleHead.rep.completed = τ.rep.completed := by
  unfold State.settleHead
  try dsimp only
  repeat' (first | rfl | (simp; done) | split | intro _)

@[simp] theorem State.settleHead_ldr_part (τ : State)  : τ.settleHead.ldr.part = τ.ldr.part := by
  unfold State.settleHead
  try dsimp only
  repeat' (first | rfl | (simp; done) | split | intro _)

@[simp] theorem State.settleHead_ldr_maint (τ : State)  : τ.settleHead.ldr.maint = τ.ldr.maint := by
  unfold State.settleHead
  try dsimp only
  repeat' (first | rfl | (simp; done) | split | intro _)

@[simp] theorem State.settleHead_ldr_eeprom (τ : State)  : τ.settleHead.ldr.eeprom = τ.ldr.eeprom := by
  unfold State.settleHead
  try dsimp only
  repeat' (first | rfl | (simp; done) | split | intro _)

@[simp] theorem State.settleHead_ldr_setup (τ : State)  : τ.settleHead.ldr.setup = τ.ldr.setup := by
  unfold State.settleHead
  try dsimp only
  repeat' (first | rfl | (simp; done) | split | intro _)

@[simp] theorem State.settleHead_ldr_load (τ : State)  : τ.settleHead.ldr.load = τ.ldr.load := by
  unfold State.settleHead
  try dsimp only
  repeat' (first | rfl | (simp; done) | split | intro _)

@[simp] theorem State.settleHead_ldr_fault (τ : State)  : τ.settleHead.ldr.fault = τ.ldr.fault := by
  unfold State.settleHead
  try dsimp only
  repeat' (first | rfl | (simp; done) | split | intro _)

@[simp] theorem State.syncStatusTimer_pending (τ : State)  : τ.syncStatusTimer.pending = τ.pending := by
  unfold State.syncStatusTimer
  repeat' (first | rfl | (simp; done) | split | intro _)

@[simp] theorem State.syncStatusTimer_ports (τ : State)  : τ.syncStatusTimer.ports = τ.ports := by
  unfold State.syncStatusTimer
  repeat' (first | rfl | (simp; done) | split | intro _)

@[simp] theorem State.syncStatusTimer_up (τ : State)  : τ.syncStatusTimer.up = τ.up := by
  unfold State.syncStatusTimer
  repeat' (first | rfl | (simp; done) | split | intro _)

@[simp] theorem State.syncStatusTimer_mediaUp (τ : State)  : τ.syncStatusTimer.mediaUp = τ.mediaUp := by
  unfold State.syncStatusTimer
  repeat' (first | rfl | (simp; done) | split | intro _)

@[simp] theorem State.syncStatusTimer_slots (τ : State)  : τ.syncStatusTimer.slots = τ.slots := by
  unfold State.syncStatusTimer
  repeat' (first | rfl | (simp; done) | split | intro _)

@[simp] theorem State.syncStatusTimer_arb (τ : State)  : τ.syncStatusTimer.arb = τ.arb := by
  unfold State.syncStatusTimer
  repeat' (first | rfl | (simp; done) | split | intro _)

@[simp] theorem State.syncStatusTimer_cfg (τ : State)  : τ.syncStatusTimer.cfg = τ.cfg := by
  unfold State.syncStatusTimer
  repeat' (first | rfl | (simp; done) | split | intro _)

@[simp] theorem State.syncStatusTimer_map (τ : State)  : τ.syncStatusTimer.map = τ.map := by
  unfold State.syncStatusTimer
  repeat' (first | rfl | (simp; done) | split | intro _)

@[simp] theorem State.syncStatusTimer_pool (τ : State)  : τ.syncStatusTimer.pool = τ.pool := by
  unfold State.syncStatusTimer
  repeat' (first | rfl | (simp; done) | split | intro _)

@[simp] theorem State.syncStatusTimer_store (τ : State)  : τ.syncStatusTimer.store = τ.store := by
  unfold State.syncStatusTimer
  repeat' (first | rfl | (simp; done) | split | intro _)

@[simp] theorem State.syncStatusTimer_walk (τ : State)  : τ.syncStatusTimer.walk = τ.walk := by
  unfold State.syncStatusTimer
  repeat' (first | rfl | (simp; done) | split | intro _)

@[simp] theorem State.syncStatusTimer_mend (τ : State)  : τ.syncStatusTimer.mend = τ.mend := by
  unfold State.syncStatusTimer
  repeat' (first | rfl | (simp; done) | split | intro _)

@[simp] theorem State.syncStatusTimer_dir (τ : State)  : τ.syncStatusTimer.dir = τ.dir := by
  unfold State.syncStatusTimer
  repeat' (first | rfl | (simp; done) | split | intro _)

@[simp] theorem State.syncStatusTimer_ldr (τ : State)  : τ.syncStatusTimer.ldr = τ.ldr := by
  unfold State.syncStatusTimer
  repeat' (first | rfl | (simp; done) | split | intro _)

@[simp] theorem State.syncStatusTimer_rep_updateCount (τ : State)  : τ.syncStatusTimer.rep.updateCount = τ.rep.updateCount := by
  unfold State.syncStatusTimer
  repeat' (first | rfl | (simp; done) | split | intro _)

@[simp] theorem State.syncStatusTimer_rep_flags (τ : State)  : τ.syncStatusTimer.rep.flags = τ.rep.flags := by
  unfold State.syncStatusTimer
  repeat' (first | rfl | (simp; done) | split | intro _)

@[simp] theorem State.syncStatusTimer_rep_statusDue (τ : State)  : τ.syncStatusTimer.rep.statusDue = τ.rep.statusDue := by
  unfold State.syncStatusTimer
  repeat' (first | rfl | (simp; done) | split | intro _)

@[simp] theorem State.syncStatusTimer_rep_statusShot (τ : State)  : τ.syncStatusTimer.rep.statusShot = τ.rep.statusShot := by
  unfold State.syncStatusTimer
  repeat' (first | rfl | (simp; done) | split | intro _)

@[simp] theorem State.syncStatusTimer_rep_selection (τ : State)  : τ.syncStatusTimer.rep.selection = τ.rep.selection := by
  unfold State.syncStatusTimer
  repeat' (first | rfl | (simp; done) | split | intro _)

@[simp] theorem State.syncStatusTimer_rep_selectedSince (τ : State)  : τ.syncStatusTimer.rep.selectedSince = τ.rep.selectedSince := by
  unfold State.syncStatusTimer
  repeat' (first | rfl | (simp; done) | split | intro _)

@[simp] theorem State.syncStatusTimer_rep_lastBatch (τ : State)  : τ.syncStatusTimer.rep.lastBatch = τ.rep.lastBatch := by
  unfold State.syncStatusTimer
  repeat' (first | rfl | (simp; done) | split | intro _)

@[simp] theorem State.syncStatusTimer_rep_head (τ : State)  : τ.syncStatusTimer.rep.head = τ.rep.head := by
  unfold State.syncStatusTimer
  repeat' (first | rfl | (simp; done) | split | intro _)

@[simp] theorem State.syncStatusTimer_rep_writtenHead (τ : State)  : τ.syncStatusTimer.rep.writtenHead = τ.rep.writtenHead := by
  unfold State.syncStatusTimer
  repeat' (first | rfl | (simp; done) | split | intro _)

@[simp] theorem State.syncStatusTimer_rep_tail (τ : State)  : τ.syncStatusTimer.rep.tail = τ.rep.tail := by
  unfold State.syncStatusTimer
  repeat' (first | rfl | (simp; done) | split | intro _)

@[simp] theorem State.syncStatusTimer_rep_withheld (τ : State)  : τ.syncStatusTimer.rep.withheld = τ.rep.withheld := by
  unfold State.syncStatusTimer
  repeat' (first | rfl | (simp; done) | split | intro _)

@[simp] theorem State.syncStatusTimer_rep_clock (τ : State)  : τ.syncStatusTimer.rep.clock = τ.rep.clock := by
  unfold State.syncStatusTimer
  repeat' (first | rfl | (simp; done) | split | intro _)

@[simp] theorem State.syncStatusTimer_rep_completed (τ : State)  : τ.syncStatusTimer.rep.completed = τ.rep.completed := by
  unfold State.syncStatusTimer
  repeat' (first | rfl | (simp; done) | split | intro _)

end Sys2Proof.Machine
end

