-- ==== Sys2Proof/Laws/FrameStore.lean ====
section
/-!
SUPPORT. What each operation of Machine/Store.lean leaves as it was, field by field.
-/

namespace Sys2Proof.Machine

/-- R39: no change moves copy 1 of an extent without a replica out of ABSENT. -/
theorem Entry.apply_copy1_absent {e : Entry} (h : e.copy1 = .absent) (ch : Change) : (e.apply false ch).1.copy1 = .absent := by
  cases ch with
  | state c sources target => cases c <;> simp only [Entry.apply, Entry.change] <;> split <;> (try split) <;> simp_all [Entry.setCopy]
  | stamp pass => exact h
  | verdict c a b =>
    cases c <;> simp only [Entry.apply, Entry.verdict, Entry.matched, Entry.mismatch, Entry.copyState, CopyId.other, h] <;>
      repeat' (first | (simp_all [Entry.setCopy]; done) | split)
  | sealCompare c a b found =>
    cases c <;> simp only [Entry.apply, Entry.compareReread] <;> repeat' (first | (simp_all [Entry.setCopy]; done) | split)
  | sealCompletion c a b => simpa [Entry.apply, Entry.replaced, Entry.keepCopy1] using h
  | sealTake0 a b found => simpa [Entry.apply, Entry.replaced, Entry.keepCopy1] using h
  | sealTake1 a b found1 found0 => simpa [Entry.apply, Entry.replaced, Entry.keepCopy1] using h
  | acceptTake c a b found => simpa [Entry.apply, Entry.replaced, Entry.keepCopy1] using h
  | mendCompare phase target a b => exact h

@[simp] theorem State.becomeDirty_pending (τ : State) (l : Fin 64) : (τ.becomeDirty l).pending = τ.pending := by
  simp [State.becomeDirty]

@[simp] theorem State.becomeDirty_ports (τ : State) (l : Fin 64) : (τ.becomeDirty l).ports = τ.ports := by
  simp [State.becomeDirty]

@[simp] theorem State.becomeDirty_up (τ : State) (l : Fin 64) : (τ.becomeDirty l).up = τ.up := by
  simp [State.becomeDirty]

@[simp] theorem State.becomeDirty_mediaUp (τ : State) (l : Fin 64) : (τ.becomeDirty l).mediaUp = τ.mediaUp := by
  simp [State.becomeDirty]

@[simp] theorem State.becomeDirty_slots (τ : State) (l : Fin 64) : (τ.becomeDirty l).slots = τ.slots := by
  simp [State.becomeDirty]

@[simp] theorem State.becomeDirty_arb (τ : State) (l : Fin 64) : (τ.becomeDirty l).arb = τ.arb := by
  simp [State.becomeDirty]

@[simp] theorem State.becomeDirty_cfg (τ : State) (l : Fin 64) : (τ.becomeDirty l).cfg = τ.cfg := by
  simp [State.becomeDirty]

@[simp] theorem State.becomeDirty_map (τ : State) (l : Fin 64) : (τ.becomeDirty l).map = τ.map := by
  simp [State.becomeDirty]

@[simp] theorem State.becomeDirty_pool (τ : State) (l : Fin 64) : (τ.becomeDirty l).pool = τ.pool := by
  simp [State.becomeDirty]

@[simp] theorem State.becomeDirty_walk (τ : State) (l : Fin 64) : (τ.becomeDirty l).walk = τ.walk := by
  simp [State.becomeDirty]

@[simp] theorem State.becomeDirty_mend (τ : State) (l : Fin 64) : (τ.becomeDirty l).mend = τ.mend := by
  simp [State.becomeDirty]

@[simp] theorem State.becomeDirty_dir (τ : State) (l : Fin 64) : (τ.becomeDirty l).dir = τ.dir := by
  simp [State.becomeDirty]

@[simp] theorem State.becomeDirty_rep (τ : State) (l : Fin 64) : (τ.becomeDirty l).rep = τ.rep := by
  simp [State.becomeDirty]

@[simp] theorem State.becomeDirty_ldr (τ : State) (l : Fin 64) : (τ.becomeDirty l).ldr = τ.ldr := by
  simp [State.becomeDirty]

@[simp] theorem State.becomeDirty_store_queue (τ : State) (l : Fin 64) : (τ.becomeDirty l).store.queue = τ.store.queue := by
  simp [State.becomeDirty]

@[simp] theorem State.becomeDirty_store_recency (τ : State) (l : Fin 64) : (τ.becomeDirty l).store.recency = τ.store.recency := by
  simp [State.becomeDirty]

@[simp] theorem State.leaveDirty_pending (τ : State) (l : Fin 64) : (τ.leaveDirty l).pending = τ.pending := rfl

@[simp] theorem State.leaveDirty_ports (τ : State) (l : Fin 64) : (τ.leaveDirty l).ports = τ.ports := rfl

@[simp] theorem State.leaveDirty_up (τ : State) (l : Fin 64) : (τ.leaveDirty l).up = τ.up := rfl

@[simp] theorem State.leaveDirty_mediaUp (τ : State) (l : Fin 64) : (τ.leaveDirty l).mediaUp = τ.mediaUp := rfl

@[simp] theorem State.leaveDirty_slots (τ : State) (l : Fin 64) : (τ.leaveDirty l).slots = τ.slots := rfl

@[simp] theorem State.leaveDirty_arb (τ : State) (l : Fin 64) : (τ.leaveDirty l).arb = τ.arb := rfl

@[simp] theorem State.leaveDirty_cfg (τ : State) (l : Fin 64) : (τ.leaveDirty l).cfg = τ.cfg := rfl

@[simp] theorem State.leaveDirty_map (τ : State) (l : Fin 64) : (τ.leaveDirty l).map = τ.map := rfl

@[simp] theorem State.leaveDirty_pool (τ : State) (l : Fin 64) : (τ.leaveDirty l).pool = τ.pool := rfl

@[simp] theorem State.leaveDirty_walk (τ : State) (l : Fin 64) : (τ.leaveDirty l).walk = τ.walk := rfl

@[simp] theorem State.leaveDirty_mend (τ : State) (l : Fin 64) : (τ.leaveDirty l).mend = τ.mend := rfl

@[simp] theorem State.leaveDirty_dir (τ : State) (l : Fin 64) : (τ.leaveDirty l).dir = τ.dir := rfl

@[simp] theorem State.leaveDirty_rep (τ : State) (l : Fin 64) : (τ.leaveDirty l).rep = τ.rep := rfl

@[simp] theorem State.leaveDirty_ldr (τ : State) (l : Fin 64) : (τ.leaveDirty l).ldr = τ.ldr := rfl

@[simp] theorem State.leaveDirty_store_queue (τ : State) (l : Fin 64) : (τ.leaveDirty l).store.queue = τ.store.queue := rfl

@[simp] theorem State.leaveDirty_store_recency (τ : State) (l : Fin 64) : (τ.leaveDirty l).store.recency = τ.store.recency := rfl

@[simp] theorem State.dirtyLine_pending (τ : State) (l : Fin 64) : (τ.dirtyLine l).pending = τ.pending := by
  unfold State.dirtyLine
  repeat' (first | rfl | (simp; done) | split | intro _)

@[simp] theorem State.dirtyLine_ports (τ : State) (l : Fin 64) : (τ.dirtyLine l).ports = τ.ports := by
  unfold State.dirtyLine
  repeat' (first | rfl | (simp; done) | split | intro _)

@[simp] theorem State.dirtyLine_up (τ : State) (l : Fin 64) : (τ.dirtyLine l).up = τ.up := by
  unfold State.dirtyLine
  repeat' (first | rfl | (simp; done) | split | intro _)

@[simp] theorem State.dirtyLine_mediaUp (τ : State) (l : Fin 64) : (τ.dirtyLine l).mediaUp = τ.mediaUp := by
  unfold State.dirtyLine
  repeat' (first | rfl | (simp; done) | split | intro _)

@[simp] theorem State.dirtyLine_slots (τ : State) (l : Fin 64) : (τ.dirtyLine l).slots = τ.slots := by
  unfold State.dirtyLine
  repeat' (first | rfl | (simp; done) | split | intro _)

@[simp] theorem State.dirtyLine_arb (τ : State) (l : Fin 64) : (τ.dirtyLine l).arb = τ.arb := by
  unfold State.dirtyLine
  repeat' (first | rfl | (simp; done) | split | intro _)

@[simp] theorem State.dirtyLine_cfg (τ : State) (l : Fin 64) : (τ.dirtyLine l).cfg = τ.cfg := by
  unfold State.dirtyLine
  repeat' (first | rfl | (simp; done) | split | intro _)

@[simp] theorem State.dirtyLine_map (τ : State) (l : Fin 64) : (τ.dirtyLine l).map = τ.map := by
  unfold State.dirtyLine
  repeat' (first | rfl | (simp; done) | split | intro _)

@[simp] theorem State.dirtyLine_pool (τ : State) (l : Fin 64) : (τ.dirtyLine l).pool = τ.pool := by
  unfold State.dirtyLine
  repeat' (first | rfl | (simp; done) | split | intro _)

@[simp] theorem State.dirtyLine_walk (τ : State) (l : Fin 64) : (τ.dirtyLine l).walk = τ.walk := by
  unfold State.dirtyLine
  repeat' (first | rfl | (simp; done) | split | intro _)

@[simp] theorem State.dirtyLine_mend (τ : State) (l : Fin 64) : (τ.dirtyLine l).mend = τ.mend := by
  unfold State.dirtyLine
  repeat' (first | rfl | (simp; done) | split | intro _)

@[simp] theorem State.dirtyLine_dir (τ : State) (l : Fin 64) : (τ.dirtyLine l).dir = τ.dir := by
  unfold State.dirtyLine
  repeat' (first | rfl | (simp; done) | split | intro _)

@[simp] theorem State.dirtyLine_rep (τ : State) (l : Fin 64) : (τ.dirtyLine l).rep = τ.rep := by
  unfold State.dirtyLine
  repeat' (first | rfl | (simp; done) | split | intro _)

@[simp] theorem State.dirtyLine_ldr (τ : State) (l : Fin 64) : (τ.dirtyLine l).ldr = τ.ldr := by
  unfold State.dirtyLine
  repeat' (first | rfl | (simp; done) | split | intro _)

@[simp] theorem State.dirtyLine_store_queue (τ : State) (l : Fin 64) : (τ.dirtyLine l).store.queue = τ.store.queue := by
  unfold State.dirtyLine
  repeat' (first | rfl | (simp; done) | split | intro _)

@[simp] theorem State.dirtyLine_store_recency (τ : State) (l : Fin 64) : (τ.dirtyLine l).store.recency = τ.store.recency := by
  unfold State.dirtyLine
  repeat' (first | rfl | (simp; done) | split | intro _)

@[simp] theorem State.invalidate_pending (τ : State) (l : Fin 64) : (τ.invalidate l).pending = τ.pending := by
  simp [State.invalidate]

@[simp] theorem State.invalidate_ports (τ : State) (l : Fin 64) : (τ.invalidate l).ports = τ.ports := by
  simp [State.invalidate]

@[simp] theorem State.invalidate_up (τ : State) (l : Fin 64) : (τ.invalidate l).up = τ.up := by
  simp [State.invalidate]

@[simp] theorem State.invalidate_mediaUp (τ : State) (l : Fin 64) : (τ.invalidate l).mediaUp = τ.mediaUp := by
  simp [State.invalidate]

@[simp] theorem State.invalidate_slots (τ : State) (l : Fin 64) : (τ.invalidate l).slots = τ.slots := by
  simp [State.invalidate]

@[simp] theorem State.invalidate_arb (τ : State) (l : Fin 64) : (τ.invalidate l).arb = τ.arb := by
  simp [State.invalidate]

@[simp] theorem State.invalidate_cfg (τ : State) (l : Fin 64) : (τ.invalidate l).cfg = τ.cfg := by
  simp [State.invalidate]

@[simp] theorem State.invalidate_map (τ : State) (l : Fin 64) : (τ.invalidate l).map = τ.map := by
  simp [State.invalidate]

@[simp] theorem State.invalidate_pool (τ : State) (l : Fin 64) : (τ.invalidate l).pool = τ.pool := by
  simp [State.invalidate]

@[simp] theorem State.invalidate_walk (τ : State) (l : Fin 64) : (τ.invalidate l).walk = τ.walk := by
  simp [State.invalidate]

@[simp] theorem State.invalidate_mend (τ : State) (l : Fin 64) : (τ.invalidate l).mend = τ.mend := by
  simp [State.invalidate]

@[simp] theorem State.invalidate_dir (τ : State) (l : Fin 64) : (τ.invalidate l).dir = τ.dir := by
  simp [State.invalidate]

@[simp] theorem State.invalidate_rep (τ : State) (l : Fin 64) : (τ.invalidate l).rep = τ.rep := by
  simp [State.invalidate]

@[simp] theorem State.invalidate_ldr (τ : State) (l : Fin 64) : (τ.invalidate l).ldr = τ.ldr := by
  simp [State.invalidate]

@[simp] theorem State.invalidate_store_queue (τ : State) (l : Fin 64) : (τ.invalidate l).store.queue = τ.store.queue := by
  simp [State.invalidate]

@[simp] theorem State.queueWriteback_pending (τ : State) (l : Fin 64) : (τ.queueWriteback l).pending = τ.pending := by
  unfold State.queueWriteback
  repeat' (first | rfl | (simp; done) | split | intro _)

@[simp] theorem State.queueWriteback_ports (τ : State) (l : Fin 64) : (τ.queueWriteback l).ports = τ.ports := by
  unfold State.queueWriteback
  repeat' (first | rfl | (simp; done) | split | intro _)

@[simp] theorem State.queueWriteback_up (τ : State) (l : Fin 64) : (τ.queueWriteback l).up = τ.up := by
  unfold State.queueWriteback
  repeat' (first | rfl | (simp; done) | split | intro _)

@[simp] theorem State.queueWriteback_mediaUp (τ : State) (l : Fin 64) : (τ.queueWriteback l).mediaUp = τ.mediaUp := by
  unfold State.queueWriteback
  repeat' (first | rfl | (simp; done) | split | intro _)

@[simp] theorem State.queueWriteback_slots (τ : State) (l : Fin 64) : (τ.queueWriteback l).slots = τ.slots := by
  unfold State.queueWriteback
  repeat' (first | rfl | (simp; done) | split | intro _)

@[simp] theorem State.queueWriteback_cfg (τ : State) (l : Fin 64) : (τ.queueWriteback l).cfg = τ.cfg := by
  unfold State.queueWriteback
  repeat' (first | rfl | (simp; done) | split | intro _)

@[simp] theorem State.queueWriteback_map (τ : State) (l : Fin 64) : (τ.queueWriteback l).map = τ.map := by
  unfold State.queueWriteback
  repeat' (first | rfl | (simp; done) | split | intro _)

@[simp] theorem State.queueWriteback_pool (τ : State) (l : Fin 64) : (τ.queueWriteback l).pool = τ.pool := by
  unfold State.queueWriteback
  repeat' (first | rfl | (simp; done) | split | intro _)

@[simp] theorem State.queueWriteback_store (τ : State) (l : Fin 64) : (τ.queueWriteback l).store = τ.store := by
  unfold State.queueWriteback
  repeat' (first | rfl | (simp; done) | split | intro _)

@[simp] theorem State.queueWriteback_walk (τ : State) (l : Fin 64) : (τ.queueWriteback l).walk = τ.walk := by
  unfold State.queueWriteback
  repeat' (first | rfl | (simp; done) | split | intro _)

@[simp] theorem State.queueWriteback_mend (τ : State) (l : Fin 64) : (τ.queueWriteback l).mend = τ.mend := by
  unfold State.queueWriteback
  repeat' (first | rfl | (simp; done) | split | intro _)

@[simp] theorem State.queueWriteback_dir (τ : State) (l : Fin 64) : (τ.queueWriteback l).dir = τ.dir := by
  unfold State.queueWriteback
  repeat' (first | rfl | (simp; done) | split | intro _)

@[simp] theorem State.queueWriteback_rep (τ : State) (l : Fin 64) : (τ.queueWriteback l).rep = τ.rep := by
  unfold State.queueWriteback
  repeat' (first | rfl | (simp; done) | split | intro _)

@[simp] theorem State.queueWriteback_ldr (τ : State) (l : Fin 64) : (τ.queueWriteback l).ldr = τ.ldr := by
  unfold State.queueWriteback
  repeat' (first | rfl | (simp; done) | split | intro _)

@[simp] theorem State.queueEviction_pending (τ : State) (but : Option (Fin 64)) : (τ.queueEviction but).pending = τ.pending := by
  unfold State.queueEviction
  repeat' (first | rfl | (simp; done) | split | intro _)

@[simp] theorem State.queueEviction_ports (τ : State) (but : Option (Fin 64)) : (τ.queueEviction but).ports = τ.ports := by
  unfold State.queueEviction
  repeat' (first | rfl | (simp; done) | split | intro _)

@[simp] theorem State.queueEviction_up (τ : State) (but : Option (Fin 64)) : (τ.queueEviction but).up = τ.up := by
  unfold State.queueEviction
  repeat' (first | rfl | (simp; done) | split | intro _)

@[simp] theorem State.queueEviction_mediaUp (τ : State) (but : Option (Fin 64)) : (τ.queueEviction but).mediaUp = τ.mediaUp := by
  unfold State.queueEviction
  repeat' (first | rfl | (simp; done) | split | intro _)

@[simp] theorem State.queueEviction_slots (τ : State) (but : Option (Fin 64)) : (τ.queueEviction but).slots = τ.slots := by
  unfold State.queueEviction
  repeat' (first | rfl | (simp; done) | split | intro _)

@[simp] theorem State.queueEviction_cfg (τ : State) (but : Option (Fin 64)) : (τ.queueEviction but).cfg = τ.cfg := by
  unfold State.queueEviction
  repeat' (first | rfl | (simp; done) | split | intro _)

@[simp] theorem State.queueEviction_map (τ : State) (but : Option (Fin 64)) : (τ.queueEviction but).map = τ.map := by
  unfold State.queueEviction
  repeat' (first | rfl | (simp; done) | split | intro _)

@[simp] theorem State.queueEviction_pool (τ : State) (but : Option (Fin 64)) : (τ.queueEviction but).pool = τ.pool := by
  unfold State.queueEviction
  repeat' (first | rfl | (simp; done) | split | intro _)

@[simp] theorem State.queueEviction_walk (τ : State) (but : Option (Fin 64)) : (τ.queueEviction but).walk = τ.walk := by
  unfold State.queueEviction
  repeat' (first | rfl | (simp; done) | split | intro _)

@[simp] theorem State.queueEviction_mend (τ : State) (but : Option (Fin 64)) : (τ.queueEviction but).mend = τ.mend := by
  unfold State.queueEviction
  repeat' (first | rfl | (simp; done) | split | intro _)

@[simp] theorem State.queueEviction_dir (τ : State) (but : Option (Fin 64)) : (τ.queueEviction but).dir = τ.dir := by
  unfold State.queueEviction
  repeat' (first | rfl | (simp; done) | split | intro _)

@[simp] theorem State.queueEviction_rep (τ : State) (but : Option (Fin 64)) : (τ.queueEviction but).rep = τ.rep := by
  unfold State.queueEviction
  repeat' (first | rfl | (simp; done) | split | intro _)

@[simp] theorem State.queueEviction_ldr (τ : State) (but : Option (Fin 64)) : (τ.queueEviction but).ldr = τ.ldr := by
  unfold State.queueEviction
  repeat' (first | rfl | (simp; done) | split | intro _)

@[simp] theorem State.queueEviction_store_queue (τ : State) (but : Option (Fin 64)) : (τ.queueEviction but).store.queue = τ.store.queue := by
  unfold State.queueEviction
  repeat' (first | rfl | (simp; done) | split | intro _)

@[simp] theorem State.queueEviction_store_recency (τ : State) (but : Option (Fin 64)) : (τ.queueEviction but).store.recency = τ.store.recency := by
  unfold State.queueEviction
  repeat' (first | rfl | (simp; done) | split | intro _)

@[simp] theorem State.queueEviction_store_dirtyOrder (τ : State) (but : Option (Fin 64)) : (τ.queueEviction but).store.dirtyOrder = τ.store.dirtyOrder := by
  unfold State.queueEviction
  repeat' (first | rfl | (simp; done) | split | intro _)

@[simp] theorem State.takeForFill_pending (τ : State) (l : Fin 64) (tag : Nat) (e : Fin 1024) : (τ.takeForFill l tag e).pending = τ.pending := by
  simp [State.takeForFill]

@[simp] theorem State.takeForFill_ports (τ : State) (l : Fin 64) (tag : Nat) (e : Fin 1024) : (τ.takeForFill l tag e).ports = τ.ports := by
  simp [State.takeForFill]

@[simp] theorem State.takeForFill_up (τ : State) (l : Fin 64) (tag : Nat) (e : Fin 1024) : (τ.takeForFill l tag e).up = τ.up := by
  simp [State.takeForFill]

@[simp] theorem State.takeForFill_mediaUp (τ : State) (l : Fin 64) (tag : Nat) (e : Fin 1024) : (τ.takeForFill l tag e).mediaUp = τ.mediaUp := by
  simp [State.takeForFill]

@[simp] theorem State.takeForFill_slots (τ : State) (l : Fin 64) (tag : Nat) (e : Fin 1024) : (τ.takeForFill l tag e).slots = τ.slots := by
  simp [State.takeForFill]

@[simp] theorem State.takeForFill_cfg (τ : State) (l : Fin 64) (tag : Nat) (e : Fin 1024) : (τ.takeForFill l tag e).cfg = τ.cfg := by
  simp [State.takeForFill]

@[simp] theorem State.takeForFill_map (τ : State) (l : Fin 64) (tag : Nat) (e : Fin 1024) : (τ.takeForFill l tag e).map = τ.map := by
  simp [State.takeForFill]

@[simp] theorem State.takeForFill_pool (τ : State) (l : Fin 64) (tag : Nat) (e : Fin 1024) : (τ.takeForFill l tag e).pool = τ.pool := by
  simp [State.takeForFill]

@[simp] theorem State.takeForFill_walk (τ : State) (l : Fin 64) (tag : Nat) (e : Fin 1024) : (τ.takeForFill l tag e).walk = τ.walk := by
  simp [State.takeForFill]

@[simp] theorem State.takeForFill_mend (τ : State) (l : Fin 64) (tag : Nat) (e : Fin 1024) : (τ.takeForFill l tag e).mend = τ.mend := by
  simp [State.takeForFill]

@[simp] theorem State.takeForFill_dir (τ : State) (l : Fin 64) (tag : Nat) (e : Fin 1024) : (τ.takeForFill l tag e).dir = τ.dir := by
  simp [State.takeForFill]

@[simp] theorem State.takeForFill_rep (τ : State) (l : Fin 64) (tag : Nat) (e : Fin 1024) : (τ.takeForFill l tag e).rep = τ.rep := by
  simp [State.takeForFill]

@[simp] theorem State.takeForFill_ldr (τ : State) (l : Fin 64) (tag : Nat) (e : Fin 1024) : (τ.takeForFill l tag e).ldr = τ.ldr := by
  simp [State.takeForFill]

@[simp] theorem State.takeForFill_store_queue (τ : State) (l : Fin 64) (tag : Nat) (e : Fin 1024) : (τ.takeForFill l tag e).store.queue = τ.store.queue := by
  simp [State.takeForFill]

@[simp] theorem State.takeFresh_pending (τ : State) (l : Fin 64) (tag : Nat) (e : Fin 1024) : (τ.takeFresh l tag e).pending = τ.pending := by
  simp [State.takeFresh]

@[simp] theorem State.takeFresh_ports (τ : State) (l : Fin 64) (tag : Nat) (e : Fin 1024) : (τ.takeFresh l tag e).ports = τ.ports := by
  simp [State.takeFresh]

@[simp] theorem State.takeFresh_up (τ : State) (l : Fin 64) (tag : Nat) (e : Fin 1024) : (τ.takeFresh l tag e).up = τ.up := by
  simp [State.takeFresh]

@[simp] theorem State.takeFresh_mediaUp (τ : State) (l : Fin 64) (tag : Nat) (e : Fin 1024) : (τ.takeFresh l tag e).mediaUp = τ.mediaUp := by
  simp [State.takeFresh]

@[simp] theorem State.takeFresh_slots (τ : State) (l : Fin 64) (tag : Nat) (e : Fin 1024) : (τ.takeFresh l tag e).slots = τ.slots := by
  simp [State.takeFresh]

@[simp] theorem State.takeFresh_arb (τ : State) (l : Fin 64) (tag : Nat) (e : Fin 1024) : (τ.takeFresh l tag e).arb = τ.arb := by
  simp [State.takeFresh]

@[simp] theorem State.takeFresh_cfg (τ : State) (l : Fin 64) (tag : Nat) (e : Fin 1024) : (τ.takeFresh l tag e).cfg = τ.cfg := by
  simp [State.takeFresh]

@[simp] theorem State.takeFresh_map (τ : State) (l : Fin 64) (tag : Nat) (e : Fin 1024) : (τ.takeFresh l tag e).map = τ.map := by
  simp [State.takeFresh]

@[simp] theorem State.takeFresh_pool (τ : State) (l : Fin 64) (tag : Nat) (e : Fin 1024) : (τ.takeFresh l tag e).pool = τ.pool := by
  simp [State.takeFresh]

@[simp] theorem State.takeFresh_walk (τ : State) (l : Fin 64) (tag : Nat) (e : Fin 1024) : (τ.takeFresh l tag e).walk = τ.walk := by
  simp [State.takeFresh]

@[simp] theorem State.takeFresh_mend (τ : State) (l : Fin 64) (tag : Nat) (e : Fin 1024) : (τ.takeFresh l tag e).mend = τ.mend := by
  simp [State.takeFresh]

@[simp] theorem State.takeFresh_dir (τ : State) (l : Fin 64) (tag : Nat) (e : Fin 1024) : (τ.takeFresh l tag e).dir = τ.dir := by
  simp [State.takeFresh]

@[simp] theorem State.takeFresh_rep (τ : State) (l : Fin 64) (tag : Nat) (e : Fin 1024) : (τ.takeFresh l tag e).rep = τ.rep := by
  simp [State.takeFresh]

@[simp] theorem State.takeFresh_ldr (τ : State) (l : Fin 64) (tag : Nat) (e : Fin 1024) : (τ.takeFresh l tag e).ldr = τ.ldr := by
  simp [State.takeFresh]

@[simp] theorem State.takeFresh_store_queue (τ : State) (l : Fin 64) (tag : Nat) (e : Fin 1024) : (τ.takeFresh l tag e).store.queue = τ.store.queue := by
  simp [State.takeFresh]

@[simp] theorem State.takeFresh_store_dirtyOrder (τ : State) (l : Fin 64) (tag : Nat) (e : Fin 1024) : (τ.takeFresh l tag e).store.dirtyOrder = τ.store.dirtyOrder := by
  simp [State.takeFresh]

@[simp] theorem State.takeLine_pending (τ : State) (l : Fin 64) (tag : Nat) (e : Fin 1024) (fresh : Bool) : (τ.takeLine l tag e fresh).pending = τ.pending := by
  unfold State.takeLine
  repeat' (first | rfl | (simp; done) | split | intro _)

@[simp] theorem State.takeLine_ports (τ : State) (l : Fin 64) (tag : Nat) (e : Fin 1024) (fresh : Bool) : (τ.takeLine l tag e fresh).ports = τ.ports := by
  unfold State.takeLine
  repeat' (first | rfl | (simp; done) | split | intro _)

@[simp] theorem State.takeLine_up (τ : State) (l : Fin 64) (tag : Nat) (e : Fin 1024) (fresh : Bool) : (τ.takeLine l tag e fresh).up = τ.up := by
  unfold State.takeLine
  repeat' (first | rfl | (simp; done) | split | intro _)

@[simp] theorem State.takeLine_mediaUp (τ : State) (l : Fin 64) (tag : Nat) (e : Fin 1024) (fresh : Bool) : (τ.takeLine l tag e fresh).mediaUp = τ.mediaUp := by
  unfold State.takeLine
  repeat' (first | rfl | (simp; done) | split | intro _)

@[simp] theorem State.takeLine_slots (τ : State) (l : Fin 64) (tag : Nat) (e : Fin 1024) (fresh : Bool) : (τ.takeLine l tag e fresh).slots = τ.slots := by
  unfold State.takeLine
  repeat' (first | rfl | (simp; done) | split | intro _)

@[simp] theorem State.takeLine_cfg (τ : State) (l : Fin 64) (tag : Nat) (e : Fin 1024) (fresh : Bool) : (τ.takeLine l tag e fresh).cfg = τ.cfg := by
  unfold State.takeLine
  repeat' (first | rfl | (simp; done) | split | intro _)

@[simp] theorem State.takeLine_map (τ : State) (l : Fin 64) (tag : Nat) (e : Fin 1024) (fresh : Bool) : (τ.takeLine l tag e fresh).map = τ.map := by
  unfold State.takeLine
  repeat' (first | rfl | (simp; done) | split | intro _)

@[simp] theorem State.takeLine_pool (τ : State) (l : Fin 64) (tag : Nat) (e : Fin 1024) (fresh : Bool) : (τ.takeLine l tag e fresh).pool = τ.pool := by
  unfold State.takeLine
  repeat' (first | rfl | (simp; done) | split | intro _)

@[simp] theorem State.takeLine_walk (τ : State) (l : Fin 64) (tag : Nat) (e : Fin 1024) (fresh : Bool) : (τ.takeLine l tag e fresh).walk = τ.walk := by
  unfold State.takeLine
  repeat' (first | rfl | (simp; done) | split | intro _)

@[simp] theorem State.takeLine_mend (τ : State) (l : Fin 64) (tag : Nat) (e : Fin 1024) (fresh : Bool) : (τ.takeLine l tag e fresh).mend = τ.mend := by
  unfold State.takeLine
  repeat' (first | rfl | (simp; done) | split | intro _)

@[simp] theorem State.takeLine_dir (τ : State) (l : Fin 64) (tag : Nat) (e : Fin 1024) (fresh : Bool) : (τ.takeLine l tag e fresh).dir = τ.dir := by
  unfold State.takeLine
  repeat' (first | rfl | (simp; done) | split | intro _)

@[simp] theorem State.takeLine_rep (τ : State) (l : Fin 64) (tag : Nat) (e : Fin 1024) (fresh : Bool) : (τ.takeLine l tag e fresh).rep = τ.rep := by
  unfold State.takeLine
  repeat' (first | rfl | (simp; done) | split | intro _)

@[simp] theorem State.takeLine_ldr (τ : State) (l : Fin 64) (tag : Nat) (e : Fin 1024) (fresh : Bool) : (τ.takeLine l tag e fresh).ldr = τ.ldr := by
  unfold State.takeLine
  repeat' (first | rfl | (simp; done) | split | intro _)

@[simp] theorem State.takeLine_store_queue (τ : State) (l : Fin 64) (tag : Nat) (e : Fin 1024) (fresh : Bool) : (τ.takeLine l tag e fresh).store.queue = τ.store.queue := by
  unfold State.takeLine
  repeat' (first | rfl | (simp; done) | split | intro _)

@[simp] theorem State.requestLine_pending (τ : State) (user : LineUser) (tag : Nat) (e : Fin 1024) (fresh : Bool) : (τ.requestLine user tag e fresh).1.pending = τ.pending := by
  unfold State.requestLine
  try dsimp only
  repeat' (first | rfl | (simp; done) | split | intro _)

@[simp] theorem State.requestLine_ports (τ : State) (user : LineUser) (tag : Nat) (e : Fin 1024) (fresh : Bool) : (τ.requestLine user tag e fresh).1.ports = τ.ports := by
  unfold State.requestLine
  try dsimp only
  repeat' (first | rfl | (simp; done) | split | intro _)

@[simp] theorem State.requestLine_up (τ : State) (user : LineUser) (tag : Nat) (e : Fin 1024) (fresh : Bool) : (τ.requestLine user tag e fresh).1.up = τ.up := by
  unfold State.requestLine
  try dsimp only
  repeat' (first | rfl | (simp; done) | split | intro _)

@[simp] theorem State.requestLine_mediaUp (τ : State) (user : LineUser) (tag : Nat) (e : Fin 1024) (fresh : Bool) : (τ.requestLine user tag e fresh).1.mediaUp = τ.mediaUp := by
  unfold State.requestLine
  try dsimp only
  repeat' (first | rfl | (simp; done) | split | intro _)

@[simp] theorem State.requestLine_slots (τ : State) (user : LineUser) (tag : Nat) (e : Fin 1024) (fresh : Bool) : (τ.requestLine user tag e fresh).1.slots = τ.slots := by
  unfold State.requestLine
  try dsimp only
  repeat' (first | rfl | (simp; done) | split | intro _)

@[simp] theorem State.requestLine_cfg (τ : State) (user : LineUser) (tag : Nat) (e : Fin 1024) (fresh : Bool) : (τ.requestLine user tag e fresh).1.cfg = τ.cfg := by
  unfold State.requestLine
  try dsimp only
  repeat' (first | rfl | (simp; done) | split | intro _)

@[simp] theorem State.requestLine_map (τ : State) (user : LineUser) (tag : Nat) (e : Fin 1024) (fresh : Bool) : (τ.requestLine user tag e fresh).1.map = τ.map := by
  unfold State.requestLine
  try dsimp only
  repeat' (first | rfl | (simp; done) | split | intro _)

@[simp] theorem State.requestLine_pool (τ : State) (user : LineUser) (tag : Nat) (e : Fin 1024) (fresh : Bool) : (τ.requestLine user tag e fresh).1.pool = τ.pool := by
  unfold State.requestLine
  try dsimp only
  repeat' (first | rfl | (simp; done) | split | intro _)

@[simp] theorem State.requestLine_walk (τ : State) (user : LineUser) (tag : Nat) (e : Fin 1024) (fresh : Bool) : (τ.requestLine user tag e fresh).1.walk = τ.walk := by
  unfold State.requestLine
  try dsimp only
  repeat' (first | rfl | (simp; done) | split | intro _)

@[simp] theorem State.requestLine_mend (τ : State) (user : LineUser) (tag : Nat) (e : Fin 1024) (fresh : Bool) : (τ.requestLine user tag e fresh).1.mend = τ.mend := by
  unfold State.requestLine
  try dsimp only
  repeat' (first | rfl | (simp; done) | split | intro _)

@[simp] theorem State.requestLine_dir (τ : State) (user : LineUser) (tag : Nat) (e : Fin 1024) (fresh : Bool) : (τ.requestLine user tag e fresh).1.dir = τ.dir := by
  unfold State.requestLine
  try dsimp only
  repeat' (first | rfl | (simp; done) | split | intro _)

@[simp] theorem State.requestLine_rep (τ : State) (user : LineUser) (tag : Nat) (e : Fin 1024) (fresh : Bool) : (τ.requestLine user tag e fresh).1.rep = τ.rep := by
  unfold State.requestLine
  try dsimp only
  repeat' (first | rfl | (simp; done) | split | intro _)

@[simp] theorem State.requestLine_ldr (τ : State) (user : LineUser) (tag : Nat) (e : Fin 1024) (fresh : Bool) : (τ.requestLine user tag e fresh).1.ldr = τ.ldr := by
  unfold State.requestLine
  try dsimp only
  repeat' (first | rfl | (simp; done) | split | intro _)

@[simp] theorem State.requestLineNow_pending (τ : State) (tag : Nat) (e : Fin 1024) : (τ.requestLineNow tag e).1.pending = τ.pending := by
  unfold State.requestLineNow
  try dsimp only
  repeat' (first | rfl | (simp; done) | split | intro _)

@[simp] theorem State.requestLineNow_ports (τ : State) (tag : Nat) (e : Fin 1024) : (τ.requestLineNow tag e).1.ports = τ.ports := by
  unfold State.requestLineNow
  try dsimp only
  repeat' (first | rfl | (simp; done) | split | intro _)

@[simp] theorem State.requestLineNow_up (τ : State) (tag : Nat) (e : Fin 1024) : (τ.requestLineNow tag e).1.up = τ.up := by
  unfold State.requestLineNow
  try dsimp only
  repeat' (first | rfl | (simp; done) | split | intro _)

@[simp] theorem State.requestLineNow_mediaUp (τ : State) (tag : Nat) (e : Fin 1024) : (τ.requestLineNow tag e).1.mediaUp = τ.mediaUp := by
  unfold State.requestLineNow
  try dsimp only
  repeat' (first | rfl | (simp; done) | split | intro _)

@[simp] theorem State.requestLineNow_slots (τ : State) (tag : Nat) (e : Fin 1024) : (τ.requestLineNow tag e).1.slots = τ.slots := by
  unfold State.requestLineNow
  try dsimp only
  repeat' (first | rfl | (simp; done) | split | intro _)

@[simp] theorem State.requestLineNow_cfg (τ : State) (tag : Nat) (e : Fin 1024) : (τ.requestLineNow tag e).1.cfg = τ.cfg := by
  unfold State.requestLineNow
  try dsimp only
  repeat' (first | rfl | (simp; done) | split | intro _)

@[simp] theorem State.requestLineNow_map (τ : State) (tag : Nat) (e : Fin 1024) : (τ.requestLineNow tag e).1.map = τ.map := by
  unfold State.requestLineNow
  try dsimp only
  repeat' (first | rfl | (simp; done) | split | intro _)

@[simp] theorem State.requestLineNow_pool (τ : State) (tag : Nat) (e : Fin 1024) : (τ.requestLineNow tag e).1.pool = τ.pool := by
  unfold State.requestLineNow
  try dsimp only
  repeat' (first | rfl | (simp; done) | split | intro _)

@[simp] theorem State.requestLineNow_walk (τ : State) (tag : Nat) (e : Fin 1024) : (τ.requestLineNow tag e).1.walk = τ.walk := by
  unfold State.requestLineNow
  try dsimp only
  repeat' (first | rfl | (simp; done) | split | intro _)

@[simp] theorem State.requestLineNow_mend (τ : State) (tag : Nat) (e : Fin 1024) : (τ.requestLineNow tag e).1.mend = τ.mend := by
  unfold State.requestLineNow
  try dsimp only
  repeat' (first | rfl | (simp; done) | split | intro _)

@[simp] theorem State.requestLineNow_dir (τ : State) (tag : Nat) (e : Fin 1024) : (τ.requestLineNow tag e).1.dir = τ.dir := by
  unfold State.requestLineNow
  try dsimp only
  repeat' (first | rfl | (simp; done) | split | intro _)

@[simp] theorem State.requestLineNow_rep (τ : State) (tag : Nat) (e : Fin 1024) : (τ.requestLineNow tag e).1.rep = τ.rep := by
  unfold State.requestLineNow
  try dsimp only
  repeat' (first | rfl | (simp; done) | split | intro _)

@[simp] theorem State.requestLineNow_ldr (τ : State) (tag : Nat) (e : Fin 1024) : (τ.requestLineNow tag e).1.ldr = τ.ldr := by
  unfold State.requestLineNow
  try dsimp only
  repeat' (first | rfl | (simp; done) | split | intro _)

@[simp] theorem State.requestLineNow_store_queue (τ : State) (tag : Nat) (e : Fin 1024) : (τ.requestLineNow tag e).1.store.queue = τ.store.queue := by
  unfold State.requestLineNow
  try dsimp only
  repeat' (first | rfl | (simp; done) | split | intro _)

@[simp] theorem State.dropRequests_pending (τ : State) (user : LineUser) : (τ.dropRequests user).pending = τ.pending := rfl

@[simp] theorem State.dropRequests_ports (τ : State) (user : LineUser) : (τ.dropRequests user).ports = τ.ports := rfl

@[simp] theorem State.dropRequests_up (τ : State) (user : LineUser) : (τ.dropRequests user).up = τ.up := rfl

@[simp] theorem State.dropRequests_mediaUp (τ : State) (user : LineUser) : (τ.dropRequests user).mediaUp = τ.mediaUp := rfl

@[simp] theorem State.dropRequests_slots (τ : State) (user : LineUser) : (τ.dropRequests user).slots = τ.slots := rfl

@[simp] theorem State.dropRequests_arb (τ : State) (user : LineUser) : (τ.dropRequests user).arb = τ.arb := rfl

@[simp] theorem State.dropRequests_cfg (τ : State) (user : LineUser) : (τ.dropRequests user).cfg = τ.cfg := rfl

@[simp] theorem State.dropRequests_map (τ : State) (user : LineUser) : (τ.dropRequests user).map = τ.map := rfl

@[simp] theorem State.dropRequests_pool (τ : State) (user : LineUser) : (τ.dropRequests user).pool = τ.pool := rfl

@[simp] theorem State.dropRequests_walk (τ : State) (user : LineUser) : (τ.dropRequests user).walk = τ.walk := rfl

@[simp] theorem State.dropRequests_mend (τ : State) (user : LineUser) : (τ.dropRequests user).mend = τ.mend := rfl

@[simp] theorem State.dropRequests_dir (τ : State) (user : LineUser) : (τ.dropRequests user).dir = τ.dir := rfl

@[simp] theorem State.dropRequests_rep (τ : State) (user : LineUser) : (τ.dropRequests user).rep = τ.rep := rfl

@[simp] theorem State.dropRequests_ldr (τ : State) (user : LineUser) : (τ.dropRequests user).ldr = τ.ldr := rfl

@[simp] theorem State.dropRequests_store_recency (τ : State) (user : LineUser) : (τ.dropRequests user).store.recency = τ.store.recency := rfl

@[simp] theorem State.dropRequests_store_dirtyOrder (τ : State) (user : LineUser) : (τ.dropRequests user).store.dirtyOrder = τ.store.dirtyOrder := rfl

@[simp] theorem State.logChange_pending (τ : State) (e : Fin 1024) (frame : Nat) (ch : Change) (ans : Answer) : (τ.logChange e frame ch ans).pending = τ.pending := by
  unfold State.logChange
  try dsimp only
  repeat' (first | rfl | (simp; done) | split | intro _)

@[simp] theorem State.logChange_ports (τ : State) (e : Fin 1024) (frame : Nat) (ch : Change) (ans : Answer) : (τ.logChange e frame ch ans).ports = τ.ports := by
  unfold State.logChange
  try dsimp only
  repeat' (first | rfl | (simp; done) | split | intro _)

@[simp] theorem State.logChange_up (τ : State) (e : Fin 1024) (frame : Nat) (ch : Change) (ans : Answer) : (τ.logChange e frame ch ans).up = τ.up := by
  unfold State.logChange
  try dsimp only
  repeat' (first | rfl | (simp; done) | split | intro _)

@[simp] theorem State.logChange_mediaUp (τ : State) (e : Fin 1024) (frame : Nat) (ch : Change) (ans : Answer) : (τ.logChange e frame ch ans).mediaUp = τ.mediaUp := by
  unfold State.logChange
  try dsimp only
  repeat' (first | rfl | (simp; done) | split | intro _)

@[simp] theorem State.logChange_slots (τ : State) (e : Fin 1024) (frame : Nat) (ch : Change) (ans : Answer) : (τ.logChange e frame ch ans).slots = τ.slots := by
  unfold State.logChange
  try dsimp only
  repeat' (first | rfl | (simp; done) | split | intro _)

@[simp] theorem State.logChange_cfg (τ : State) (e : Fin 1024) (frame : Nat) (ch : Change) (ans : Answer) : (τ.logChange e frame ch ans).cfg = τ.cfg := by
  unfold State.logChange
  try dsimp only
  repeat' (first | rfl | (simp; done) | split | intro _)

@[simp] theorem State.logChange_map (τ : State) (e : Fin 1024) (frame : Nat) (ch : Change) (ans : Answer) : (τ.logChange e frame ch ans).map = τ.map := by
  unfold State.logChange
  try dsimp only
  repeat' (first | rfl | (simp; done) | split | intro _)

@[simp] theorem State.logChange_pool (τ : State) (e : Fin 1024) (frame : Nat) (ch : Change) (ans : Answer) : (τ.logChange e frame ch ans).pool = τ.pool := by
  unfold State.logChange
  try dsimp only
  repeat' (first | rfl | (simp; done) | split | intro _)

@[simp] theorem State.logChange_store (τ : State) (e : Fin 1024) (frame : Nat) (ch : Change) (ans : Answer) : (τ.logChange e frame ch ans).store = τ.store := by
  unfold State.logChange
  try dsimp only
  repeat' (first | rfl | (simp; done) | split | intro _)

@[simp] theorem State.logChange_walk (τ : State) (e : Fin 1024) (frame : Nat) (ch : Change) (ans : Answer) : (τ.logChange e frame ch ans).walk = τ.walk := by
  unfold State.logChange
  try dsimp only
  repeat' (first | rfl | (simp; done) | split | intro _)

@[simp] theorem State.logChange_mend (τ : State) (e : Fin 1024) (frame : Nat) (ch : Change) (ans : Answer) : (τ.logChange e frame ch ans).mend = τ.mend := by
  unfold State.logChange
  try dsimp only
  repeat' (first | rfl | (simp; done) | split | intro _)

@[simp] theorem State.logChange_dir (τ : State) (e : Fin 1024) (frame : Nat) (ch : Change) (ans : Answer) : (τ.logChange e frame ch ans).dir = τ.dir := by
  unfold State.logChange
  try dsimp only
  repeat' (first | rfl | (simp; done) | split | intro _)

@[simp] theorem State.logChange_ldr (τ : State) (e : Fin 1024) (frame : Nat) (ch : Change) (ans : Answer) : (τ.logChange e frame ch ans).ldr = τ.ldr := by
  unfold State.logChange
  try dsimp only
  repeat' (first | rfl | (simp; done) | split | intro _)

@[simp] theorem State.logChange_rep_updateCount (τ : State) (e : Fin 1024) (frame : Nat) (ch : Change) (ans : Answer) : (τ.logChange e frame ch ans).rep.updateCount = τ.rep.updateCount := by
  unfold State.logChange
  try dsimp only
  repeat' (first | rfl | (simp; done) | split | intro _)

@[simp] theorem State.logChange_rep_statusTimer (τ : State) (e : Fin 1024) (frame : Nat) (ch : Change) (ans : Answer) : (τ.logChange e frame ch ans).rep.statusTimer = τ.rep.statusTimer := by
  unfold State.logChange
  try dsimp only
  repeat' (first | rfl | (simp; done) | split | intro _)

@[simp] theorem State.logChange_rep_selection (τ : State) (e : Fin 1024) (frame : Nat) (ch : Change) (ans : Answer) : (τ.logChange e frame ch ans).rep.selection = τ.rep.selection := by
  unfold State.logChange
  try dsimp only
  repeat' (first | rfl | (simp; done) | split | intro _)

@[simp] theorem State.logChange_rep_selectedSince (τ : State) (e : Fin 1024) (frame : Nat) (ch : Change) (ans : Answer) : (τ.logChange e frame ch ans).rep.selectedSince = τ.rep.selectedSince := by
  unfold State.logChange
  try dsimp only
  repeat' (first | rfl | (simp; done) | split | intro _)

@[simp] theorem State.logChange_rep_lastBatch (τ : State) (e : Fin 1024) (frame : Nat) (ch : Change) (ans : Answer) : (τ.logChange e frame ch ans).rep.lastBatch = τ.rep.lastBatch := by
  unfold State.logChange
  try dsimp only
  repeat' (first | rfl | (simp; done) | split | intro _)

@[simp] theorem State.logChange_rep_writtenHead (τ : State) (e : Fin 1024) (frame : Nat) (ch : Change) (ans : Answer) : (τ.logChange e frame ch ans).rep.writtenHead = τ.rep.writtenHead := by
  unfold State.logChange
  try dsimp only
  repeat' (first | rfl | (simp; done) | split | intro _)

@[simp] theorem State.logChange_rep_tail (τ : State) (e : Fin 1024) (frame : Nat) (ch : Change) (ans : Answer) : (τ.logChange e frame ch ans).rep.tail = τ.rep.tail := by
  unfold State.logChange
  try dsimp only
  repeat' (first | rfl | (simp; done) | split | intro _)

@[simp] theorem State.logChange_rep_clock (τ : State) (e : Fin 1024) (frame : Nat) (ch : Change) (ans : Answer) : (τ.logChange e frame ch ans).rep.clock = τ.rep.clock := by
  unfold State.logChange
  try dsimp only
  repeat' (first | rfl | (simp; done) | split | intro _)

@[simp] theorem State.applyCore_pending (τ : State) (l : Fin 64) (frame : Nat) (ch : Change) : (τ.applyCore l frame ch).1.pending = τ.pending := by
  unfold State.applyCore
  try dsimp only
  repeat' (first | rfl | (simp; done) | split | intro _)

@[simp] theorem State.applyCore_ports (τ : State) (l : Fin 64) (frame : Nat) (ch : Change) : (τ.applyCore l frame ch).1.ports = τ.ports := by
  unfold State.applyCore
  try dsimp only
  repeat' (first | rfl | (simp; done) | split | intro _)

@[simp] theorem State.applyCore_up (τ : State) (l : Fin 64) (frame : Nat) (ch : Change) : (τ.applyCore l frame ch).1.up = τ.up := by
  unfold State.applyCore
  try dsimp only
  repeat' (first | rfl | (simp; done) | split | intro _)

@[simp] theorem State.applyCore_mediaUp (τ : State) (l : Fin 64) (frame : Nat) (ch : Change) : (τ.applyCore l frame ch).1.mediaUp = τ.mediaUp := by
  unfold State.applyCore
  try dsimp only
  repeat' (first | rfl | (simp; done) | split | intro _)

@[simp] theorem State.applyCore_slots (τ : State) (l : Fin 64) (frame : Nat) (ch : Change) : (τ.applyCore l frame ch).1.slots = τ.slots := by
  unfold State.applyCore
  try dsimp only
  repeat' (first | rfl | (simp; done) | split | intro _)

@[simp] theorem State.applyCore_cfg (τ : State) (l : Fin 64) (frame : Nat) (ch : Change) : (τ.applyCore l frame ch).1.cfg = τ.cfg := by
  unfold State.applyCore
  try dsimp only
  repeat' (first | rfl | (simp; done) | split | intro _)

@[simp] theorem State.applyCore_map (τ : State) (l : Fin 64) (frame : Nat) (ch : Change) : (τ.applyCore l frame ch).1.map = τ.map := by
  unfold State.applyCore
  try dsimp only
  repeat' (first | rfl | (simp; done) | split | intro _)

@[simp] theorem State.applyCore_pool (τ : State) (l : Fin 64) (frame : Nat) (ch : Change) : (τ.applyCore l frame ch).1.pool = τ.pool := by
  unfold State.applyCore
  try dsimp only
  repeat' (first | rfl | (simp; done) | split | intro _)

@[simp] theorem State.applyCore_walk (τ : State) (l : Fin 64) (frame : Nat) (ch : Change) : (τ.applyCore l frame ch).1.walk = τ.walk := by
  unfold State.applyCore
  try dsimp only
  repeat' (first | rfl | (simp; done) | split | intro _)

@[simp] theorem State.applyCore_mend (τ : State) (l : Fin 64) (frame : Nat) (ch : Change) : (τ.applyCore l frame ch).1.mend = τ.mend := by
  unfold State.applyCore
  try dsimp only
  repeat' (first | rfl | (simp; done) | split | intro _)

@[simp] theorem State.applyCore_dir (τ : State) (l : Fin 64) (frame : Nat) (ch : Change) : (τ.applyCore l frame ch).1.dir = τ.dir := by
  unfold State.applyCore
  try dsimp only
  repeat' (first | rfl | (simp; done) | split | intro _)

@[simp] theorem State.applyCore_ldr (τ : State) (l : Fin 64) (frame : Nat) (ch : Change) : (τ.applyCore l frame ch).1.ldr = τ.ldr := by
  unfold State.applyCore
  try dsimp only
  repeat' (first | rfl | (simp; done) | split | intro _)

@[simp] theorem State.applyCore_store_queue (τ : State) (l : Fin 64) (frame : Nat) (ch : Change) : (τ.applyCore l frame ch).1.store.queue = τ.store.queue := by
  unfold State.applyCore
  try dsimp only
  repeat' (first | rfl | (simp; done) | split | intro _)

@[simp] theorem State.applyCore_rep_updateCount (τ : State) (l : Fin 64) (frame : Nat) (ch : Change) : (τ.applyCore l frame ch).1.rep.updateCount = τ.rep.updateCount := by
  unfold State.applyCore
  try dsimp only
  repeat' (first | rfl | (simp; done) | split | intro _)

@[simp] theorem State.applyCore_rep_statusTimer (τ : State) (l : Fin 64) (frame : Nat) (ch : Change) : (τ.applyCore l frame ch).1.rep.statusTimer = τ.rep.statusTimer := by
  unfold State.applyCore
  try dsimp only
  repeat' (first | rfl | (simp; done) | split | intro _)

@[simp] theorem State.applyCore_rep_selection (τ : State) (l : Fin 64) (frame : Nat) (ch : Change) : (τ.applyCore l frame ch).1.rep.selection = τ.rep.selection := by
  unfold State.applyCore
  try dsimp only
  repeat' (first | rfl | (simp; done) | split | intro _)

@[simp] theorem State.applyCore_rep_selectedSince (τ : State) (l : Fin 64) (frame : Nat) (ch : Change) : (τ.applyCore l frame ch).1.rep.selectedSince = τ.rep.selectedSince := by
  unfold State.applyCore
  try dsimp only
  repeat' (first | rfl | (simp; done) | split | intro _)

@[simp] theorem State.applyCore_rep_lastBatch (τ : State) (l : Fin 64) (frame : Nat) (ch : Change) : (τ.applyCore l frame ch).1.rep.lastBatch = τ.rep.lastBatch := by
  unfold State.applyCore
  try dsimp only
  repeat' (first | rfl | (simp; done) | split | intro _)

@[simp] theorem State.applyCore_rep_writtenHead (τ : State) (l : Fin 64) (frame : Nat) (ch : Change) : (τ.applyCore l frame ch).1.rep.writtenHead = τ.rep.writtenHead := by
  unfold State.applyCore
  try dsimp only
  repeat' (first | rfl | (simp; done) | split | intro _)

@[simp] theorem State.applyCore_rep_tail (τ : State) (l : Fin 64) (frame : Nat) (ch : Change) : (τ.applyCore l frame ch).1.rep.tail = τ.rep.tail := by
  unfold State.applyCore
  try dsimp only
  repeat' (first | rfl | (simp; done) | split | intro _)

@[simp] theorem State.applyCore_rep_clock (τ : State) (l : Fin 64) (frame : Nat) (ch : Change) : (τ.applyCore l frame ch).1.rep.clock = τ.rep.clock := by
  unfold State.applyCore
  try dsimp only
  repeat' (first | rfl | (simp; done) | split | intro _)

end Sys2Proof.Machine
end

