-- ==== Sys2Proof/Laws/FramePool.lean ====
section
/-!
SUPPORT. What each operation of Machine/Pool.lean leaves as it was, field by field.
-/

namespace Sys2Proof.Machine

@[simp] theorem State.unpinSlot_pending (τ : State) (i : Fin 256) : (τ.unpinSlot i).pending = τ.pending := by
  unfold State.unpinSlot
  repeat' (first | rfl | (simp; done) | (refine forEach_eq (fun t : State => t.pending) (fun _ _ => ?_) _ ?_ <;> try dsimp only) | split | intro _)

@[simp] theorem State.unpinSlot_ports (τ : State) (i : Fin 256) : (τ.unpinSlot i).ports = τ.ports := by
  unfold State.unpinSlot
  repeat' (first | rfl | (simp; done) | (refine forEach_eq (fun t : State => t.ports) (fun _ _ => ?_) _ ?_ <;> try dsimp only) | split | intro _)

@[simp] theorem State.unpinSlot_up (τ : State) (i : Fin 256) : (τ.unpinSlot i).up = τ.up := by
  unfold State.unpinSlot
  repeat' (first | rfl | (simp; done) | (refine forEach_eq (fun t : State => t.up) (fun _ _ => ?_) _ ?_ <;> try dsimp only) | split | intro _)

@[simp] theorem State.unpinSlot_mediaUp (τ : State) (i : Fin 256) : (τ.unpinSlot i).mediaUp = τ.mediaUp := by
  unfold State.unpinSlot
  repeat' (first | rfl | (simp; done) | (refine forEach_eq (fun t : State => t.mediaUp) (fun _ _ => ?_) _ ?_ <;> try dsimp only) | split | intro _)

@[simp] theorem State.unpinSlot_slots (τ : State) (i : Fin 256) : (τ.unpinSlot i).slots = τ.slots := by
  unfold State.unpinSlot
  repeat' (first | rfl | (simp; done) | (refine forEach_eq (fun t : State => t.slots) (fun _ _ => ?_) _ ?_ <;> try dsimp only) | split | intro _)

@[simp] theorem State.unpinSlot_arb (τ : State) (i : Fin 256) : (τ.unpinSlot i).arb = τ.arb := by
  unfold State.unpinSlot
  repeat' (first | rfl | (simp; done) | (refine forEach_eq (fun t : State => t.arb) (fun _ _ => ?_) _ ?_ <;> try dsimp only) | split | intro _)

@[simp] theorem State.unpinSlot_cfg (τ : State) (i : Fin 256) : (τ.unpinSlot i).cfg = τ.cfg := by
  unfold State.unpinSlot
  repeat' (first | rfl | (simp; done) | (refine forEach_eq (fun t : State => t.cfg) (fun _ _ => ?_) _ ?_ <;> try dsimp only) | split | intro _)

@[simp] theorem State.unpinSlot_map (τ : State) (i : Fin 256) : (τ.unpinSlot i).map = τ.map := by
  unfold State.unpinSlot
  repeat' (first | rfl | (simp; done) | (refine forEach_eq (fun t : State => t.map) (fun _ _ => ?_) _ ?_ <;> try dsimp only) | split | intro _)

@[simp] theorem State.unpinSlot_pool (τ : State) (i : Fin 256) : (τ.unpinSlot i).pool = τ.pool := by
  unfold State.unpinSlot
  repeat' (first | rfl | (simp; done) | (refine forEach_eq (fun t : State => t.pool) (fun _ _ => ?_) _ ?_ <;> try dsimp only) | split | intro _)

@[simp] theorem State.unpinSlot_walk (τ : State) (i : Fin 256) : (τ.unpinSlot i).walk = τ.walk := by
  unfold State.unpinSlot
  repeat' (first | rfl | (simp; done) | (refine forEach_eq (fun t : State => t.walk) (fun _ _ => ?_) _ ?_ <;> try dsimp only) | split | intro _)

@[simp] theorem State.unpinSlot_mend (τ : State) (i : Fin 256) : (τ.unpinSlot i).mend = τ.mend := by
  unfold State.unpinSlot
  repeat' (first | rfl | (simp; done) | (refine forEach_eq (fun t : State => t.mend) (fun _ _ => ?_) _ ?_ <;> try dsimp only) | split | intro _)

@[simp] theorem State.unpinSlot_dir (τ : State) (i : Fin 256) : (τ.unpinSlot i).dir = τ.dir := by
  unfold State.unpinSlot
  repeat' (first | rfl | (simp; done) | (refine forEach_eq (fun t : State => t.dir) (fun _ _ => ?_) _ ?_ <;> try dsimp only) | split | intro _)

@[simp] theorem State.unpinSlot_rep (τ : State) (i : Fin 256) : (τ.unpinSlot i).rep = τ.rep := by
  unfold State.unpinSlot
  repeat' (first | rfl | (simp; done) | (refine forEach_eq (fun t : State => t.rep) (fun _ _ => ?_) _ ?_ <;> try dsimp only) | split | intro _)

@[simp] theorem State.unpinSlot_ldr (τ : State) (i : Fin 256) : (τ.unpinSlot i).ldr = τ.ldr := by
  unfold State.unpinSlot
  repeat' (first | rfl | (simp; done) | (refine forEach_eq (fun t : State => t.ldr) (fun _ _ => ?_) _ ?_ <;> try dsimp only) | split | intro _)

@[simp] theorem State.unpinSlot_store_queue (τ : State) (i : Fin 256) : (τ.unpinSlot i).store.queue = τ.store.queue := by
  unfold State.unpinSlot
  repeat' (first | rfl | (simp; done) | (refine forEach_eq (fun t : State => t.store.queue) (fun _ _ => ?_) _ ?_ <;> try dsimp only) | split | intro _)

@[simp] theorem State.unpinSlot_store_recency (τ : State) (i : Fin 256) : (τ.unpinSlot i).store.recency = τ.store.recency := by
  unfold State.unpinSlot
  repeat' (first | rfl | (simp; done) | (refine forEach_eq (fun t : State => t.store.recency) (fun _ _ => ?_) _ ?_ <;> try dsimp only) | split | intro _)

@[simp] theorem State.unpinSlot_store_dirtyOrder (τ : State) (i : Fin 256) : (τ.unpinSlot i).store.dirtyOrder = τ.store.dirtyOrder := by
  unfold State.unpinSlot
  repeat' (first | rfl | (simp; done) | (refine forEach_eq (fun t : State => t.store.dirtyOrder) (fun _ _ => ?_) _ ?_ <;> try dsimp only) | split | intro _)

@[simp] theorem State.endSlot_pending (τ : State) (i : Fin 256) (status : UpStatus) (data : List Byte) : (τ.endSlot i status data).pending = τ.pending := by
  simp [State.endSlot]

@[simp] theorem State.endSlot_up (τ : State) (i : Fin 256) (status : UpStatus) (data : List Byte) : (τ.endSlot i status data).up = τ.up := by
  simp [State.endSlot]

@[simp] theorem State.endSlot_mediaUp (τ : State) (i : Fin 256) (status : UpStatus) (data : List Byte) : (τ.endSlot i status data).mediaUp = τ.mediaUp := by
  simp [State.endSlot]

@[simp] theorem State.endSlot_arb (τ : State) (i : Fin 256) (status : UpStatus) (data : List Byte) : (τ.endSlot i status data).arb = τ.arb := by
  simp [State.endSlot]

@[simp] theorem State.endSlot_cfg (τ : State) (i : Fin 256) (status : UpStatus) (data : List Byte) : (τ.endSlot i status data).cfg = τ.cfg := by
  simp [State.endSlot]

@[simp] theorem State.endSlot_map (τ : State) (i : Fin 256) (status : UpStatus) (data : List Byte) : (τ.endSlot i status data).map = τ.map := by
  simp [State.endSlot]

@[simp] theorem State.endSlot_pool (τ : State) (i : Fin 256) (status : UpStatus) (data : List Byte) : (τ.endSlot i status data).pool = τ.pool := by
  simp [State.endSlot]

@[simp] theorem State.endSlot_walk (τ : State) (i : Fin 256) (status : UpStatus) (data : List Byte) : (τ.endSlot i status data).walk = τ.walk := by
  simp [State.endSlot]

@[simp] theorem State.endSlot_mend (τ : State) (i : Fin 256) (status : UpStatus) (data : List Byte) : (τ.endSlot i status data).mend = τ.mend := by
  simp [State.endSlot]

@[simp] theorem State.endSlot_dir (τ : State) (i : Fin 256) (status : UpStatus) (data : List Byte) : (τ.endSlot i status data).dir = τ.dir := by
  simp [State.endSlot]

@[simp] theorem State.endSlot_rep (τ : State) (i : Fin 256) (status : UpStatus) (data : List Byte) : (τ.endSlot i status data).rep = τ.rep := by
  simp [State.endSlot]

@[simp] theorem State.endSlot_ldr (τ : State) (i : Fin 256) (status : UpStatus) (data : List Byte) : (τ.endSlot i status data).ldr = τ.ldr := by
  simp [State.endSlot]

@[simp] theorem State.endSlot_ports_media (τ : State) (i : Fin 256) (status : UpStatus) (data : List Byte) : (τ.endSlot i status data).ports.media = τ.ports.media := by
  simp [State.endSlot]

@[simp] theorem State.endSlot_store_queue (τ : State) (i : Fin 256) (status : UpStatus) (data : List Byte) : (τ.endSlot i status data).store.queue = τ.store.queue := by
  simp [State.endSlot]

@[simp] theorem State.endSlot_store_recency (τ : State) (i : Fin 256) (status : UpStatus) (data : List Byte) : (τ.endSlot i status data).store.recency = τ.store.recency := by
  simp [State.endSlot]

@[simp] theorem State.endSlot_store_dirtyOrder (τ : State) (i : Fin 256) (status : UpStatus) (data : List Byte) : (τ.endSlot i status data).store.dirtyOrder = τ.store.dirtyOrder := by
  simp [State.endSlot]

@[simp] theorem State.tryRelease_pending (τ : State) (i : Fin 256) : (τ.tryRelease i).pending = τ.pending := by
  unfold State.tryRelease
  try dsimp only
  repeat' (first | rfl | (simp; done) | split | intro _)

@[simp] theorem State.tryRelease_up (τ : State) (i : Fin 256) : (τ.tryRelease i).up = τ.up := by
  unfold State.tryRelease
  try dsimp only
  repeat' (first | rfl | (simp; done) | split | intro _)

@[simp] theorem State.tryRelease_mediaUp (τ : State) (i : Fin 256) : (τ.tryRelease i).mediaUp = τ.mediaUp := by
  unfold State.tryRelease
  try dsimp only
  repeat' (first | rfl | (simp; done) | split | intro _)

@[simp] theorem State.tryRelease_arb (τ : State) (i : Fin 256) : (τ.tryRelease i).arb = τ.arb := by
  unfold State.tryRelease
  try dsimp only
  repeat' (first | rfl | (simp; done) | split | intro _)

@[simp] theorem State.tryRelease_cfg (τ : State) (i : Fin 256) : (τ.tryRelease i).cfg = τ.cfg := by
  unfold State.tryRelease
  try dsimp only
  repeat' (first | rfl | (simp; done) | split | intro _)

@[simp] theorem State.tryRelease_map (τ : State) (i : Fin 256) : (τ.tryRelease i).map = τ.map := by
  unfold State.tryRelease
  try dsimp only
  repeat' (first | rfl | (simp; done) | split | intro _)

@[simp] theorem State.tryRelease_pool (τ : State) (i : Fin 256) : (τ.tryRelease i).pool = τ.pool := by
  unfold State.tryRelease
  try dsimp only
  repeat' (first | rfl | (simp; done) | split | intro _)

@[simp] theorem State.tryRelease_walk (τ : State) (i : Fin 256) : (τ.tryRelease i).walk = τ.walk := by
  unfold State.tryRelease
  try dsimp only
  repeat' (first | rfl | (simp; done) | split | intro _)

@[simp] theorem State.tryRelease_mend (τ : State) (i : Fin 256) : (τ.tryRelease i).mend = τ.mend := by
  unfold State.tryRelease
  try dsimp only
  repeat' (first | rfl | (simp; done) | split | intro _)

@[simp] theorem State.tryRelease_dir (τ : State) (i : Fin 256) : (τ.tryRelease i).dir = τ.dir := by
  unfold State.tryRelease
  try dsimp only
  repeat' (first | rfl | (simp; done) | split | intro _)

@[simp] theorem State.tryRelease_rep (τ : State) (i : Fin 256) : (τ.tryRelease i).rep = τ.rep := by
  unfold State.tryRelease
  try dsimp only
  repeat' (first | rfl | (simp; done) | split | intro _)

@[simp] theorem State.tryRelease_ldr (τ : State) (i : Fin 256) : (τ.tryRelease i).ldr = τ.ldr := by
  unfold State.tryRelease
  try dsimp only
  repeat' (first | rfl | (simp; done) | split | intro _)

@[simp] theorem State.tryRelease_ports_media (τ : State) (i : Fin 256) : (τ.tryRelease i).ports.media = τ.ports.media := by
  unfold State.tryRelease
  try dsimp only
  repeat' (first | rfl | (simp; done) | split | intro _)

@[simp] theorem State.tryRelease_store_queue (τ : State) (i : Fin 256) : (τ.tryRelease i).store.queue = τ.store.queue := by
  unfold State.tryRelease
  try dsimp only
  repeat' (first | rfl | (simp; done) | split | intro _)

@[simp] theorem State.tryRelease_store_recency (τ : State) (i : Fin 256) : (τ.tryRelease i).store.recency = τ.store.recency := by
  unfold State.tryRelease
  try dsimp only
  repeat' (first | rfl | (simp; done) | split | intro _)

@[simp] theorem State.tryRelease_store_dirtyOrder (τ : State) (i : Fin 256) : (τ.tryRelease i).store.dirtyOrder = τ.store.dirtyOrder := by
  unfold State.tryRelease
  try dsimp only
  repeat' (first | rfl | (simp; done) | split | intro _)

@[simp] theorem State.giveOutcome_pending (τ : State) (o : SlotOutcome) (i : Fin 256) : (τ.giveOutcome o i).pending = τ.pending := by
  simp [State.giveOutcome]

@[simp] theorem State.giveOutcome_up (τ : State) (o : SlotOutcome) (i : Fin 256) : (τ.giveOutcome o i).up = τ.up := by
  simp [State.giveOutcome]

@[simp] theorem State.giveOutcome_mediaUp (τ : State) (o : SlotOutcome) (i : Fin 256) : (τ.giveOutcome o i).mediaUp = τ.mediaUp := by
  simp [State.giveOutcome]

@[simp] theorem State.giveOutcome_arb (τ : State) (o : SlotOutcome) (i : Fin 256) : (τ.giveOutcome o i).arb = τ.arb := by
  simp [State.giveOutcome]

@[simp] theorem State.giveOutcome_cfg (τ : State) (o : SlotOutcome) (i : Fin 256) : (τ.giveOutcome o i).cfg = τ.cfg := by
  simp [State.giveOutcome]

@[simp] theorem State.giveOutcome_map (τ : State) (o : SlotOutcome) (i : Fin 256) : (τ.giveOutcome o i).map = τ.map := by
  simp [State.giveOutcome]

@[simp] theorem State.giveOutcome_pool (τ : State) (o : SlotOutcome) (i : Fin 256) : (τ.giveOutcome o i).pool = τ.pool := by
  simp [State.giveOutcome]

@[simp] theorem State.giveOutcome_walk (τ : State) (o : SlotOutcome) (i : Fin 256) : (τ.giveOutcome o i).walk = τ.walk := by
  simp [State.giveOutcome]

@[simp] theorem State.giveOutcome_mend (τ : State) (o : SlotOutcome) (i : Fin 256) : (τ.giveOutcome o i).mend = τ.mend := by
  simp [State.giveOutcome]

@[simp] theorem State.giveOutcome_dir (τ : State) (o : SlotOutcome) (i : Fin 256) : (τ.giveOutcome o i).dir = τ.dir := by
  simp [State.giveOutcome]

@[simp] theorem State.giveOutcome_rep (τ : State) (o : SlotOutcome) (i : Fin 256) : (τ.giveOutcome o i).rep = τ.rep := by
  simp [State.giveOutcome]

@[simp] theorem State.giveOutcome_ldr (τ : State) (o : SlotOutcome) (i : Fin 256) : (τ.giveOutcome o i).ldr = τ.ldr := by
  simp [State.giveOutcome]

@[simp] theorem State.giveOutcome_ports_media (τ : State) (o : SlotOutcome) (i : Fin 256) : (τ.giveOutcome o i).ports.media = τ.ports.media := by
  simp [State.giveOutcome]

@[simp] theorem State.giveOutcome_store_queue (τ : State) (o : SlotOutcome) (i : Fin 256) : (τ.giveOutcome o i).store.queue = τ.store.queue := by
  simp [State.giveOutcome]

@[simp] theorem State.giveOutcome_store_recency (τ : State) (o : SlotOutcome) (i : Fin 256) : (τ.giveOutcome o i).store.recency = τ.store.recency := by
  simp [State.giveOutcome]

@[simp] theorem State.giveOutcome_store_dirtyOrder (τ : State) (o : SlotOutcome) (i : Fin 256) : (τ.giveOutcome o i).store.dirtyOrder = τ.store.dirtyOrder := by
  simp [State.giveOutcome]

@[simp] theorem State.endAccum_pending (τ : State) (p : Fin 32) (o : SlotOutcome) : (τ.endAccum p o).pending = τ.pending := by
  unfold State.endAccum
  repeat' (first | rfl | (simp; done) | (refine forEach_eq (fun t : State => t.pending) (fun _ _ => ?_) _ ?_ <;> try dsimp only) | split | intro _)

@[simp] theorem State.endAccum_up (τ : State) (p : Fin 32) (o : SlotOutcome) : (τ.endAccum p o).up = τ.up := by
  unfold State.endAccum
  repeat' (first | rfl | (simp; done) | (refine forEach_eq (fun t : State => t.up) (fun _ _ => ?_) _ ?_ <;> try dsimp only) | split | intro _)

@[simp] theorem State.endAccum_mediaUp (τ : State) (p : Fin 32) (o : SlotOutcome) : (τ.endAccum p o).mediaUp = τ.mediaUp := by
  unfold State.endAccum
  repeat' (first | rfl | (simp; done) | (refine forEach_eq (fun t : State => t.mediaUp) (fun _ _ => ?_) _ ?_ <;> try dsimp only) | split | intro _)

@[simp] theorem State.endAccum_arb (τ : State) (p : Fin 32) (o : SlotOutcome) : (τ.endAccum p o).arb = τ.arb := by
  unfold State.endAccum
  repeat' (first | rfl | (simp; done) | (refine forEach_eq (fun t : State => t.arb) (fun _ _ => ?_) _ ?_ <;> try dsimp only) | split | intro _)

@[simp] theorem State.endAccum_cfg (τ : State) (p : Fin 32) (o : SlotOutcome) : (τ.endAccum p o).cfg = τ.cfg := by
  unfold State.endAccum
  repeat' (first | rfl | (simp; done) | (refine forEach_eq (fun t : State => t.cfg) (fun _ _ => ?_) _ ?_ <;> try dsimp only) | split | intro _)

@[simp] theorem State.endAccum_map (τ : State) (p : Fin 32) (o : SlotOutcome) : (τ.endAccum p o).map = τ.map := by
  unfold State.endAccum
  repeat' (first | rfl | (simp; done) | (refine forEach_eq (fun t : State => t.map) (fun _ _ => ?_) _ ?_ <;> try dsimp only) | split | intro _)

@[simp] theorem State.endAccum_walk (τ : State) (p : Fin 32) (o : SlotOutcome) : (τ.endAccum p o).walk = τ.walk := by
  unfold State.endAccum
  repeat' (first | rfl | (simp; done) | (refine forEach_eq (fun t : State => t.walk) (fun _ _ => ?_) _ ?_ <;> try dsimp only) | split | intro _)

@[simp] theorem State.endAccum_mend (τ : State) (p : Fin 32) (o : SlotOutcome) : (τ.endAccum p o).mend = τ.mend := by
  unfold State.endAccum
  repeat' (first | rfl | (simp; done) | (refine forEach_eq (fun t : State => t.mend) (fun _ _ => ?_) _ ?_ <;> try dsimp only) | split | intro _)

@[simp] theorem State.endAccum_dir (τ : State) (p : Fin 32) (o : SlotOutcome) : (τ.endAccum p o).dir = τ.dir := by
  unfold State.endAccum
  repeat' (first | rfl | (simp; done) | (refine forEach_eq (fun t : State => t.dir) (fun _ _ => ?_) _ ?_ <;> try dsimp only) | split | intro _)

@[simp] theorem State.endAccum_rep (τ : State) (p : Fin 32) (o : SlotOutcome) : (τ.endAccum p o).rep = τ.rep := by
  unfold State.endAccum
  repeat' (first | rfl | (simp; done) | (refine forEach_eq (fun t : State => t.rep) (fun _ _ => ?_) _ ?_ <;> try dsimp only) | split | intro _)

@[simp] theorem State.endAccum_ldr (τ : State) (p : Fin 32) (o : SlotOutcome) : (τ.endAccum p o).ldr = τ.ldr := by
  unfold State.endAccum
  repeat' (first | rfl | (simp; done) | (refine forEach_eq (fun t : State => t.ldr) (fun _ _ => ?_) _ ?_ <;> try dsimp only) | split | intro _)

@[simp] theorem State.endAccum_ports_media (τ : State) (p : Fin 32) (o : SlotOutcome) : (τ.endAccum p o).ports.media = τ.ports.media := by
  unfold State.endAccum
  repeat' (first | rfl | (simp; done) | (refine forEach_eq (fun t : State => t.ports.media) (fun _ _ => ?_) _ ?_ <;> try dsimp only) | split | intro _)

@[simp] theorem State.endAccum_store_queue (τ : State) (p : Fin 32) (o : SlotOutcome) : (τ.endAccum p o).store.queue = τ.store.queue := by
  unfold State.endAccum
  repeat' (first | rfl | (simp; done) | (refine forEach_eq (fun t : State => t.store.queue) (fun _ _ => ?_) _ ?_ <;> try dsimp only) | split | intro _)

@[simp] theorem State.endAccum_store_recency (τ : State) (p : Fin 32) (o : SlotOutcome) : (τ.endAccum p o).store.recency = τ.store.recency := by
  unfold State.endAccum
  repeat' (first | rfl | (simp; done) | (refine forEach_eq (fun t : State => t.store.recency) (fun _ _ => ?_) _ ?_ <;> try dsimp only) | split | intro _)

@[simp] theorem State.endAccum_store_dirtyOrder (τ : State) (p : Fin 32) (o : SlotOutcome) : (τ.endAccum p o).store.dirtyOrder = τ.store.dirtyOrder := by
  unfold State.endAccum
  repeat' (first | rfl | (simp; done) | (refine forEach_eq (fun t : State => t.store.dirtyOrder) (fun _ _ => ?_) _ ?_ <;> try dsimp only) | split | intro _)

@[simp] theorem State.dropWaiting_pending (τ : State) (who : Submitter) : (τ.dropWaiting who).pending = τ.pending := rfl

@[simp] theorem State.dropWaiting_ports (τ : State) (who : Submitter) : (τ.dropWaiting who).ports = τ.ports := rfl

@[simp] theorem State.dropWaiting_up (τ : State) (who : Submitter) : (τ.dropWaiting who).up = τ.up := rfl

@[simp] theorem State.dropWaiting_mediaUp (τ : State) (who : Submitter) : (τ.dropWaiting who).mediaUp = τ.mediaUp := rfl

@[simp] theorem State.dropWaiting_slots (τ : State) (who : Submitter) : (τ.dropWaiting who).slots = τ.slots := rfl

@[simp] theorem State.dropWaiting_arb (τ : State) (who : Submitter) : (τ.dropWaiting who).arb = τ.arb := rfl

@[simp] theorem State.dropWaiting_cfg (τ : State) (who : Submitter) : (τ.dropWaiting who).cfg = τ.cfg := rfl

@[simp] theorem State.dropWaiting_map (τ : State) (who : Submitter) : (τ.dropWaiting who).map = τ.map := rfl

@[simp] theorem State.dropWaiting_pool (τ : State) (who : Submitter) : (τ.dropWaiting who).pool = τ.pool := rfl

@[simp] theorem State.dropWaiting_walk (τ : State) (who : Submitter) : (τ.dropWaiting who).walk = τ.walk := rfl

@[simp] theorem State.dropWaiting_mend (τ : State) (who : Submitter) : (τ.dropWaiting who).mend = τ.mend := rfl

@[simp] theorem State.dropWaiting_dir (τ : State) (who : Submitter) : (τ.dropWaiting who).dir = τ.dir := rfl

@[simp] theorem State.dropWaiting_rep (τ : State) (who : Submitter) : (τ.dropWaiting who).rep = τ.rep := rfl

@[simp] theorem State.dropWaiting_ldr (τ : State) (who : Submitter) : (τ.dropWaiting who).ldr = τ.ldr := rfl

@[simp] theorem State.dropWaiting_store_queue (τ : State) (who : Submitter) : (τ.dropWaiting who).store.queue = τ.store.queue := rfl

@[simp] theorem State.dropWaiting_store_recency (τ : State) (who : Submitter) : (τ.dropWaiting who).store.recency = τ.store.recency := rfl

@[simp] theorem State.dropWaiting_store_dirtyOrder (τ : State) (who : Submitter) : (τ.dropWaiting who).store.dirtyOrder = τ.store.dirtyOrder := rfl

@[simp] theorem State.abandon_pending (τ : State) (p : Fin 32) : (τ.abandon p).pending = τ.pending := by
  unfold State.abandon
  repeat' (first | rfl | (simp; done) | split | intro _)

@[simp] theorem State.abandon_up (τ : State) (p : Fin 32) : (τ.abandon p).up = τ.up := by
  unfold State.abandon
  repeat' (first | rfl | (simp; done) | split | intro _)

@[simp] theorem State.abandon_mediaUp (τ : State) (p : Fin 32) : (τ.abandon p).mediaUp = τ.mediaUp := by
  unfold State.abandon
  repeat' (first | rfl | (simp; done) | split | intro _)

@[simp] theorem State.abandon_arb (τ : State) (p : Fin 32) : (τ.abandon p).arb = τ.arb := by
  unfold State.abandon
  repeat' (first | rfl | (simp; done) | split | intro _)

@[simp] theorem State.abandon_cfg (τ : State) (p : Fin 32) : (τ.abandon p).cfg = τ.cfg := by
  unfold State.abandon
  repeat' (first | rfl | (simp; done) | split | intro _)

@[simp] theorem State.abandon_map (τ : State) (p : Fin 32) : (τ.abandon p).map = τ.map := by
  unfold State.abandon
  repeat' (first | rfl | (simp; done) | split | intro _)

@[simp] theorem State.abandon_walk (τ : State) (p : Fin 32) : (τ.abandon p).walk = τ.walk := by
  unfold State.abandon
  repeat' (first | rfl | (simp; done) | split | intro _)

@[simp] theorem State.abandon_mend (τ : State) (p : Fin 32) : (τ.abandon p).mend = τ.mend := by
  unfold State.abandon
  repeat' (first | rfl | (simp; done) | split | intro _)

@[simp] theorem State.abandon_dir (τ : State) (p : Fin 32) : (τ.abandon p).dir = τ.dir := by
  unfold State.abandon
  repeat' (first | rfl | (simp; done) | split | intro _)

@[simp] theorem State.abandon_rep (τ : State) (p : Fin 32) : (τ.abandon p).rep = τ.rep := by
  unfold State.abandon
  repeat' (first | rfl | (simp; done) | split | intro _)

@[simp] theorem State.abandon_ldr (τ : State) (p : Fin 32) : (τ.abandon p).ldr = τ.ldr := by
  unfold State.abandon
  repeat' (first | rfl | (simp; done) | split | intro _)

@[simp] theorem State.abandon_ports_media (τ : State) (p : Fin 32) : (τ.abandon p).ports.media = τ.ports.media := by
  unfold State.abandon
  repeat' (first | rfl | (simp; done) | split | intro _)

@[simp] theorem State.abandon_store_queue (τ : State) (p : Fin 32) : (τ.abandon p).store.queue = τ.store.queue := by
  unfold State.abandon
  repeat' (first | rfl | (simp; done) | split | intro _)

@[simp] theorem State.abandon_store_recency (τ : State) (p : Fin 32) : (τ.abandon p).store.recency = τ.store.recency := by
  unfold State.abandon
  repeat' (first | rfl | (simp; done) | split | intro _)

@[simp] theorem State.abandon_store_dirtyOrder (τ : State) (p : Fin 32) : (τ.abandon p).store.dirtyOrder = τ.store.dirtyOrder := by
  unfold State.abandon
  repeat' (first | rfl | (simp; done) | split | intro _)

@[simp] theorem State.openAccum_pending (τ : State) (p : Fin 32) (mode : AccumMode) (k : FrameKey) (line : Option (Fin 64)) : (τ.openAccum p mode k line).pending = τ.pending := by
  simp [State.openAccum]

@[simp] theorem State.openAccum_ports (τ : State) (p : Fin 32) (mode : AccumMode) (k : FrameKey) (line : Option (Fin 64)) : (τ.openAccum p mode k line).ports = τ.ports := by
  simp [State.openAccum]

@[simp] theorem State.openAccum_up (τ : State) (p : Fin 32) (mode : AccumMode) (k : FrameKey) (line : Option (Fin 64)) : (τ.openAccum p mode k line).up = τ.up := by
  simp [State.openAccum]

@[simp] theorem State.openAccum_mediaUp (τ : State) (p : Fin 32) (mode : AccumMode) (k : FrameKey) (line : Option (Fin 64)) : (τ.openAccum p mode k line).mediaUp = τ.mediaUp := by
  simp [State.openAccum]

@[simp] theorem State.openAccum_slots (τ : State) (p : Fin 32) (mode : AccumMode) (k : FrameKey) (line : Option (Fin 64)) : (τ.openAccum p mode k line).slots = τ.slots := by
  simp [State.openAccum]

@[simp] theorem State.openAccum_arb (τ : State) (p : Fin 32) (mode : AccumMode) (k : FrameKey) (line : Option (Fin 64)) : (τ.openAccum p mode k line).arb = τ.arb := by
  simp [State.openAccum]

@[simp] theorem State.openAccum_cfg (τ : State) (p : Fin 32) (mode : AccumMode) (k : FrameKey) (line : Option (Fin 64)) : (τ.openAccum p mode k line).cfg = τ.cfg := by
  simp [State.openAccum]

@[simp] theorem State.openAccum_map (τ : State) (p : Fin 32) (mode : AccumMode) (k : FrameKey) (line : Option (Fin 64)) : (τ.openAccum p mode k line).map = τ.map := by
  simp [State.openAccum]

@[simp] theorem State.openAccum_store (τ : State) (p : Fin 32) (mode : AccumMode) (k : FrameKey) (line : Option (Fin 64)) : (τ.openAccum p mode k line).store = τ.store := by
  simp [State.openAccum]

@[simp] theorem State.openAccum_walk (τ : State) (p : Fin 32) (mode : AccumMode) (k : FrameKey) (line : Option (Fin 64)) : (τ.openAccum p mode k line).walk = τ.walk := by
  simp [State.openAccum]

@[simp] theorem State.openAccum_mend (τ : State) (p : Fin 32) (mode : AccumMode) (k : FrameKey) (line : Option (Fin 64)) : (τ.openAccum p mode k line).mend = τ.mend := by
  simp [State.openAccum]

@[simp] theorem State.openAccum_dir (τ : State) (p : Fin 32) (mode : AccumMode) (k : FrameKey) (line : Option (Fin 64)) : (τ.openAccum p mode k line).dir = τ.dir := by
  simp [State.openAccum]

@[simp] theorem State.openAccum_rep (τ : State) (p : Fin 32) (mode : AccumMode) (k : FrameKey) (line : Option (Fin 64)) : (τ.openAccum p mode k line).rep = τ.rep := by
  simp [State.openAccum]

@[simp] theorem State.openAccum_ldr (τ : State) (p : Fin 32) (mode : AccumMode) (k : FrameKey) (line : Option (Fin 64)) : (τ.openAccum p mode k line).ldr = τ.ldr := by
  simp [State.openAccum]

@[simp] theorem State.addContribution_pending (τ : State) (i : Fin 256) (c : Contribution) : (τ.addContribution i c).pending = τ.pending := by
  simp [State.addContribution]

@[simp] theorem State.addContribution_ports (τ : State) (i : Fin 256) (c : Contribution) : (τ.addContribution i c).ports = τ.ports := by
  simp [State.addContribution]

@[simp] theorem State.addContribution_up (τ : State) (i : Fin 256) (c : Contribution) : (τ.addContribution i c).up = τ.up := by
  simp [State.addContribution]

@[simp] theorem State.addContribution_mediaUp (τ : State) (i : Fin 256) (c : Contribution) : (τ.addContribution i c).mediaUp = τ.mediaUp := by
  simp [State.addContribution]

@[simp] theorem State.addContribution_arb (τ : State) (i : Fin 256) (c : Contribution) : (τ.addContribution i c).arb = τ.arb := by
  simp [State.addContribution]

@[simp] theorem State.addContribution_cfg (τ : State) (i : Fin 256) (c : Contribution) : (τ.addContribution i c).cfg = τ.cfg := by
  simp [State.addContribution]

@[simp] theorem State.addContribution_map (τ : State) (i : Fin 256) (c : Contribution) : (τ.addContribution i c).map = τ.map := by
  simp [State.addContribution]

@[simp] theorem State.addContribution_pool (τ : State) (i : Fin 256) (c : Contribution) : (τ.addContribution i c).pool = τ.pool := by
  simp [State.addContribution]

@[simp] theorem State.addContribution_store (τ : State) (i : Fin 256) (c : Contribution) : (τ.addContribution i c).store = τ.store := by
  simp [State.addContribution]

@[simp] theorem State.addContribution_walk (τ : State) (i : Fin 256) (c : Contribution) : (τ.addContribution i c).walk = τ.walk := by
  simp [State.addContribution]

@[simp] theorem State.addContribution_mend (τ : State) (i : Fin 256) (c : Contribution) : (τ.addContribution i c).mend = τ.mend := by
  simp [State.addContribution]

@[simp] theorem State.addContribution_dir (τ : State) (i : Fin 256) (c : Contribution) : (τ.addContribution i c).dir = τ.dir := by
  simp [State.addContribution]

@[simp] theorem State.addContribution_rep (τ : State) (i : Fin 256) (c : Contribution) : (τ.addContribution i c).rep = τ.rep := by
  simp [State.addContribution]

@[simp] theorem State.addContribution_ldr (τ : State) (i : Fin 256) (c : Contribution) : (τ.addContribution i c).ldr = τ.ldr := by
  simp [State.addContribution]

@[simp] theorem State.joinSeal_pending (τ : State) (p : Fin 32) (i : Fin 256) (t : Touched) (data : List Byte) : (τ.joinSeal p i t data).pending = τ.pending := by
  unfold State.joinSeal
  try dsimp only
  repeat' (first | rfl | (simp; done) | split | intro _)

@[simp] theorem State.joinSeal_up (τ : State) (p : Fin 32) (i : Fin 256) (t : Touched) (data : List Byte) : (τ.joinSeal p i t data).up = τ.up := by
  unfold State.joinSeal
  try dsimp only
  repeat' (first | rfl | (simp; done) | split | intro _)

@[simp] theorem State.joinSeal_mediaUp (τ : State) (p : Fin 32) (i : Fin 256) (t : Touched) (data : List Byte) : (τ.joinSeal p i t data).mediaUp = τ.mediaUp := by
  unfold State.joinSeal
  try dsimp only
  repeat' (first | rfl | (simp; done) | split | intro _)

@[simp] theorem State.joinSeal_arb (τ : State) (p : Fin 32) (i : Fin 256) (t : Touched) (data : List Byte) : (τ.joinSeal p i t data).arb = τ.arb := by
  unfold State.joinSeal
  try dsimp only
  repeat' (first | rfl | (simp; done) | split | intro _)

@[simp] theorem State.joinSeal_cfg (τ : State) (p : Fin 32) (i : Fin 256) (t : Touched) (data : List Byte) : (τ.joinSeal p i t data).cfg = τ.cfg := by
  unfold State.joinSeal
  try dsimp only
  repeat' (first | rfl | (simp; done) | split | intro _)

@[simp] theorem State.joinSeal_map (τ : State) (p : Fin 32) (i : Fin 256) (t : Touched) (data : List Byte) : (τ.joinSeal p i t data).map = τ.map := by
  unfold State.joinSeal
  try dsimp only
  repeat' (first | rfl | (simp; done) | split | intro _)

@[simp] theorem State.joinSeal_walk (τ : State) (p : Fin 32) (i : Fin 256) (t : Touched) (data : List Byte) : (τ.joinSeal p i t data).walk = τ.walk := by
  unfold State.joinSeal
  try dsimp only
  repeat' (first | rfl | (simp; done) | split | intro _)

@[simp] theorem State.joinSeal_mend (τ : State) (p : Fin 32) (i : Fin 256) (t : Touched) (data : List Byte) : (τ.joinSeal p i t data).mend = τ.mend := by
  unfold State.joinSeal
  try dsimp only
  repeat' (first | rfl | (simp; done) | split | intro _)

@[simp] theorem State.joinSeal_dir (τ : State) (p : Fin 32) (i : Fin 256) (t : Touched) (data : List Byte) : (τ.joinSeal p i t data).dir = τ.dir := by
  unfold State.joinSeal
  try dsimp only
  repeat' (first | rfl | (simp; done) | split | intro _)

@[simp] theorem State.joinSeal_rep (τ : State) (p : Fin 32) (i : Fin 256) (t : Touched) (data : List Byte) : (τ.joinSeal p i t data).rep = τ.rep := by
  unfold State.joinSeal
  try dsimp only
  repeat' (first | rfl | (simp; done) | split | intro _)

@[simp] theorem State.joinSeal_ldr (τ : State) (p : Fin 32) (i : Fin 256) (t : Touched) (data : List Byte) : (τ.joinSeal p i t data).ldr = τ.ldr := by
  unfold State.joinSeal
  try dsimp only
  repeat' (first | rfl | (simp; done) | split | intro _)

@[simp] theorem State.joinSeal_ports_media (τ : State) (p : Fin 32) (i : Fin 256) (t : Touched) (data : List Byte) : (τ.joinSeal p i t data).ports.media = τ.ports.media := by
  unfold State.joinSeal
  try dsimp only
  repeat' (first | rfl | (simp; done) | split | intro _)

@[simp] theorem State.joinSeal_store_queue (τ : State) (p : Fin 32) (i : Fin 256) (t : Touched) (data : List Byte) : (τ.joinSeal p i t data).store.queue = τ.store.queue := by
  unfold State.joinSeal
  try dsimp only
  repeat' (first | rfl | (simp; done) | split | intro _)

@[simp] theorem State.joinSeal_store_recency (τ : State) (p : Fin 32) (i : Fin 256) (t : Touched) (data : List Byte) : (τ.joinSeal p i t data).store.recency = τ.store.recency := by
  unfold State.joinSeal
  try dsimp only
  repeat' (first | rfl | (simp; done) | split | intro _)

@[simp] theorem State.joinSeal_store_dirtyOrder (τ : State) (p : Fin 32) (i : Fin 256) (t : Touched) (data : List Byte) : (τ.joinSeal p i t data).store.dirtyOrder = τ.store.dirtyOrder := by
  unfold State.joinSeal
  try dsimp only
  repeat' (first | rfl | (simp; done) | split | intro _)

@[simp] theorem State.joinRead_pending (τ : State) (p : Fin 32) (i : Fin 256) (t : Touched) : (τ.joinRead p i t).pending = τ.pending := by
  unfold State.joinRead
  try dsimp only
  repeat' (first | rfl | (simp; done) | split | intro _)

@[simp] theorem State.joinRead_up (τ : State) (p : Fin 32) (i : Fin 256) (t : Touched) : (τ.joinRead p i t).up = τ.up := by
  unfold State.joinRead
  try dsimp only
  repeat' (first | rfl | (simp; done) | split | intro _)

@[simp] theorem State.joinRead_mediaUp (τ : State) (p : Fin 32) (i : Fin 256) (t : Touched) : (τ.joinRead p i t).mediaUp = τ.mediaUp := by
  unfold State.joinRead
  try dsimp only
  repeat' (first | rfl | (simp; done) | split | intro _)

@[simp] theorem State.joinRead_arb (τ : State) (p : Fin 32) (i : Fin 256) (t : Touched) : (τ.joinRead p i t).arb = τ.arb := by
  unfold State.joinRead
  try dsimp only
  repeat' (first | rfl | (simp; done) | split | intro _)

@[simp] theorem State.joinRead_cfg (τ : State) (p : Fin 32) (i : Fin 256) (t : Touched) : (τ.joinRead p i t).cfg = τ.cfg := by
  unfold State.joinRead
  try dsimp only
  repeat' (first | rfl | (simp; done) | split | intro _)

@[simp] theorem State.joinRead_map (τ : State) (p : Fin 32) (i : Fin 256) (t : Touched) : (τ.joinRead p i t).map = τ.map := by
  unfold State.joinRead
  try dsimp only
  repeat' (first | rfl | (simp; done) | split | intro _)

@[simp] theorem State.joinRead_walk (τ : State) (p : Fin 32) (i : Fin 256) (t : Touched) : (τ.joinRead p i t).walk = τ.walk := by
  unfold State.joinRead
  try dsimp only
  repeat' (first | rfl | (simp; done) | split | intro _)

@[simp] theorem State.joinRead_mend (τ : State) (p : Fin 32) (i : Fin 256) (t : Touched) : (τ.joinRead p i t).mend = τ.mend := by
  unfold State.joinRead
  try dsimp only
  repeat' (first | rfl | (simp; done) | split | intro _)

@[simp] theorem State.joinRead_dir (τ : State) (p : Fin 32) (i : Fin 256) (t : Touched) : (τ.joinRead p i t).dir = τ.dir := by
  unfold State.joinRead
  try dsimp only
  repeat' (first | rfl | (simp; done) | split | intro _)

@[simp] theorem State.joinRead_rep (τ : State) (p : Fin 32) (i : Fin 256) (t : Touched) : (τ.joinRead p i t).rep = τ.rep := by
  unfold State.joinRead
  try dsimp only
  repeat' (first | rfl | (simp; done) | split | intro _)

@[simp] theorem State.joinRead_ldr (τ : State) (p : Fin 32) (i : Fin 256) (t : Touched) : (τ.joinRead p i t).ldr = τ.ldr := by
  unfold State.joinRead
  try dsimp only
  repeat' (first | rfl | (simp; done) | split | intro _)

@[simp] theorem State.joinRead_ports_media (τ : State) (p : Fin 32) (i : Fin 256) (t : Touched) : (τ.joinRead p i t).ports.media = τ.ports.media := by
  unfold State.joinRead
  try dsimp only
  repeat' (first | rfl | (simp; done) | split | intro _)

@[simp] theorem State.joinRead_store_queue (τ : State) (p : Fin 32) (i : Fin 256) (t : Touched) : (τ.joinRead p i t).store.queue = τ.store.queue := by
  unfold State.joinRead
  try dsimp only
  repeat' (first | rfl | (simp; done) | split | intro _)

@[simp] theorem State.joinRead_store_recency (τ : State) (p : Fin 32) (i : Fin 256) (t : Touched) : (τ.joinRead p i t).store.recency = τ.store.recency := by
  unfold State.joinRead
  try dsimp only
  repeat' (first | rfl | (simp; done) | split | intro _)

@[simp] theorem State.joinRead_store_dirtyOrder (τ : State) (p : Fin 32) (i : Fin 256) (t : Touched) : (τ.joinRead p i t).store.dirtyOrder = τ.store.dirtyOrder := by
  unfold State.joinRead
  try dsimp only
  repeat' (first | rfl | (simp; done) | split | intro _)

@[simp] theorem State.commit_pending (τ : State) (p : Fin 32) (a b : Nat) : (τ.commit p a b).pending = τ.pending := by
  unfold State.commit
  repeat' (first | rfl | (simp; done) | split | intro _)

@[simp] theorem State.commit_ports (τ : State) (p : Fin 32) (a b : Nat) : (τ.commit p a b).ports = τ.ports := by
  unfold State.commit
  repeat' (first | rfl | (simp; done) | split | intro _)

@[simp] theorem State.commit_up (τ : State) (p : Fin 32) (a b : Nat) : (τ.commit p a b).up = τ.up := by
  unfold State.commit
  repeat' (first | rfl | (simp; done) | split | intro _)

@[simp] theorem State.commit_mediaUp (τ : State) (p : Fin 32) (a b : Nat) : (τ.commit p a b).mediaUp = τ.mediaUp := by
  unfold State.commit
  repeat' (first | rfl | (simp; done) | split | intro _)

@[simp] theorem State.commit_slots (τ : State) (p : Fin 32) (a b : Nat) : (τ.commit p a b).slots = τ.slots := by
  unfold State.commit
  repeat' (first | rfl | (simp; done) | split | intro _)

@[simp] theorem State.commit_arb (τ : State) (p : Fin 32) (a b : Nat) : (τ.commit p a b).arb = τ.arb := by
  unfold State.commit
  repeat' (first | rfl | (simp; done) | split | intro _)

@[simp] theorem State.commit_cfg (τ : State) (p : Fin 32) (a b : Nat) : (τ.commit p a b).cfg = τ.cfg := by
  unfold State.commit
  repeat' (first | rfl | (simp; done) | split | intro _)

@[simp] theorem State.commit_map (τ : State) (p : Fin 32) (a b : Nat) : (τ.commit p a b).map = τ.map := by
  unfold State.commit
  repeat' (first | rfl | (simp; done) | split | intro _)

@[simp] theorem State.commit_store (τ : State) (p : Fin 32) (a b : Nat) : (τ.commit p a b).store = τ.store := by
  unfold State.commit
  repeat' (first | rfl | (simp; done) | split | intro _)

@[simp] theorem State.commit_walk (τ : State) (p : Fin 32) (a b : Nat) : (τ.commit p a b).walk = τ.walk := by
  unfold State.commit
  repeat' (first | rfl | (simp; done) | split | intro _)

@[simp] theorem State.commit_mend (τ : State) (p : Fin 32) (a b : Nat) : (τ.commit p a b).mend = τ.mend := by
  unfold State.commit
  repeat' (first | rfl | (simp; done) | split | intro _)

@[simp] theorem State.commit_dir (τ : State) (p : Fin 32) (a b : Nat) : (τ.commit p a b).dir = τ.dir := by
  unfold State.commit
  repeat' (first | rfl | (simp; done) | split | intro _)

@[simp] theorem State.commit_rep (τ : State) (p : Fin 32) (a b : Nat) : (τ.commit p a b).rep = τ.rep := by
  unfold State.commit
  repeat' (first | rfl | (simp; done) | split | intro _)

@[simp] theorem State.commit_ldr (τ : State) (p : Fin 32) (a b : Nat) : (τ.commit p a b).ldr = τ.ldr := by
  unfold State.commit
  repeat' (first | rfl | (simp; done) | split | intro _)

@[simp] theorem State.failContribution_pending (τ : State) (c : Contribution) : (τ.failContribution c).pending = τ.pending := by
  unfold State.failContribution
  repeat' (first | rfl | (simp; done) | split | intro _)

@[simp] theorem State.failContribution_up (τ : State) (c : Contribution) : (τ.failContribution c).up = τ.up := by
  unfold State.failContribution
  repeat' (first | rfl | (simp; done) | split | intro _)

@[simp] theorem State.failContribution_mediaUp (τ : State) (c : Contribution) : (τ.failContribution c).mediaUp = τ.mediaUp := by
  unfold State.failContribution
  repeat' (first | rfl | (simp; done) | split | intro _)

@[simp] theorem State.failContribution_cfg (τ : State) (c : Contribution) : (τ.failContribution c).cfg = τ.cfg := by
  unfold State.failContribution
  repeat' (first | rfl | (simp; done) | split | intro _)

@[simp] theorem State.failContribution_map (τ : State) (c : Contribution) : (τ.failContribution c).map = τ.map := by
  unfold State.failContribution
  repeat' (first | rfl | (simp; done) | split | intro _)

@[simp] theorem State.failContribution_walk (τ : State) (c : Contribution) : (τ.failContribution c).walk = τ.walk := by
  unfold State.failContribution
  repeat' (first | rfl | (simp; done) | split | intro _)

@[simp] theorem State.failContribution_mend (τ : State) (c : Contribution) : (τ.failContribution c).mend = τ.mend := by
  unfold State.failContribution
  repeat' (first | rfl | (simp; done) | split | intro _)

@[simp] theorem State.failContribution_dir (τ : State) (c : Contribution) : (τ.failContribution c).dir = τ.dir := by
  unfold State.failContribution
  repeat' (first | rfl | (simp; done) | split | intro _)

@[simp] theorem State.failContribution_ldr (τ : State) (c : Contribution) : (τ.failContribution c).ldr = τ.ldr := by
  unfold State.failContribution
  repeat' (first | rfl | (simp; done) | split | intro _)

@[simp] theorem State.failContribution_ports_media (τ : State) (c : Contribution) : (τ.failContribution c).ports.media = τ.ports.media := by
  unfold State.failContribution
  repeat' (first | rfl | (simp; done) | split | intro _)

@[simp] theorem State.failContribution_store_queue (τ : State) (c : Contribution) : (τ.failContribution c).store.queue = τ.store.queue := by
  unfold State.failContribution
  repeat' (first | rfl | (simp; done) | split | intro _)

@[simp] theorem State.failContribution_store_recency (τ : State) (c : Contribution) : (τ.failContribution c).store.recency = τ.store.recency := by
  unfold State.failContribution
  repeat' (first | rfl | (simp; done) | split | intro _)

@[simp] theorem State.failContribution_store_dirtyOrder (τ : State) (c : Contribution) : (τ.failContribution c).store.dirtyOrder = τ.store.dirtyOrder := by
  unfold State.failContribution
  repeat' (first | rfl | (simp; done) | split | intro _)

@[simp] theorem State.failContribution_rep_updateCount (τ : State) (c : Contribution) : (τ.failContribution c).rep.updateCount = τ.rep.updateCount := by
  unfold State.failContribution
  repeat' (first | rfl | (simp; done) | split | intro _)

@[simp] theorem State.failContribution_rep_statusTimer (τ : State) (c : Contribution) : (τ.failContribution c).rep.statusTimer = τ.rep.statusTimer := by
  unfold State.failContribution
  repeat' (first | rfl | (simp; done) | split | intro _)

@[simp] theorem State.failContribution_rep_selection (τ : State) (c : Contribution) : (τ.failContribution c).rep.selection = τ.rep.selection := by
  unfold State.failContribution
  repeat' (first | rfl | (simp; done) | split | intro _)

@[simp] theorem State.failContribution_rep_selectedSince (τ : State) (c : Contribution) : (τ.failContribution c).rep.selectedSince = τ.rep.selectedSince := by
  unfold State.failContribution
  repeat' (first | rfl | (simp; done) | split | intro _)

@[simp] theorem State.failContribution_rep_lastBatch (τ : State) (c : Contribution) : (τ.failContribution c).rep.lastBatch = τ.rep.lastBatch := by
  unfold State.failContribution
  repeat' (first | rfl | (simp; done) | split | intro _)

@[simp] theorem State.failContribution_rep_writtenHead (τ : State) (c : Contribution) : (τ.failContribution c).rep.writtenHead = τ.rep.writtenHead := by
  unfold State.failContribution
  repeat' (first | rfl | (simp; done) | split | intro _)

@[simp] theorem State.failContribution_rep_tail (τ : State) (c : Contribution) : (τ.failContribution c).rep.tail = τ.rep.tail := by
  unfold State.failContribution
  repeat' (first | rfl | (simp; done) | split | intro _)

@[simp] theorem State.failContribution_rep_clock (τ : State) (c : Contribution) : (τ.failContribution c).rep.clock = τ.rep.clock := by
  unfold State.failContribution
  repeat' (first | rfl | (simp; done) | split | intro _)

end Sys2Proof.Machine
end

