-- ==== Sys2Proof/Laws/FrameBatch.lean ====
section
/-!
SUPPORT. What each operation of Machine/Batch.lean leaves as it was, field by field.
-/

namespace Sys2Proof.Machine

@[simp] theorem State.setBatch_pending (τ : State) (b : Option Batch) : (τ.setBatch b).pending = τ.pending := rfl

@[simp] theorem State.setBatch_ports (τ : State) (b : Option Batch) : (τ.setBatch b).ports = τ.ports := rfl

@[simp] theorem State.setBatch_up (τ : State) (b : Option Batch) : (τ.setBatch b).up = τ.up := rfl

@[simp] theorem State.setBatch_mediaUp (τ : State) (b : Option Batch) : (τ.setBatch b).mediaUp = τ.mediaUp := rfl

@[simp] theorem State.setBatch_slots (τ : State) (b : Option Batch) : (τ.setBatch b).slots = τ.slots := rfl

@[simp] theorem State.setBatch_arb (τ : State) (b : Option Batch) : (τ.setBatch b).arb = τ.arb := rfl

@[simp] theorem State.setBatch_cfg (τ : State) (b : Option Batch) : (τ.setBatch b).cfg = τ.cfg := rfl

@[simp] theorem State.setBatch_map (τ : State) (b : Option Batch) : (τ.setBatch b).map = τ.map := rfl

@[simp] theorem State.setBatch_pool (τ : State) (b : Option Batch) : (τ.setBatch b).pool = τ.pool := rfl

@[simp] theorem State.setBatch_store (τ : State) (b : Option Batch) : (τ.setBatch b).store = τ.store := rfl

@[simp] theorem State.setBatch_walk (τ : State) (b : Option Batch) : (τ.setBatch b).walk = τ.walk := rfl

@[simp] theorem State.setBatch_mend (τ : State) (b : Option Batch) : (τ.setBatch b).mend = τ.mend := rfl

@[simp] theorem State.setBatch_rep (τ : State) (b : Option Batch) : (τ.setBatch b).rep = τ.rep := rfl

@[simp] theorem State.setBatch_ldr (τ : State) (b : Option Batch) : (τ.setBatch b).ldr = τ.ldr := rfl

@[simp] theorem State.setBatch_dir_mendFrame (τ : State) (b : Option Batch) : (τ.setBatch b).dir.mendFrame = τ.dir.mendFrame := rfl

@[simp] theorem State.setBatch_dir_freeze (τ : State) (b : Option Batch) : (τ.setBatch b).dir.freeze = τ.dir.freeze := rfl

@[simp] theorem State.setBatch_dir_flush (τ : State) (b : Option Batch) : (τ.setBatch b).dir.flush = τ.dir.flush := rfl

@[simp] theorem State.handBatch_pending (τ : State) (b : Batch) : (τ.handBatch b).pending = τ.pending := by
  simp [State.handBatch]

@[simp] theorem State.handBatch_ports (τ : State) (b : Batch) : (τ.handBatch b).ports = τ.ports := by
  simp [State.handBatch]

@[simp] theorem State.handBatch_up (τ : State) (b : Batch) : (τ.handBatch b).up = τ.up := by
  simp [State.handBatch]

@[simp] theorem State.handBatch_mediaUp (τ : State) (b : Batch) : (τ.handBatch b).mediaUp = τ.mediaUp := by
  simp [State.handBatch]

@[simp] theorem State.handBatch_slots (τ : State) (b : Batch) : (τ.handBatch b).slots = τ.slots := by
  simp [State.handBatch]

@[simp] theorem State.handBatch_cfg (τ : State) (b : Batch) : (τ.handBatch b).cfg = τ.cfg := by
  simp [State.handBatch]

@[simp] theorem State.handBatch_map (τ : State) (b : Batch) : (τ.handBatch b).map = τ.map := by
  simp [State.handBatch]

@[simp] theorem State.handBatch_pool (τ : State) (b : Batch) : (τ.handBatch b).pool = τ.pool := by
  simp [State.handBatch]

@[simp] theorem State.handBatch_store (τ : State) (b : Batch) : (τ.handBatch b).store = τ.store := by
  simp [State.handBatch]

@[simp] theorem State.handBatch_walk (τ : State) (b : Batch) : (τ.handBatch b).walk = τ.walk := by
  simp [State.handBatch]

@[simp] theorem State.handBatch_mend (τ : State) (b : Batch) : (τ.handBatch b).mend = τ.mend := by
  simp [State.handBatch]

@[simp] theorem State.handBatch_dir (τ : State) (b : Batch) : (τ.handBatch b).dir = τ.dir := by
  simp [State.handBatch]

@[simp] theorem State.handBatch_ldr (τ : State) (b : Batch) : (τ.handBatch b).ldr = τ.ldr := by
  simp [State.handBatch]

@[simp] theorem State.handBatch_rep_updateCount (τ : State) (b : Batch) : (τ.handBatch b).rep.updateCount = τ.rep.updateCount := by
  simp [State.handBatch]

@[simp] theorem State.handBatch_rep_flags (τ : State) (b : Batch) : (τ.handBatch b).rep.flags = τ.rep.flags := by
  simp [State.handBatch]

@[simp] theorem State.handBatch_rep_statusTimer (τ : State) (b : Batch) : (τ.handBatch b).rep.statusTimer = τ.rep.statusTimer := by
  simp [State.handBatch]

@[simp] theorem State.handBatch_rep_statusShot (τ : State) (b : Batch) : (τ.handBatch b).rep.statusShot = τ.rep.statusShot := by
  simp [State.handBatch]

@[simp] theorem State.handBatch_rep_selection (τ : State) (b : Batch) : (τ.handBatch b).rep.selection = τ.rep.selection := by
  simp [State.handBatch]

@[simp] theorem State.handBatch_rep_selectedSince (τ : State) (b : Batch) : (τ.handBatch b).rep.selectedSince = τ.rep.selectedSince := by
  simp [State.handBatch]

@[simp] theorem State.handBatch_rep_head (τ : State) (b : Batch) : (τ.handBatch b).rep.head = τ.rep.head := by
  simp [State.handBatch]

@[simp] theorem State.handBatch_rep_writtenHead (τ : State) (b : Batch) : (τ.handBatch b).rep.writtenHead = τ.rep.writtenHead := by
  simp [State.handBatch]

@[simp] theorem State.handBatch_rep_tail (τ : State) (b : Batch) : (τ.handBatch b).rep.tail = τ.rep.tail := by
  simp [State.handBatch]

@[simp] theorem State.handBatch_rep_withheld (τ : State) (b : Batch) : (τ.handBatch b).rep.withheld = τ.rep.withheld := by
  simp [State.handBatch]

@[simp] theorem State.handBatch_rep_clock (τ : State) (b : Batch) : (τ.handBatch b).rep.clock = τ.rep.clock := by
  simp [State.handBatch]

@[simp] theorem State.handBatch_rep_completed (τ : State) (b : Batch) : (τ.handBatch b).rep.completed = τ.rep.completed := by
  simp [State.handBatch]

@[simp] theorem State.tryEndBatch_pending (τ : State)  : τ.tryEndBatch.pending = τ.pending := by
  unfold State.tryEndBatch
  repeat' (first | rfl | (simp; done) | split | intro _)

@[simp] theorem State.tryEndBatch_ports (τ : State)  : τ.tryEndBatch.ports = τ.ports := by
  unfold State.tryEndBatch
  repeat' (first | rfl | (simp; done) | split | intro _)

@[simp] theorem State.tryEndBatch_up (τ : State)  : τ.tryEndBatch.up = τ.up := by
  unfold State.tryEndBatch
  repeat' (first | rfl | (simp; done) | split | intro _)

@[simp] theorem State.tryEndBatch_mediaUp (τ : State)  : τ.tryEndBatch.mediaUp = τ.mediaUp := by
  unfold State.tryEndBatch
  repeat' (first | rfl | (simp; done) | split | intro _)

@[simp] theorem State.tryEndBatch_slots (τ : State)  : τ.tryEndBatch.slots = τ.slots := by
  unfold State.tryEndBatch
  repeat' (first | rfl | (simp; done) | split | intro _)

@[simp] theorem State.tryEndBatch_cfg (τ : State)  : τ.tryEndBatch.cfg = τ.cfg := by
  unfold State.tryEndBatch
  repeat' (first | rfl | (simp; done) | split | intro _)

@[simp] theorem State.tryEndBatch_map (τ : State)  : τ.tryEndBatch.map = τ.map := by
  unfold State.tryEndBatch
  repeat' (first | rfl | (simp; done) | split | intro _)

@[simp] theorem State.tryEndBatch_pool (τ : State)  : τ.tryEndBatch.pool = τ.pool := by
  unfold State.tryEndBatch
  repeat' (first | rfl | (simp; done) | split | intro _)

@[simp] theorem State.tryEndBatch_store (τ : State)  : τ.tryEndBatch.store = τ.store := by
  unfold State.tryEndBatch
  repeat' (first | rfl | (simp; done) | split | intro _)

@[simp] theorem State.tryEndBatch_walk (τ : State)  : τ.tryEndBatch.walk = τ.walk := by
  unfold State.tryEndBatch
  repeat' (first | rfl | (simp; done) | split | intro _)

@[simp] theorem State.tryEndBatch_mend (τ : State)  : τ.tryEndBatch.mend = τ.mend := by
  unfold State.tryEndBatch
  repeat' (first | rfl | (simp; done) | split | intro _)

@[simp] theorem State.tryEndBatch_ldr (τ : State)  : τ.tryEndBatch.ldr = τ.ldr := by
  unfold State.tryEndBatch
  repeat' (first | rfl | (simp; done) | split | intro _)

@[simp] theorem State.tryEndBatch_dir_mendFrame (τ : State)  : τ.tryEndBatch.dir.mendFrame = τ.dir.mendFrame := by
  unfold State.tryEndBatch
  repeat' (first | rfl | (simp; done) | split | intro _)

@[simp] theorem State.tryEndBatch_dir_freeze (τ : State)  : τ.tryEndBatch.dir.freeze = τ.dir.freeze := by
  unfold State.tryEndBatch
  repeat' (first | rfl | (simp; done) | split | intro _)

@[simp] theorem State.tryEndBatch_dir_flush (τ : State)  : τ.tryEndBatch.dir.flush = τ.dir.flush := by
  unfold State.tryEndBatch
  repeat' (first | rfl | (simp; done) | split | intro _)

@[simp] theorem State.tryEndBatch_rep_updateCount (τ : State)  : τ.tryEndBatch.rep.updateCount = τ.rep.updateCount := by
  unfold State.tryEndBatch
  repeat' (first | rfl | (simp; done) | split | intro _)

@[simp] theorem State.tryEndBatch_rep_flags (τ : State)  : τ.tryEndBatch.rep.flags = τ.rep.flags := by
  unfold State.tryEndBatch
  repeat' (first | rfl | (simp; done) | split | intro _)

@[simp] theorem State.tryEndBatch_rep_statusTimer (τ : State)  : τ.tryEndBatch.rep.statusTimer = τ.rep.statusTimer := by
  unfold State.tryEndBatch
  repeat' (first | rfl | (simp; done) | split | intro _)

@[simp] theorem State.tryEndBatch_rep_statusShot (τ : State)  : τ.tryEndBatch.rep.statusShot = τ.rep.statusShot := by
  unfold State.tryEndBatch
  repeat' (first | rfl | (simp; done) | split | intro _)

@[simp] theorem State.tryEndBatch_rep_selection (τ : State)  : τ.tryEndBatch.rep.selection = τ.rep.selection := by
  unfold State.tryEndBatch
  repeat' (first | rfl | (simp; done) | split | intro _)

@[simp] theorem State.tryEndBatch_rep_selectedSince (τ : State)  : τ.tryEndBatch.rep.selectedSince = τ.rep.selectedSince := by
  unfold State.tryEndBatch
  repeat' (first | rfl | (simp; done) | split | intro _)

@[simp] theorem State.tryEndBatch_rep_head (τ : State)  : τ.tryEndBatch.rep.head = τ.rep.head := by
  unfold State.tryEndBatch
  repeat' (first | rfl | (simp; done) | split | intro _)

@[simp] theorem State.tryEndBatch_rep_writtenHead (τ : State)  : τ.tryEndBatch.rep.writtenHead = τ.rep.writtenHead := by
  unfold State.tryEndBatch
  repeat' (first | rfl | (simp; done) | split | intro _)

@[simp] theorem State.tryEndBatch_rep_tail (τ : State)  : τ.tryEndBatch.rep.tail = τ.rep.tail := by
  unfold State.tryEndBatch
  repeat' (first | rfl | (simp; done) | split | intro _)

@[simp] theorem State.tryEndBatch_rep_withheld (τ : State)  : τ.tryEndBatch.rep.withheld = τ.rep.withheld := by
  unfold State.tryEndBatch
  repeat' (first | rfl | (simp; done) | split | intro _)

@[simp] theorem State.tryEndBatch_rep_clock (τ : State)  : τ.tryEndBatch.rep.clock = τ.rep.clock := by
  unfold State.tryEndBatch
  repeat' (first | rfl | (simp; done) | split | intro _)

@[simp] theorem State.tryEndBatch_rep_completed (τ : State)  : τ.tryEndBatch.rep.completed = τ.rep.completed := by
  unfold State.tryEndBatch
  repeat' (first | rfl | (simp; done) | split | intro _)

@[simp] theorem State.addResult_pending (τ : State) (r : Result) : (τ.addResult r).pending = τ.pending := by
  unfold State.addResult
  repeat' (first | rfl | (simp; done) | split | intro _)

@[simp] theorem State.addResult_ports (τ : State) (r : Result) : (τ.addResult r).ports = τ.ports := by
  unfold State.addResult
  repeat' (first | rfl | (simp; done) | split | intro _)

@[simp] theorem State.addResult_up (τ : State) (r : Result) : (τ.addResult r).up = τ.up := by
  unfold State.addResult
  repeat' (first | rfl | (simp; done) | split | intro _)

@[simp] theorem State.addResult_mediaUp (τ : State) (r : Result) : (τ.addResult r).mediaUp = τ.mediaUp := by
  unfold State.addResult
  repeat' (first | rfl | (simp; done) | split | intro _)

@[simp] theorem State.addResult_slots (τ : State) (r : Result) : (τ.addResult r).slots = τ.slots := by
  unfold State.addResult
  repeat' (first | rfl | (simp; done) | split | intro _)

@[simp] theorem State.addResult_cfg (τ : State) (r : Result) : (τ.addResult r).cfg = τ.cfg := by
  unfold State.addResult
  repeat' (first | rfl | (simp; done) | split | intro _)

@[simp] theorem State.addResult_map (τ : State) (r : Result) : (τ.addResult r).map = τ.map := by
  unfold State.addResult
  repeat' (first | rfl | (simp; done) | split | intro _)

@[simp] theorem State.addResult_pool (τ : State) (r : Result) : (τ.addResult r).pool = τ.pool := by
  unfold State.addResult
  repeat' (first | rfl | (simp; done) | split | intro _)

@[simp] theorem State.addResult_store (τ : State) (r : Result) : (τ.addResult r).store = τ.store := by
  unfold State.addResult
  repeat' (first | rfl | (simp; done) | split | intro _)

@[simp] theorem State.addResult_walk (τ : State) (r : Result) : (τ.addResult r).walk = τ.walk := by
  unfold State.addResult
  repeat' (first | rfl | (simp; done) | split | intro _)

@[simp] theorem State.addResult_mend (τ : State) (r : Result) : (τ.addResult r).mend = τ.mend := by
  unfold State.addResult
  repeat' (first | rfl | (simp; done) | split | intro _)

@[simp] theorem State.addResult_ldr (τ : State) (r : Result) : (τ.addResult r).ldr = τ.ldr := by
  unfold State.addResult
  repeat' (first | rfl | (simp; done) | split | intro _)

@[simp] theorem State.addResult_dir_mendFrame (τ : State) (r : Result) : (τ.addResult r).dir.mendFrame = τ.dir.mendFrame := by
  unfold State.addResult
  repeat' (first | rfl | (simp; done) | split | intro _)

@[simp] theorem State.addResult_dir_freeze (τ : State) (r : Result) : (τ.addResult r).dir.freeze = τ.dir.freeze := by
  unfold State.addResult
  repeat' (first | rfl | (simp; done) | split | intro _)

@[simp] theorem State.addResult_dir_flush (τ : State) (r : Result) : (τ.addResult r).dir.flush = τ.dir.flush := by
  unfold State.addResult
  repeat' (first | rfl | (simp; done) | split | intro _)

@[simp] theorem State.addResult_rep_updateCount (τ : State) (r : Result) : (τ.addResult r).rep.updateCount = τ.rep.updateCount := by
  unfold State.addResult
  repeat' (first | rfl | (simp; done) | split | intro _)

@[simp] theorem State.addResult_rep_flags (τ : State) (r : Result) : (τ.addResult r).rep.flags = τ.rep.flags := by
  unfold State.addResult
  repeat' (first | rfl | (simp; done) | split | intro _)

@[simp] theorem State.addResult_rep_statusTimer (τ : State) (r : Result) : (τ.addResult r).rep.statusTimer = τ.rep.statusTimer := by
  unfold State.addResult
  repeat' (first | rfl | (simp; done) | split | intro _)

@[simp] theorem State.addResult_rep_statusShot (τ : State) (r : Result) : (τ.addResult r).rep.statusShot = τ.rep.statusShot := by
  unfold State.addResult
  repeat' (first | rfl | (simp; done) | split | intro _)

@[simp] theorem State.addResult_rep_selection (τ : State) (r : Result) : (τ.addResult r).rep.selection = τ.rep.selection := by
  unfold State.addResult
  repeat' (first | rfl | (simp; done) | split | intro _)

@[simp] theorem State.addResult_rep_selectedSince (τ : State) (r : Result) : (τ.addResult r).rep.selectedSince = τ.rep.selectedSince := by
  unfold State.addResult
  repeat' (first | rfl | (simp; done) | split | intro _)

@[simp] theorem State.addResult_rep_head (τ : State) (r : Result) : (τ.addResult r).rep.head = τ.rep.head := by
  unfold State.addResult
  repeat' (first | rfl | (simp; done) | split | intro _)

@[simp] theorem State.addResult_rep_writtenHead (τ : State) (r : Result) : (τ.addResult r).rep.writtenHead = τ.rep.writtenHead := by
  unfold State.addResult
  repeat' (first | rfl | (simp; done) | split | intro _)

@[simp] theorem State.addResult_rep_tail (τ : State) (r : Result) : (τ.addResult r).rep.tail = τ.rep.tail := by
  unfold State.addResult
  repeat' (first | rfl | (simp; done) | split | intro _)

@[simp] theorem State.addResult_rep_withheld (τ : State) (r : Result) : (τ.addResult r).rep.withheld = τ.rep.withheld := by
  unfold State.addResult
  repeat' (first | rfl | (simp; done) | split | intro _)

@[simp] theorem State.addResult_rep_clock (τ : State) (r : Result) : (τ.addResult r).rep.clock = τ.rep.clock := by
  unfold State.addResult
  repeat' (first | rfl | (simp; done) | split | intro _)

@[simp] theorem State.addResult_rep_completed (τ : State) (r : Result) : (τ.addResult r).rep.completed = τ.rep.completed := by
  unfold State.addResult
  repeat' (first | rfl | (simp; done) | split | intro _)

@[simp] theorem State.settleBatch_pending (τ : State)  : τ.settleBatch.pending = τ.pending := by
  unfold State.settleBatch
  repeat' (first | rfl | (simp; done) | split | intro _)

@[simp] theorem State.settleBatch_up (τ : State)  : τ.settleBatch.up = τ.up := by
  unfold State.settleBatch
  repeat' (first | rfl | (simp; done) | split | intro _)

@[simp] theorem State.settleBatch_mediaUp (τ : State)  : τ.settleBatch.mediaUp = τ.mediaUp := by
  unfold State.settleBatch
  repeat' (first | rfl | (simp; done) | split | intro _)

@[simp] theorem State.settleBatch_arb (τ : State)  : τ.settleBatch.arb = τ.arb := by
  unfold State.settleBatch
  repeat' (first | rfl | (simp; done) | split | intro _)

@[simp] theorem State.settleBatch_cfg (τ : State)  : τ.settleBatch.cfg = τ.cfg := by
  unfold State.settleBatch
  repeat' (first | rfl | (simp; done) | split | intro _)

@[simp] theorem State.settleBatch_map (τ : State)  : τ.settleBatch.map = τ.map := by
  unfold State.settleBatch
  repeat' (first | rfl | (simp; done) | split | intro _)

@[simp] theorem State.settleBatch_pool (τ : State)  : τ.settleBatch.pool = τ.pool := by
  unfold State.settleBatch
  repeat' (first | rfl | (simp; done) | split | intro _)

@[simp] theorem State.settleBatch_walk (τ : State)  : τ.settleBatch.walk = τ.walk := by
  unfold State.settleBatch
  repeat' (first | rfl | (simp; done) | split | intro _)

@[simp] theorem State.settleBatch_mend (τ : State)  : τ.settleBatch.mend = τ.mend := by
  unfold State.settleBatch
  repeat' (first | rfl | (simp; done) | split | intro _)

@[simp] theorem State.settleBatch_rep (τ : State)  : τ.settleBatch.rep = τ.rep := by
  unfold State.settleBatch
  repeat' (first | rfl | (simp; done) | split | intro _)

@[simp] theorem State.settleBatch_ldr (τ : State)  : τ.settleBatch.ldr = τ.ldr := by
  unfold State.settleBatch
  repeat' (first | rfl | (simp; done) | split | intro _)

@[simp] theorem State.settleBatch_ports_media (τ : State)  : τ.settleBatch.ports.media = τ.ports.media := by
  unfold State.settleBatch
  repeat' (first | rfl | (simp; done) | split | intro _)

@[simp] theorem State.settleBatch_store_queue (τ : State)  : τ.settleBatch.store.queue = τ.store.queue := by
  unfold State.settleBatch
  repeat' (first | rfl | (simp; done) | split | intro _)

@[simp] theorem State.settleBatch_store_recency (τ : State)  : τ.settleBatch.store.recency = τ.store.recency := by
  unfold State.settleBatch
  repeat' (first | rfl | (simp; done) | split | intro _)

@[simp] theorem State.settleBatch_store_dirtyOrder (τ : State)  : τ.settleBatch.store.dirtyOrder = τ.store.dirtyOrder := by
  unfold State.settleBatch
  repeat' (first | rfl | (simp; done) | split | intro _)

@[simp] theorem State.settleBatch_dir_mendFrame (τ : State)  : τ.settleBatch.dir.mendFrame = τ.dir.mendFrame := by
  unfold State.settleBatch
  repeat' (first | rfl | (simp; done) | split | intro _)

@[simp] theorem State.settleBatch_dir_freeze (τ : State)  : τ.settleBatch.dir.freeze = τ.dir.freeze := by
  unfold State.settleBatch
  repeat' (first | rfl | (simp; done) | split | intro _)

@[simp] theorem State.settleBatch_dir_flush (τ : State)  : τ.settleBatch.dir.flush = τ.dir.flush := by
  unfold State.settleBatch
  repeat' (first | rfl | (simp; done) | split | intro _)

@[simp] theorem State.reportBatch_pending (τ : State)  : τ.reportBatch.pending = τ.pending := by
  unfold State.reportBatch
  repeat' (first | rfl | (simp; done) | split | intro _)

@[simp] theorem State.reportBatch_up (τ : State)  : τ.reportBatch.up = τ.up := by
  unfold State.reportBatch
  repeat' (first | rfl | (simp; done) | split | intro _)

@[simp] theorem State.reportBatch_mediaUp (τ : State)  : τ.reportBatch.mediaUp = τ.mediaUp := by
  unfold State.reportBatch
  repeat' (first | rfl | (simp; done) | split | intro _)

@[simp] theorem State.reportBatch_arb (τ : State)  : τ.reportBatch.arb = τ.arb := by
  unfold State.reportBatch
  repeat' (first | rfl | (simp; done) | split | intro _)

@[simp] theorem State.reportBatch_cfg (τ : State)  : τ.reportBatch.cfg = τ.cfg := by
  unfold State.reportBatch
  repeat' (first | rfl | (simp; done) | split | intro _)

@[simp] theorem State.reportBatch_map (τ : State)  : τ.reportBatch.map = τ.map := by
  unfold State.reportBatch
  repeat' (first | rfl | (simp; done) | split | intro _)

@[simp] theorem State.reportBatch_pool (τ : State)  : τ.reportBatch.pool = τ.pool := by
  unfold State.reportBatch
  repeat' (first | rfl | (simp; done) | split | intro _)

@[simp] theorem State.reportBatch_walk (τ : State)  : τ.reportBatch.walk = τ.walk := by
  unfold State.reportBatch
  repeat' (first | rfl | (simp; done) | split | intro _)

@[simp] theorem State.reportBatch_mend (τ : State)  : τ.reportBatch.mend = τ.mend := by
  unfold State.reportBatch
  repeat' (first | rfl | (simp; done) | split | intro _)

@[simp] theorem State.reportBatch_rep (τ : State)  : τ.reportBatch.rep = τ.rep := by
  unfold State.reportBatch
  repeat' (first | rfl | (simp; done) | split | intro _)

@[simp] theorem State.reportBatch_ldr (τ : State)  : τ.reportBatch.ldr = τ.ldr := by
  unfold State.reportBatch
  repeat' (first | rfl | (simp; done) | split | intro _)

@[simp] theorem State.reportBatch_ports_media (τ : State)  : τ.reportBatch.ports.media = τ.ports.media := by
  unfold State.reportBatch
  repeat' (first | rfl | (simp; done) | split | intro _)

@[simp] theorem State.reportBatch_store_queue (τ : State)  : τ.reportBatch.store.queue = τ.store.queue := by
  unfold State.reportBatch
  repeat' (first | rfl | (simp; done) | split | intro _)

@[simp] theorem State.reportBatch_store_recency (τ : State)  : τ.reportBatch.store.recency = τ.store.recency := by
  unfold State.reportBatch
  repeat' (first | rfl | (simp; done) | split | intro _)

@[simp] theorem State.reportBatch_store_dirtyOrder (τ : State)  : τ.reportBatch.store.dirtyOrder = τ.store.dirtyOrder := by
  unfold State.reportBatch
  repeat' (first | rfl | (simp; done) | split | intro _)

@[simp] theorem State.reportBatch_dir_mendFrame (τ : State)  : τ.reportBatch.dir.mendFrame = τ.dir.mendFrame := by
  unfold State.reportBatch
  repeat' (first | rfl | (simp; done) | split | intro _)

@[simp] theorem State.reportBatch_dir_freeze (τ : State)  : τ.reportBatch.dir.freeze = τ.dir.freeze := by
  unfold State.reportBatch
  repeat' (first | rfl | (simp; done) | split | intro _)

@[simp] theorem State.reportBatch_dir_flush (τ : State)  : τ.reportBatch.dir.flush = τ.dir.flush := by
  unfold State.reportBatch
  repeat' (first | rfl | (simp; done) | split | intro _)

@[simp] theorem State.loseBatchSlot_pending (τ : State) (i : Fin 256) : (τ.loseBatchSlot i).pending = τ.pending := by
  unfold State.loseBatchSlot
  repeat' (first | rfl | (simp; done) | split | intro _)

@[simp] theorem State.loseBatchSlot_up (τ : State) (i : Fin 256) : (τ.loseBatchSlot i).up = τ.up := by
  unfold State.loseBatchSlot
  repeat' (first | rfl | (simp; done) | split | intro _)

@[simp] theorem State.loseBatchSlot_mediaUp (τ : State) (i : Fin 256) : (τ.loseBatchSlot i).mediaUp = τ.mediaUp := by
  unfold State.loseBatchSlot
  repeat' (first | rfl | (simp; done) | split | intro _)

@[simp] theorem State.loseBatchSlot_arb (τ : State) (i : Fin 256) : (τ.loseBatchSlot i).arb = τ.arb := by
  unfold State.loseBatchSlot
  repeat' (first | rfl | (simp; done) | split | intro _)

@[simp] theorem State.loseBatchSlot_cfg (τ : State) (i : Fin 256) : (τ.loseBatchSlot i).cfg = τ.cfg := by
  unfold State.loseBatchSlot
  repeat' (first | rfl | (simp; done) | split | intro _)

@[simp] theorem State.loseBatchSlot_map (τ : State) (i : Fin 256) : (τ.loseBatchSlot i).map = τ.map := by
  unfold State.loseBatchSlot
  repeat' (first | rfl | (simp; done) | split | intro _)

@[simp] theorem State.loseBatchSlot_pool (τ : State) (i : Fin 256) : (τ.loseBatchSlot i).pool = τ.pool := by
  unfold State.loseBatchSlot
  repeat' (first | rfl | (simp; done) | split | intro _)

@[simp] theorem State.loseBatchSlot_walk (τ : State) (i : Fin 256) : (τ.loseBatchSlot i).walk = τ.walk := by
  unfold State.loseBatchSlot
  repeat' (first | rfl | (simp; done) | split | intro _)

@[simp] theorem State.loseBatchSlot_mend (τ : State) (i : Fin 256) : (τ.loseBatchSlot i).mend = τ.mend := by
  unfold State.loseBatchSlot
  repeat' (first | rfl | (simp; done) | split | intro _)

@[simp] theorem State.loseBatchSlot_rep (τ : State) (i : Fin 256) : (τ.loseBatchSlot i).rep = τ.rep := by
  unfold State.loseBatchSlot
  repeat' (first | rfl | (simp; done) | split | intro _)

@[simp] theorem State.loseBatchSlot_ldr (τ : State) (i : Fin 256) : (τ.loseBatchSlot i).ldr = τ.ldr := by
  unfold State.loseBatchSlot
  repeat' (first | rfl | (simp; done) | split | intro _)

@[simp] theorem State.loseBatchSlot_ports_media (τ : State) (i : Fin 256) : (τ.loseBatchSlot i).ports.media = τ.ports.media := by
  unfold State.loseBatchSlot
  repeat' (first | rfl | (simp; done) | split | intro _)

@[simp] theorem State.loseBatchSlot_store_queue (τ : State) (i : Fin 256) : (τ.loseBatchSlot i).store.queue = τ.store.queue := by
  unfold State.loseBatchSlot
  repeat' (first | rfl | (simp; done) | split | intro _)

@[simp] theorem State.loseBatchSlot_store_recency (τ : State) (i : Fin 256) : (τ.loseBatchSlot i).store.recency = τ.store.recency := by
  unfold State.loseBatchSlot
  repeat' (first | rfl | (simp; done) | split | intro _)

@[simp] theorem State.loseBatchSlot_store_dirtyOrder (τ : State) (i : Fin 256) : (τ.loseBatchSlot i).store.dirtyOrder = τ.store.dirtyOrder := by
  unfold State.loseBatchSlot
  repeat' (first | rfl | (simp; done) | split | intro _)

@[simp] theorem State.loseBatchSlot_dir_mendFrame (τ : State) (i : Fin 256) : (τ.loseBatchSlot i).dir.mendFrame = τ.dir.mendFrame := by
  unfold State.loseBatchSlot
  repeat' (first | rfl | (simp; done) | split | intro _)

@[simp] theorem State.loseBatchSlot_dir_freeze (τ : State) (i : Fin 256) : (τ.loseBatchSlot i).dir.freeze = τ.dir.freeze := by
  unfold State.loseBatchSlot
  repeat' (first | rfl | (simp; done) | split | intro _)

@[simp] theorem State.loseBatchSlot_dir_flush (τ : State) (i : Fin 256) : (τ.loseBatchSlot i).dir.flush = τ.dir.flush := by
  unfold State.loseBatchSlot
  repeat' (first | rfl | (simp; done) | split | intro _)

@[simp] theorem State.answerFrame_pending (τ : State) (r : Result) : (τ.answerFrame r).pending = τ.pending := by
  unfold State.answerFrame
  repeat' (first | rfl | (simp; done) | split | intro _)

@[simp] theorem State.answerFrame_ports (τ : State) (r : Result) : (τ.answerFrame r).ports = τ.ports := by
  unfold State.answerFrame
  repeat' (first | rfl | (simp; done) | split | intro _)

@[simp] theorem State.answerFrame_up (τ : State) (r : Result) : (τ.answerFrame r).up = τ.up := by
  unfold State.answerFrame
  repeat' (first | rfl | (simp; done) | split | intro _)

@[simp] theorem State.answerFrame_mediaUp (τ : State) (r : Result) : (τ.answerFrame r).mediaUp = τ.mediaUp := by
  unfold State.answerFrame
  repeat' (first | rfl | (simp; done) | split | intro _)

@[simp] theorem State.answerFrame_slots (τ : State) (r : Result) : (τ.answerFrame r).slots = τ.slots := by
  unfold State.answerFrame
  repeat' (first | rfl | (simp; done) | split | intro _)

@[simp] theorem State.answerFrame_cfg (τ : State) (r : Result) : (τ.answerFrame r).cfg = τ.cfg := by
  unfold State.answerFrame
  repeat' (first | rfl | (simp; done) | split | intro _)

@[simp] theorem State.answerFrame_map (τ : State) (r : Result) : (τ.answerFrame r).map = τ.map := by
  unfold State.answerFrame
  repeat' (first | rfl | (simp; done) | split | intro _)

@[simp] theorem State.answerFrame_pool (τ : State) (r : Result) : (τ.answerFrame r).pool = τ.pool := by
  unfold State.answerFrame
  repeat' (first | rfl | (simp; done) | split | intro _)

@[simp] theorem State.answerFrame_walk (τ : State) (r : Result) : (τ.answerFrame r).walk = τ.walk := by
  unfold State.answerFrame
  repeat' (first | rfl | (simp; done) | split | intro _)

@[simp] theorem State.answerFrame_mend (τ : State) (r : Result) : (τ.answerFrame r).mend = τ.mend := by
  unfold State.answerFrame
  repeat' (first | rfl | (simp; done) | split | intro _)

@[simp] theorem State.answerFrame_ldr (τ : State) (r : Result) : (τ.answerFrame r).ldr = τ.ldr := by
  unfold State.answerFrame
  repeat' (first | rfl | (simp; done) | split | intro _)

@[simp] theorem State.answerFrame_store_queue (τ : State) (r : Result) : (τ.answerFrame r).store.queue = τ.store.queue := by
  unfold State.answerFrame
  repeat' (first | rfl | (simp; done) | split | intro _)

@[simp] theorem State.answerFrame_store_recency (τ : State) (r : Result) : (τ.answerFrame r).store.recency = τ.store.recency := by
  unfold State.answerFrame
  repeat' (first | rfl | (simp; done) | split | intro _)

@[simp] theorem State.answerFrame_store_dirtyOrder (τ : State) (r : Result) : (τ.answerFrame r).store.dirtyOrder = τ.store.dirtyOrder := by
  unfold State.answerFrame
  repeat' (first | rfl | (simp; done) | split | intro _)

@[simp] theorem State.answerFrame_dir_freeze (τ : State) (r : Result) : (τ.answerFrame r).dir.freeze = τ.dir.freeze := by
  unfold State.answerFrame
  repeat' (first | rfl | (simp; done) | split | intro _)

@[simp] theorem State.answerFrame_dir_flush (τ : State) (r : Result) : (τ.answerFrame r).dir.flush = τ.dir.flush := by
  unfold State.answerFrame
  repeat' (first | rfl | (simp; done) | split | intro _)

@[simp] theorem State.answerFrame_rep_updateCount (τ : State) (r : Result) : (τ.answerFrame r).rep.updateCount = τ.rep.updateCount := by
  unfold State.answerFrame
  repeat' (first | rfl | (simp; done) | split | intro _)

@[simp] theorem State.answerFrame_rep_flags (τ : State) (r : Result) : (τ.answerFrame r).rep.flags = τ.rep.flags := by
  unfold State.answerFrame
  repeat' (first | rfl | (simp; done) | split | intro _)

@[simp] theorem State.answerFrame_rep_statusTimer (τ : State) (r : Result) : (τ.answerFrame r).rep.statusTimer = τ.rep.statusTimer := by
  unfold State.answerFrame
  repeat' (first | rfl | (simp; done) | split | intro _)

@[simp] theorem State.answerFrame_rep_statusShot (τ : State) (r : Result) : (τ.answerFrame r).rep.statusShot = τ.rep.statusShot := by
  unfold State.answerFrame
  repeat' (first | rfl | (simp; done) | split | intro _)

@[simp] theorem State.answerFrame_rep_selection (τ : State) (r : Result) : (τ.answerFrame r).rep.selection = τ.rep.selection := by
  unfold State.answerFrame
  repeat' (first | rfl | (simp; done) | split | intro _)

@[simp] theorem State.answerFrame_rep_selectedSince (τ : State) (r : Result) : (τ.answerFrame r).rep.selectedSince = τ.rep.selectedSince := by
  unfold State.answerFrame
  repeat' (first | rfl | (simp; done) | split | intro _)

@[simp] theorem State.answerFrame_rep_head (τ : State) (r : Result) : (τ.answerFrame r).rep.head = τ.rep.head := by
  unfold State.answerFrame
  repeat' (first | rfl | (simp; done) | split | intro _)

@[simp] theorem State.answerFrame_rep_writtenHead (τ : State) (r : Result) : (τ.answerFrame r).rep.writtenHead = τ.rep.writtenHead := by
  unfold State.answerFrame
  repeat' (first | rfl | (simp; done) | split | intro _)

@[simp] theorem State.answerFrame_rep_tail (τ : State) (r : Result) : (τ.answerFrame r).rep.tail = τ.rep.tail := by
  unfold State.answerFrame
  repeat' (first | rfl | (simp; done) | split | intro _)

@[simp] theorem State.answerFrame_rep_withheld (τ : State) (r : Result) : (τ.answerFrame r).rep.withheld = τ.rep.withheld := by
  unfold State.answerFrame
  repeat' (first | rfl | (simp; done) | split | intro _)

@[simp] theorem State.answerFrame_rep_clock (τ : State) (r : Result) : (τ.answerFrame r).rep.clock = τ.rep.clock := by
  unfold State.answerFrame
  repeat' (first | rfl | (simp; done) | split | intro _)

@[simp] theorem State.answerFrame_rep_completed (τ : State) (r : Result) : (τ.answerFrame r).rep.completed = τ.rep.completed := by
  unfold State.answerFrame
  repeat' (first | rfl | (simp; done) | split | intro _)

@[simp] theorem State.tryEndFlush_pending (τ : State)  : τ.tryEndFlush.pending = τ.pending := by
  unfold State.tryEndFlush
  repeat' (first | rfl | (simp; done) | split | intro _)

@[simp] theorem State.tryEndFlush_ports (τ : State)  : τ.tryEndFlush.ports = τ.ports := by
  unfold State.tryEndFlush
  repeat' (first | rfl | (simp; done) | split | intro _)

@[simp] theorem State.tryEndFlush_up (τ : State)  : τ.tryEndFlush.up = τ.up := by
  unfold State.tryEndFlush
  repeat' (first | rfl | (simp; done) | split | intro _)

@[simp] theorem State.tryEndFlush_mediaUp (τ : State)  : τ.tryEndFlush.mediaUp = τ.mediaUp := by
  unfold State.tryEndFlush
  repeat' (first | rfl | (simp; done) | split | intro _)

@[simp] theorem State.tryEndFlush_slots (τ : State)  : τ.tryEndFlush.slots = τ.slots := by
  unfold State.tryEndFlush
  repeat' (first | rfl | (simp; done) | split | intro _)

@[simp] theorem State.tryEndFlush_cfg (τ : State)  : τ.tryEndFlush.cfg = τ.cfg := by
  unfold State.tryEndFlush
  repeat' (first | rfl | (simp; done) | split | intro _)

@[simp] theorem State.tryEndFlush_map (τ : State)  : τ.tryEndFlush.map = τ.map := by
  unfold State.tryEndFlush
  repeat' (first | rfl | (simp; done) | split | intro _)

@[simp] theorem State.tryEndFlush_pool (τ : State)  : τ.tryEndFlush.pool = τ.pool := by
  unfold State.tryEndFlush
  repeat' (first | rfl | (simp; done) | split | intro _)

@[simp] theorem State.tryEndFlush_store (τ : State)  : τ.tryEndFlush.store = τ.store := by
  unfold State.tryEndFlush
  repeat' (first | rfl | (simp; done) | split | intro _)

@[simp] theorem State.tryEndFlush_walk (τ : State)  : τ.tryEndFlush.walk = τ.walk := by
  unfold State.tryEndFlush
  repeat' (first | rfl | (simp; done) | split | intro _)

@[simp] theorem State.tryEndFlush_mend (τ : State)  : τ.tryEndFlush.mend = τ.mend := by
  unfold State.tryEndFlush
  repeat' (first | rfl | (simp; done) | split | intro _)

@[simp] theorem State.tryEndFlush_ldr (τ : State)  : τ.tryEndFlush.ldr = τ.ldr := by
  unfold State.tryEndFlush
  repeat' (first | rfl | (simp; done) | split | intro _)

@[simp] theorem State.tryEndFlush_dir_batch (τ : State)  : τ.tryEndFlush.dir.batch = τ.dir.batch := by
  unfold State.tryEndFlush
  repeat' (first | rfl | (simp; done) | split | intro _)

@[simp] theorem State.tryEndFlush_dir_mendFrame (τ : State)  : τ.tryEndFlush.dir.mendFrame = τ.dir.mendFrame := by
  unfold State.tryEndFlush
  repeat' (first | rfl | (simp; done) | split | intro _)

@[simp] theorem State.tryEndFlush_dir_freeze (τ : State)  : τ.tryEndFlush.dir.freeze = τ.dir.freeze := by
  unfold State.tryEndFlush
  repeat' (first | rfl | (simp; done) | split | intro _)

@[simp] theorem State.tryEndFlush_rep_updateCount (τ : State)  : τ.tryEndFlush.rep.updateCount = τ.rep.updateCount := by
  unfold State.tryEndFlush
  repeat' (first | rfl | (simp; done) | split | intro _)

@[simp] theorem State.tryEndFlush_rep_statusTimer (τ : State)  : τ.tryEndFlush.rep.statusTimer = τ.rep.statusTimer := by
  unfold State.tryEndFlush
  repeat' (first | rfl | (simp; done) | split | intro _)

@[simp] theorem State.tryEndFlush_rep_selection (τ : State)  : τ.tryEndFlush.rep.selection = τ.rep.selection := by
  unfold State.tryEndFlush
  repeat' (first | rfl | (simp; done) | split | intro _)

@[simp] theorem State.tryEndFlush_rep_selectedSince (τ : State)  : τ.tryEndFlush.rep.selectedSince = τ.rep.selectedSince := by
  unfold State.tryEndFlush
  repeat' (first | rfl | (simp; done) | split | intro _)

@[simp] theorem State.tryEndFlush_rep_lastBatch (τ : State)  : τ.tryEndFlush.rep.lastBatch = τ.rep.lastBatch := by
  unfold State.tryEndFlush
  repeat' (first | rfl | (simp; done) | split | intro _)

@[simp] theorem State.tryEndFlush_rep_writtenHead (τ : State)  : τ.tryEndFlush.rep.writtenHead = τ.rep.writtenHead := by
  unfold State.tryEndFlush
  repeat' (first | rfl | (simp; done) | split | intro _)

@[simp] theorem State.tryEndFlush_rep_tail (τ : State)  : τ.tryEndFlush.rep.tail = τ.rep.tail := by
  unfold State.tryEndFlush
  repeat' (first | rfl | (simp; done) | split | intro _)

@[simp] theorem State.tryEndFlush_rep_clock (τ : State)  : τ.tryEndFlush.rep.clock = τ.rep.clock := by
  unfold State.tryEndFlush
  repeat' (first | rfl | (simp; done) | split | intro _)

@[simp] theorem State.flushLine_pending (τ : State) (l : Fin 64) (good : Bool) : (τ.flushLine l good).pending = τ.pending := by
  unfold State.flushLine
  try dsimp only
  repeat' (first | rfl | (simp; done) | split | intro _)

@[simp] theorem State.flushLine_ports (τ : State) (l : Fin 64) (good : Bool) : (τ.flushLine l good).ports = τ.ports := by
  unfold State.flushLine
  try dsimp only
  repeat' (first | rfl | (simp; done) | split | intro _)

@[simp] theorem State.flushLine_up (τ : State) (l : Fin 64) (good : Bool) : (τ.flushLine l good).up = τ.up := by
  unfold State.flushLine
  try dsimp only
  repeat' (first | rfl | (simp; done) | split | intro _)

@[simp] theorem State.flushLine_mediaUp (τ : State) (l : Fin 64) (good : Bool) : (τ.flushLine l good).mediaUp = τ.mediaUp := by
  unfold State.flushLine
  try dsimp only
  repeat' (first | rfl | (simp; done) | split | intro _)

@[simp] theorem State.flushLine_slots (τ : State) (l : Fin 64) (good : Bool) : (τ.flushLine l good).slots = τ.slots := by
  unfold State.flushLine
  try dsimp only
  repeat' (first | rfl | (simp; done) | split | intro _)

@[simp] theorem State.flushLine_cfg (τ : State) (l : Fin 64) (good : Bool) : (τ.flushLine l good).cfg = τ.cfg := by
  unfold State.flushLine
  try dsimp only
  repeat' (first | rfl | (simp; done) | split | intro _)

@[simp] theorem State.flushLine_map (τ : State) (l : Fin 64) (good : Bool) : (τ.flushLine l good).map = τ.map := by
  unfold State.flushLine
  try dsimp only
  repeat' (first | rfl | (simp; done) | split | intro _)

@[simp] theorem State.flushLine_pool (τ : State) (l : Fin 64) (good : Bool) : (τ.flushLine l good).pool = τ.pool := by
  unfold State.flushLine
  try dsimp only
  repeat' (first | rfl | (simp; done) | split | intro _)

@[simp] theorem State.flushLine_store (τ : State) (l : Fin 64) (good : Bool) : (τ.flushLine l good).store = τ.store := by
  unfold State.flushLine
  try dsimp only
  repeat' (first | rfl | (simp; done) | split | intro _)

@[simp] theorem State.flushLine_walk (τ : State) (l : Fin 64) (good : Bool) : (τ.flushLine l good).walk = τ.walk := by
  unfold State.flushLine
  try dsimp only
  repeat' (first | rfl | (simp; done) | split | intro _)

@[simp] theorem State.flushLine_mend (τ : State) (l : Fin 64) (good : Bool) : (τ.flushLine l good).mend = τ.mend := by
  unfold State.flushLine
  try dsimp only
  repeat' (first | rfl | (simp; done) | split | intro _)

@[simp] theorem State.flushLine_ldr (τ : State) (l : Fin 64) (good : Bool) : (τ.flushLine l good).ldr = τ.ldr := by
  unfold State.flushLine
  try dsimp only
  repeat' (first | rfl | (simp; done) | split | intro _)

@[simp] theorem State.flushLine_dir_batch (τ : State) (l : Fin 64) (good : Bool) : (τ.flushLine l good).dir.batch = τ.dir.batch := by
  unfold State.flushLine
  try dsimp only
  repeat' (first | rfl | (simp; done) | split | intro _)

@[simp] theorem State.flushLine_dir_mendFrame (τ : State) (l : Fin 64) (good : Bool) : (τ.flushLine l good).dir.mendFrame = τ.dir.mendFrame := by
  unfold State.flushLine
  try dsimp only
  repeat' (first | rfl | (simp; done) | split | intro _)

@[simp] theorem State.flushLine_dir_freeze (τ : State) (l : Fin 64) (good : Bool) : (τ.flushLine l good).dir.freeze = τ.dir.freeze := by
  unfold State.flushLine
  try dsimp only
  repeat' (first | rfl | (simp; done) | split | intro _)

@[simp] theorem State.flushLine_rep_updateCount (τ : State) (l : Fin 64) (good : Bool) : (τ.flushLine l good).rep.updateCount = τ.rep.updateCount := by
  unfold State.flushLine
  try dsimp only
  repeat' (first | rfl | (simp; done) | split | intro _)

@[simp] theorem State.flushLine_rep_statusTimer (τ : State) (l : Fin 64) (good : Bool) : (τ.flushLine l good).rep.statusTimer = τ.rep.statusTimer := by
  unfold State.flushLine
  try dsimp only
  repeat' (first | rfl | (simp; done) | split | intro _)

@[simp] theorem State.flushLine_rep_selection (τ : State) (l : Fin 64) (good : Bool) : (τ.flushLine l good).rep.selection = τ.rep.selection := by
  unfold State.flushLine
  try dsimp only
  repeat' (first | rfl | (simp; done) | split | intro _)

@[simp] theorem State.flushLine_rep_selectedSince (τ : State) (l : Fin 64) (good : Bool) : (τ.flushLine l good).rep.selectedSince = τ.rep.selectedSince := by
  unfold State.flushLine
  try dsimp only
  repeat' (first | rfl | (simp; done) | split | intro _)

@[simp] theorem State.flushLine_rep_lastBatch (τ : State) (l : Fin 64) (good : Bool) : (τ.flushLine l good).rep.lastBatch = τ.rep.lastBatch := by
  unfold State.flushLine
  try dsimp only
  repeat' (first | rfl | (simp; done) | split | intro _)

@[simp] theorem State.flushLine_rep_writtenHead (τ : State) (l : Fin 64) (good : Bool) : (τ.flushLine l good).rep.writtenHead = τ.rep.writtenHead := by
  unfold State.flushLine
  try dsimp only
  repeat' (first | rfl | (simp; done) | split | intro _)

@[simp] theorem State.flushLine_rep_tail (τ : State) (l : Fin 64) (good : Bool) : (τ.flushLine l good).rep.tail = τ.rep.tail := by
  unfold State.flushLine
  try dsimp only
  repeat' (first | rfl | (simp; done) | split | intro _)

@[simp] theorem State.flushLine_rep_clock (τ : State) (l : Fin 64) (good : Bool) : (τ.flushLine l good).rep.clock = τ.rep.clock := by
  unfold State.flushLine
  try dsimp only
  repeat' (first | rfl | (simp; done) | split | intro _)

@[simp] theorem State.flushBlock_pending (τ : State) (b : Fin 17) (good : Bool) : (τ.flushBlock b good).pending = τ.pending := by
  unfold State.flushBlock
  try dsimp only
  repeat' (first | rfl | (simp; done) | split | intro _)

@[simp] theorem State.flushBlock_ports (τ : State) (b : Fin 17) (good : Bool) : (τ.flushBlock b good).ports = τ.ports := by
  unfold State.flushBlock
  try dsimp only
  repeat' (first | rfl | (simp; done) | split | intro _)

@[simp] theorem State.flushBlock_up (τ : State) (b : Fin 17) (good : Bool) : (τ.flushBlock b good).up = τ.up := by
  unfold State.flushBlock
  try dsimp only
  repeat' (first | rfl | (simp; done) | split | intro _)

@[simp] theorem State.flushBlock_mediaUp (τ : State) (b : Fin 17) (good : Bool) : (τ.flushBlock b good).mediaUp = τ.mediaUp := by
  unfold State.flushBlock
  try dsimp only
  repeat' (first | rfl | (simp; done) | split | intro _)

@[simp] theorem State.flushBlock_slots (τ : State) (b : Fin 17) (good : Bool) : (τ.flushBlock b good).slots = τ.slots := by
  unfold State.flushBlock
  try dsimp only
  repeat' (first | rfl | (simp; done) | split | intro _)

@[simp] theorem State.flushBlock_cfg (τ : State) (b : Fin 17) (good : Bool) : (τ.flushBlock b good).cfg = τ.cfg := by
  unfold State.flushBlock
  try dsimp only
  repeat' (first | rfl | (simp; done) | split | intro _)

@[simp] theorem State.flushBlock_map (τ : State) (b : Fin 17) (good : Bool) : (τ.flushBlock b good).map = τ.map := by
  unfold State.flushBlock
  try dsimp only
  repeat' (first | rfl | (simp; done) | split | intro _)

@[simp] theorem State.flushBlock_pool (τ : State) (b : Fin 17) (good : Bool) : (τ.flushBlock b good).pool = τ.pool := by
  unfold State.flushBlock
  try dsimp only
  repeat' (first | rfl | (simp; done) | split | intro _)

@[simp] theorem State.flushBlock_store (τ : State) (b : Fin 17) (good : Bool) : (τ.flushBlock b good).store = τ.store := by
  unfold State.flushBlock
  try dsimp only
  repeat' (first | rfl | (simp; done) | split | intro _)

@[simp] theorem State.flushBlock_walk (τ : State) (b : Fin 17) (good : Bool) : (τ.flushBlock b good).walk = τ.walk := by
  unfold State.flushBlock
  try dsimp only
  repeat' (first | rfl | (simp; done) | split | intro _)

@[simp] theorem State.flushBlock_mend (τ : State) (b : Fin 17) (good : Bool) : (τ.flushBlock b good).mend = τ.mend := by
  unfold State.flushBlock
  try dsimp only
  repeat' (first | rfl | (simp; done) | split | intro _)

@[simp] theorem State.flushBlock_ldr (τ : State) (b : Fin 17) (good : Bool) : (τ.flushBlock b good).ldr = τ.ldr := by
  unfold State.flushBlock
  try dsimp only
  repeat' (first | rfl | (simp; done) | split | intro _)

@[simp] theorem State.flushBlock_dir_batch (τ : State) (b : Fin 17) (good : Bool) : (τ.flushBlock b good).dir.batch = τ.dir.batch := by
  unfold State.flushBlock
  try dsimp only
  repeat' (first | rfl | (simp; done) | split | intro _)

@[simp] theorem State.flushBlock_dir_mendFrame (τ : State) (b : Fin 17) (good : Bool) : (τ.flushBlock b good).dir.mendFrame = τ.dir.mendFrame := by
  unfold State.flushBlock
  try dsimp only
  repeat' (first | rfl | (simp; done) | split | intro _)

@[simp] theorem State.flushBlock_dir_freeze (τ : State) (b : Fin 17) (good : Bool) : (τ.flushBlock b good).dir.freeze = τ.dir.freeze := by
  unfold State.flushBlock
  try dsimp only
  repeat' (first | rfl | (simp; done) | split | intro _)

@[simp] theorem State.flushBlock_rep_updateCount (τ : State) (b : Fin 17) (good : Bool) : (τ.flushBlock b good).rep.updateCount = τ.rep.updateCount := by
  unfold State.flushBlock
  try dsimp only
  repeat' (first | rfl | (simp; done) | split | intro _)

@[simp] theorem State.flushBlock_rep_statusTimer (τ : State) (b : Fin 17) (good : Bool) : (τ.flushBlock b good).rep.statusTimer = τ.rep.statusTimer := by
  unfold State.flushBlock
  try dsimp only
  repeat' (first | rfl | (simp; done) | split | intro _)

@[simp] theorem State.flushBlock_rep_selection (τ : State) (b : Fin 17) (good : Bool) : (τ.flushBlock b good).rep.selection = τ.rep.selection := by
  unfold State.flushBlock
  try dsimp only
  repeat' (first | rfl | (simp; done) | split | intro _)

@[simp] theorem State.flushBlock_rep_selectedSince (τ : State) (b : Fin 17) (good : Bool) : (τ.flushBlock b good).rep.selectedSince = τ.rep.selectedSince := by
  unfold State.flushBlock
  try dsimp only
  repeat' (first | rfl | (simp; done) | split | intro _)

@[simp] theorem State.flushBlock_rep_lastBatch (τ : State) (b : Fin 17) (good : Bool) : (τ.flushBlock b good).rep.lastBatch = τ.rep.lastBatch := by
  unfold State.flushBlock
  try dsimp only
  repeat' (first | rfl | (simp; done) | split | intro _)

@[simp] theorem State.flushBlock_rep_writtenHead (τ : State) (b : Fin 17) (good : Bool) : (τ.flushBlock b good).rep.writtenHead = τ.rep.writtenHead := by
  unfold State.flushBlock
  try dsimp only
  repeat' (first | rfl | (simp; done) | split | intro _)

@[simp] theorem State.flushBlock_rep_tail (τ : State) (b : Fin 17) (good : Bool) : (τ.flushBlock b good).rep.tail = τ.rep.tail := by
  unfold State.flushBlock
  try dsimp only
  repeat' (first | rfl | (simp; done) | split | intro _)

@[simp] theorem State.flushBlock_rep_clock (τ : State) (b : Fin 17) (good : Bool) : (τ.flushBlock b good).rep.clock = τ.rep.clock := by
  unfold State.flushBlock
  try dsimp only
  repeat' (first | rfl | (simp; done) | split | intro _)

@[simp] theorem State.flushCutLine_pending (τ : State) (l : Fin 64) : (τ.flushCutLine l).pending = τ.pending := rfl

@[simp] theorem State.flushCutLine_ports (τ : State) (l : Fin 64) : (τ.flushCutLine l).ports = τ.ports := rfl

@[simp] theorem State.flushCutLine_up (τ : State) (l : Fin 64) : (τ.flushCutLine l).up = τ.up := rfl

@[simp] theorem State.flushCutLine_mediaUp (τ : State) (l : Fin 64) : (τ.flushCutLine l).mediaUp = τ.mediaUp := rfl

@[simp] theorem State.flushCutLine_slots (τ : State) (l : Fin 64) : (τ.flushCutLine l).slots = τ.slots := rfl

@[simp] theorem State.flushCutLine_arb (τ : State) (l : Fin 64) : (τ.flushCutLine l).arb = τ.arb := rfl

@[simp] theorem State.flushCutLine_cfg (τ : State) (l : Fin 64) : (τ.flushCutLine l).cfg = τ.cfg := rfl

@[simp] theorem State.flushCutLine_map (τ : State) (l : Fin 64) : (τ.flushCutLine l).map = τ.map := rfl

@[simp] theorem State.flushCutLine_pool (τ : State) (l : Fin 64) : (τ.flushCutLine l).pool = τ.pool := rfl

@[simp] theorem State.flushCutLine_store (τ : State) (l : Fin 64) : (τ.flushCutLine l).store = τ.store := rfl

@[simp] theorem State.flushCutLine_walk (τ : State) (l : Fin 64) : (τ.flushCutLine l).walk = τ.walk := rfl

@[simp] theorem State.flushCutLine_mend (τ : State) (l : Fin 64) : (τ.flushCutLine l).mend = τ.mend := rfl

@[simp] theorem State.flushCutLine_rep (τ : State) (l : Fin 64) : (τ.flushCutLine l).rep = τ.rep := rfl

@[simp] theorem State.flushCutLine_ldr (τ : State) (l : Fin 64) : (τ.flushCutLine l).ldr = τ.ldr := rfl

@[simp] theorem State.flushCutLine_dir_batch (τ : State) (l : Fin 64) : (τ.flushCutLine l).dir.batch = τ.dir.batch := rfl

@[simp] theorem State.flushCutLine_dir_mendFrame (τ : State) (l : Fin 64) : (τ.flushCutLine l).dir.mendFrame = τ.dir.mendFrame := rfl

@[simp] theorem State.flushCutLine_dir_freeze (τ : State) (l : Fin 64) : (τ.flushCutLine l).dir.freeze = τ.dir.freeze := rfl

@[simp] theorem State.flushCutBlock_pending (τ : State) (b : Fin 17) : (τ.flushCutBlock b).pending = τ.pending := rfl

@[simp] theorem State.flushCutBlock_ports (τ : State) (b : Fin 17) : (τ.flushCutBlock b).ports = τ.ports := rfl

@[simp] theorem State.flushCutBlock_up (τ : State) (b : Fin 17) : (τ.flushCutBlock b).up = τ.up := rfl

@[simp] theorem State.flushCutBlock_mediaUp (τ : State) (b : Fin 17) : (τ.flushCutBlock b).mediaUp = τ.mediaUp := rfl

@[simp] theorem State.flushCutBlock_slots (τ : State) (b : Fin 17) : (τ.flushCutBlock b).slots = τ.slots := rfl

@[simp] theorem State.flushCutBlock_arb (τ : State) (b : Fin 17) : (τ.flushCutBlock b).arb = τ.arb := rfl

@[simp] theorem State.flushCutBlock_cfg (τ : State) (b : Fin 17) : (τ.flushCutBlock b).cfg = τ.cfg := rfl

@[simp] theorem State.flushCutBlock_map (τ : State) (b : Fin 17) : (τ.flushCutBlock b).map = τ.map := rfl

@[simp] theorem State.flushCutBlock_pool (τ : State) (b : Fin 17) : (τ.flushCutBlock b).pool = τ.pool := rfl

@[simp] theorem State.flushCutBlock_store (τ : State) (b : Fin 17) : (τ.flushCutBlock b).store = τ.store := rfl

@[simp] theorem State.flushCutBlock_walk (τ : State) (b : Fin 17) : (τ.flushCutBlock b).walk = τ.walk := rfl

@[simp] theorem State.flushCutBlock_mend (τ : State) (b : Fin 17) : (τ.flushCutBlock b).mend = τ.mend := rfl

@[simp] theorem State.flushCutBlock_rep (τ : State) (b : Fin 17) : (τ.flushCutBlock b).rep = τ.rep := rfl

@[simp] theorem State.flushCutBlock_ldr (τ : State) (b : Fin 17) : (τ.flushCutBlock b).ldr = τ.ldr := rfl

@[simp] theorem State.flushCutBlock_dir_batch (τ : State) (b : Fin 17) : (τ.flushCutBlock b).dir.batch = τ.dir.batch := rfl

@[simp] theorem State.flushCutBlock_dir_mendFrame (τ : State) (b : Fin 17) : (τ.flushCutBlock b).dir.mendFrame = τ.dir.mendFrame := rfl

@[simp] theorem State.flushCutBlock_dir_freeze (τ : State) (b : Fin 17) : (τ.flushCutBlock b).dir.freeze = τ.dir.freeze := rfl

@[simp] theorem State.flushDrop_pending (τ : State) (l : Fin 64) : (τ.flushDrop l).pending = τ.pending := by
  unfold State.flushDrop
  repeat' (first | rfl | (simp; done) | split | intro _)

@[simp] theorem State.flushDrop_ports (τ : State) (l : Fin 64) : (τ.flushDrop l).ports = τ.ports := by
  unfold State.flushDrop
  repeat' (first | rfl | (simp; done) | split | intro _)

@[simp] theorem State.flushDrop_up (τ : State) (l : Fin 64) : (τ.flushDrop l).up = τ.up := by
  unfold State.flushDrop
  repeat' (first | rfl | (simp; done) | split | intro _)

@[simp] theorem State.flushDrop_mediaUp (τ : State) (l : Fin 64) : (τ.flushDrop l).mediaUp = τ.mediaUp := by
  unfold State.flushDrop
  repeat' (first | rfl | (simp; done) | split | intro _)

@[simp] theorem State.flushDrop_slots (τ : State) (l : Fin 64) : (τ.flushDrop l).slots = τ.slots := by
  unfold State.flushDrop
  repeat' (first | rfl | (simp; done) | split | intro _)

@[simp] theorem State.flushDrop_cfg (τ : State) (l : Fin 64) : (τ.flushDrop l).cfg = τ.cfg := by
  unfold State.flushDrop
  repeat' (first | rfl | (simp; done) | split | intro _)

@[simp] theorem State.flushDrop_map (τ : State) (l : Fin 64) : (τ.flushDrop l).map = τ.map := by
  unfold State.flushDrop
  repeat' (first | rfl | (simp; done) | split | intro _)

@[simp] theorem State.flushDrop_pool (τ : State) (l : Fin 64) : (τ.flushDrop l).pool = τ.pool := by
  unfold State.flushDrop
  repeat' (first | rfl | (simp; done) | split | intro _)

@[simp] theorem State.flushDrop_store (τ : State) (l : Fin 64) : (τ.flushDrop l).store = τ.store := by
  unfold State.flushDrop
  repeat' (first | rfl | (simp; done) | split | intro _)

@[simp] theorem State.flushDrop_walk (τ : State) (l : Fin 64) : (τ.flushDrop l).walk = τ.walk := by
  unfold State.flushDrop
  repeat' (first | rfl | (simp; done) | split | intro _)

@[simp] theorem State.flushDrop_mend (τ : State) (l : Fin 64) : (τ.flushDrop l).mend = τ.mend := by
  unfold State.flushDrop
  repeat' (first | rfl | (simp; done) | split | intro _)

@[simp] theorem State.flushDrop_ldr (τ : State) (l : Fin 64) : (τ.flushDrop l).ldr = τ.ldr := by
  unfold State.flushDrop
  repeat' (first | rfl | (simp; done) | split | intro _)

@[simp] theorem State.flushDrop_dir_batch (τ : State) (l : Fin 64) : (τ.flushDrop l).dir.batch = τ.dir.batch := by
  unfold State.flushDrop
  repeat' (first | rfl | (simp; done) | split | intro _)

@[simp] theorem State.flushDrop_dir_mendFrame (τ : State) (l : Fin 64) : (τ.flushDrop l).dir.mendFrame = τ.dir.mendFrame := by
  unfold State.flushDrop
  repeat' (first | rfl | (simp; done) | split | intro _)

@[simp] theorem State.flushDrop_dir_freeze (τ : State) (l : Fin 64) : (τ.flushDrop l).dir.freeze = τ.dir.freeze := by
  unfold State.flushDrop
  repeat' (first | rfl | (simp; done) | split | intro _)

@[simp] theorem State.flushDrop_rep_updateCount (τ : State) (l : Fin 64) : (τ.flushDrop l).rep.updateCount = τ.rep.updateCount := by
  unfold State.flushDrop
  repeat' (first | rfl | (simp; done) | split | intro _)

@[simp] theorem State.flushDrop_rep_statusTimer (τ : State) (l : Fin 64) : (τ.flushDrop l).rep.statusTimer = τ.rep.statusTimer := by
  unfold State.flushDrop
  repeat' (first | rfl | (simp; done) | split | intro _)

@[simp] theorem State.flushDrop_rep_selection (τ : State) (l : Fin 64) : (τ.flushDrop l).rep.selection = τ.rep.selection := by
  unfold State.flushDrop
  repeat' (first | rfl | (simp; done) | split | intro _)

@[simp] theorem State.flushDrop_rep_selectedSince (τ : State) (l : Fin 64) : (τ.flushDrop l).rep.selectedSince = τ.rep.selectedSince := by
  unfold State.flushDrop
  repeat' (first | rfl | (simp; done) | split | intro _)

@[simp] theorem State.flushDrop_rep_lastBatch (τ : State) (l : Fin 64) : (τ.flushDrop l).rep.lastBatch = τ.rep.lastBatch := by
  unfold State.flushDrop
  repeat' (first | rfl | (simp; done) | split | intro _)

@[simp] theorem State.flushDrop_rep_writtenHead (τ : State) (l : Fin 64) : (τ.flushDrop l).rep.writtenHead = τ.rep.writtenHead := by
  unfold State.flushDrop
  repeat' (first | rfl | (simp; done) | split | intro _)

@[simp] theorem State.flushDrop_rep_tail (τ : State) (l : Fin 64) : (τ.flushDrop l).rep.tail = τ.rep.tail := by
  unfold State.flushDrop
  repeat' (first | rfl | (simp; done) | split | intro _)

@[simp] theorem State.flushDrop_rep_clock (τ : State) (l : Fin 64) : (τ.flushDrop l).rep.clock = τ.rep.clock := by
  unfold State.flushDrop
  repeat' (first | rfl | (simp; done) | split | intro _)

end Sys2Proof.Machine
end

