-- ==== Sys2Proof/Laws/Keep.lean ====
section
/-!
SUPPORT. What the part's own work keeps, whatever it does: the relation `Keeps s t` between a state and a later one, and
how it is carried along. The lemmas `Keeps.<operation>` of the other Keep files carry it through each operation.
-/

namespace Sys2Proof.Machine

/-- The settings that only their directives, the setup image and the catalogue give. -/
structure Chosen where
  policy : Policy
  depth : Depth
  paceThreshold : Nat
  paceDepth : Nat
  repeatOn : Bool
  restInterval : Nat
  returnTimeout : Nat
  idleTime : Nat
  admission : Vector Rights 16
  deriving DecidableEq, Repr

/-- The chosen settings in force. -/
abbrev Settings.chosen (c : Settings) : Chosen where
  policy := c.policy
  depth := c.depth
  paceThreshold := c.paceThreshold
  paceDepth := c.paceDepth
  repeatOn := c.repeatOn
  restInterval := c.restInterval
  returnTimeout := c.returnTimeout
  idleTime := c.idleTime
  admission := c.admission

/-- The mend queue within its limits (R140): at most 16 entries, none twice. -/
def MendEngine.fits (m : MendEngine) : Prop := m.queue.length ≤ 16 ∧ m.queue.Nodup

/-- The finding log's images within their limit (R178): at most three completed ones. -/
def Report.fits (r : Report) : Prop := r.completed.length ≤ 3

/-- RUNNING or FAULT. -/
def PartState.started : PartState → Bool
  | .running => true
  | .fault => true
  | _ => false

/-- What carries over from `s` to `t` in every command but HARDWARE_RESET, FREEZE and ACK_EVENTS. -/
structure Holds (s t : State) : Prop where
  pending : t.pending = s.pending
  freeze : t.dir.freeze = s.dir.freeze
  maint : t.ldr.maint = s.ldr.maint
  flags : ∀ i : Fin 6, (s.rep.flags[i]).isSet = true → (t.rep.flags[i]).isSet = true
  queue : s.mend.fits → t.mend.fits
  images : s.rep.fits → t.rep.fits

/-- With it, what carries over where the part does not leave RUNNING and FAULT. -/
structure Lives (s t : State) : Prop extends Holds s t where
  started : s.ldr.part.started = true → t.ldr.part.started = true

/-- With it, what carries over in most commands. -/
structure Keeps (s t : State) : Prop extends Lives s t where
  clock : t.rep.clock = s.rep.clock
  count : t.rep.updateCount = s.rep.updateCount
  chosen : t.cfg.chosen = s.cfg.chosen

theorem Holds.refl (s : State) : Holds s s where
  pending := rfl
  freeze := rfl
  maint := rfl
  flags := fun _ h => h
  queue := fun h => h
  images := fun h => h

theorem Holds.trans {s t u : State} (h : Holds s t) (k : Holds t u) : Holds s u where
  pending := k.pending.trans h.pending
  freeze := k.freeze.trans h.freeze
  maint := k.maint.trans h.maint
  flags := fun i x => k.flags i (h.flags i x)
  queue := fun x => k.queue (h.queue x)
  images := fun x => k.images (h.images x)

theorem Lives.refl (s : State) : Lives s s where
  toHolds := Holds.refl s
  started := fun h => h

theorem Lives.trans {s t u : State} (h : Lives s t) (k : Lives t u) : Lives s u where
  toHolds := h.toHolds.trans k.toHolds
  started := fun x => k.started (h.started x)

theorem Keeps.refl (s : State) : Keeps s s where
  toLives := Lives.refl s
  clock := rfl
  count := rfl
  chosen := rfl

theorem Keeps.trans {s t u : State} (h : Keeps s t) (k : Keeps t u) : Keeps s u where
  toLives := h.toLives.trans k.toLives
  clock := k.clock.trans h.clock
  count := k.count.trans h.count
  chosen := k.chosen.trans h.chosen

/-- What only `Keeps` keeps goes on after what the weaker relations keep. -/
theorem Holds.after {s t u : State} (h : Holds s t) (k : Keeps t u) : Holds s u := h.trans k.toHolds

theorem Lives.after {s t u : State} (h : Lives s t) (k : Keeps t u) : Lives s u := h.trans k.toLives

/-- A record update of `t` that touches none of the fields `Holds` speaks of. -/
theorem Holds.lit {s t : State} {ports up mediaUp slots arb cfg map pool store walk mend dir rep ldr} (h : Holds s t)
    (hf : dir.freeze = t.dir.freeze) (hm : ldr.maint = t.ldr.maint) (hg : rep.flags = t.rep.flags)
    (hq : mend.queue = t.mend.queue) (hi : rep.completed = t.rep.completed) :
    Holds s ⟨t.pending, ports, up, mediaUp, slots, arb, cfg, map, pool, store, walk, mend, dir, rep, ldr⟩ where
  pending := h.pending
  freeze := hf.trans h.freeze
  maint := hm.trans h.maint
  flags := fun i x => by
    have := h.flags i x
    rw [← hg] at this
    exact this
  queue := fun x => by
    have := h.queue x
    unfold MendEngine.fits at *
    rw [← hq] at this
    exact this
  images := fun x => by
    have := h.images x
    unfold Report.fits at *
    rw [← hi] at this
    exact this

/-- A record update of `t` that touches none of the fields `Lives` speaks of. -/
theorem Lives.lit {s t : State} {ports up mediaUp slots arb cfg map pool store walk mend dir rep ldr} (h : Lives s t)
    (hf : dir.freeze = t.dir.freeze) (hm : ldr.maint = t.ldr.maint) (hg : rep.flags = t.rep.flags)
    (hq : mend.queue = t.mend.queue) (hi : rep.completed = t.rep.completed) (hs : ldr.part = t.ldr.part) :
    Lives s ⟨t.pending, ports, up, mediaUp, slots, arb, cfg, map, pool, store, walk, mend, dir, rep, ldr⟩ where
  toHolds := h.toHolds.lit hf hm hg hq hi
  started := fun x => by
    have := h.started x
    rw [← hs] at this
    exact this

/-- A record update of `t` that touches none of the fields `Keeps` speaks of. -/
theorem Keeps.lit {s t : State} {ports up mediaUp slots arb cfg map pool store walk mend dir rep ldr} (h : Keeps s t)
    (hf : dir.freeze = t.dir.freeze) (hm : ldr.maint = t.ldr.maint) (hg : rep.flags = t.rep.flags)
    (hq : mend.queue = t.mend.queue) (hi : rep.completed = t.rep.completed) (hs : ldr.part = t.ldr.part)
    (hk : rep.clock = t.rep.clock) (hn : rep.updateCount = t.rep.updateCount) (hc : cfg.chosen = t.cfg.chosen) :
    Keeps s ⟨t.pending, ports, up, mediaUp, slots, arb, cfg, map, pool, store, walk, mend, dir, rep, ldr⟩ where
  toLives := h.toLives.lit hf hm hg hq hi hs
  clock := hk.trans h.clock
  count := hn.trans h.count
  chosen := hc.trans h.chosen

/-- Another report writer, whose flags stay set and whose images stay within their limit. -/
theorem Keeps.withRep {s t : State} (h : Keeps s t) (r : Report)
    (hg : ∀ i : Fin 6, (t.rep.flags[i]).isSet = true → (r.flags[i]).isSet = true) (hi : t.rep.fits → r.fits)
    (hk : r.clock = t.rep.clock) (hn : r.updateCount = t.rep.updateCount) : Keeps s { t with rep := r } :=
  { h with
    toLives := { h.toLives with
      toHolds := { h.toHolds with flags := fun i x => hg i (h.flags i x), images := fun x => hi (h.images x) } }
    clock := hk.trans h.clock
    count := hn.trans h.count }

/-- `Keeps` goes through a loop that each turn keeps. -/
theorem Keeps.forEach {α : Type} {s : State} (f : α → State → State) (hf : ∀ x u, Keeps s u → Keeps s (f x u)) :
    ∀ (xs : List α) {t : State}, Keeps s t → Keeps s (forEach xs f t)
  | [], _, h => h
  | x :: xs, _, h => Keeps.forEach f hf xs (hf x _ h)

/-- `Holds` goes through a loop that each turn keeps. -/
theorem Holds.forEach {α : Type} {s : State} (f : α → State → State) (hf : ∀ x u, Holds s u → Holds s (f x u)) :
    ∀ (xs : List α) {t : State}, Holds s t → Holds s (forEach xs f t)
  | [], _, h => h
  | x :: xs, _, h => Holds.forEach f hf xs (hf x _ h)

end Sys2Proof.Machine
end

