-- ==== Sys2Proof/Laws/KeepOps.lean ====
section
/-!
SUPPORT. `Keeps` through the operations of Machine/Ops.lean.
-/

namespace Sys2Proof.Machine

theorem Keeps.setExtent {s τ : State} (hk : Keeps s τ) (e : Fin 1024) (x : Extent) : Keeps s (τ.setExtent e x) := by
  unfold State.setExtent
  repeat' first | with_reducible assumption | (intro _ _ _; try dsimp only) | fail_if_no_progress with_reducible refine Keeps.lit ?_ rfl rfl rfl rfl rfl rfl rfl rfl rfl | split

theorem Keeps.setSlot {s τ : State} (hk : Keeps s τ) (i : Fin 256) (x : Slot) : Keeps s (τ.setSlot i x) := by
  unfold State.setSlot
  repeat' first | with_reducible assumption | (intro _ _ _; try dsimp only) | fail_if_no_progress with_reducible refine Keeps.lit ?_ rfl rfl rfl rfl rfl rfl rfl rfl rfl | split

theorem Keeps.mapSlots {s τ : State} (hk : Keeps s τ) (f : Slot → Slot) : Keeps s (τ.mapSlots f) := by
  unfold State.mapSlots
  repeat' first | with_reducible assumption | (intro _ _ _; try dsimp only) | fail_if_no_progress with_reducible refine Keeps.lit ?_ rfl rfl rfl rfl rfl rfl rfl rfl rfl | split

theorem Keeps.setAccum {s τ : State} (hk : Keeps s τ) (p : Fin 32) (x : Option Accum) : Keeps s (τ.setAccum p x) := by
  unfold State.setAccum
  repeat' first | with_reducible assumption | (intro _ _ _; try dsimp only) | fail_if_no_progress with_reducible refine Keeps.lit ?_ rfl rfl rfl rfl rfl rfl rfl rfl rfl | split

theorem Keeps.setLine {s τ : State} (hk : Keeps s τ) (l : Fin 64) (x : Line) : Keeps s (τ.setLine l x) := by
  unfold State.setLine
  repeat' first | with_reducible assumption | (intro _ _ _; try dsimp only) | fail_if_no_progress with_reducible refine Keeps.lit ?_ rfl rfl rfl rfl rfl rfl rfl rfl rfl | split

theorem Keeps.setCat {s τ : State} (hk : Keeps s τ) (b : Fin 17) (x : CatBlock) : Keeps s (τ.setCat b x) := by
  unfold State.setCat
  repeat' first | with_reducible assumption | (intro _ _ _; try dsimp only) | fail_if_no_progress with_reducible refine Keeps.lit ?_ rfl rfl rfl rfl rfl rfl rfl rfl rfl | split

theorem Keeps.sendUp {s τ : State} (hk : Keeps s τ) (r : UpReturn) : Keeps s (τ.sendUp r) := by
  unfold State.sendUp
  repeat' first | with_reducible assumption | (intro _ _ _; try dsimp only) | fail_if_no_progress with_reducible refine Keeps.lit ?_ rfl rfl rfl rfl rfl rfl rfl rfl rfl | split

theorem Keeps.sendMedia {s τ : State} (hk : Keeps s τ) (m : MediaSend) : Keeps s (τ.sendMedia m) := by
  unfold State.sendMedia
  repeat' first | with_reducible assumption | (intro _ _ _; try dsimp only) | fail_if_no_progress with_reducible refine Keeps.lit ?_ rfl rfl rfl rfl rfl rfl rfl rfl rfl | split

theorem Keeps.enqueue {s τ : State} (hk : Keeps s τ) (r : InjRequest) : Keeps s (τ.enqueue r) := by
  unfold State.enqueue
  repeat' first | with_reducible assumption | (intro _ _ _; try dsimp only) | fail_if_no_progress with_reducible refine Keeps.lit ?_ rfl rfl rfl rfl rfl rfl rfl rfl rfl | split

theorem Keeps.withdraw {s τ : State} (hk : Keeps s τ) (p : Owner → Bool) : Keeps s (τ.withdraw p) := by
  unfold State.withdraw
  try dsimp only
  repeat' first | with_reducible assumption | (intro _ _ _; try dsimp only) | fail_if_no_progress with_reducible refine Keeps.lit ?_ rfl rfl rfl rfl rfl rfl rfl rfl rfl | split

theorem Keeps.killOutstanding {s τ : State} (hk : Keeps s τ) (p : Owner → Bool) : Keeps s (τ.killOutstanding p) := by
  unfold State.killOutstanding
  try dsimp only
  repeat' first | with_reducible assumption | (intro _ _ _; try dsimp only) | with_reducible apply Keeps.mapSlots | fail_if_no_progress with_reducible refine Keeps.lit ?_ rfl rfl rfl rfl rfl rfl rfl rfl rfl | split

theorem Keeps.pin {s τ : State} (hk : Keeps s τ) (l : Fin 64) : Keeps s (τ.pin l) := by
  unfold State.pin
  try dsimp only
  repeat' first | with_reducible assumption | (intro _ _ _; try dsimp only) | with_reducible apply Keeps.setLine | fail_if_no_progress with_reducible refine Keeps.lit ?_ rfl rfl rfl rfl rfl rfl rfl rfl rfl | split

theorem Keeps.unpin {s τ : State} (hk : Keeps s τ) (l : Fin 64) : Keeps s (τ.unpin l) := by
  unfold State.unpin
  repeat' first | with_reducible assumption | (intro _ _ _; try dsimp only) | with_reducible apply Keeps.setLine | fail_if_no_progress with_reducible refine Keeps.lit ?_ rfl rfl rfl rfl rfl rfl rfl rfl rfl | split

theorem Keeps.unpin? {s τ : State} (hk : Keeps s τ)  (o : Option (Fin 64)) : Keeps s (τ.unpin?  o) := by
  unfold State.unpin?
  try dsimp only
  repeat' first | with_reducible assumption | (intro _ _ _; try dsimp only) | with_reducible apply Keeps.unpin | fail_if_no_progress with_reducible refine Keeps.lit ?_ rfl rfl rfl rfl rfl rfl rfl rfl rfl | split

theorem Keeps.queueCat {s τ : State} (hk : Keeps s τ) (b : Fin 17) : Keeps s (τ.queueCat b) := by
  unfold State.queueCat
  repeat' first | with_reducible assumption | (intro _ _ _; try dsimp only) | with_reducible apply Keeps.enqueue | fail_if_no_progress with_reducible refine Keeps.lit ?_ rfl rfl rfl rfl rfl rfl rfl rfl rfl | split

theorem Keeps.markCat {s τ : State} (hk : Keeps s τ) (b : Fin 17) : Keeps s (τ.markCat b) := by
  unfold State.markCat
  repeat' first | with_reducible assumption | (intro _ _ _; try dsimp only) | with_reducible apply Keeps.queueCat | with_reducible apply Keeps.setCat | fail_if_no_progress with_reducible refine Keeps.lit ?_ rfl rfl rfl rfl rfl rfl rfl rfl rfl | split

theorem Keeps.markHeader {s τ : State} (hk : Keeps s τ)  : Keeps s (τ.markHeader) := by
  unfold State.markHeader
  repeat' first | with_reducible assumption | (intro _ _ _; try dsimp only) | with_reducible apply Keeps.markCat | fail_if_no_progress with_reducible refine Keeps.lit ?_ rfl rfl rfl rfl rfl rfl rfl rfl rfl | split

theorem Keeps.changeExtent {s τ : State} (hk : Keeps s τ) (e : Fin 1024) (x : Extent) : Keeps s (τ.changeExtent e x) := by
  unfold State.changeExtent
  repeat' first | with_reducible assumption | (intro _ _ _; try dsimp only) | with_reducible apply Keeps.markCat | with_reducible apply Keeps.setExtent | fail_if_no_progress with_reducible refine Keeps.lit ?_ rfl rfl rfl rfl rfl rfl rfl rfl rfl | split

end Sys2Proof.Machine
end

