-- ==== Sys2Proof/Laws/KeepFlags.lean ====
section
/-!
SUPPORT. `Keeps` through the operations of Machine/Flags.lean.
-/

namespace Sys2Proof.Machine

theorem Keeps.pumpStatus {s τ : State} (hk : Keeps s τ)  : Keeps s (τ.pumpStatus) := by
  unfold State.pumpStatus
  repeat' first | with_reducible assumption | (intro _ _ _; try dsimp only) | with_reducible apply Keeps.enqueue | fail_if_no_progress with_reducible refine Keeps.lit ?_ rfl rfl rfl rfl rfl rfl rfl rfl rfl | split

theorem Keeps.statusDue {s τ : State} (hk : Keeps s τ)  : Keeps s (τ.statusDue) := by
  unfold State.statusDue
  repeat' first | with_reducible assumption | (intro _ _ _; try dsimp only) | with_reducible apply Keeps.pumpStatus | fail_if_no_progress with_reducible refine Keeps.lit ?_ rfl rfl rfl rfl rfl rfl rfl rfl rfl | split

theorem Keeps.raise {s t : State} (h : Keeps s t) (f : EventFlag) : Keeps s (t.raise f) := by
  unfold State.raise
  apply Keeps.statusDue
  refine { h with toLives := { h.toLives with toHolds := { h.toHolds with flags := ?_ } } }
  intro i hi
  have := h.flags i hi
  simp only [Fin.getElem_fin, Vector.getElem_set] at this ⊢
  split
  · rfl
  · exact this

theorem Keeps.pumpLog {s τ : State} (hk : Keeps s τ)  : Keeps s (τ.pumpLog) := by
  unfold State.pumpLog
  repeat' first | with_reducible assumption | (intro _ _ _; try dsimp only) | with_reducible apply Keeps.enqueue | fail_if_no_progress with_reducible refine Keeps.lit ?_ rfl rfl rfl rfl rfl rfl rfl rfl rfl | split

/-- A finding placed in a log that is not full leaves at most three completed images (R178, R179). -/
theorem Report.place_fits (r : Report) (f : Finding) (hf : r.full = false) (h : r.fits) : (r.place f).fits := by
  unfold Report.full at hf
  unfold Report.fits at *
  simp only [Bool.or_eq_false_iff, Bool.and_eq_false_iff, decide_eq_false_iff_not] at hf
  unfold Report.place
  dsimp only
  split
  · simp only [List.length_append, List.length_cons, List.length_nil]
    omega
  · exact h

theorem Report.place_flags (r : Report) (f : Finding) : (r.place f).flags = r.flags := by
  unfold Report.place; dsimp only; split <;> rfl

theorem Report.place_clock (r : Report) (f : Finding) : (r.place f).clock = r.clock := by
  unfold Report.place; dsimp only; split <;> rfl

theorem Report.place_count (r : Report) (f : Finding) : (r.place f).updateCount = r.updateCount := by
  unfold Report.place; dsimp only; split <;> rfl

theorem Keeps.placeFinding {s t : State} (h : Keeps s t) (f : Finding) (hf : t.rep.full = false) :
    Keeps s (t.placeFinding f) := by
  unfold State.placeFinding
  apply Keeps.pumpLog
  apply Keeps.raise
  exact {
    pending := h.pending
    freeze := h.freeze
    maint := h.maint
    flags := fun i hi => by rw [show (_ : State).rep = t.rep.place f from rfl, Report.place_flags]; exact h.flags i hi
    queue := h.queue
    images := fun hi => Report.place_fits _ _ hf (h.images hi)
    started := h.started
    clock := (Report.place_clock _ _).trans h.clock
    count := (Report.place_count _ _).trans h.count
    chosen := h.chosen }

theorem Keeps.handFinding {s t : State} (h : Keeps s t) (f : Finding) : Keeps s (t.handFinding f) := by
  unfold State.handFinding
  split
  · split
    · apply Keeps.raise
      with_reducible apply Keeps.lit <;> first | exact rfl | assumption
    · rename_i hf
      exact h.placeFinding f (by simpa using hf)
  · exact h

theorem Keeps.log {s τ : State} (hk : Keeps s τ) (kind : FindingKind) (extent frame copy : Option Nat) (d1 d2 d3 : Nat) : Keeps s (τ.log kind extent frame copy d1 d2 d3) := by
  unfold State.log
  repeat' first | with_reducible assumption | (intro _ _ _; try dsimp only) | with_reducible apply Keeps.handFinding | fail_if_no_progress with_reducible refine Keeps.lit ?_ rfl rfl rfl rfl rfl rfl rfl rfl rfl | split

theorem Keeps.logCopy {s τ : State} (hk : Keeps s τ) (kind : FindingKind) (k : FrameKey) (d1 d2 d3 : Nat) : Keeps s (τ.logCopy kind k d1 d2 d3) := by
  unfold State.logCopy
  repeat' first | with_reducible assumption | (intro _ _ _; try dsimp only) | with_reducible apply Keeps.log | fail_if_no_progress with_reducible refine Keeps.lit ?_ rfl rfl rfl rfl rfl rfl rfl rfl rfl | split

theorem Keeps.resumeLog {s t : State} (h : Keeps s t) : Keeps s t.resumeLog := by
  unfold State.resumeLog
  split
  · rename_i hf
    have hp := h.placeFinding (t.findingNow .logResumed none none none t.rep.withheld 0 0) (by simp_all)
    dsimp only
    with_reducible apply Keeps.lit <;> first | exact rfl | assumption
  · exact h

theorem Keeps.recordLog {s τ : State} (hk : Keeps s τ)  : Keeps s (τ.recordLog) := by
  unfold State.recordLog
  repeat' first | with_reducible assumption | (intro _ _ _; try dsimp only) | with_reducible apply Keeps.markHeader | fail_if_no_progress with_reducible refine Keeps.lit ?_ rfl rfl rfl rfl rfl rfl rfl rfl rfl | split

theorem Keeps.settleHead {s τ : State} (hk : Keeps s τ)  : Keeps s (τ.settleHead) := by
  unfold State.settleHead
  try dsimp only
  repeat' first | with_reducible assumption | (intro _ _ _; try dsimp only) | with_reducible apply Keeps.recordLog | fail_if_no_progress with_reducible refine Keeps.lit ?_ rfl rfl rfl rfl rfl rfl rfl rfl rfl | split

theorem Keeps.syncStatusTimer {s τ : State} (hk : Keeps s τ)  : Keeps s (τ.syncStatusTimer) := by
  unfold State.syncStatusTimer
  repeat' first | with_reducible assumption | (intro _ _ _; try dsimp only) | fail_if_no_progress with_reducible refine Keeps.lit ?_ rfl rfl rfl rfl rfl rfl rfl rfl rfl | split

end Sys2Proof.Machine
end

