-- ==== Sys2Proof/Laws/KeepStore.lean ====
section
/-!
SUPPORT. `Keeps` through the operations of Machine/Store.lean.
-/

namespace Sys2Proof.Machine

theorem Keeps.becomeDirty {s τ : State} (hk : Keeps s τ) (l : Fin 64) : Keeps s (τ.becomeDirty l) := by
  unfold State.becomeDirty
  try dsimp only
  repeat' first | with_reducible assumption | (intro _ _ _; try dsimp only) | with_reducible apply Keeps.setLine | fail_if_no_progress with_reducible refine Keeps.lit ?_ rfl rfl rfl rfl rfl rfl rfl rfl rfl | split

theorem Keeps.leaveDirty {s τ : State} (hk : Keeps s τ) (l : Fin 64) : Keeps s (τ.leaveDirty l) := by
  unfold State.leaveDirty
  repeat' first | with_reducible assumption | (intro _ _ _; try dsimp only) | fail_if_no_progress with_reducible refine Keeps.lit ?_ rfl rfl rfl rfl rfl rfl rfl rfl rfl | split

theorem Keeps.dirtyLine {s τ : State} (hk : Keeps s τ) (l : Fin 64) : Keeps s (τ.dirtyLine l) := by
  unfold State.dirtyLine
  repeat' first | with_reducible assumption | (intro _ _ _; try dsimp only) | with_reducible apply Keeps.becomeDirty | with_reducible apply Keeps.setLine | fail_if_no_progress with_reducible refine Keeps.lit ?_ rfl rfl rfl rfl rfl rfl rfl rfl rfl | split

theorem Keeps.invalidate {s τ : State} (hk : Keeps s τ) (l : Fin 64) : Keeps s (τ.invalidate l) := by
  unfold State.invalidate
  try dsimp only
  repeat' first | with_reducible assumption | (intro _ _ _; try dsimp only) | with_reducible apply Keeps.leaveDirty | with_reducible apply Keeps.setLine | fail_if_no_progress with_reducible refine Keeps.lit ?_ rfl rfl rfl rfl rfl rfl rfl rfl rfl | split

theorem Keeps.queueWriteback {s τ : State} (hk : Keeps s τ) (l : Fin 64) : Keeps s (τ.queueWriteback l) := by
  unfold State.queueWriteback
  repeat' first | with_reducible assumption | (intro _ _ _; try dsimp only) | with_reducible apply Keeps.enqueue | fail_if_no_progress with_reducible refine Keeps.lit ?_ rfl rfl rfl rfl rfl rfl rfl rfl rfl | split

theorem Keeps.queueEviction {s τ : State} (hk : Keeps s τ) (but : Option (Fin 64)) : Keeps s (τ.queueEviction but) := by
  unfold State.queueEviction
  try dsimp only
  repeat' first | with_reducible assumption | (intro _ _ _; try dsimp only) | with_reducible apply Keeps.queueWriteback | with_reducible apply Keeps.setLine | fail_if_no_progress with_reducible refine Keeps.lit ?_ rfl rfl rfl rfl rfl rfl rfl rfl rfl | split

theorem Keeps.takeForFill {s τ : State} (hk : Keeps s τ) (l : Fin 64) (tag : Nat) (e : Fin 1024) : Keeps s (τ.takeForFill l tag e) := by
  unfold State.takeForFill
  try dsimp only
  repeat' first | with_reducible assumption | (intro _ _ _; try dsimp only) | with_reducible apply Keeps.leaveDirty | with_reducible apply Keeps.pin | with_reducible apply Keeps.enqueue | with_reducible apply Keeps.setLine | fail_if_no_progress with_reducible refine Keeps.lit ?_ rfl rfl rfl rfl rfl rfl rfl rfl rfl | split

theorem Keeps.takeFresh {s τ : State} (hk : Keeps s τ) (l : Fin 64) (tag : Nat) (e : Fin 1024) : Keeps s (τ.takeFresh l tag e) := by
  unfold State.takeFresh
  try dsimp only
  repeat' first | with_reducible assumption | (intro _ _ _; try dsimp only) | with_reducible apply Keeps.pin | with_reducible apply Keeps.setLine | fail_if_no_progress with_reducible refine Keeps.lit ?_ rfl rfl rfl rfl rfl rfl rfl rfl rfl | split

theorem Keeps.takeLine {s τ : State} (hk : Keeps s τ) (l : Fin 64) (tag : Nat) (e : Fin 1024) (fresh : Bool) : Keeps s (τ.takeLine l tag e fresh) := by
  unfold State.takeLine
  repeat' first | with_reducible assumption | (intro _ _ _; try dsimp only) | with_reducible apply Keeps.takeFresh | with_reducible apply Keeps.takeForFill | fail_if_no_progress with_reducible refine Keeps.lit ?_ rfl rfl rfl rfl rfl rfl rfl rfl rfl | split

theorem Keeps.requestLine {s τ : State} (hk : Keeps s τ) (user : LineUser) (tag : Nat) (e : Fin 1024) (fresh : Bool) : Keeps s (τ.requestLine user tag e fresh).1 := by
  unfold State.requestLine
  try dsimp only
  repeat' first | with_reducible assumption | (intro _ _ _; try dsimp only) | with_reducible apply Keeps.takeLine | with_reducible apply Keeps.queueEviction | with_reducible apply Keeps.pin | fail_if_no_progress with_reducible refine Keeps.lit ?_ rfl rfl rfl rfl rfl rfl rfl rfl rfl | split

theorem Keeps.requestLineNow {s τ : State} (hk : Keeps s τ) (tag : Nat) (e : Fin 1024) : Keeps s (τ.requestLineNow tag e).1 := by
  unfold State.requestLineNow
  try dsimp only
  repeat' first | with_reducible assumption | (intro _ _ _; try dsimp only) | with_reducible apply Keeps.takeForFill | with_reducible apply Keeps.queueEviction | with_reducible apply Keeps.pin | fail_if_no_progress with_reducible refine Keeps.lit ?_ rfl rfl rfl rfl rfl rfl rfl rfl rfl | split

theorem Keeps.dropRequests {s τ : State} (hk : Keeps s τ) (user : LineUser) : Keeps s (τ.dropRequests user) := by
  unfold State.dropRequests
  try dsimp only
  repeat' first | with_reducible assumption | (intro _ _ _; try dsimp only) | fail_if_no_progress with_reducible refine Keeps.lit ?_ rfl rfl rfl rfl rfl rfl rfl rfl rfl | split

theorem Keeps.logChange {s τ : State} (hk : Keeps s τ) (e : Fin 1024) (frame : Nat) (ch : Change) (ans : Answer) : Keeps s (τ.logChange e frame ch ans) := by
  unfold State.logChange
  repeat' first | with_reducible assumption | (intro _ _ _; try dsimp only) | with_reducible apply Keeps.logCopy | fail_if_no_progress with_reducible refine Keeps.lit ?_ rfl rfl rfl rfl rfl rfl rfl rfl rfl | split

theorem Keeps.applyCore {s τ : State} (hk : Keeps s τ) (l : Fin 64) (frame : Nat) (ch : Change) : Keeps s (τ.applyCore l frame ch).1 := by
  unfold State.applyCore
  try dsimp only
  repeat' first | with_reducible assumption | (intro _ _ _; try dsimp only) | with_reducible apply Keeps.logChange | with_reducible apply Keeps.dirtyLine | with_reducible apply Keeps.setLine | fail_if_no_progress with_reducible refine Keeps.lit ?_ rfl rfl rfl rfl rfl rfl rfl rfl rfl | split

end Sys2Proof.Machine
end

