-- ==== Sys2Proof/Laws/KeepPool.lean ====
section
/-!
SUPPORT. `Keeps` through the operations of Machine/Pool.lean.
-/

namespace Sys2Proof.Machine

theorem Keeps.unpinSlot {s τ : State} (hk : Keeps s τ) (i : Fin 256) : Keeps s (τ.unpinSlot i) := by
  unfold State.unpinSlot
  try dsimp only
  repeat' first | with_reducible assumption | (intro _ _ _; try dsimp only) | with_reducible apply Keeps.unpin | with_reducible apply Keeps.forEach | fail_if_no_progress with_reducible refine Keeps.lit ?_ rfl rfl rfl rfl rfl rfl rfl rfl rfl | split

theorem Keeps.endSlot {s τ : State} (hk : Keeps s τ) (i : Fin 256) (status : UpStatus) (data : List Byte) : Keeps s (τ.endSlot i status data) := by
  unfold State.endSlot
  try dsimp only
  repeat' first | with_reducible assumption | (intro _ _ _; try dsimp only) | with_reducible apply Keeps.unpinSlot | with_reducible apply Keeps.sendUp | with_reducible apply Keeps.setSlot | fail_if_no_progress with_reducible refine Keeps.lit ?_ rfl rfl rfl rfl rfl rfl rfl rfl rfl | split

theorem Keeps.tryRelease {s τ : State} (hk : Keeps s τ) (i : Fin 256) : Keeps s (τ.tryRelease i) := by
  unfold State.tryRelease
  try dsimp only
  repeat' first | with_reducible assumption | (intro _ _ _; try dsimp only) | with_reducible apply Keeps.endSlot | fail_if_no_progress with_reducible refine Keeps.lit ?_ rfl rfl rfl rfl rfl rfl rfl rfl rfl | split

theorem Keeps.giveOutcome {s τ : State} (hk : Keeps s τ) (o : SlotOutcome) (i : Fin 256) : Keeps s (τ.giveOutcome o i) := by
  unfold State.giveOutcome
  repeat' first | with_reducible assumption | (intro _ _ _; try dsimp only) | with_reducible apply Keeps.tryRelease | with_reducible apply Keeps.setSlot | fail_if_no_progress with_reducible refine Keeps.lit ?_ rfl rfl rfl rfl rfl rfl rfl rfl rfl | split

theorem Keeps.endAccum {s τ : State} (hk : Keeps s τ) (p : Fin 32) (o : SlotOutcome) : Keeps s (τ.endAccum p o) := by
  unfold State.endAccum
  try dsimp only
  repeat' first | with_reducible assumption | (intro _ _ _; try dsimp only) | with_reducible apply Keeps.mapSlots | with_reducible apply Keeps.giveOutcome | with_reducible apply Keeps.unpin? | with_reducible apply Keeps.setAccum | with_reducible apply Keeps.forEach | fail_if_no_progress with_reducible refine Keeps.lit ?_ rfl rfl rfl rfl rfl rfl rfl rfl rfl | split

theorem Keeps.dropWaiting {s τ : State} (hk : Keeps s τ) (who : Submitter) : Keeps s (τ.dropWaiting who) := by
  unfold State.dropWaiting
  try dsimp only
  repeat' first | with_reducible assumption | (intro _ _ _; try dsimp only) | fail_if_no_progress with_reducible refine Keeps.lit ?_ rfl rfl rfl rfl rfl rfl rfl rfl rfl | split

theorem Keeps.abandon {s τ : State} (hk : Keeps s τ) (p : Fin 32) : Keeps s (τ.abandon p) := by
  unfold State.abandon
  try dsimp only
  repeat' first | with_reducible assumption | (intro _ _ _; try dsimp only) | with_reducible apply Keeps.dropWaiting | with_reducible apply Keeps.endAccum | with_reducible apply Keeps.mapSlots | fail_if_no_progress with_reducible refine Keeps.lit ?_ rfl rfl rfl rfl rfl rfl rfl rfl rfl | split

theorem Keeps.abandonAll {s τ : State} (hk : Keeps s τ) (test : Accum → Bool) : Keeps s (τ.abandonAll test) := by
  unfold State.abandonAll
  try dsimp only
  repeat' first | with_reducible assumption | (intro _ _ _; try dsimp only) | with_reducible apply Keeps.abandon | with_reducible apply Keeps.forEach | fail_if_no_progress with_reducible refine Keeps.lit ?_ rfl rfl rfl rfl rfl rfl rfl rfl rfl | split

theorem Keeps.openAccum {s τ : State} (hk : Keeps s τ) (p : Fin 32) (mode : AccumMode) (k : FrameKey) (line : Option (Fin 64)) : Keeps s (τ.openAccum p mode k line) := by
  unfold State.openAccum
  repeat' first | with_reducible assumption | (intro _ _ _; try dsimp only) | with_reducible apply Keeps.setAccum | fail_if_no_progress with_reducible refine Keeps.lit ?_ rfl rfl rfl rfl rfl rfl rfl rfl rfl | split

theorem Keeps.addContribution {s τ : State} (hk : Keeps s τ) (i : Fin 256) (c : Contribution) : Keeps s (τ.addContribution i c) := by
  unfold State.addContribution
  repeat' first | with_reducible assumption | (intro _ _ _; try dsimp only) | with_reducible apply Keeps.setSlot | fail_if_no_progress with_reducible refine Keeps.lit ?_ rfl rfl rfl rfl rfl rfl rfl rfl rfl | split

theorem Keeps.joinSeal {s τ : State} (hk : Keeps s τ) (p : Fin 32) (i : Fin 256) (t : Touched) (data : List Byte) : Keeps s (τ.joinSeal p i t data) := by
  unfold State.joinSeal
  try dsimp only
  repeat' first | with_reducible assumption | (intro _ _ _; try dsimp only) | with_reducible apply Keeps.addContribution | with_reducible apply Keeps.abandon | with_reducible apply Keeps.setAccum | fail_if_no_progress with_reducible refine Keeps.lit ?_ rfl rfl rfl rfl rfl rfl rfl rfl rfl | split

theorem Keeps.joinRead {s τ : State} (hk : Keeps s τ) (p : Fin 32) (i : Fin 256) (t : Touched) : Keeps s (τ.joinRead p i t) := by
  unfold State.joinRead
  try dsimp only
  repeat' first | with_reducible assumption | (intro _ _ _; try dsimp only) | with_reducible apply Keeps.addContribution | with_reducible apply Keeps.abandon | with_reducible apply Keeps.setAccum | with_reducible apply Keeps.setSlot | fail_if_no_progress with_reducible refine Keeps.lit ?_ rfl rfl rfl rfl rfl rfl rfl rfl rfl | split

theorem Keeps.commit {s τ : State} (hk : Keeps s τ) (p : Fin 32) (a b : Nat) : Keeps s (τ.commit p a b) := by
  unfold State.commit
  repeat' first | with_reducible assumption | (intro _ _ _; try dsimp only) | with_reducible apply Keeps.setAccum | fail_if_no_progress with_reducible refine Keeps.lit ?_ rfl rfl rfl rfl rfl rfl rfl rfl rfl | split

theorem Keeps.failContribution {s τ : State} (hk : Keeps s τ) (c : Contribution) : Keeps s (τ.failContribution c) := by
  unfold State.failContribution
  repeat' first | with_reducible assumption | (intro _ _ _; try dsimp only) | with_reducible apply Keeps.abandon | with_reducible apply Keeps.logCopy | fail_if_no_progress with_reducible refine Keeps.lit ?_ rfl rfl rfl rfl rfl rfl rfl rfl rfl | split

end Sys2Proof.Machine
end

