-- ==== Sys2Proof/Laws/KeepBatch.lean ====
section
/-!
SUPPORT. `Keeps` through the operations of Machine/Batch.lean.
-/

namespace Sys2Proof.Machine

theorem Keeps.setBatch {s τ : State} (hk : Keeps s τ) (b : Option Batch) : Keeps s (τ.setBatch b) := by
  unfold State.setBatch
  repeat' first | with_reducible assumption | (intro _ _ _; try dsimp only) | fail_if_no_progress with_reducible refine Keeps.lit ?_ rfl rfl rfl rfl rfl rfl rfl rfl rfl | split

theorem Keeps.handBatch {s τ : State} (hk : Keeps s τ) (b : Batch) : Keeps s (τ.handBatch b) := by
  unfold State.handBatch
  repeat' first | with_reducible assumption | (intro _ _ _; try dsimp only) | with_reducible apply Keeps.statusDue | fail_if_no_progress with_reducible refine Keeps.lit ?_ rfl rfl rfl rfl rfl rfl rfl rfl rfl | split

theorem Keeps.tryEndBatch {s τ : State} (hk : Keeps s τ)  : Keeps s (τ.tryEndBatch) := by
  unfold State.tryEndBatch
  repeat' first | with_reducible assumption | (intro _ _ _; try dsimp only) | with_reducible apply Keeps.handBatch | with_reducible apply Keeps.setBatch | fail_if_no_progress with_reducible refine Keeps.lit ?_ rfl rfl rfl rfl rfl rfl rfl rfl rfl | split

theorem Keeps.addResult {s τ : State} (hk : Keeps s τ) (r : Result) : Keeps s (τ.addResult r) := by
  unfold State.addResult
  repeat' first | with_reducible assumption | (intro _ _ _; try dsimp only) | with_reducible apply Keeps.tryEndBatch | with_reducible apply Keeps.setBatch | fail_if_no_progress with_reducible refine Keeps.lit ?_ rfl rfl rfl rfl rfl rfl rfl rfl rfl | split

theorem Keeps.settleBatch {s τ : State} (hk : Keeps s τ)  : Keeps s (τ.settleBatch) := by
  unfold State.settleBatch
  repeat' first | with_reducible assumption | (intro _ _ _; try dsimp only) | with_reducible apply Keeps.setBatch | with_reducible apply Keeps.endSlot | fail_if_no_progress with_reducible refine Keeps.lit ?_ rfl rfl rfl rfl rfl rfl rfl rfl rfl | split

theorem Keeps.reportBatch {s τ : State} (hk : Keeps s τ)  : Keeps s (τ.reportBatch) := by
  unfold State.reportBatch
  repeat' first | with_reducible assumption | (intro _ _ _; try dsimp only) | with_reducible apply Keeps.settleBatch | with_reducible apply Keeps.setBatch | fail_if_no_progress with_reducible refine Keeps.lit ?_ rfl rfl rfl rfl rfl rfl rfl rfl rfl | split

theorem Keeps.loseBatchSlot {s τ : State} (hk : Keeps s τ) (i : Fin 256) : Keeps s (τ.loseBatchSlot i) := by
  unfold State.loseBatchSlot
  repeat' first | with_reducible assumption | (intro _ _ _; try dsimp only) | with_reducible apply Keeps.settleBatch | with_reducible apply Keeps.setBatch | fail_if_no_progress with_reducible refine Keeps.lit ?_ rfl rfl rfl rfl rfl rfl rfl rfl rfl | split

theorem Keeps.answerFrame {s τ : State} (hk : Keeps s τ) (r : Result) : Keeps s (τ.answerFrame r) := by
  unfold State.answerFrame
  repeat' first | with_reducible assumption | (intro _ _ _; try dsimp only) | with_reducible apply Keeps.addResult | with_reducible apply Keeps.unpin? | fail_if_no_progress with_reducible refine Keeps.lit ?_ rfl rfl rfl rfl rfl rfl rfl rfl rfl | split

theorem Keeps.tryEndFlush {s τ : State} (hk : Keeps s τ)  : Keeps s (τ.tryEndFlush) := by
  unfold State.tryEndFlush
  repeat' first | with_reducible assumption | (intro _ _ _; try dsimp only) | with_reducible apply Keeps.log | with_reducible apply Keeps.raise | fail_if_no_progress with_reducible refine Keeps.lit ?_ rfl rfl rfl rfl rfl rfl rfl rfl rfl | split

theorem Keeps.flushLine {s τ : State} (hk : Keeps s τ) (l : Fin 64) (good : Bool) : Keeps s (τ.flushLine l good) := by
  unfold State.flushLine
  try dsimp only
  repeat' first | with_reducible assumption | (intro _ _ _; try dsimp only) | with_reducible apply Keeps.tryEndFlush | fail_if_no_progress with_reducible refine Keeps.lit ?_ rfl rfl rfl rfl rfl rfl rfl rfl rfl | split

theorem Keeps.flushBlock {s τ : State} (hk : Keeps s τ) (b : Fin 17) (good : Bool) : Keeps s (τ.flushBlock b good) := by
  unfold State.flushBlock
  try dsimp only
  repeat' first | with_reducible assumption | (intro _ _ _; try dsimp only) | with_reducible apply Keeps.tryEndFlush | fail_if_no_progress with_reducible refine Keeps.lit ?_ rfl rfl rfl rfl rfl rfl rfl rfl rfl | split

theorem Keeps.flushCutLine {s τ : State} (hk : Keeps s τ) (l : Fin 64) : Keeps s (τ.flushCutLine l) := by
  unfold State.flushCutLine
  try dsimp only
  repeat' first | with_reducible assumption | (intro _ _ _; try dsimp only) | fail_if_no_progress with_reducible refine Keeps.lit ?_ rfl rfl rfl rfl rfl rfl rfl rfl rfl | split

theorem Keeps.flushCutBlock {s τ : State} (hk : Keeps s τ) (b : Fin 17) : Keeps s (τ.flushCutBlock b) := by
  unfold State.flushCutBlock
  try dsimp only
  repeat' first | with_reducible assumption | (intro _ _ _; try dsimp only) | fail_if_no_progress with_reducible refine Keeps.lit ?_ rfl rfl rfl rfl rfl rfl rfl rfl rfl | split

theorem Keeps.flushDrop {s τ : State} (hk : Keeps s τ) (l : Fin 64) : Keeps s (τ.flushDrop l) := by
  unfold State.flushDrop
  try dsimp only
  repeat' first | with_reducible assumption | (intro _ _ _; try dsimp only) | with_reducible apply Keeps.tryEndFlush | fail_if_no_progress with_reducible refine Keeps.lit ?_ rfl rfl rfl rfl rfl rfl rfl rfl rfl | split

end Sys2Proof.Machine
end

