-- ==== Sys2Proof/Laws/KeepChanges.lean ====
section
/-!
SUPPORT. `Keeps` through the operations of Machine/Changes.lean.
-/

namespace Sys2Proof.Machine

/-- Another mend queue, within its limits where the old one was. -/
theorem Keeps.withMend {s t : State} (h : Keeps s t) (m : MendEngine) (hm : t.mend.fits → m.fits) :
    Keeps s { t with mend := m } :=
  { h with toLives := { h.toLives with toHolds := { h.toHolds with queue := fun x => hm (h.queue x) } } }

/-- An entry that is not there joins a queue of fewer than 16 (R140). -/
theorem MendEngine.fits_join (m : MendEngine) (k : FrameKey) (h : m.fits) (hk : m.queue.contains k = false)
    (hl : m.queue.length < 16) : ({ m with queue := m.queue ++ [k] } : MendEngine).fits := by
  obtain ⟨_, hn⟩ := h
  refine ⟨by simp; omega, ?_⟩
  rw [List.nodup_append]
  refine ⟨hn, by simp, ?_⟩
  intro a ha b hb
  simp only [List.mem_singleton] at hb
  subst hb
  rintro rfl
  simp_all

theorem Keeps.mendWanted {s t : State} (h : Keeps s t) (k : FrameKey) : Keeps s (t.mendWanted k) := by
  unfold State.mendWanted
  split
  · rename_i hc
    obtain ⟨_, hp, hl⟩ := hc
    apply h.withMend
    intro hf
    unfold State.mendPresent at hp
    exact MendEngine.fits_join _ k hf (by simp only [Bool.or_eq_false_iff] at hp; exact hp.1) hl
  · exact h

theorem Keeps.mendUnwanted {s t : State} (h : Keeps s t) (k : FrameKey) : Keeps s (t.mendUnwanted k) := by
  unfold State.mendUnwanted
  apply h.withMend
  rintro ⟨hl, hn⟩
  exact ⟨le_trans (List.length_filter_le _ _) hl, hn.filter _⟩

theorem Keeps.reportCopy {s τ : State} (hk : Keeps s τ) (k : FrameKey) (before after : Entry) : Keeps s (τ.reportCopy k before after) := by
  unfold State.reportCopy
  repeat' first | with_reducible assumption | (intro _ _ _; try dsimp only) | with_reducible apply Keeps.mendUnwanted | with_reducible apply Keeps.mendWanted | fail_if_no_progress with_reducible refine Keeps.lit ?_ rfl rfl rfl rfl rfl rfl rfl rfl rfl | split

theorem Keeps.reportEntry {s τ : State} (hk : Keeps s τ) (e : Fin 1024) (frame : Nat) (before after : Entry) : Keeps s (τ.reportEntry e frame before after) := by
  unfold State.reportEntry
  repeat' first | with_reducible assumption | (intro _ _ _; try dsimp only) | with_reducible apply Keeps.reportCopy | fail_if_no_progress with_reducible refine Keeps.lit ?_ rfl rfl rfl rfl rfl rfl rfl rfl rfl | split

theorem Keeps.addWaiting {s τ : State} (hk : Keeps s τ) (l : Fin 64) (w : Waiting) : Keeps s (τ.addWaiting l w) := by
  unfold State.addWaiting
  repeat' first | with_reducible assumption | (intro _ _ _; try dsimp only) | with_reducible apply Keeps.setLine | fail_if_no_progress with_reducible refine Keeps.lit ?_ rfl rfl rfl rfl rfl rfl rfl rfl rfl | split

theorem Keeps.setMend {s τ : State} (hk : Keeps s τ) (m : Option Mend) : Keeps s (τ.setMend m) := by
  unfold State.setMend
  repeat' first | with_reducible assumption | (intro _ _ _; try dsimp only) | fail_if_no_progress with_reducible refine Keeps.lit ?_ rfl rfl rfl rfl rfl rfl rfl rfl rfl | split

theorem Keeps.finishMend {s τ : State} (hk : Keeps s τ) (m : Mend) (c : MendClose) : Keeps s (τ.finishMend m c) := by
  unfold State.finishMend
  try dsimp only
  repeat' first | with_reducible assumption | (intro _ _ _; try dsimp only) | with_reducible apply Keeps.logCopy | with_reducible apply Keeps.raise | with_reducible apply Keeps.unpin? | fail_if_no_progress with_reducible refine Keeps.lit ?_ rfl rfl rfl rfl rfl rfl rfl rfl rfl | split

theorem Keeps.applyClosing {s τ : State} (hk : Keeps s τ) (l : Fin 64) (m : Mend) (reason : Nat) (ch : Change) : Keeps s (τ.applyClosing l m reason ch) := by
  unfold State.applyClosing
  try dsimp only
  repeat' first | with_reducible assumption | (intro _ _ _; try dsimp only) | with_reducible apply Keeps.finishMend | with_reducible apply Keeps.setMend | with_reducible apply Keeps.reportEntry | with_reducible apply Keeps.applyCore | fail_if_no_progress with_reducible refine Keeps.lit ?_ rfl rfl rfl rfl rfl rfl rfl rfl rfl | split

theorem Keeps.submitClosing {s τ : State} (hk : Keeps s τ) (m : Mend) (reason : Nat) (target : CopyState) : Keeps s (τ.submitClosing m reason target) := by
  unfold State.submitClosing
  try dsimp only
  repeat' first | with_reducible assumption | (intro _ _ _; try dsimp only) | with_reducible apply Keeps.applyClosing | with_reducible apply Keeps.finishMend | with_reducible apply Keeps.setMend | with_reducible apply Keeps.addWaiting | fail_if_no_progress with_reducible refine Keeps.lit ?_ rfl rfl rfl rfl rfl rfl rfl rfl rfl | split

theorem Keeps.stopMendWork {s τ : State} (hk : Keeps s τ)  : Keeps s (τ.stopMendWork) := by
  unfold State.stopMendWork
  repeat' first | with_reducible assumption | (intro _ _ _; try dsimp only) | with_reducible apply Keeps.dropWaiting | with_reducible apply Keeps.abandon | with_reducible apply Keeps.killOutstanding | with_reducible apply Keeps.withdraw | fail_if_no_progress with_reducible refine Keeps.lit ?_ rfl rfl rfl rfl rfl rfl rfl rfl rfl | split

theorem Keeps.endMend {s τ : State} (hk : Keeps s τ) (m : Mend) : Keeps s (τ.endMend m) := by
  unfold State.endMend
  try dsimp only
  repeat' first | with_reducible assumption | (intro _ _ _; try dsimp only) | with_reducible apply Keeps.stopMendWork | with_reducible apply Keeps.submitClosing | with_reducible apply Keeps.finishMend | with_reducible apply Keeps.setMend | with_reducible apply Keeps.dropRequests | fail_if_no_progress with_reducible refine Keeps.lit ?_ rfl rfl rfl rfl rfl rfl rfl rfl rfl | split

theorem Keeps.reportMend {s τ : State} (hk : Keeps s τ) (e : Fin 1024) (frame : Nat) (who : Submitter) (after : Entry) : Keeps s (τ.reportMend e frame who after) := by
  unfold State.reportMend
  repeat' first | with_reducible assumption | (intro _ _ _; try dsimp only) | with_reducible apply Keeps.endMend | fail_if_no_progress with_reducible refine Keeps.lit ?_ rfl rfl rfl rfl rfl rfl rfl rfl rfl | split

theorem Keeps.applyNow {s τ : State} (hk : Keeps s τ) (l : Fin 64) (frame : Nat) (who : Submitter) (ch : Change) : Keeps s (τ.applyNow l frame who ch).1 := by
  unfold State.applyNow
  try dsimp only
  repeat' first | with_reducible assumption | (intro _ _ _; try dsimp only) | with_reducible apply Keeps.reportMend | with_reducible apply Keeps.reportEntry | with_reducible apply Keeps.applyCore | fail_if_no_progress with_reducible refine Keeps.lit ?_ rfl rfl rfl rfl rfl rfl rfl rfl rfl | split

theorem Keeps.submit {s τ : State} (hk : Keeps s τ) (e : Fin 1024) (frame : Nat) (who : Submitter) (ch : Change) : Keeps s (τ.submit e frame who ch).1 := by
  unfold State.submit
  try dsimp only
  repeat' first | with_reducible assumption | (intro _ _ _; try dsimp only) | with_reducible apply Keeps.applyNow | with_reducible apply Keeps.addWaiting | fail_if_no_progress with_reducible refine Keeps.lit ?_ rfl rfl rfl rfl rfl rfl rfl rfl rfl | split

theorem Keeps.tell {s τ : State} (hk : Keeps s τ) (e : Fin 1024) (frame : Nat) (ch : Change) : Keeps s (τ.tell e frame ch) := by
  unfold State.tell
  try dsimp only
  repeat' first | with_reducible assumption | (intro _ _ _; try dsimp only) | with_reducible apply Keeps.submit | fail_if_no_progress with_reducible refine Keeps.lit ?_ rfl rfl rfl rfl rfl rfl rfl rfl rfl | split

theorem Keeps.foundMending {s τ : State} (hk : Keeps s τ) (k : FrameKey) : Keeps s (τ.foundMending k) := by
  unfold State.foundMending
  try dsimp only
  repeat' first | with_reducible assumption | (intro _ _ _; try dsimp only) | with_reducible apply Keeps.tell | fail_if_no_progress with_reducible refine Keeps.lit ?_ rfl rfl rfl rfl rfl rfl rfl rfl rfl | split

theorem Keeps.logVerdict {s τ : State} (hk : Keeps s τ) (k : FrameKey) (a b : Nat) (ans : Answer) : Keeps s (τ.logVerdict k a b ans) := by
  unfold State.logVerdict
  try dsimp only
  repeat' first | with_reducible assumption | (intro _ _ _; try dsimp only) | with_reducible apply Keeps.logCopy | fail_if_no_progress with_reducible refine Keeps.lit ?_ rfl rfl rfl rfl rfl rfl rfl rfl rfl | split

theorem Keeps.finishCheck {s τ : State} (hk : Keeps s τ) (p : Fin 32) (ans : Answer) : Keeps s (τ.finishCheck p ans) := by
  unfold State.finishCheck
  try dsimp only
  repeat' first | with_reducible assumption | (intro _ _ _; try dsimp only) | with_reducible apply Keeps.logVerdict | with_reducible apply Keeps.endAccum | fail_if_no_progress with_reducible refine Keeps.lit ?_ rfl rfl rfl rfl rfl rfl rfl rfl rfl | split

theorem Keeps.hold {s τ : State} (hk : Keeps s τ) (p : Fin 32) (i : Fin 256) : Keeps s (τ.hold p i) := by
  unfold State.hold
  repeat' first | with_reducible assumption | (intro _ _ _; try dsimp only) | with_reducible apply Keeps.setAccum | with_reducible apply Keeps.setSlot | fail_if_no_progress with_reducible refine Keeps.lit ?_ rfl rfl rfl rfl rfl rfl rfl rfl rfl | split

theorem Keeps.await {s τ : State} (hk : Keeps s τ) (p : Fin 32) : Keeps s (τ.await p) := by
  unfold State.await
  repeat' first | with_reducible assumption | (intro _ _ _; try dsimp only) | with_reducible apply Keeps.setAccum | fail_if_no_progress with_reducible refine Keeps.lit ?_ rfl rfl rfl rfl rfl rfl rfl rfl rfl | split

theorem Keeps.completeTraffic {s τ : State} (hk : Keeps s τ) (p : Fin 32) (i : Fin 256) : Keeps s (τ.completeTraffic p i) := by
  unfold State.completeTraffic
  try dsimp only
  repeat' first | with_reducible assumption | (intro _ _ _; try dsimp only) | with_reducible apply Keeps.await | with_reducible apply Keeps.hold | with_reducible apply Keeps.finishCheck | with_reducible apply Keeps.tell | with_reducible apply Keeps.submit | with_reducible apply Keeps.endAccum | fail_if_no_progress with_reducible refine Keeps.lit ?_ rfl rfl rfl rfl rfl rfl rfl rfl rfl | split

theorem Keeps.commitTraffic {s τ : State} (hk : Keeps s τ) (i : Fin 256) (data : Option (List Byte)) (c : Contribution) : Keeps s (τ.commitTraffic i data c) := by
  unfold State.commitTraffic
  try dsimp only
  repeat' first | with_reducible assumption | (intro _ _ _; try dsimp only) | with_reducible apply Keeps.completeTraffic | with_reducible apply Keeps.commit | with_reducible apply Keeps.setSlot | fail_if_no_progress with_reducible refine Keeps.lit ?_ rfl rfl rfl rfl rfl rfl rfl rfl rfl | split

theorem Keeps.commitAll {s τ : State} (hk : Keeps s τ) (i : Fin 256) (data : Option (List Byte)) : Keeps s (τ.commitAll i data) := by
  unfold State.commitAll
  try dsimp only
  repeat' first | with_reducible assumption | (intro _ _ _; try dsimp only) | with_reducible apply Keeps.commitTraffic | with_reducible apply Keeps.forEach | fail_if_no_progress with_reducible refine Keeps.lit ?_ rfl rfl rfl rfl rfl rfl rfl rfl rfl | split

theorem Keeps.watch {s τ : State} (hk : Keeps s τ) (i : Fin 256) (p : Fin 32) : Keeps s (τ.watch i p) := by
  unfold State.watch
  repeat' first | with_reducible assumption | (intro _ _ _; try dsimp only) | with_reducible apply Keeps.hold | fail_if_no_progress with_reducible refine Keeps.lit ?_ rfl rfl rfl rfl rfl rfl rfl rfl rfl | split

theorem Keeps.readReturned {s τ : State} (hk : Keeps s τ) (i : Fin 256) (data : List Byte) : Keeps s (τ.readReturned i data) := by
  unfold State.readReturned
  try dsimp only
  repeat' first | with_reducible assumption | (intro _ _ _; try dsimp only) | with_reducible apply Keeps.watch | with_reducible apply Keeps.commitAll | with_reducible apply Keeps.tryRelease | with_reducible apply Keeps.endSlot | with_reducible apply Keeps.setSlot | with_reducible apply Keeps.forEach | fail_if_no_progress with_reducible refine Keeps.lit ?_ rfl rfl rfl rfl rfl rfl rfl rfl rfl | split

theorem Keeps.failAll {s τ : State} (hk : Keeps s τ) (i : Fin 256) : Keeps s (τ.failAll i) := by
  unfold State.failAll
  try dsimp only
  repeat' first | with_reducible assumption | (intro _ _ _; try dsimp only) | with_reducible apply Keeps.failContribution | with_reducible apply Keeps.forEach | fail_if_no_progress with_reducible refine Keeps.lit ?_ rfl rfl rfl rfl rfl rfl rfl rfl rfl | split

theorem Keeps.abandonContributions {s τ : State} (hk : Keeps s τ) (i : Fin 256) : Keeps s (τ.abandonContributions i) := by
  unfold State.abandonContributions
  try dsimp only
  repeat' first | with_reducible assumption | (intro _ _ _; try dsimp only) | with_reducible apply Keeps.abandon | with_reducible apply Keeps.forEach | fail_if_no_progress with_reducible refine Keeps.lit ?_ rfl rfl rfl rfl rfl rfl rfl rfl rfl | split

end Sys2Proof.Machine
end

