-- ==== Sys2Proof/Laws/KeepWalk.lean ====
section
/-!
SUPPORT. `Keeps` through the operations of Machine/Walk.lean.
-/

namespace Sys2Proof.Machine

theorem Keeps.setWalk {s τ : State} (hk : Keeps s τ) (w : Option Walk) : Keeps s (τ.setWalk w) := by
  unfold State.setWalk
  repeat' first | with_reducible assumption | (intro _ _ _; try dsimp only) | fail_if_no_progress with_reducible refine Keeps.lit ?_ rfl rfl rfl rfl rfl rfl rfl rfl rfl | split

theorem Keeps.createPass {s τ : State} (hk : Keeps s τ) (depth : Depth) : Keeps s (τ.createPass depth).1 := by
  unfold State.createPass
  try dsimp only
  repeat' first | with_reducible assumption | (intro _ _ _; try dsimp only) | with_reducible apply Keeps.markHeader | fail_if_no_progress with_reducible refine Keeps.lit ?_ rfl rfl rfl rfl rfl rfl rfl rfl rfl | split

theorem Keeps.clearWalk {s τ : State} (hk : Keeps s τ)  : Keeps s (τ.clearWalk) := by
  unfold State.clearWalk
  repeat' first | with_reducible assumption | (intro _ _ _; try dsimp only) | with_reducible apply Keeps.dropRequests | with_reducible apply Keeps.killOutstanding | with_reducible apply Keeps.withdraw | fail_if_no_progress with_reducible refine Keeps.lit ?_ rfl rfl rfl rfl rfl rfl rfl rfl rfl | split

theorem Keeps.feedWalk {s τ : State} (hk : Keeps s τ)  : Keeps s (τ.feedWalk) := by
  unfold State.feedWalk
  try dsimp only
  repeat' first | with_reducible assumption | (intro _ _ _; try dsimp only) | with_reducible apply Keeps.setWalk | with_reducible apply Keeps.enqueue | with_reducible apply Keeps.forEach | fail_if_no_progress with_reducible refine Keeps.lit ?_ rfl rfl rfl rfl rfl rfl rfl rfl rfl | split

theorem Keeps.startRead {s τ : State} (hk : Keeps s τ) (w : Walk) : Keeps s (τ.startRead w) := by
  unfold State.startRead
  repeat' first | with_reducible assumption | (intro _ _ _; try dsimp only) | with_reducible apply Keeps.feedWalk | with_reducible apply Keeps.setWalk | fail_if_no_progress with_reducible refine Keeps.lit ?_ rfl rfl rfl rfl rfl rfl rfl rfl rfl | split

theorem Keeps.pushWalk {s τ : State} (hk : Keeps s τ) (w : Walk) (run : RunState) : Keeps s (τ.pushWalk w run) := by
  unfold State.pushWalk
  try dsimp only
  repeat' first | with_reducible assumption | (intro _ _ _; try dsimp only) | with_reducible apply Keeps.clearWalk | with_reducible apply Keeps.unpin? | fail_if_no_progress with_reducible refine Keeps.lit ?_ rfl rfl rfl rfl rfl rfl rfl rfl rfl | split

theorem Keeps.stopWalk {s τ : State} (hk : Keeps s τ) (w : Walk) : Keeps s (τ.stopWalk w) := by
  unfold State.stopWalk
  try dsimp only
  repeat' first | with_reducible assumption | (intro _ _ _; try dsimp only) | with_reducible apply Keeps.pushWalk | with_reducible apply Keeps.clearWalk | with_reducible apply Keeps.setWalk | with_reducible apply Keeps.unpin? | fail_if_no_progress with_reducible refine Keeps.lit ?_ rfl rfl rfl rfl rfl rfl rfl rfl rfl | split

theorem Keeps.skipRest {s τ : State} (hk : Keeps s τ) (w : Walk) : Keeps s (τ.skipRest w) := by
  unfold State.skipRest
  try dsimp only
  repeat' first | with_reducible assumption | (intro _ _ _; try dsimp only) | with_reducible apply Keeps.clearWalk | with_reducible apply Keeps.setWalk | with_reducible apply Keeps.unpin? | fail_if_no_progress with_reducible refine Keeps.lit ?_ rfl rfl rfl rfl rfl rfl rfl rfl rfl | split

theorem Keeps.skipBlock {s τ : State} (hk : Keeps s τ) (w : Walk) : Keeps s (τ.skipBlock w) := by
  unfold State.skipBlock
  try dsimp only
  repeat' first | with_reducible assumption | (intro _ _ _; try dsimp only) | with_reducible apply Keeps.setWalk | with_reducible apply Keeps.unpin? | fail_if_no_progress with_reducible refine Keeps.lit ?_ rfl rfl rfl rfl rfl rfl rfl rfl rfl | split

theorem Keeps.queueExtents {s τ : State} (hk : Keeps s τ) (test : Fin 1024 → Bool) : Keeps s (τ.queueExtents test) := by
  unfold State.queueExtents
  try dsimp only
  repeat' first | with_reducible assumption | (intro _ _ _; try dsimp only) | with_reducible apply Keeps.queueWriteback | with_reducible apply Keeps.forEach | fail_if_no_progress with_reducible refine Keeps.lit ?_ rfl rfl rfl rfl rfl rfl rfl rfl rfl | split

theorem Keeps.walkState {s τ : State} (hk : Keeps s τ) (e : Fin 1024) (source target : ExtentState) : Keeps s (τ.walkState e source target) := by
  unfold State.walkState
  repeat' first | with_reducible assumption | (intro _ _ _; try dsimp only) | with_reducible apply Keeps.changeExtent | fail_if_no_progress with_reducible refine Keeps.lit ?_ rfl rfl rfl rfl rfl rfl rfl rfl rfl | split

theorem Keeps.logWalkEnd {s τ : State} (hk : Keeps s τ) (w : Walk) : Keeps s (τ.logWalkEnd w) := by
  unfold State.logWalkEnd
  repeat' first | with_reducible assumption | (intro _ _ _; try dsimp only) | with_reducible apply Keeps.walkState | with_reducible apply Keeps.logCopy | with_reducible apply Keeps.log | fail_if_no_progress with_reducible refine Keeps.lit ?_ rfl rfl rfl rfl rfl rfl rfl rfl rfl | split

theorem Keeps.nextWalk {s τ : State} (hk : Keeps s τ)  : Keeps s (τ.nextWalk) := by
  unfold State.nextWalk
  try dsimp only
  repeat' first | with_reducible assumption | (intro _ _ _; try dsimp only) | with_reducible apply Keeps.createPass | with_reducible apply Keeps.setWalk | fail_if_no_progress with_reducible refine Keeps.lit ?_ rfl rfl rfl rfl rfl rfl rfl rfl rfl | split

theorem Keeps.restAfter {s τ : State} (hk : Keeps s τ) (w : Walk) : Keeps s (τ.restAfter w) := by
  unfold State.restAfter
  repeat' first | with_reducible assumption | (intro _ _ _; try dsimp only) | fail_if_no_progress with_reducible refine Keeps.lit ?_ rfl rfl rfl rfl rfl rfl rfl rfl rfl | split

theorem Keeps.endWalk {s τ : State} (hk : Keeps s τ) (w : Walk) : Keeps s (τ.endWalk w) := by
  unfold State.endWalk
  try dsimp only
  repeat' first | with_reducible assumption | (intro _ _ _; try dsimp only) | with_reducible apply Keeps.restAfter | with_reducible apply Keeps.nextWalk | with_reducible apply Keeps.logWalkEnd | with_reducible apply Keeps.queueExtents | with_reducible apply Keeps.setWalk | with_reducible apply Keeps.raise | with_reducible apply Keeps.unpin? | fail_if_no_progress with_reducible refine Keeps.lit ?_ rfl rfl rfl rfl rfl rfl rfl rfl rfl | split

theorem Keeps.askLine {s τ : State} (hk : Keeps s τ) (w : Walk) : Keeps s (τ.askLine w) := by
  unfold State.askLine
  try dsimp only
  repeat' first | with_reducible assumption | (intro _ _ _; try dsimp only) | with_reducible apply Keeps.setWalk | with_reducible apply Keeps.requestLine | fail_if_no_progress with_reducible refine Keeps.lit ?_ rfl rfl rfl rfl rfl rfl rfl rfl rfl | split

theorem Keeps.leaveExtent {s τ : State} (hk : Keeps s τ) (w : Walk) : Keeps s (τ.leaveExtent w) := by
  unfold State.leaveExtent
  try dsimp only
  repeat' first | with_reducible assumption | (intro _ _ _; try dsimp only) | with_reducible apply Keeps.setWalk | with_reducible apply Keeps.changeExtent | with_reducible apply Keeps.unpin? | fail_if_no_progress with_reducible refine Keeps.lit ?_ rfl rfl rfl rfl rfl rfl rfl rfl rfl | split

theorem Keeps.passRange {s τ : State} (hk : Keeps s τ) (w : Walk) : Keeps s (τ.passRange w) := by
  unfold State.passRange
  repeat' first | with_reducible assumption | (intro _ _ _; try dsimp only) | with_reducible apply Keeps.leaveExtent | with_reducible apply Keeps.setWalk | fail_if_no_progress with_reducible refine Keeps.lit ?_ rfl rfl rfl rfl rfl rfl rfl rfl rfl | split

theorem Keeps.visitCopy {s τ : State} (hk : Keeps s τ) (w : Walk) (l : Fin 64) : Keeps s (τ.visitCopy w l) := by
  unfold State.visitCopy
  repeat' first | with_reducible assumption | (intro _ _ _; try dsimp only) | with_reducible apply Keeps.startRead | with_reducible apply Keeps.setWalk | with_reducible apply Keeps.foundMending | fail_if_no_progress with_reducible refine Keeps.lit ?_ rfl rfl rfl rfl rfl rfl rfl rfl rfl | split

theorem Keeps.visitFull {s τ : State} (hk : Keeps s τ) (w : Walk) : Keeps s (τ.visitFull w) := by
  unfold State.visitFull
  repeat' first | with_reducible assumption | (intro _ _ _; try dsimp only) | with_reducible apply Keeps.visitCopy | with_reducible apply Keeps.passRange | with_reducible apply Keeps.askLine | with_reducible apply Keeps.skipRest | with_reducible apply Keeps.setWalk | with_reducible apply Keeps.unpin | fail_if_no_progress with_reducible refine Keeps.lit ?_ rfl rfl rfl rfl rfl rfl rfl rfl rfl | split

theorem Keeps.auditAnswer {s τ : State} (hk : Keeps s τ) (w : Walk) (verified : Bool) (replaced : List Nat) : Keeps s (τ.auditAnswer w verified replaced) := by
  unfold State.auditAnswer
  try dsimp only
  repeat' first | with_reducible assumption | (intro _ _ _; try dsimp only) | with_reducible apply Keeps.setWalk | with_reducible apply Keeps.unpin? | fail_if_no_progress with_reducible refine Keeps.lit ?_ rfl rfl rfl rfl rfl rfl rfl rfl rfl | split

theorem Keeps.auditLine {s τ : State} (hk : Keeps s τ) (w : Walk) (l : Fin 64) : Keeps s (τ.auditLine w l) := by
  unfold State.auditLine
  try dsimp only
  repeat' first | with_reducible assumption | (intro _ _ _; try dsimp only) | with_reducible apply Keeps.auditAnswer | with_reducible apply Keeps.setWalk | with_reducible apply Keeps.enqueue | with_reducible apply Keeps.setLine | fail_if_no_progress with_reducible refine Keeps.lit ?_ rfl rfl rfl rfl rfl rfl rfl rfl rfl | split

theorem Keeps.visitAudit {s τ : State} (hk : Keeps s τ) (w : Walk) : Keeps s (τ.visitAudit w) := by
  unfold State.visitAudit
  repeat' first | with_reducible assumption | (intro _ _ _; try dsimp only) | with_reducible apply Keeps.auditLine | with_reducible apply Keeps.passRange | with_reducible apply Keeps.askLine | with_reducible apply Keeps.skipRest | fail_if_no_progress with_reducible refine Keeps.lit ?_ rfl rfl rfl rfl rfl rfl rfl rfl rfl | split

theorem Keeps.startSeal {s τ : State} (hk : Keeps s τ) (w : Walk) : Keeps s (τ.startSeal w) := by
  unfold State.startSeal
  try dsimp only
  repeat' first | with_reducible assumption | (intro _ _ _; try dsimp only) | with_reducible apply Keeps.setWalk | with_reducible apply Keeps.abandonAll | fail_if_no_progress with_reducible refine Keeps.lit ?_ rfl rfl rfl rfl rfl rfl rfl rfl rfl | split

theorem Keeps.startReread {s τ : State} (hk : Keeps s τ) (w : Walk) (p : Plan) (r : Reread) : Keeps s (τ.startReread w p r) := by
  unfold State.startReread
  repeat' first | with_reducible assumption | (intro _ _ _; try dsimp only) | with_reducible apply Keeps.startRead | fail_if_no_progress with_reducible refine Keeps.lit ?_ rfl rfl rfl rfl rfl rfl rfl rfl rfl | split

theorem Keeps.reportFound {s τ : State} (hk : Keeps s τ) (w : Walk) (e : Entry) (c : CopyId) : Keeps s (τ.reportFound w e c) := by
  unfold State.reportFound
  repeat' first | with_reducible assumption | (intro _ _ _; try dsimp only) | with_reducible apply Keeps.foundMending | fail_if_no_progress with_reducible refine Keeps.lit ?_ rfl rfl rfl rfl rfl rfl rfl rfl rfl | split

theorem Keeps.visitPlan {s τ : State} (hk : Keeps s τ) (w : Walk) (l : Fin 64) : Keeps s (τ.visitPlan w l) := by
  unfold State.visitPlan
  try dsimp only
  repeat' first | with_reducible assumption | (intro _ _ _; try dsimp only) | with_reducible apply Keeps.reportFound | with_reducible apply Keeps.startReread | with_reducible apply Keeps.setWalk | fail_if_no_progress with_reducible refine Keeps.lit ?_ rfl rfl rfl rfl rfl rfl rfl rfl rfl | split

theorem Keeps.visitSeal {s τ : State} (hk : Keeps s τ) (w : Walk) : Keeps s (τ.visitSeal w) := by
  unfold State.visitSeal
  repeat' first | with_reducible assumption | (intro _ _ _; try dsimp only) | with_reducible apply Keeps.visitPlan | with_reducible apply Keeps.startSeal | with_reducible apply Keeps.askLine | with_reducible apply Keeps.skipRest | with_reducible apply Keeps.setWalk | with_reducible apply Keeps.unpin | fail_if_no_progress with_reducible refine Keeps.lit ?_ rfl rfl rfl rfl rfl rfl rfl rfl rfl | split

theorem Keeps.prepareLine {s τ : State} (hk : Keeps s τ) (w : Walk) (l : Fin 64) : Keeps s (τ.prepareLine w l) := by
  unfold State.prepareLine
  try dsimp only
  repeat' first | with_reducible assumption | (intro _ _ _; try dsimp only) | with_reducible apply Keeps.setWalk | with_reducible apply Keeps.queueWriteback | with_reducible apply Keeps.becomeDirty | with_reducible apply Keeps.unpin | with_reducible apply Keeps.setLine | fail_if_no_progress with_reducible refine Keeps.lit ?_ rfl rfl rfl rfl rfl rfl rfl rfl rfl | split

theorem Keeps.visitPrepare {s τ : State} (hk : Keeps s τ) (w : Walk) : Keeps s (τ.visitPrepare w) := by
  unfold State.visitPrepare
  repeat' first | with_reducible assumption | (intro _ _ _; try dsimp only) | with_reducible apply Keeps.prepareLine | with_reducible apply Keeps.askLine | with_reducible apply Keeps.skipRest | with_reducible apply Keeps.setWalk | fail_if_no_progress with_reducible refine Keeps.lit ?_ rfl rfl rfl rfl rfl rfl rfl rfl rfl | split

theorem Keeps.preparedBlock {s τ : State} (hk : Keeps s τ) (w : Walk) (good : Bool) : Keeps s (τ.preparedBlock w good) := by
  unfold State.preparedBlock
  try dsimp only
  repeat' first | with_reducible assumption | (intro _ _ _; try dsimp only) | with_reducible apply Keeps.setWalk | with_reducible apply Keeps.unpin? | fail_if_no_progress with_reducible refine Keeps.lit ?_ rfl rfl rfl rfl rfl rfl rfl rfl rfl | split

theorem Keeps.enterExtent {s τ : State} (hk : Keeps s τ) (w : Walk) : Keeps s (τ.enterExtent w) := by
  unfold State.enterExtent
  try dsimp only
  repeat' first | with_reducible assumption | (intro _ _ _; try dsimp only) | with_reducible apply Keeps.setWalk | fail_if_no_progress with_reducible refine Keeps.lit ?_ rfl rfl rfl rfl rfl rfl rfl rfl rfl | split

theorem Keeps.visit {s τ : State} (hk : Keeps s τ) (w : Walk) : Keeps s (τ.visit w) := by
  unfold State.visit
  repeat' first | with_reducible assumption | (intro _ _ _; try dsimp only) | with_reducible apply Keeps.enterExtent | with_reducible apply Keeps.visitPrepare | with_reducible apply Keeps.visitSeal | with_reducible apply Keeps.visitAudit | with_reducible apply Keeps.visitFull | fail_if_no_progress with_reducible refine Keeps.lit ?_ rfl rfl rfl rfl rfl rfl rfl rfl rfl | split

theorem Keeps.walkMove {s t u : State} (h : Keeps s t) (hu : t.walkMove = some u) : Keeps s u := by
  unfold State.walkMove at hu
  split at hu
  · cases hu
  · split at hu
    · cases hu
    · split at hu
      · cases hu; exact h.passRange _
      · split at hu
        · cases hu; exact h.stopWalk _
        · split at hu
          · cases hu; exact h.endWalk _
          · cases hu; exact h.visit _

theorem Keeps.walkLoop {s : State} : ∀ (n : Nat) {t : State}, Keeps s t → Keeps s (State.walkLoop n t)
  | 0, _, h => h
  | n + 1, t, h => by
    unfold State.walkLoop
    split
    · exact h
    · rename_i u hu
      exact Keeps.walkLoop n (h.walkMove hu)

theorem Keeps.walkRun {s t : State} (h : Keeps s t) : Keeps s t.walkRun := Keeps.walkLoop _ h

theorem Keeps.placeWalk {s τ : State} (hk : Keeps s τ) (w : Walk) : Keeps s (τ.placeWalk w) := by
  unfold State.placeWalk
  repeat' first | with_reducible assumption | (intro _ _ _; try dsimp only) | with_reducible apply Keeps.pushWalk | with_reducible apply Keeps.setWalk | fail_if_no_progress with_reducible refine Keeps.lit ?_ rfl rfl rfl rfl rfl rfl rfl rfl rfl | split

theorem Keeps.startWalk {s τ : State} (hk : Keeps s τ) (w : Walk) : Keeps s (τ.startWalk w) := by
  unfold State.startWalk
  repeat' first | with_reducible assumption | (intro _ _ _; try dsimp only) | with_reducible apply Keeps.placeWalk | with_reducible apply Keeps.walkRun | fail_if_no_progress with_reducible refine Keeps.lit ?_ rfl rfl rfl rfl rfl rfl rfl rfl rfl | split

theorem Keeps.rereadDone {s τ : State} (hk : Keeps s τ) (w : Walk) (step : PlanStep) : Keeps s (τ.rereadDone w step) := by
  unfold State.rereadDone
  try dsimp only
  repeat' first | with_reducible assumption | (intro _ _ _; try dsimp only) | with_reducible apply Keeps.setWalk | fail_if_no_progress with_reducible refine Keeps.lit ?_ rfl rfl rfl rfl rfl rfl rfl rfl rfl | split

theorem Keeps.sealAnswer {s τ : State} (hk : Keeps s τ) (w : Walk) (p : Plan) (r : Reread) (a b : Nat) (ans : Answer) : Keeps s (τ.sealAnswer w p r a b ans) := by
  unfold State.sealAnswer
  try dsimp only
  repeat' first | with_reducible assumption | (intro _ _ _; try dsimp only) | with_reducible apply Keeps.rereadDone | with_reducible apply Keeps.logCopy | fail_if_no_progress with_reducible refine Keeps.lit ?_ rfl rfl rfl rfl rfl rfl rfl rfl rfl | split

theorem Keeps.walkAnswer {s τ : State} (hk : Keeps s τ) (a b : Nat) (ans : Answer) : Keeps s (τ.walkAnswer a b ans) := by
  unfold State.walkAnswer
  try dsimp only
  repeat' first | with_reducible assumption | (intro _ _ _; try dsimp only) | with_reducible apply Keeps.sealAnswer | with_reducible apply Keeps.setWalk | with_reducible apply Keeps.logVerdict | with_reducible apply Keeps.tell | fail_if_no_progress with_reducible refine Keeps.lit ?_ rfl rfl rfl rfl rfl rfl rfl rfl rfl | split

theorem Keeps.completeScrub {s τ : State} (hk : Keeps s τ)  : Keeps s (τ.completeScrub) := by
  unfold State.completeScrub
  try dsimp only
  repeat' first | with_reducible assumption | (intro _ _ _; try dsimp only) | with_reducible apply Keeps.walkAnswer | with_reducible apply Keeps.setWalk | with_reducible apply Keeps.await | with_reducible apply Keeps.submit | with_reducible apply Keeps.endAccum | fail_if_no_progress with_reducible refine Keeps.lit ?_ rfl rfl rfl rfl rfl rfl rfl rfl rfl | split

theorem Keeps.walkFailed {s τ : State} (hk : Keeps s τ) (chunk : Nat) (media : Bool) : Keeps s (τ.walkFailed chunk media) := by
  unfold State.walkFailed
  try dsimp only
  repeat' first | with_reducible assumption | (intro _ _ _; try dsimp only) | with_reducible apply Keeps.rereadDone | with_reducible apply Keeps.clearWalk | with_reducible apply Keeps.setWalk | with_reducible apply Keeps.tell | with_reducible apply Keeps.abandon | with_reducible apply Keeps.logCopy | fail_if_no_progress with_reducible refine Keeps.lit ?_ rfl rfl rfl rfl rfl rfl rfl rfl rfl | split

theorem Keeps.walkLostCopy {s τ : State} (hk : Keeps s τ)  : Keeps s (τ.walkLostCopy) := by
  unfold State.walkLostCopy
  repeat' first | with_reducible assumption | (intro _ _ _; try dsimp only) | with_reducible apply Keeps.walkAnswer | with_reducible apply Keeps.walkRun | with_reducible apply Keeps.clearWalk | fail_if_no_progress with_reducible refine Keeps.lit ?_ rfl rfl rfl rfl rfl rfl rfl rfl rfl | split

theorem Keeps.pokeWalk {s τ : State} (hk : Keeps s τ)  : Keeps s (τ.pokeWalk) := by
  unfold State.pokeWalk
  repeat' first | with_reducible assumption | (intro _ _ _; try dsimp only) | with_reducible apply Keeps.walkRun | with_reducible apply Keeps.setWalk | fail_if_no_progress with_reducible refine Keeps.lit ?_ rfl rfl rfl rfl rfl rfl rfl rfl rfl | split

end Sys2Proof.Machine
end

