-- ==== Sys2Proof/Laws/KeepMendEngine.lean ====
section
/-!
SUPPORT. `Keeps` through the operations of Machine/MendEngine.lean.
-/

namespace Sys2Proof.Machine

theorem Keeps.feedCopy {s τ : State} (hk : Keeps s τ) (m : Mend) : Keeps s (τ.feedCopy m) := by
  unfold State.feedCopy
  repeat' first | with_reducible assumption | (intro _ _ _; try dsimp only) | with_reducible apply Keeps.setMend | with_reducible apply Keeps.enqueue | fail_if_no_progress with_reducible refine Keeps.lit ?_ rfl rfl rfl rfl rfl rfl rfl rfl rfl | split

theorem Keeps.feedMend {s τ : State} (hk : Keeps s τ)  : Keeps s (τ.feedMend) := by
  unfold State.feedMend
  try dsimp only
  repeat' first | with_reducible assumption | (intro _ _ _; try dsimp only) | with_reducible apply Keeps.feedCopy | with_reducible apply Keeps.setMend | with_reducible apply Keeps.enqueue | with_reducible apply Keeps.forEach | fail_if_no_progress with_reducible refine Keeps.lit ?_ rfl rfl rfl rfl rfl rfl rfl rfl rfl | split

theorem Keeps.startPhase {s τ : State} (hk : Keeps s τ) (m : Mend) (phase : MendPhase) : Keeps s (τ.startPhase m phase) := by
  unfold State.startPhase
  repeat' first | with_reducible assumption | (intro _ _ _; try dsimp only) | with_reducible apply Keeps.feedMend | with_reducible apply Keeps.setMend | fail_if_no_progress with_reducible refine Keeps.lit ?_ rfl rfl rfl rfl rfl rfl rfl rfl rfl | split

theorem Keeps.discardMend {s τ : State} (hk : Keeps s τ)  : Keeps s (τ.discardMend) := by
  unfold State.discardMend
  repeat' first | with_reducible assumption | (intro _ _ _; try dsimp only) | with_reducible apply Keeps.setMend | with_reducible apply Keeps.unpin? | fail_if_no_progress with_reducible refine Keeps.lit ?_ rfl rfl rfl rfl rfl rfl rfl rfl rfl | split

theorem Keeps.beginMend {s τ : State} (hk : Keeps s τ)  : Keeps s (τ.beginMend) := by
  unfold State.beginMend
  try dsimp only
  repeat' first | with_reducible assumption | (intro _ _ _; try dsimp only) | with_reducible apply Keeps.startPhase | with_reducible apply Keeps.walkLostCopy | with_reducible apply Keeps.abandonAll | with_reducible apply Keeps.abandon | fail_if_no_progress with_reducible refine Keeps.lit ?_ rfl rfl rfl rfl rfl rfl rfl rfl rfl | split

theorem Keeps.marked {s τ : State} (hk : Keeps s τ) (ans : Answer) : Keeps s (τ.marked ans) := by
  unfold State.marked
  repeat' first | with_reducible assumption | (intro _ _ _; try dsimp only) | with_reducible apply Keeps.beginMend | with_reducible apply Keeps.discardMend | fail_if_no_progress with_reducible refine Keeps.lit ?_ rfl rfl rfl rfl rfl rfl rfl rfl rfl | split

theorem Keeps.mendHeld {s τ : State} (hk : Keeps s τ) (m : Mend) (l : Fin 64) : Keeps s (τ.mendHeld m l) := by
  unfold State.mendHeld
  try dsimp only
  repeat' first | with_reducible assumption | (intro _ _ _; try dsimp only) | with_reducible apply Keeps.marked | with_reducible apply Keeps.discardMend | with_reducible apply Keeps.startPhase | with_reducible apply Keeps.submit | with_reducible apply Keeps.setMend | fail_if_no_progress with_reducible refine Keeps.lit ?_ rfl rfl rfl rfl rfl rfl rfl rfl rfl | split

theorem Keeps.mendGotLine {s τ : State} (hk : Keeps s τ) (m : Mend) (l : Fin 64) : Keeps s (τ.mendGotLine m l) := by
  unfold State.mendGotLine
  try dsimp only
  repeat' first | with_reducible assumption | (intro _ _ _; try dsimp only) | with_reducible apply Keeps.mendHeld | with_reducible apply Keeps.setMend | fail_if_no_progress with_reducible refine Keeps.lit ?_ rfl rfl rfl rfl rfl rfl rfl rfl rfl | split

theorem Keeps.mendAsk {s τ : State} (hk : Keeps s τ) (m : Mend) : Keeps s (τ.mendAsk m) := by
  unfold State.mendAsk
  try dsimp only
  repeat' first | with_reducible assumption | (intro _ _ _; try dsimp only) | with_reducible apply Keeps.mendGotLine | with_reducible apply Keeps.setMend | with_reducible apply Keeps.requestLine | fail_if_no_progress with_reducible refine Keeps.lit ?_ rfl rfl rfl rfl rfl rfl rfl rfl rfl | split

theorem Keeps.takeMend {s : State} : ∀ (n : Nat) {t : State}, Keeps s t → Keeps s (State.takeMend n t)
  | 0, _, h => h
  | n + 1, t, h => by
    unfold State.takeMend
    split
    · exact h
    · rename_i k rest hr
      have h1 : Keeps s { t with mend := { t.mend with queue := rest } } := by
        apply h.withMend
        rintro ⟨hl, hn⟩
        rw [hr] at hl hn
        exact ⟨by simp at hl; simp; omega, (List.nodup_cons.mp hn).2⟩
      dsimp only
      split
      · split
        · exact Keeps.takeMend n (h1.mendAsk _)
        · exact h1.mendAsk _
      · exact Keeps.takeMend n h1

theorem Keeps.attemptFailed {s τ : State} (hk : Keeps s τ) (m : Mend) (reason : Nat) : Keeps s (τ.attemptFailed m reason) := by
  unfold State.attemptFailed
  repeat' first | with_reducible assumption | (intro _ _ _; try dsimp only) | with_reducible apply Keeps.startPhase | with_reducible apply Keeps.submitClosing | fail_if_no_progress with_reducible refine Keeps.lit ?_ rfl rfl rfl rfl rfl rfl rfl rfl rfl | split

theorem Keeps.compared {s τ : State} (hk : Keeps s τ) (m : Mend) (a b : Nat) (ans : Answer) : Keeps s (τ.compared m a b ans) := by
  unfold State.compared
  repeat' first | with_reducible assumption | (intro _ _ _; try dsimp only) | with_reducible apply Keeps.attemptFailed | with_reducible apply Keeps.startPhase | with_reducible apply Keeps.endMend | with_reducible apply Keeps.finishMend | with_reducible apply Keeps.setMend | fail_if_no_progress with_reducible refine Keeps.lit ?_ rfl rfl rfl rfl rfl rfl rfl rfl rfl | split

theorem Keeps.mendAnswer {s τ : State} (hk : Keeps s τ) (a b : Nat) (ans : Answer) : Keeps s (τ.mendAnswer a b ans) := by
  unfold State.mendAnswer
  repeat' first | with_reducible assumption | with_reducible apply Keeps.compared | split

theorem Keeps.completeMend {s τ : State} (hk : Keeps s τ)  : Keeps s (τ.completeMend) := by
  unfold State.completeMend
  try dsimp only
  repeat' first | with_reducible assumption | (intro _ _ _; try dsimp only) | with_reducible apply Keeps.mendAnswer | with_reducible apply Keeps.submit | with_reducible apply Keeps.setMend | with_reducible apply Keeps.endAccum | fail_if_no_progress with_reducible refine Keeps.lit ?_ rfl rfl rfl rfl rfl rfl rfl rfl rfl | split

theorem Keeps.mendFailed {s τ : State} (hk : Keeps s τ) (chunk : Nat) (copy : CopyId) (media : Bool) : Keeps s (τ.mendFailed chunk copy media) := by
  unfold State.mendFailed
  try dsimp only
  repeat' first | with_reducible assumption | (intro _ _ _; try dsimp only) | with_reducible apply Keeps.attemptFailed | with_reducible apply Keeps.tell | with_reducible apply Keeps.stopMendWork | with_reducible apply Keeps.submitClosing | with_reducible apply Keeps.setMend | with_reducible apply Keeps.logCopy | fail_if_no_progress with_reducible refine Keeps.lit ?_ rfl rfl rfl rfl rfl rfl rfl rfl rfl | split

theorem Keeps.cutMend {s τ : State} (hk : Keeps s τ)  : Keeps s (τ.cutMend) := by
  unfold State.cutMend
  repeat' first | with_reducible assumption | (intro _ _ _; try dsimp only) | with_reducible apply Keeps.stopMendWork | with_reducible apply Keeps.setMend | fail_if_no_progress with_reducible refine Keeps.lit ?_ rfl rfl rfl rfl rfl rfl rfl rfl rfl | split

theorem Keeps.uncutMend {s τ : State} (hk : Keeps s τ)  : Keeps s (τ.uncutMend) := by
  unfold State.uncutMend
  repeat' first | with_reducible assumption | (intro _ _ _; try dsimp only) | with_reducible apply Keeps.startPhase | fail_if_no_progress with_reducible refine Keeps.lit ?_ rfl rfl rfl rfl rfl rfl rfl rfl rfl | split

theorem Keeps.resetMend {s τ : State} (hk : Keeps s τ)  : Keeps s (τ.resetMend) := by
  unfold State.resetMend
  try dsimp only
  repeat' first | with_reducible assumption | (intro _ _ _; try dsimp only) | with_reducible apply Keeps.mendAsk | with_reducible apply Keeps.stopMendWork | with_reducible apply Keeps.setMend | fail_if_no_progress with_reducible refine Keeps.lit ?_ rfl rfl rfl rfl rfl rfl rfl rfl rfl | split

theorem Keeps.frameTests {s t : State} (h : Keeps s t) (q : FrameAsk) (l : Fin 64) : Keeps s (t.frameTests q l) := by
  unfold State.frameTests
  dsimp only
  repeat' split
  all_goals apply Keeps.answerFrame
  all_goals first | exact h | skip
  rename_i hp _ _ hl
  apply h.withMend
  intro hf
  unfold State.mendPresent at hp
  exact MendEngine.fits_join _ q.key hf (by simp_all) (by omega)

theorem Keeps.setAsk {s τ : State} (hk : Keeps s τ) (q : FrameAsk) : Keeps s (τ.setAsk q) := by
  unfold State.setAsk
  repeat' first | with_reducible assumption | (intro _ _ _; try dsimp only) | fail_if_no_progress with_reducible refine Keeps.lit ?_ rfl rfl rfl rfl rfl rfl rfl rfl rfl | split

theorem Keeps.frameHeld {s τ : State} (hk : Keeps s τ) (q : FrameAsk) (l : Fin 64) : Keeps s (τ.frameHeld q l) := by
  unfold State.frameHeld
  try dsimp only
  repeat' first | with_reducible assumption | (intro _ _ _; try dsimp only) | with_reducible apply Keeps.setAsk | with_reducible apply Keeps.frameTests | with_reducible apply Keeps.submit | fail_if_no_progress with_reducible refine Keeps.lit ?_ rfl rfl rfl rfl rfl rfl rfl rfl rfl | split

theorem Keeps.frameGotLine {s τ : State} (hk : Keeps s τ) (q : FrameAsk) (l : Fin 64) : Keeps s (τ.frameGotLine q l) := by
  unfold State.frameGotLine
  try dsimp only
  repeat' first | with_reducible assumption | (intro _ _ _; try dsimp only) | with_reducible apply Keeps.frameHeld | with_reducible apply Keeps.setAsk | fail_if_no_progress with_reducible refine Keeps.lit ?_ rfl rfl rfl rfl rfl rfl rfl rfl rfl | split

theorem Keeps.frameAsk {s τ : State} (hk : Keeps s τ) (k : FrameKey) : Keeps s (τ.frameAsk k) := by
  unfold State.frameAsk
  try dsimp only
  repeat' first | with_reducible assumption | (intro _ _ _; try dsimp only) | with_reducible apply Keeps.frameGotLine | with_reducible apply Keeps.setAsk | with_reducible apply Keeps.requestLine | fail_if_no_progress with_reducible refine Keeps.lit ?_ rfl rfl rfl rfl rfl rfl rfl rfl rfl | split

end Sys2Proof.Machine
end

