-- ==== Sys2Proof/Laws/KeepResults.lean ====
section
/-!
SUPPORT. `Keeps` through the operations of Machine/Results.lean.
-/

namespace Sys2Proof.Machine

theorem Keeps.deliver {s τ : State} (hk : Keeps s τ) (l : Fin 64) (w : Waiting) (ans : Answer) : Keeps s (τ.deliver l w ans) := by
  unfold State.deliver
  try dsimp only
  repeat' first | with_reducible assumption | (intro _ _ _; try dsimp only) | with_reducible apply Keeps.frameTests | with_reducible apply Keeps.mendAnswer | with_reducible apply Keeps.marked | with_reducible apply Keeps.walkAnswer | with_reducible apply Keeps.walkRun | with_reducible apply Keeps.finishCheck | with_reducible apply Keeps.finishMend | with_reducible apply Keeps.setMend | with_reducible apply Keeps.answerFrame | with_reducible apply Keeps.endAccum | fail_if_no_progress with_reducible refine Keeps.lit ?_ rfl rfl rfl rfl rfl rfl rfl rfl rfl | split

theorem Keeps.takeWaiting {s τ : State} (hk : Keeps s τ) (l : Fin 64) (w : Waiting) : Keeps s (τ.takeWaiting l w) := by
  unfold State.takeWaiting
  try dsimp only
  repeat' first | with_reducible assumption | (intro _ _ _; try dsimp only) | with_reducible apply Keeps.deliver | with_reducible apply Keeps.applyNow | with_reducible apply Keeps.applyClosing | fail_if_no_progress with_reducible refine Keeps.lit ?_ rfl rfl rfl rfl rfl rfl rfl rfl rfl | split

theorem Keeps.drain {s : State} : ∀ (n : Nat) (l : Fin 64) {t : State}, Keeps s t → Keeps s (State.drain n l t)
  | 0, _, _, h => h
  | n + 1, l, t, h => by
    unfold State.drain
    split
    · exact h
    · split
      · exact h
      · exact Keeps.drain n l ((h.setLine _ _).takeWaiting _ _)

theorem Keeps.failWaiting {s τ : State} (hk : Keeps s τ) (l : Fin 64) (ws : List Waiting) : Keeps s (τ.failWaiting l ws) := by
  unfold State.failWaiting
  try dsimp only
  repeat' first | with_reducible assumption | (intro _ _ _; try dsimp only) | with_reducible apply Keeps.deliver | with_reducible apply Keeps.forEach | fail_if_no_progress with_reducible refine Keeps.lit ?_ rfl rfl rfl rfl rfl rfl rfl rfl rfl | split

theorem Keeps.answerHead {s τ : State} (hk : Keeps s τ) (status : UpStatus) : Keeps s (τ.answerHead status) := by
  unfold State.answerHead
  try dsimp only
  repeat' first | with_reducible assumption | (intro _ _ _; try dsimp only) | with_reducible apply Keeps.endSlot | with_reducible apply Keeps.dropRequests | with_reducible apply Keeps.sendUp | fail_if_no_progress with_reducible refine Keeps.lit ?_ rfl rfl rfl rfl rfl rfl rfl rfl rfl | split

theorem Keeps.logDamage {s τ : State} (hk : Keeps s τ) (e : Fin 1024) (d : Damage) : Keeps s (τ.logDamage e d) := by
  unfold State.logDamage
  repeat' first | with_reducible assumption | (intro _ _ _; try dsimp only) | with_reducible apply Keeps.reportMend | with_reducible apply Keeps.log | fail_if_no_progress with_reducible refine Keeps.lit ?_ rfl rfl rfl rfl rfl rfl rfl rfl rfl | split

theorem Keeps.takeEntries {s τ : State} (hk : Keeps s τ) (l : Fin 64) (data : List Byte) : Keeps s (τ.takeEntries l data).1 := by
  unfold State.takeEntries
  try dsimp only
  repeat' first | with_reducible assumption | (intro _ _ _; try dsimp only) | with_reducible apply Keeps.logDamage | with_reducible apply Keeps.becomeDirty | with_reducible apply Keeps.setLine | with_reducible apply Keeps.forEach | fail_if_no_progress with_reducible refine Keeps.lit ?_ rfl rfl rfl rfl rfl rfl rfl rfl rfl | split

theorem Keeps.logLineFailure {s τ : State} (hk : Keeps s τ) (kind : FindingKind) (l : Fin 64) : Keeps s (τ.logLineFailure kind l) := by
  unfold State.logLineFailure
  try dsimp only
  repeat' first | with_reducible assumption | (intro _ _ _; try dsimp only) | with_reducible apply Keeps.log | fail_if_no_progress with_reducible refine Keeps.lit ?_ rfl rfl rfl rfl rfl rfl rfl rfl rfl | split

theorem Keeps.walkLineRead {s τ : State} (hk : Keeps s τ) (l : Fin 64) (verified : Bool) (replaced : List Nat) : Keeps s (τ.walkLineRead l verified replaced) := by
  unfold State.walkLineRead
  repeat' first | with_reducible assumption | (intro _ _ _; try dsimp only) | with_reducible apply Keeps.walkRun | with_reducible apply Keeps.auditAnswer | with_reducible apply Keeps.setWalk | fail_if_no_progress with_reducible refine Keeps.lit ?_ rfl rfl rfl rfl rfl rfl rfl rfl rfl | split

theorem Keeps.lineFilled {s τ : State} (hk : Keeps s τ) (l : Fin 64) : Keeps s (τ.lineFilled l) := by
  unfold State.lineFilled
  try dsimp only
  repeat' first | with_reducible assumption | (intro _ _ _; try dsimp only) | with_reducible apply Keeps.frameHeld | with_reducible apply Keeps.mendHeld | fail_if_no_progress with_reducible refine Keeps.lit ?_ rfl rfl rfl rfl rfl rfl rfl rfl rfl | split

theorem Keeps.fillGood {s τ : State} (hk : Keeps s τ) (l : Fin 64) (data : List Byte) : Keeps s (τ.fillGood l data) := by
  unfold State.fillGood
  try dsimp only
  repeat' first | with_reducible assumption | (intro _ _ _; try dsimp only) | with_reducible apply Keeps.lineFilled | with_reducible apply Keeps.walkLineRead | with_reducible apply Keeps.takeEntries | with_reducible apply Keeps.drain | fail_if_no_progress with_reducible refine Keeps.lit ?_ rfl rfl rfl rfl rfl rfl rfl rfl rfl | split

theorem Keeps.fillLost {s τ : State} (hk : Keeps s τ) (l : Fin 64) : Keeps s (τ.fillLost l) := by
  unfold State.fillLost
  try dsimp only
  repeat' first | with_reducible assumption | (intro _ _ _; try dsimp only) | with_reducible apply Keeps.answerHead | with_reducible apply Keeps.failWaiting | with_reducible apply Keeps.discardMend | with_reducible apply Keeps.walkRun | with_reducible apply Keeps.auditAnswer | with_reducible apply Keeps.skipBlock | with_reducible apply Keeps.answerFrame | with_reducible apply Keeps.invalidate | fail_if_no_progress with_reducible refine Keeps.lit ?_ rfl rfl rfl rfl rfl rfl rfl rfl rfl | split

theorem Keeps.fillEnded {s τ : State} (hk : Keeps s τ) (l : Fin 64) (e : MediaEnd) : Keeps s (τ.fillEnded l e) := by
  unfold State.fillEnded
  repeat' first | with_reducible assumption | (intro _ _ _; try dsimp only) | with_reducible apply Keeps.fillLost | with_reducible apply Keeps.fillGood | with_reducible apply Keeps.logLineFailure | fail_if_no_progress with_reducible refine Keeps.lit ?_ rfl rfl rfl rfl rfl rfl rfl rfl rfl | split

theorem Keeps.refillLost {s τ : State} (hk : Keeps s τ) (l : Fin 64) : Keeps s (τ.refillLost l) := by
  unfold State.refillLost
  try dsimp only
  repeat' first | with_reducible assumption | (intro _ _ _; try dsimp only) | with_reducible apply Keeps.lineFilled | with_reducible apply Keeps.walkLineRead | with_reducible apply Keeps.drain | with_reducible apply Keeps.setLine | fail_if_no_progress with_reducible refine Keeps.lit ?_ rfl rfl rfl rfl rfl rfl rfl rfl rfl | split

theorem Keeps.refillEnded {s τ : State} (hk : Keeps s τ) (l : Fin 64) (e : MediaEnd) : Keeps s (τ.refillEnded l e) := by
  unfold State.refillEnded
  repeat' first | with_reducible assumption | (intro _ _ _; try dsimp only) | with_reducible apply Keeps.refillLost | with_reducible apply Keeps.fillGood | with_reducible apply Keeps.logLineFailure | fail_if_no_progress with_reducible refine Keeps.lit ?_ rfl rfl rfl rfl rfl rfl rfl rfl rfl | split

theorem Keeps.nextVictim {s τ : State} (hk : Keeps s τ) (l : Fin 64) : Keeps s (τ.nextVictim l) := by
  unfold State.nextVictim
  repeat' first | with_reducible assumption | (intro _ _ _; try dsimp only) | with_reducible apply Keeps.queueEviction | fail_if_no_progress with_reducible refine Keeps.lit ?_ rfl rfl rfl rfl rfl rfl rfl rfl rfl | split

theorem Keeps.writebackGood {s τ : State} (hk : Keeps s τ) (l : Fin 64) : Keeps s (τ.writebackGood l) := by
  unfold State.writebackGood
  try dsimp only
  repeat' first | with_reducible assumption | (intro _ _ _; try dsimp only) | with_reducible apply Keeps.nextVictim | with_reducible apply Keeps.queueWriteback | with_reducible apply Keeps.becomeDirty | with_reducible apply Keeps.setLine | fail_if_no_progress with_reducible refine Keeps.lit ?_ rfl rfl rfl rfl rfl rfl rfl rfl rfl | split

theorem Keeps.writebackFailed {s τ : State} (hk : Keeps s τ) (l : Fin 64) (kind : FindingKind) : Keeps s (τ.writebackFailed l kind) := by
  unfold State.writebackFailed
  try dsimp only
  repeat' first | with_reducible assumption | (intro _ _ _; try dsimp only) | with_reducible apply Keeps.nextVictim | with_reducible apply Keeps.logLineFailure | with_reducible apply Keeps.queueWriteback | with_reducible apply Keeps.becomeDirty | with_reducible apply Keeps.setLine | fail_if_no_progress with_reducible refine Keeps.lit ?_ rfl rfl rfl rfl rfl rfl rfl rfl rfl | split

theorem Keeps.writebackEnded {s τ : State} (hk : Keeps s τ) (l : Fin 64) (e : MediaEnd) : Keeps s (τ.writebackEnded l e) := by
  unfold State.writebackEnded
  try dsimp only
  repeat' first | with_reducible assumption | (intro _ _ _; try dsimp only) | with_reducible apply Keeps.writebackFailed | with_reducible apply Keeps.writebackGood | with_reducible apply Keeps.walkRun | with_reducible apply Keeps.preparedBlock | with_reducible apply Keeps.flushLine | fail_if_no_progress with_reducible refine Keeps.lit ?_ rfl rfl rfl rfl rfl rfl rfl rfl rfl | split

theorem Keeps.commitInjected {s τ : State} (hk : Keeps s τ) (cs : List Contribution) (data : List Byte) : Keeps s (τ.commitInjected cs data) := by
  unfold State.commitInjected
  try dsimp only
  repeat' first | with_reducible assumption | (intro _ _ _; try dsimp only) | with_reducible apply Keeps.commit | with_reducible apply Keeps.forEach | fail_if_no_progress with_reducible refine Keeps.lit ?_ rfl rfl rfl rfl rfl rfl rfl rfl rfl | split

theorem Keeps.walkChunkEnded {s τ : State} (hk : Keeps s τ) (x : Slot) (chunk : Nat) (e : MediaEnd) : Keeps s (τ.walkChunkEnded x chunk e) := by
  unfold State.walkChunkEnded
  try dsimp only
  repeat' first | with_reducible assumption | (intro _ _ _; try dsimp only) | with_reducible apply Keeps.commitInjected | with_reducible apply Keeps.walkFailed | with_reducible apply Keeps.completeScrub | with_reducible apply Keeps.walkRun | with_reducible apply Keeps.feedWalk | fail_if_no_progress with_reducible refine Keeps.lit ?_ rfl rfl rfl rfl rfl rfl rfl rfl rfl | split

theorem Keeps.mendReadEnded {s τ : State} (hk : Keeps s τ) (x : Slot) (chunk : Nat) (e : MediaEnd) : Keeps s (τ.mendReadEnded x chunk e) := by
  unfold State.mendReadEnded
  try dsimp only
  repeat' first | with_reducible assumption | (intro _ _ _; try dsimp only) | with_reducible apply Keeps.commitInjected | with_reducible apply Keeps.mendFailed | with_reducible apply Keeps.completeMend | with_reducible apply Keeps.feedMend | with_reducible apply Keeps.setMend | fail_if_no_progress with_reducible refine Keeps.lit ?_ rfl rfl rfl rfl rfl rfl rfl rfl rfl | split

theorem Keeps.mendWriteEnded {s τ : State} (hk : Keeps s τ) (x : Slot) (chunk : Nat) (e : MediaEnd) : Keeps s (τ.mendWriteEnded x chunk e) := by
  unfold State.mendWriteEnded
  repeat' first | with_reducible assumption | (intro _ _ _; try dsimp only) | with_reducible apply Keeps.mendFailed | with_reducible apply Keeps.startPhase | with_reducible apply Keeps.feedMend | fail_if_no_progress with_reducible refine Keeps.lit ?_ rfl rfl rfl rfl rfl rfl rfl rfl rfl | split

theorem Keeps.statusGood {s t : State} (h : Keeps s t) (shot : StatusShot) : Keeps s (t.statusGood shot) := by
  have hr : ∀ sel, Keeps s { t with rep := { t.rep with
      flags := Vector.ofFn fun i : Fin 6 => (t.rep.flags[i]).remember shot.shown[i] shot.count,
      selection := sel, statusShot := none } } := by
    intro sel
    refine h.withRep _ ?_ (fun x => x) rfl rfl
    intro i hi
    simp only [Fin.getElem_fin, Vector.getElem_ofFn]
    unfold Flag.remember
    split <;> exact hi
  unfold State.statusGood
  dsimp only
  apply Keeps.pumpStatus
  split
  · exact (hr _).reportBatch
  · exact hr _

theorem Keeps.statusEnded {s τ : State} (hk : Keeps s τ) (good : Bool) : Keeps s (τ.statusEnded good) := by
  unfold State.statusEnded
  repeat' first | with_reducible assumption | (intro _ _ _; try dsimp only) | with_reducible apply Keeps.statusGood | with_reducible apply Keeps.statusDue | fail_if_no_progress with_reducible refine Keeps.lit ?_ rfl rfl rfl rfl rfl rfl rfl rfl rfl | split

theorem Keeps.logGood {s t : State} (h : Keeps s t) (shot : LogShot) : Keeps s (t.logGood shot) := by
  unfold State.logGood
  split
  · split
    · exact h
    · rename_i b fs rest hc
      apply Keeps.recordLog
      refine h.withRep _ (fun _ x => x) ?_ rfl rfl
      unfold Report.fits
      rw [hc]
      simp
      omega
  · dsimp only
    have h1 := h.withRep { t.rep with writtenHead := ‹Nat› } (fun _ x => x) (fun x => x) rfl rfl
    split
    · exact h1.recordLog
    · exact h1

theorem Report.logLost_eq (r : Report) : r.logLost.flags = r.flags ∧ r.logLost.completed = r.completed ∧
    r.logLost.clock = r.clock ∧ r.logLost.updateCount = r.updateCount := by
  unfold Report.logLost
  repeat' split
  all_goals exact ⟨rfl, rfl, rfl, rfl⟩

theorem Keeps.logLost {s t : State} (h : Keeps s t) : Keeps s { t with rep := t.rep.logLost } := by
  obtain ⟨a, b, c, d⟩ := t.rep.logLost_eq
  refine h.withRep _ (fun i x => by rw [a]; exact x) ?_ c d
  unfold Report.fits
  rw [b]
  exact id

theorem Keeps.logEnded {s t : State} (h : Keeps s t) (good : Bool) : Keeps s (t.logEnded good) := by
  unfold State.logEnded
  split
  · exact h
  · split
    · have h1 := h.withRep { t.rep with logShot := none } (fun _ x => x) (fun x => x) rfl rfl
      exact ((h1.logGood _).resumeLog).pumpLog
    · exact h.logLost.pumpLog

theorem Keeps.logCatalogue {s τ : State} (hk : Keeps s τ) (kind : FindingKind) (b : Fin 17) : Keeps s (τ.logCatalogue kind b) := by
  unfold State.logCatalogue
  try dsimp only
  repeat' first | with_reducible assumption | (intro _ _ _; try dsimp only) | with_reducible apply Keeps.log | fail_if_no_progress with_reducible refine Keeps.lit ?_ rfl rfl rfl rfl rfl rfl rfl rfl rfl | split

theorem Keeps.catalogueEnded {s τ : State} (hk : Keeps s τ) (b : Fin 17) (e : MediaEnd) : Keeps s (τ.catalogueEnded b e) := by
  unfold State.catalogueEnded
  try dsimp only
  repeat' first | with_reducible assumption | (intro _ _ _; try dsimp only) | with_reducible apply Keeps.logCatalogue | with_reducible apply Keeps.flushBlock | with_reducible apply Keeps.queueCat | with_reducible apply Keeps.setCat | fail_if_no_progress with_reducible refine Keeps.lit ?_ rfl rfl rfl rfl rfl rfl rfl rfl rfl | split

end Sys2Proof.Machine
end

