-- ==== Sys2Proof/Laws/KeepSwitch.lean ====
section
/-!
SUPPORT. `Keeps` through the operations of Machine/Switch.lean.
-/

namespace Sys2Proof.Machine

theorem Keeps.setHead {s τ : State} (hk : Keeps s τ) (h : Option Head) : Keeps s (τ.setHead h) := by
  unfold State.setHead
  repeat' first | with_reducible assumption | (intro _ _ _; try dsimp only) | fail_if_no_progress with_reducible refine Keeps.lit ?_ rfl rfl rfl rfl rfl rfl rfl rfl rfl | split

theorem Keeps.sendSlot {s τ : State} (hk : Keeps s τ) (i : Fin 256) (r : Request) : Keeps s (τ.sendSlot i r) := by
  unfold State.sendSlot
  repeat' first | with_reducible assumption | (intro _ _ _; try dsimp only) | with_reducible apply Keeps.sendMedia | with_reducible apply Keeps.setSlot | fail_if_no_progress with_reducible refine Keeps.lit ?_ rfl rfl rfl rfl rfl rfl rfl rfl rfl | split

theorem Keeps.offerCheck {s τ : State} (hk : Keeps s τ) (i : Fin 256) (t : Touched) : Keeps s (τ.offerCheck i t) := by
  unfold State.offerCheck
  try dsimp only
  repeat' first | with_reducible assumption | (intro _ _ _; try dsimp only) | with_reducible apply Keeps.foundMending | with_reducible apply Keeps.joinRead | with_reducible apply Keeps.openAccum | with_reducible apply Keeps.requestLineNow | with_reducible apply Keeps.unpin | fail_if_no_progress with_reducible refine Keeps.lit ?_ rfl rfl rfl rfl rfl rfl rfl rfl rfl | split

theorem Keeps.readProceeds {s τ : State} (hk : Keeps s τ) (i : Fin 256) (r : Request) (checked : Bool) : Keeps s (τ.readProceeds i r checked) := by
  unfold State.readProceeds
  try dsimp only
  repeat' first | with_reducible assumption | (intro _ _ _; try dsimp only) | with_reducible apply Keeps.offerCheck | with_reducible apply Keeps.sendSlot | with_reducible apply Keeps.setHead | with_reducible apply Keeps.forEach | fail_if_no_progress with_reducible refine Keeps.lit ?_ rfl rfl rfl rfl rfl rfl rfl rfl rfl | split

theorem Keeps.logRefused {s τ : State} (hk : Keeps s τ) (r : Request) (block : Nat) : Keeps s (τ.logRefused r block) := by
  unfold State.logRefused
  repeat' first | with_reducible assumption | (intro _ _ _; try dsimp only) | with_reducible apply Keeps.log | fail_if_no_progress with_reducible refine Keeps.lit ?_ rfl rfl rfl rfl rfl rfl rfl rfl rfl | split

theorem Keeps.offerSeal {s τ : State} (hk : Keeps s τ) (i : Fin 256) (data : List Byte) (t : Touched) : Keeps s (τ.offerSeal i data t) := by
  unfold State.offerSeal
  repeat' first | with_reducible assumption | (intro _ _ _; try dsimp only) | with_reducible apply Keeps.joinSeal | with_reducible apply Keeps.openAccum | with_reducible apply Keeps.pin | fail_if_no_progress with_reducible refine Keeps.lit ?_ rfl rfl rfl rfl rfl rfl rfl rfl rfl | split

theorem Keeps.acceptCopy {s τ : State} (hk : Keeps s τ) (k : FrameKey) : Keeps s (τ.acceptCopy k) := by
  unfold State.acceptCopy
  repeat' first | with_reducible assumption | (intro _ _ _; try dsimp only) | with_reducible apply Keeps.tell | fail_if_no_progress with_reducible refine Keeps.lit ?_ rfl rfl rfl rfl rfl rfl rfl rfl rfl | split

theorem Keeps.ingest {s τ : State} (hk : Keeps s τ) (i : Fin 256) (r : Request) : Keeps s (τ.ingest i r) := by
  unfold State.ingest
  try dsimp only
  repeat' first | with_reducible assumption | (intro _ _ _; try dsimp only) | with_reducible apply Keeps.acceptCopy | with_reducible apply Keeps.offerSeal | with_reducible apply Keeps.sendSlot | with_reducible apply Keeps.setHead | with_reducible apply Keeps.abandon | with_reducible apply Keeps.forEach | fail_if_no_progress with_reducible refine Keeps.lit ?_ rfl rfl rfl rfl rfl rfl rfl rfl rfl | split

theorem Keeps.writeJudged {s τ : State} (hk : Keeps s τ) (i : Fin 256) (r : Request) : Keeps s (τ.writeJudged i r) := by
  unfold State.writeJudged
  try dsimp only
  repeat' first | with_reducible assumption | (intro _ _ _; try dsimp only) | with_reducible apply Keeps.ingest | with_reducible apply Keeps.logRefused | with_reducible apply Keeps.sendSlot | with_reducible apply Keeps.setHead | with_reducible apply Keeps.answerHead | with_reducible apply Keeps.unpinSlot | with_reducible apply Keeps.setSlot | fail_if_no_progress with_reducible refine Keeps.lit ?_ rfl rfl rfl rfl rfl rfl rfl rfl rfl | split

theorem Keeps.addPin {s τ : State} (hk : Keeps s τ) (i : Fin 256) (l : Fin 64) : Keeps s (τ.addPin i l) := by
  unfold State.addPin
  repeat' first | with_reducible assumption | (intro _ _ _; try dsimp only) | with_reducible apply Keeps.setSlot | fail_if_no_progress with_reducible refine Keeps.lit ?_ rfl rfl rfl rfl rfl rfl rfl rfl rfl | split

theorem Keeps.askWriteLine {s τ : State} (hk : Keeps s τ) (i : Fin 256) (b : Nat × Fin 1024) : Keeps s (τ.askWriteLine i b) := by
  unfold State.askWriteLine
  try dsimp only
  repeat' first | with_reducible assumption | (intro _ _ _; try dsimp only) | with_reducible apply Keeps.addPin | with_reducible apply Keeps.requestLine | fail_if_no_progress with_reducible refine Keeps.lit ?_ rfl rfl rfl rfl rfl rfl rfl rfl rfl | split

theorem Keeps.writeHasSlot {s τ : State} (hk : Keeps s τ) (i : Fin 256) (r : Request) (exact : Bool) : Keeps s (τ.writeHasSlot i r exact) := by
  unfold State.writeHasSlot
  try dsimp only
  repeat' first | with_reducible assumption | (intro _ _ _; try dsimp only) | with_reducible apply Keeps.askWriteLine | with_reducible apply Keeps.writeJudged | with_reducible apply Keeps.logRefused | with_reducible apply Keeps.setHead | with_reducible apply Keeps.answerHead | fail_if_no_progress with_reducible refine Keeps.lit ?_ rfl rfl rfl rfl rfl rfl rfl rfl rfl | split

theorem Keeps.hasSlot {s τ : State} (hk : Keeps s τ) (i : Fin 256) (r : Request) (exact checked : Bool) : Keeps s (τ.hasSlot i r exact checked) := by
  unfold State.hasSlot
  repeat' first | with_reducible assumption | (intro _ _ _; try dsimp only) | with_reducible apply Keeps.writeHasSlot | with_reducible apply Keeps.readProceeds | with_reducible apply Keeps.sendSlot | with_reducible apply Keeps.setHead | fail_if_no_progress with_reducible refine Keeps.lit ?_ rfl rfl rfl rfl rfl rfl rfl rfl rfl | split

theorem Keeps.takeSlot {s τ : State} (hk : Keeps s τ) (r : Request) (exact checked : Bool) : Keeps s (τ.takeSlot r exact checked) := by
  unfold State.takeSlot
  repeat' first | with_reducible assumption | (intro _ _ _; try dsimp only) | with_reducible apply Keeps.hasSlot | with_reducible apply Keeps.setHead | with_reducible apply Keeps.setSlot | fail_if_no_progress with_reducible refine Keeps.lit ?_ rfl rfl rfl rfl rfl rfl rfl rfl rfl | split

theorem Keeps.carryOut {s τ : State} (hk : Keeps s τ) (r : Request) (d : Decision) : Keeps s (τ.carryOut r d) := by
  unfold State.carryOut
  repeat' first | with_reducible assumption | (intro _ _ _; try dsimp only) | with_reducible apply Keeps.takeSlot | with_reducible apply Keeps.logRefused | with_reducible apply Keeps.setHead | with_reducible apply Keeps.hold | with_reducible apply Keeps.sendUp | fail_if_no_progress with_reducible refine Keeps.lit ?_ rfl rfl rfl rfl rfl rfl rfl rfl rfl | split

theorem Keeps.decideHeld {s τ : State} (hk : Keeps s τ)  : Keeps s (τ.decideHeld) := by
  unfold State.decideHeld
  repeat' first | with_reducible assumption | (intro _ _ _; try dsimp only) | with_reducible apply Keeps.carryOut | fail_if_no_progress with_reducible refine Keeps.lit ?_ rfl rfl rfl rfl rfl rfl rfl rfl rfl | split

theorem Keeps.passReturned {s τ : State} (hk : Keeps s τ) (i : Fin 256) (e : MediaEnd) : Keeps s (τ.passReturned i e) := by
  unfold State.passReturned
  try dsimp only
  repeat' first | with_reducible assumption | (intro _ _ _; try dsimp only) | with_reducible apply Keeps.pokeWalk | with_reducible apply Keeps.failAll | with_reducible apply Keeps.readReturned | with_reducible apply Keeps.commitAll | with_reducible apply Keeps.settleBatch | with_reducible apply Keeps.endSlot | with_reducible apply Keeps.setSlot | fail_if_no_progress with_reducible refine Keeps.lit ?_ rfl rfl rfl rfl rfl rfl rfl rfl rfl | split

theorem Keeps.passTimedOut {s τ : State} (hk : Keeps s τ) (i : Fin 256) : Keeps s (τ.passTimedOut i) := by
  unfold State.passTimedOut
  try dsimp only
  repeat' first | with_reducible assumption | (intro _ _ _; try dsimp only) | with_reducible apply Keeps.pokeWalk | with_reducible apply Keeps.abandonContributions | with_reducible apply Keeps.loseBatchSlot | with_reducible apply Keeps.unpinSlot | with_reducible apply Keeps.sendUp | with_reducible apply Keeps.setSlot | fail_if_no_progress with_reducible refine Keeps.lit ?_ rfl rfl rfl rfl rfl rfl rfl rfl rfl | split

theorem Keeps.unexpected {s τ : State} (hk : Keeps s τ) (i : Fin 256) (status : MediaStatus) : Keeps s (τ.unexpected i status) := by
  unfold State.unexpected
  try dsimp only
  repeat' first | with_reducible assumption | (intro _ _ _; try dsimp only) | with_reducible apply Keeps.log | with_reducible apply Keeps.setSlot | fail_if_no_progress with_reducible refine Keeps.lit ?_ rfl rfl rfl rfl rfl rfl rfl rfl rfl | split

end Sys2Proof.Machine
end

