-- ==== Sys2Proof/Laws/KeepLoader.lean ====
section
/-!
SUPPORT. `Keeps` through the operations of Machine/Loader.lean.
-/

namespace Sys2Proof.Machine

theorem Keeps.releaseAtFault {s τ : State} (hk : Keeps s τ) (i : Fin 256) : Keeps s (τ.releaseAtFault i) := by
  unfold State.releaseAtFault
  try dsimp only
  repeat' first | with_reducible assumption | (intro _ _ _; try dsimp only) | with_reducible apply Keeps.endSlot | fail_if_no_progress with_reducible refine Keeps.lit ?_ rfl rfl rfl rfl rfl rfl rfl rfl rfl | split

theorem Keeps.headAtFault {s τ : State} (hk : Keeps s τ)  : Keeps s (τ.headAtFault) := by
  unfold State.headAtFault
  repeat' first | with_reducible assumption | (intro _ _ _; try dsimp only) | with_reducible apply Keeps.decideHeld | with_reducible apply Keeps.answerHead | fail_if_no_progress with_reducible refine Keeps.lit ?_ rfl rfl rfl rfl rfl rfl rfl rfl rfl | split

theorem Keeps.batchAtFault {s τ : State} (hk : Keeps s τ)  : Keeps s (τ.batchAtFault) := by
  unfold State.batchAtFault
  repeat' first | with_reducible assumption | (intro _ _ _; try dsimp only) | with_reducible apply Keeps.handBatch | fail_if_no_progress with_reducible refine Keeps.lit ?_ rfl rfl rfl rfl rfl rfl rfl rfl rfl | split

theorem Keeps.faultPart {s t : State} (h : Keeps s t) (cause : FaultCause) : Keeps s (t.faultPart cause) :=
  { h with toLives := { h.toLives with started := fun _ => rfl } }

theorem Keeps.faultBlocks {s t : State} (h : Keeps s t) : Keeps s t.faultBlocks where
  pending := h.pending
  freeze := h.freeze
  maint := h.maint
  flags := h.flags
  queue := fun _ => ⟨Nat.zero_le _, List.nodup_nil⟩
  images := fun _ => Nat.zero_le _
  started := h.started
  clock := h.clock
  count := h.count
  chosen := h.chosen

theorem Keeps.faultUnit {s τ : State} (hk : Keeps s τ)  : Keeps s (τ.faultUnit) := by
  unfold State.faultUnit
  repeat' first | with_reducible assumption | (intro _ _ _; try dsimp only) | fail_if_no_progress with_reducible refine Keeps.lit ?_ rfl rfl rfl rfl rfl rfl rfl rfl rfl | split

theorem Keeps.enterFault {s τ : State} (hk : Keeps s τ) (cause : FaultCause) : Keeps s (τ.enterFault cause) := by
  unfold State.enterFault
  try dsimp only
  repeat' first | with_reducible assumption | (intro _ _ _; try dsimp only) | with_reducible apply Keeps.faultUnit | with_reducible apply Keeps.faultBlocks | with_reducible apply Keeps.faultPart | with_reducible apply Keeps.batchAtFault | with_reducible apply Keeps.headAtFault | with_reducible apply Keeps.releaseAtFault | with_reducible apply Keeps.raise | with_reducible apply Keeps.mapSlots | with_reducible apply Keeps.forEach | fail_if_no_progress with_reducible refine Keeps.lit ?_ rfl rfl rfl rfl rfl rfl rfl rfl rfl | split

theorem Keeps.tableFault {s τ : State} (hk : Keeps s τ) (cause : FaultCause) : Keeps s (τ.tableFault cause) := by
  unfold State.tableFault
  repeat' first | with_reducible assumption | (intro _ _ _; try dsimp only) | with_reducible apply Keeps.enterFault | fail_if_no_progress with_reducible refine Keeps.lit ?_ rfl rfl rfl rfl rfl rfl rfl rfl rfl | split

theorem Keeps.loseHead {s τ : State} (hk : Keeps s τ) (i : Fin 256) : Keeps s (τ.loseHead i) := by
  unfold State.loseHead
  repeat' first | with_reducible assumption | (intro _ _ _; try dsimp only) | with_reducible apply Keeps.dropRequests | fail_if_no_progress with_reducible refine Keeps.lit ?_ rfl rfl rfl rfl rfl rfl rfl rfl rfl | split

theorem Keeps.slotFault {s τ : State} (hk : Keeps s τ) (i : Fin 256) (tagReadable : Bool) : Keeps s (τ.slotFault i tagReadable) := by
  unfold State.slotFault
  try dsimp only
  repeat' first | with_reducible assumption | (intro _ _ _; try dsimp only) | with_reducible apply Keeps.loseHead | with_reducible apply Keeps.endSlot | with_reducible apply Keeps.setSlot | fail_if_no_progress with_reducible refine Keeps.lit ?_ rfl rfl rfl rfl rfl rfl rfl rfl rfl | split

theorem Keeps.findError {s τ : State} (hk : Keeps s τ)  (o : Option TableError) : Keeps s (τ.findError  o) := by
  unfold State.findError
  try dsimp only
  repeat' first | with_reducible assumption | (intro _ _ _; try dsimp only) | with_reducible apply Keeps.slotFault | with_reducible apply Keeps.tableFault | fail_if_no_progress with_reducible refine Keeps.lit ?_ rfl rfl rfl rfl rfl rfl rfl rfl rfl | split

theorem Lives.loadHeader {s t : State} (h : Lives s t) (c : Settings) : Lives s (t.loadHeader c) where
  pending := h.pending
  freeze := h.freeze
  maint := h.maint
  flags := h.flags
  queue := h.queue
  images := fun _ => Nat.zero_le _
  started := fun _ => rfl

theorem Keeps.takeRestart {s τ : State} (hk : Keeps s τ) (repeatOn : Bool) : Keeps s (τ.takeRestart repeatOn) := by
  unfold State.takeRestart
  repeat' first | with_reducible assumption | (intro _ _ _; try dsimp only) | fail_if_no_progress with_reducible refine Keeps.lit ?_ rfl rfl rfl rfl rfl rfl rfl rfl rfl | split

theorem Keeps.releaseBlocks {s t : State} (h : Keeps s t) (repeatOn : Bool) : Keeps s (t.releaseBlocks repeatOn) :=
  (h.decideHeld.takeRestart _).nextWalk.walkRun.statusDue

/-- Entry to RUNNING keeps what `Lives` speaks of. -/
theorem Lives.enterRunning {s t : State} (h : Lives s t) (c : Settings) (err : Option TableError) :
    Lives s (t.enterRunning c err) := by
  have h1 := (h.loadHeader c).after ((Keeps.refl _).settleHead.findError err)
  unfold State.enterRunning
  dsimp only
  split
  · exact h1.after ((Keeps.refl _).releaseBlocks _)
  · exact h1

theorem Keeps.queueRead {s τ : State} (hk : Keeps s τ) (b : Fin 17) : Keeps s (τ.queueRead b) := by
  unfold State.queueRead
  repeat' first | with_reducible assumption | (intro _ _ _; try dsimp only) | with_reducible apply Keeps.enqueue | fail_if_no_progress with_reducible refine Keeps.lit ?_ rfl rfl rfl rfl rfl rfl rfl rfl rfl | split

theorem Keeps.queueBlank {s τ : State} (hk : Keeps s τ) (b : Fin 17) : Keeps s (τ.queueBlank b) := by
  unfold State.queueBlank
  repeat' first | with_reducible assumption | (intro _ _ _; try dsimp only) | with_reducible apply Keeps.enqueue | fail_if_no_progress with_reducible refine Keeps.lit ?_ rfl rfl rfl rfl rfl rfl rfl rfl rfl | split

theorem Keeps.setLoad {s τ : State} (hk : Keeps s τ) (l : Load) : Keeps s (τ.setLoad l) := by
  unfold State.setLoad
  repeat' first | with_reducible assumption | (intro _ _ _; try dsimp only) | fail_if_no_progress with_reducible refine Keeps.lit ?_ rfl rfl rfl rfl rfl rfl rfl rfl rfl | split

theorem Keeps.emptyMap {s τ : State} (hk : Keeps s τ)  : Keeps s (τ.emptyMap) := by
  unfold State.emptyMap
  repeat' first | with_reducible assumption | (intro _ _ _; try dsimp only) | fail_if_no_progress with_reducible refine Keeps.lit ?_ rfl rfl rfl rfl rfl rfl rfl rfl rfl | split

theorem Holds.loading {s t : State} (h : Holds s t) : Holds s t.loading := h.lit rfl rfl rfl rfl rfl

theorem Holds.startLoad {s t : State} (h : Holds s t) : Holds s t.startLoad :=
  h.loading.after (((Keeps.refl _).setLoad _).queueRead _)

theorem Keeps.loadFails {s τ : State} (hk : Keeps s τ) (cause : FaultCause) : Keeps s (τ.loadFails cause) := by
  unfold State.loadFails
  repeat' first | with_reducible assumption | (intro _ _ _; try dsimp only) | with_reducible apply Keeps.emptyMap | with_reducible apply Keeps.enterFault | fail_if_no_progress with_reducible refine Keeps.lit ?_ rfl rfl rfl rfl rfl rfl rfl rfl rfl | split

theorem Keeps.loadMap {s τ : State} (hk : Keeps s τ) (es : List Extent) (index : List Range) : Keeps s (τ.loadMap es index) := by
  unfold State.loadMap
  try dsimp only
  repeat' first | with_reducible assumption | (intro _ _ _; try dsimp only) | fail_if_no_progress with_reducible refine Keeps.lit ?_ rfl rfl rfl rfl rfl rfl rfl rfl rfl | split

theorem Lives.takeRecords {s t : State} (h : Lives s t) (c : Settings) (blocks : List (List Byte))
    (err : Option TableError) : Lives s (t.takeRecords c blocks err) := by
  unfold State.takeRecords
  split
  · exact h.after ((Keeps.refl _).loadFails _)
  · exact (h.after ((Keeps.refl _).loadMap _ _)).enterRunning _ _

theorem Keeps.takeHeader {s τ : State} (hk : Keeps s τ) (data : List Byte) : Keeps s (τ.takeHeader data) := by
  unfold State.takeHeader
  try dsimp only
  repeat' first | with_reducible assumption | (intro _ _ _; try dsimp only) | with_reducible apply Keeps.loadFails | with_reducible apply Keeps.setLoad | with_reducible apply Keeps.queueBlank | with_reducible apply Keeps.queueRead | with_reducible apply Keeps.forEach | fail_if_no_progress with_reducible refine Keeps.lit ?_ rfl rfl rfl rfl rfl rfl rfl rfl rfl | split

theorem Lives.takeBlock {s t : State} (h : Lives s t) (c : Settings) (got : Vector (Option (List Byte)) 16)
    (attempts : Vector Nat 16) (j : Fin 16) (data : List Byte) (err : Option TableError) :
    Lives s (t.takeBlock c got attempts j data err) := by
  unfold State.takeBlock
  dsimp only
  split
  · exact h.takeRecords _ _ _
  · exact h.after ((Keeps.refl _).setLoad _)

theorem Keeps.readFailed {s τ : State} (hk : Keeps s τ) (b : Fin 17) : Keeps s (τ.readFailed b) := by
  unfold State.readFailed
  try dsimp only
  repeat' first | with_reducible assumption | (intro _ _ _; try dsimp only) | with_reducible apply Keeps.loadFails | with_reducible apply Keeps.setLoad | with_reducible apply Keeps.queueRead | fail_if_no_progress with_reducible refine Keeps.lit ?_ rfl rfl rfl rfl rfl rfl rfl rfl rfl | split

theorem Lives.readEnded {s t : State} (h : Lives s t) (b : Fin 17) (e : MediaEnd) (err : Option TableError) :
    Lives s (t.readEnded b e err) := by
  unfold State.readEnded
  split
  · split
    · exact h.after ((Keeps.refl _).takeHeader _)
    · exact h.takeBlock _ _ _ _ _ _
    · exact h
  · exact h.after ((Keeps.refl _).readFailed _)
  · exact h.after ((Keeps.refl _).readFailed _)

theorem Lives.blankEnded {s t : State} (h : Lives s t) (b : Fin 17) (e : MediaEnd) (err : Option TableError) :
    Lives s (t.blankEnded b e err) := by
  unfold State.blankEnded
  split
  · split
    · split
      · exact h.enterRunning _ _
      · exact h.after (((Keeps.refl _).setLoad _).queueBlank _)
    · split
      · exact h.after ((Keeps.refl _).loadFails _)
      · exact h.after (((Keeps.refl _).setLoad _).queueBlank _)
  · exact h

theorem Keeps.eepromOver {s τ : State} (hk : Keeps s τ)  : Keeps s (τ.eepromOver) := by
  unfold State.eepromOver
  repeat' first | with_reducible assumption | (intro _ _ _; try dsimp only) | fail_if_no_progress with_reducible refine Keeps.lit ?_ rfl rfl rfl rfl rfl rfl rfl rfl rfl | split

theorem Lives.takeDefaults {s t : State} (h : Lives s t) (x : Setup) : Lives s (t.takeDefaults x) :=
  h.lit rfl rfl rfl rfl rfl rfl

theorem Keeps.takeSetup {s τ : State} (hk : Keeps s τ) (x : Setup) : Keeps s (τ.takeSetup x) := by
  unfold State.takeSetup
  repeat' first | with_reducible assumption | (intro _ _ _; try dsimp only) | fail_if_no_progress with_reducible refine Keeps.lit ?_ rfl rfl rfl rfl rfl rfl rfl rfl rfl | split

theorem Holds.passthrough {s t : State} (h : Holds s t) : Holds s t.passthrough := h.lit rfl rfl rfl rfl rfl

theorem Holds.setupRead {s t : State} (h : Holds s t) (image : Option Setup) : Holds s (t.setupRead image) := by
  have h1 : Holds s t.eepromOver := h.after (Keeps.refl _).eepromOver
  have h2 : ∀ x, Holds s (t.eepromOver.takeDefaults x) := fun x => h1.trans ((Lives.refl _).takeDefaults x).toHolds
  unfold State.setupRead
  split
  · exact h1.passthrough
  · exact (h2 _).passthrough
  · exact h1.after ((Keeps.refl _).enterFault _)
  · exact ((h2 _).after ((Keeps.refl _).takeSetup _).emptyMap).startLoad

/-- An owner's part after its request has ended. -/
theorem Lives.ownerEnded {s t : State} (h : Lives s t) (x : Slot) (o : Owner) (e : MediaEnd)
    (err : Option TableError) : Lives s (t.ownerEnded x o e err) := by
  unfold State.ownerEnded
  split
  · exact h.after ((Keeps.refl _).walkChunkEnded _ _ _)
  · exact h.after ((Keeps.refl _).mendReadEnded _ _ _)
  · exact h.after ((Keeps.refl _).mendWriteEnded _ _ _)
  all_goals split
  all_goals first | exact h | skip
  · exact h.after ((Keeps.refl _).fillEnded _ _)
  · exact h.after ((Keeps.refl _).refillEnded _ _)
  · exact h.after ((Keeps.refl _).writebackEnded _ _)
  · exact h.after ((Keeps.refl _).statusEnded _)
  · exact h.after ((Keeps.refl _).logEnded _)
  · exact h.readEnded _ _ _
  · exact h.blankEnded _ _ _
  · exact h.after ((Keeps.refl _).catalogueEnded _ _)

/-- An owner other than the catalogue load's two keeps all that `Keeps` speaks of. -/
theorem Keeps.ownerEnded {s t : State} (h : Keeps s t) (x : Slot) (o : Owner) (e : MediaEnd)
    (err : Option TableError) (hr : ∀ b, o ≠ .catalogueRead b) (hb : ∀ b, o ≠ .blankWrite b) :
    Keeps s (t.ownerEnded x o e err) := by
  unfold State.ownerEnded
  split
  · exact h.walkChunkEnded _ _ _
  · exact h.mendReadEnded _ _ _
  · exact h.mendWriteEnded _ _ _
  all_goals split
  all_goals first | exact h | skip
  · exact h.fillEnded _ _
  · exact h.refillEnded _ _
  · exact h.writebackEnded _ _
  · exact h.statusEnded _
  · exact h.logEnded _
  · exact absurd rfl (hr _)
  · exact absurd rfl (hb _)
  · exact h.catalogueEnded _ _

end Sys2Proof.Machine
end

