-- ==== Sys2Proof/Laws/KeepLinks.lean ====
section
/-!
SUPPORT. `Keeps` through the operations of Machine/Links.lean.
-/

namespace Sys2Proof.Machine

theorem Keeps.cutWriteback {s τ : State} (hk : Keeps s τ) (l : Fin 64) : Keeps s (τ.cutWriteback l) := by
  unfold State.cutWriteback
  try dsimp only
  repeat' first | with_reducible assumption | (intro _ _ _; try dsimp only) | with_reducible apply Keeps.flushCutLine | with_reducible apply Keeps.becomeDirty | with_reducible apply Keeps.setLine | fail_if_no_progress with_reducible refine Keeps.lit ?_ rfl rfl rfl rfl rfl rfl rfl rfl rfl | split

theorem Keeps.cutCatalogue {s τ : State} (hk : Keeps s τ) (b : Fin 17) : Keeps s (τ.cutCatalogue b) := by
  unfold State.cutCatalogue
  repeat' first | with_reducible assumption | (intro _ _ _; try dsimp only) | with_reducible apply Keeps.flushCutBlock | with_reducible apply Keeps.setCat | fail_if_no_progress with_reducible refine Keeps.lit ?_ rfl rfl rfl rfl rfl rfl rfl rfl rfl | split

theorem Keeps.cutStatus {s τ : State} (hk : Keeps s τ)  : Keeps s (τ.cutStatus) := by
  unfold State.cutStatus
  repeat' first | with_reducible assumption | (intro _ _ _; try dsimp only) | with_reducible apply Keeps.statusDue | fail_if_no_progress with_reducible refine Keeps.lit ?_ rfl rfl rfl rfl rfl rfl rfl rfl rfl | split

theorem Keeps.cutLog {s t : State} (h : Keeps s t) : Keeps s t.cutLog := h.logLost

theorem Keeps.requeueCut {s τ : State} (hk : Keeps s τ)  : Keeps s (τ.requeueCut) := by
  unfold State.requeueCut
  try dsimp only
  repeat' first | with_reducible assumption | (intro _ _ _; try dsimp only) | with_reducible apply Keeps.queueWriteback | with_reducible apply Keeps.pumpLog | with_reducible apply Keeps.pumpStatus | with_reducible apply Keeps.queueCat | with_reducible apply Keeps.setCat | with_reducible apply Keeps.setLine | with_reducible apply Keeps.forEach | fail_if_no_progress with_reducible refine Keeps.lit ?_ rfl rfl rfl rfl rfl rfl rfl rfl rfl | split

theorem Keeps.ownerLinkDown {s τ : State} (hk : Keeps s τ) (o : Owner) : Keeps s (τ.ownerLinkDown o) := by
  unfold State.ownerLinkDown
  repeat' first | with_reducible assumption | (intro _ _ _; try dsimp only) | with_reducible apply Keeps.cutLog | with_reducible apply Keeps.cutStatus | with_reducible apply Keeps.cutCatalogue | with_reducible apply Keeps.cutWriteback | with_reducible apply Keeps.queueBlank | with_reducible apply Keeps.queueRead | with_reducible apply Keeps.log | fail_if_no_progress with_reducible refine Keeps.lit ?_ rfl rfl rfl rfl rfl rfl rfl rfl rfl | split

theorem Keeps.lineLinkDown {s τ : State} (hk : Keeps s τ) (l : Fin 64) : Keeps s (τ.lineLinkDown l) := by
  unfold State.lineLinkDown
  repeat' first | with_reducible assumption | with_reducible apply Keeps.refillLost | with_reducible apply Keeps.fillLost | split

theorem Keeps.unhold {s τ : State} (hk : Keeps s τ) (i : Fin 256) : Keeps s (τ.unhold i) := by
  unfold State.unhold
  try dsimp only
  repeat' first | with_reducible assumption | (intro _ _ _; try dsimp only) | fail_if_no_progress with_reducible refine Keeps.lit ?_ rfl rfl rfl rfl rfl rfl rfl rfl rfl | split

theorem Keeps.slotLinkDown {s τ : State} (hk : Keeps s τ) (i : Fin 256) : Keeps s (τ.slotLinkDown i) := by
  unfold State.slotLinkDown
  try dsimp only
  repeat' first | with_reducible assumption | (intro _ _ _; try dsimp only) | with_reducible apply Keeps.unhold | with_reducible apply Keeps.abandonContributions | with_reducible apply Keeps.loseBatchSlot | with_reducible apply Keeps.endSlot | with_reducible apply Keeps.setSlot | fail_if_no_progress with_reducible refine Keeps.lit ?_ rfl rfl rfl rfl rfl rfl rfl rfl rfl | split

theorem Keeps.cutWalk {s τ : State} (hk : Keeps s τ)  : Keeps s (τ.cutWalk) := by
  unfold State.cutWalk
  repeat' first | with_reducible assumption | (intro _ _ _; try dsimp only) | with_reducible apply Keeps.clearWalk | with_reducible apply Keeps.setWalk | with_reducible apply Keeps.abandon | fail_if_no_progress with_reducible refine Keeps.lit ?_ rfl rfl rfl rfl rfl rfl rfl rfl rfl | split

theorem Keeps.mediaLost {s τ : State} (hk : Keeps s τ)  : Keeps s (τ.mediaLost) := by
  unfold State.mediaLost
  try dsimp only
  repeat' first | with_reducible assumption | (intro _ _ _; try dsimp only) | with_reducible apply Keeps.feedWalk | with_reducible apply Keeps.feedMend | with_reducible apply Keeps.cutWalk | with_reducible apply Keeps.slotLinkDown | with_reducible apply Keeps.lineLinkDown | with_reducible apply Keeps.withdraw | with_reducible apply Keeps.ownerLinkDown | with_reducible apply Keeps.answerHead | with_reducible apply Keeps.cutMend | with_reducible apply Keeps.pokeWalk | with_reducible apply Keeps.forEach | fail_if_no_progress with_reducible refine Keeps.lit ?_ rfl rfl rfl rfl rfl rfl rfl rfl rfl | split

theorem Keeps.mediaBack {s τ : State} (hk : Keeps s τ)  : Keeps s (τ.mediaBack) := by
  unfold State.mediaBack
  try dsimp only
  repeat' first | with_reducible assumption | (intro _ _ _; try dsimp only) | with_reducible apply Keeps.requeueCut | with_reducible apply Keeps.uncutMend | with_reducible apply Keeps.walkRun | with_reducible apply Keeps.setWalk | fail_if_no_progress with_reducible refine Keeps.lit ?_ rfl rfl rfl rfl rfl rfl rfl rfl rfl | split

theorem Keeps.lineReset {s τ : State} (hk : Keeps s τ) (l : Fin 64) : Keeps s (τ.lineReset l) := by
  unfold State.lineReset
  try dsimp only
  repeat' first | with_reducible assumption | (intro _ _ _; try dsimp only) | with_reducible apply Keeps.cutWriteback | with_reducible apply Keeps.setLine | fail_if_no_progress with_reducible refine Keeps.lit ?_ rfl rfl rfl rfl rfl rfl rfl rfl rfl | split

theorem Keeps.storeReset {s τ : State} (hk : Keeps s τ)  : Keeps s (τ.storeReset) := by
  unfold State.storeReset
  try dsimp only
  repeat' first | with_reducible assumption | (intro _ _ _; try dsimp only) | with_reducible apply Keeps.lineReset | with_reducible apply Keeps.withdraw | with_reducible apply Keeps.forEach | fail_if_no_progress with_reducible refine Keeps.lit ?_ rfl rfl rfl rfl rfl rfl rfl rfl rfl | split

theorem Keeps.walkReset {s τ : State} (hk : Keeps s τ) (fillCut : Bool) : Keeps s (τ.walkReset fillCut) := by
  unfold State.walkReset
  try dsimp only
  repeat' first | with_reducible assumption | (intro _ _ _; try dsimp only) | with_reducible apply Keeps.auditAnswer | with_reducible apply Keeps.skipBlock | with_reducible apply Keeps.walkRun | with_reducible apply Keeps.clearWalk | with_reducible apply Keeps.setWalk | fail_if_no_progress with_reducible refine Keeps.lit ?_ rfl rfl rfl rfl rfl rfl rfl rfl rfl | split

theorem Keeps.ownerReset {s τ : State} (hk : Keeps s τ) (o : Owner) : Keeps s (τ.ownerReset o) := by
  unfold State.ownerReset
  repeat' first | with_reducible assumption | (intro _ _ _; try dsimp only) | with_reducible apply Keeps.cutLog | with_reducible apply Keeps.cutStatus | with_reducible apply Keeps.cutCatalogue | with_reducible apply Keeps.queueBlank | with_reducible apply Keeps.queueRead | with_reducible apply Keeps.log | fail_if_no_progress with_reducible refine Keeps.lit ?_ rfl rfl rfl rfl rfl rfl rfl rfl rfl | split

theorem Keeps.cutFrame {s τ : State} (hk : Keeps s τ)  : Keeps s (τ.cutFrame) := by
  unfold State.cutFrame
  repeat' first | with_reducible assumption | (intro _ _ _; try dsimp only) | with_reducible apply Keeps.setAsk | with_reducible apply Keeps.answerFrame | fail_if_no_progress with_reducible refine Keeps.lit ?_ rfl rfl rfl rfl rfl rfl rfl rfl rfl | split

theorem Keeps.cutBatch {s τ : State} (hk : Keeps s τ) (bytes : Nat) : Keeps s (τ.cutBatch bytes) := by
  unfold State.cutBatch
  repeat' first | with_reducible assumption | (intro _ _ _; try dsimp only) | with_reducible apply Keeps.cutFrame | with_reducible apply Keeps.tryEndBatch | with_reducible apply Keeps.setBatch | fail_if_no_progress with_reducible refine Keeps.lit ?_ rfl rfl rfl rfl rfl rfl rfl rfl rfl | split

theorem Keeps.clearTraffic {s τ : State} (hk : Keeps s τ)  : Keeps s (τ.clearTraffic) := by
  unfold State.clearTraffic
  repeat' first | with_reducible assumption | (intro _ _ _; try dsimp only) | fail_if_no_progress with_reducible refine Keeps.lit ?_ rfl rfl rfl rfl rfl rfl rfl rfl rfl | split

theorem Keeps.resetRunning {s τ : State} (hk : Keeps s τ) (bytes : Nat) : Keeps s (τ.resetRunning bytes) := by
  unfold State.resetRunning
  try dsimp only
  repeat' first | with_reducible assumption | (intro _ _ _; try dsimp only) | with_reducible apply Keeps.clearTraffic | with_reducible apply Keeps.cutBatch | with_reducible apply Keeps.ownerReset | with_reducible apply Keeps.walkReset | with_reducible apply Keeps.storeReset | with_reducible apply Keeps.requeueCut | with_reducible apply Keeps.setHead | with_reducible apply Keeps.resetMend | with_reducible apply Keeps.forEach | fail_if_no_progress with_reducible refine Keeps.lit ?_ rfl rfl rfl rfl rfl rfl rfl rfl rfl | split

theorem Keeps.clearFault {s τ : State} (hk : Keeps s τ)  : Keeps s (τ.clearFault) := by
  unfold State.clearFault
  repeat' first | with_reducible assumption | (intro _ _ _; try dsimp only) | with_reducible apply Keeps.statusDue | fail_if_no_progress with_reducible refine Keeps.lit ?_ rfl rfl rfl rfl rfl rfl rfl rfl rfl | split

theorem Holds.setupAgain {s t : State} (h : Holds s t) : Holds s t.setupAgain := h.lit rfl rfl rfl rfl rfl

theorem Holds.resetFault {s t : State} (h : Holds s t) : Holds s t.resetFault := by
  have h1 : Holds s t.clearFault.emptyMap := h.after (Keeps.refl _).clearFault.emptyMap
  unfold State.resetFault
  dsimp only
  split
  · exact h1.startLoad
  · exact h1.setupAgain

theorem Holds.resetLink {s t : State} (h : Holds s t) (bytes : Nat) : Holds s (t.resetLink bytes) := by
  have h1 : Holds s (t.sendMedia .linkReset) := h.after ((Keeps.refl _).sendMedia _)
  unfold State.resetLink
  dsimp only
  split
  · exact h1.resetFault
  · exact h1.after ((Keeps.refl _).resetRunning _)

theorem Keeps.resetLink {s t : State} (h : Keeps s t) (bytes : Nat) (hp : t.ldr.part ≠ .fault) :
    Keeps s (t.resetLink bytes) := by
  unfold State.resetLink
  dsimp only
  rw [if_neg (by exact hp)]
  exact (h.sendMedia _).resetRunning _

end Sys2Proof.Machine
end

