-- ==== Sys2Proof/Laws/KeepGrant.lean ====
section
/-!
SUPPORT. `Keeps` through the operations of Machine/Grant.lean.
-/

namespace Sys2Proof.Machine

/-- The grant of a status write keeps all but the update count. -/
theorem Lives.grantStatus {s t : State} (h : Lives s t) : Lives s t.grantStatus.1 := by
  unfold State.grantStatus
  exact h.lit rfl rfl rfl rfl rfl rfl

theorem Keeps.grantLog {s τ : State} (hk : Keeps s τ)  : Keeps s (τ.grantLog).1 := by
  unfold State.grantLog
  try dsimp only
  repeat' first | with_reducible assumption | (intro _ _ _; try dsimp only) | fail_if_no_progress with_reducible refine Keeps.lit ?_ rfl rfl rfl rfl rfl rfl rfl rfl rfl | split

theorem Keeps.beginWrite {s τ : State} (hk : Keeps s τ) (l : Fin 64) : Keeps s (τ.beginWrite l) := by
  unfold State.beginWrite
  repeat' first | with_reducible assumption | with_reducible apply Keeps.leaveDirty | with_reducible apply Keeps.setLine | split

theorem Keeps.grantWriteback {s τ : State} (hk : Keeps s τ) (l : Fin 64) : Keeps s (τ.grantWriteback l).1 := by
  unfold State.grantWriteback
  dsimp only
  split
  · exact hk.beginWrite l
  · exact (hk.beginWrite l).setWalk _

theorem Keeps.nameCopy {s τ : State} (hk : Keeps s τ) (p : Fin 32) (mode : AccumMode) (k : FrameKey) (line : Option (Fin 64)) : Keeps s (τ.nameCopy p mode k line) := by
  unfold State.nameCopy
  try dsimp only
  repeat' first | with_reducible assumption | (intro _ _ _; try dsimp only) | with_reducible apply Keeps.openAccum | with_reducible apply Keeps.abandon | with_reducible apply Keeps.pin | fail_if_no_progress with_reducible refine Keeps.lit ?_ rfl rfl rfl rfl rfl rfl rfl rfl rfl | split

theorem Keeps.grantWalk {s τ : State} (hk : Keeps s τ) (i : Fin 256) (k : FrameKey) (j count : Nat) : Keeps s (τ.grantWalk i k j count) := by
  unfold State.grantWalk
  repeat' first | with_reducible assumption | (intro _ _ _; try dsimp only) | with_reducible apply Keeps.nameCopy | with_reducible apply Keeps.setWalk | with_reducible apply Keeps.joinRead | fail_if_no_progress with_reducible refine Keeps.lit ?_ rfl rfl rfl rfl rfl rfl rfl rfl rfl | split

theorem Keeps.grantMendRead {s τ : State} (hk : Keeps s τ) (i : Fin 256) (j count : Nat) : Keeps s (τ.grantMendRead i j count) := by
  unfold State.grantMendRead
  try dsimp only
  repeat' first | with_reducible assumption | (intro _ _ _; try dsimp only) | with_reducible apply Keeps.nameCopy | with_reducible apply Keeps.joinRead | fail_if_no_progress with_reducible refine Keeps.lit ?_ rfl rfl rfl rfl rfl rfl rfl rfl rfl | split

theorem Keeps.grantMendWrite {s τ : State} (hk : Keeps s τ)  : Keeps s (τ.grantMendWrite).1 := by
  unfold State.grantMendWrite
  try dsimp only
  repeat' first | with_reducible assumption | (intro _ _ _; try dsimp only) | with_reducible apply Keeps.feedMend | with_reducible apply Keeps.setMend | fail_if_no_progress with_reducible refine Keeps.lit ?_ rfl rfl rfl rfl rfl rfl rfl rfl rfl | split

/-- An owner's part in a grant. -/
theorem Lives.grantOwner {s t : State} (h : Lives s t) (i : Fin 256) (r : InjRequest) : Lives s (t.grantOwner i r).1 := by
  unfold State.grantOwner
  split
  all_goals first
    | exact h
    | exact h.grantStatus
    | exact h.after (Keeps.refl _).grantLog
    | exact h.after ((Keeps.refl _).grantWriteback _)
    | exact h.after ((Keeps.refl _).setCat _ _)
    | exact h.after ((Keeps.refl _).grantWalk _ _ _ _)
    | exact h.after ((Keeps.refl _).grantMendRead _ _ _)
    | exact h.after (Keeps.refl _).grantMendWrite

/-- The part of an owner other than the status write keeps all that `Keeps` speaks of. -/
theorem Keeps.grantOwner {s t : State} (h : Keeps s t) (i : Fin 256) (r : InjRequest) (hr : r.owner ≠ .status) :
    Keeps s (t.grantOwner i r).1 := by
  unfold State.grantOwner
  split
  all_goals first
    | exact h
    | exact absurd ‹_› hr
    | exact h.grantLog
    | exact h.grantWriteback _
    | exact h.setCat _ _
    | exact h.grantWalk _ _ _ _
    | exact h.grantMendRead _ _ _
    | exact h.grantMendWrite

theorem Keeps.beforeGrant {s t : State} (h : Keeps s t) (i : Fin 256) (r : InjRequest) :
    Keeps s ({ t with arb := t.arb.erase r }.setSlot i (Slot.injected r t.cfg.returnTimeout)) :=
  Keeps.setSlot (h.lit rfl rfl rfl rfl rfl rfl rfl rfl rfl) _ _

theorem Lives.grant {s t : State} (h : Lives s t) (i : Fin 256) (r : InjRequest) : Lives s (t.grant i r) := by
  unfold State.grant
  exact ((h.after ((Keeps.refl t).beforeGrant i r)).grantOwner i r).after ((Keeps.refl _).sendMedia _)

theorem Keeps.grant {s t : State} (h : Keeps s t) (i : Fin 256) (r : InjRequest) (hr : r.owner ≠ .status) :
    Keeps s (t.grant i r) := by
  unfold State.grant
  exact ((h.beforeGrant i r).grantOwner i r hr).sendMedia _

theorem Keeps.lineGranted {s τ : State} (hk : Keeps s τ) (user : LineUser) (l : Fin 64) : Keeps s (τ.lineGranted user l) := by
  unfold State.lineGranted
  repeat' first | with_reducible assumption | (intro _ _ _; try dsimp only) | with_reducible apply Keeps.addPin | with_reducible apply Keeps.frameGotLine | with_reducible apply Keeps.mendGotLine | with_reducible apply Keeps.walkRun | with_reducible apply Keeps.setWalk | with_reducible apply Keeps.unpin | fail_if_no_progress with_reducible refine Keeps.lit ?_ rfl rfl rfl rfl rfl rfl rfl rfl rfl | split

theorem Keeps.grantLine {s t u : State} (h : Keeps s t) (hu : t.grantLine = some u) : Keeps s u := by
  unfold State.grantLine at hu
  split at hu
  · rename_i r rest v _ _
    have h1 : Keeps s { t with store := { t.store with queue := rest } } := h.lit rfl rfl rfl rfl rfl rfl rfl rfl rfl
    dsimp only at hu
    split at hu
    · cases hu
      exact (h1.pin _).lineGranted _ _
    · cases hu
      exact (h1.takeLine _ _ _ _).lineGranted _ _
  · cases hu

theorem Keeps.grantLines {s : State} : ∀ (n : Nat) {t : State}, Keeps s t → Keeps s (State.grantLines n t)
  | 0, _, h => h
  | n + 1, t, h => by
    unfold State.grantLines
    split
    · exact h
    · rename_i u hu
      exact Keeps.grantLines n (h.grantLine hu)

theorem Keeps.losePins {s τ : State} (hk : Keeps s τ) (l : Fin 64) : Keeps s (τ.losePins l) := by
  unfold State.losePins
  try dsimp only
  repeat' first | with_reducible assumption | (intro _ _ _; try dsimp only) | with_reducible apply Keeps.mapSlots | fail_if_no_progress with_reducible refine Keeps.lit ?_ rfl rfl rfl rfl rfl rfl rfl rfl rfl | split

theorem Keeps.dropLine {s τ : State} (hk : Keeps s τ) (l : Fin 64) : Keeps s (τ.dropLine l) := by
  unfold State.dropLine
  try dsimp only
  repeat' first | with_reducible assumption | (intro _ _ _; try dsimp only) | with_reducible apply Keeps.losePins | with_reducible apply Keeps.failWaiting | with_reducible apply Keeps.flushDrop | with_reducible apply Keeps.leaveDirty | with_reducible apply Keeps.killOutstanding | with_reducible apply Keeps.withdraw | with_reducible apply Keeps.setLine | fail_if_no_progress with_reducible refine Keeps.lit ?_ rfl rfl rfl rfl rfl rfl rfl rfl rfl | split

theorem Keeps.dropExtent {s τ : State} (hk : Keeps s τ) (e : Fin 1024) : Keeps s (τ.dropExtent e) := by
  unfold State.dropExtent
  try dsimp only
  repeat' first | with_reducible assumption | (intro _ _ _; try dsimp only) | with_reducible apply Keeps.dropLine | with_reducible apply Keeps.forEach | fail_if_no_progress with_reducible refine Keeps.lit ?_ rfl rfl rfl rfl rfl rfl rfl rfl rfl | split

end Sys2Proof.Machine
end

