-- ==== Sys2Proof/Laws/KeepTraffic.lean ====
section
/-!
SUPPORT. `Keeps` through the operations of Machine/Traffic.lean.
-/

namespace Sys2Proof.Machine

theorem Keeps.request {s τ : State} (hk : Keeps s τ) (r : Request) : Keeps s (τ.request r) := by
  unfold State.request
  repeat' first | with_reducible assumption | (intro _ _ _; try dsimp only) | with_reducible apply Keeps.carryOut | fail_if_no_progress with_reducible refine Keeps.lit ?_ rfl rfl rfl rfl rfl rfl rfl rfl rfl | split

theorem Keeps.slotTaken {s τ : State} (hk : Keeps s τ)  : Keeps s (τ.slotTaken) := by
  unfold State.slotTaken
  repeat' first | with_reducible assumption | (intro _ _ _; try dsimp only) | with_reducible apply Keeps.takeSlot | fail_if_no_progress with_reducible refine Keeps.lit ?_ rfl rfl rfl rfl rfl rfl rfl rfl rfl | split

theorem Keeps.writeReady {s τ : State} (hk : Keeps s τ)  : Keeps s (τ.writeReady) := by
  unfold State.writeReady
  repeat' first | with_reducible assumption | (intro _ _ _; try dsimp only) | with_reducible apply Keeps.writeJudged | fail_if_no_progress with_reducible refine Keeps.lit ?_ rfl rfl rfl rfl rfl rfl rfl rfl rfl | split

theorem Keeps.directiveProceeds {s τ : State} (hk : Keeps s τ)  : Keeps s (τ.directiveProceeds) := by
  unfold State.directiveProceeds
  try dsimp only
  repeat' first | with_reducible assumption | (intro _ _ _; try dsimp only) | with_reducible apply Keeps.sendSlot | with_reducible apply Keeps.setHead | with_reducible apply Keeps.tryEndBatch | with_reducible apply Keeps.setBatch | with_reducible apply Keeps.setSlot | fail_if_no_progress with_reducible refine Keeps.lit ?_ rfl rfl rfl rfl rfl rfl rfl rfl rfl | split

theorem Keeps.passReturn {s τ : State} (hk : Keeps s τ) (tag : Fin 256) (status : MediaStatus) (data : List Byte) : Keeps s (τ.passReturn tag status data) := by
  unfold State.passReturn
  repeat' first | with_reducible assumption | (intro _ _ _; try dsimp only) | with_reducible apply Keeps.passReturned | fail_if_no_progress with_reducible refine Keeps.lit ?_ rfl rfl rfl rfl rfl rfl rfl rfl rfl | split

theorem Keeps.strayReturn {s τ : State} (hk : Keeps s τ) (tag : Fin 256) (status : MediaStatus) : Keeps s (τ.strayReturn tag status) := by
  unfold State.strayReturn
  repeat' first | with_reducible assumption | (intro _ _ _; try dsimp only) | with_reducible apply Keeps.unexpected | fail_if_no_progress with_reducible refine Keeps.lit ?_ rfl rfl rfl rfl rfl rfl rfl rfl rfl | split

theorem Keeps.passTimeout {s τ : State} (hk : Keeps s τ) (i : Fin 256) : Keeps s (τ.passTimeout i) := by
  unfold State.passTimeout
  repeat' first | with_reducible assumption | (intro _ _ _; try dsimp only) | with_reducible apply Keeps.passTimedOut | fail_if_no_progress with_reducible refine Keeps.lit ?_ rfl rfl rfl rfl rfl rfl rfl rfl rfl | split

theorem Keeps.staleTimeout {s τ : State} (hk : Keeps s τ) (i : Fin 256) : Keeps s (τ.staleTimeout i) := by
  unfold State.staleTimeout
  repeat' first | with_reducible assumption | (intro _ _ _; try dsimp only) | with_reducible apply Keeps.setSlot | fail_if_no_progress with_reducible refine Keeps.lit ?_ rfl rfl rfl rfl rfl rfl rfl rfl rfl | split

theorem Lives.injectedTimeout {s t : State} (h : Lives s t) (i : Fin 256) (err : Option TableError) :
    Lives s (t.injectedTimeout i err) := by
  unfold State.injectedTimeout
  dsimp only
  split
  · exact h
  · split
    · exact (h.after ((Keeps.refl _).setSlot _ _)).ownerEnded _ _ _ _
    · exact h

end Sys2Proof.Machine
end

