-- ==== Sys2Proof/Laws/KeepInjection.lean ====
section
/-!
SUPPORT. `Keeps` through the operations of Machine/Injection.lean.
-/

namespace Sys2Proof.Machine

theorem Lives.grantNext {s t : State} (h : Lives s t) : Lives s t.grantNext := by
  unfold State.grantNext
  split
  · exact h.grant _ _
  · exact h

theorem Lives.injReturn {s t : State} (h : Lives s t) (tag : Fin 256) (test : Owner → Bool) (status : MediaStatus)
    (data : List Byte) (err : Option TableError) : Lives s (t.injReturn tag test status data err) := by
  unfold State.injReturn
  dsimp only
  split
  · exact h
  · split
    · exact (h.after ((Keeps.refl _).setSlot _ _)).ownerEnded _ _ _ _
    · exact h

/-- A return to an owner other than the catalogue load's two keeps all that `Keeps` speaks of. -/
theorem Keeps.injReturn {s t : State} (h : Keeps s t) (tag : Fin 256) (test : Owner → Bool) (status : MediaStatus)
    (data : List Byte) (err : Option TableError) (hr : ∀ b, test (.catalogueRead b) = false)
    (hb : ∀ b, test (.blankWrite b) = false) : Keeps s (t.injReturn tag test status data err) := by
  unfold State.injReturn
  dsimp only
  split
  · exact h
  · rename_i o _
    split
    · rename_i hc
      refine (h.setSlot _ _).ownerEnded _ _ _ _ ?_ ?_
      · rintro b rfl
        simp [hr b] at hc
      · rintro b rfl
        simp [hb b] at hc
    · exact h

end Sys2Proof.Machine
end

