-- ==== Sys2Proof/Laws/KeepTimers.lean ====
section
/-!
SUPPORT. `Keeps` through the operations of Machine/Timers.lean.
-/

namespace Sys2Proof.Machine

theorem Keeps.restExpires {s τ : State} (hk : Keeps s τ)  : Keeps s (τ.restExpires) := by
  unfold State.restExpires
  try dsimp only
  repeat' first | with_reducible assumption | (intro _ _ _; try dsimp only) | with_reducible apply Keeps.walkRun | with_reducible apply Keeps.nextWalk | fail_if_no_progress with_reducible refine Keeps.lit ?_ rfl rfl rfl rfl rfl rfl rfl rfl rfl | split

theorem Keeps.tickTimers {s τ : State} (hk : Keeps s τ)  : Keeps s (τ.tickTimers) := by
  unfold State.tickTimers
  try dsimp only
  repeat' first | with_reducible assumption | (intro _ _ _; try dsimp only) | fail_if_no_progress with_reducible refine Keeps.lit ?_ rfl rfl rfl rfl rfl rfl rfl rfl rfl | split

end Sys2Proof.Machine
end

