-- ==== Sys2Proof/Laws/KeepDirectiveOps.lean ====
section
/-!
SUPPORT. `Keeps` through the operations of Machine/DirectiveOps.lean.
-/

namespace Sys2Proof.Machine

theorem Keeps.setExtentState {s τ : State} (hk : Keeps s τ) (n : Fin 1024) (st : ExtentState) : Keeps s (τ.setExtentState n st) := by
  unfold State.setExtentState
  repeat' first | with_reducible assumption | (intro _ _ _; try dsimp only) | with_reducible apply Keeps.changeExtent | fail_if_no_progress with_reducible refine Keeps.lit ?_ rfl rfl rfl rfl rfl rfl rfl rfl rfl | split

theorem Keeps.defineNow {s τ : State} (hk : Keeps s τ) (n : Fin 1024) (e : Extent) : Keeps s (τ.defineNow n e) := by
  unfold State.defineNow
  try dsimp only
  repeat' first | with_reducible assumption | (intro _ _ _; try dsimp only) | with_reducible apply Keeps.startWalk | with_reducible apply Keeps.changeExtent | fail_if_no_progress with_reducible refine Keeps.lit ?_ rfl rfl rfl rfl rfl rfl rfl rfl rfl | split

theorem Keeps.defineEffect {s τ : State} (hk : Keeps s τ) (extent : Nat) (geo : Option Extent) : Keeps s (defineEffect extent geo τ).1 := by
  unfold Sys2Proof.Machine.defineEffect
  try dsimp only
  repeat' first | with_reducible assumption | (intro _ _ _; try dsimp only) | with_reducible apply Keeps.defineNow | fail_if_no_progress with_reducible refine Keeps.lit ?_ rfl rfl rfl rfl rfl rfl rfl rfl rfl | split

theorem Keeps.sealEffect {s τ : State} (hk : Keeps s τ) (extent : Nat) : Keeps s (sealEffect extent τ).1 := by
  unfold Sys2Proof.Machine.sealEffect
  try dsimp only
  repeat' first | with_reducible assumption | (intro _ _ _; try dsimp only) | with_reducible apply Keeps.setExtentState | with_reducible apply Keeps.startWalk | fail_if_no_progress with_reducible refine Keeps.lit ?_ rfl rfl rfl rfl rfl rfl rfl rfl rfl | split

theorem Keeps.leaveSealed {s τ : State} (hk : Keeps s τ) (n : Fin 1024) : Keeps s (τ.leaveSealed n) := by
  unfold State.leaveSealed
  try dsimp only
  repeat' first | with_reducible assumption | (intro _ _ _; try dsimp only) | with_reducible apply Keeps.walkRun | with_reducible apply Keeps.skipRest | fail_if_no_progress with_reducible refine Keeps.lit ?_ rfl rfl rfl rfl rfl rfl rfl rfl rfl | split

theorem Keeps.openNow {s τ : State} (hk : Keeps s τ) (n : Fin 1024) : Keeps s (τ.openNow n) := by
  unfold State.openNow
  try dsimp only
  repeat' first | with_reducible assumption | (intro _ _ _; try dsimp only) | with_reducible apply Keeps.setExtentState | with_reducible apply Keeps.leaveSealed | with_reducible apply Keeps.abandonAll | fail_if_no_progress with_reducible refine Keeps.lit ?_ rfl rfl rfl rfl rfl rfl rfl rfl rfl | split

theorem Keeps.openEffect {s τ : State} (hk : Keeps s τ) (extent : Nat) : Keeps s (openEffect extent τ).1 := by
  unfold Sys2Proof.Machine.openEffect
  try dsimp only
  repeat' first | with_reducible assumption | (intro _ _ _; try dsimp only) | with_reducible apply Keeps.openNow | fail_if_no_progress with_reducible refine Keeps.lit ?_ rfl rfl rfl rfl rfl rfl rfl rfl rfl | split

theorem Keeps.headFreed {s τ : State} (hk : Keeps s τ)  : Keeps s (τ.headFreed) := by
  unfold State.headFreed
  repeat' first | with_reducible assumption | (intro _ _ _; try dsimp only) | with_reducible apply Keeps.writeJudged | fail_if_no_progress with_reducible refine Keeps.lit ?_ rfl rfl rfl rfl rfl rfl rfl rfl rfl | split

theorem Keeps.retireNow {s τ : State} (hk : Keeps s τ) (n : Fin 1024) : Keeps s (τ.retireNow n) := by
  unfold State.retireNow
  try dsimp only
  repeat' first | with_reducible assumption | (intro _ _ _; try dsimp only) | with_reducible apply Keeps.headFreed | with_reducible apply Keeps.dropExtent | with_reducible apply Keeps.grantLines | with_reducible apply Keeps.leaveSealed | with_reducible apply Keeps.abandonAll | with_reducible apply Keeps.changeExtent | fail_if_no_progress with_reducible refine Keeps.lit ?_ rfl rfl rfl rfl rfl rfl rfl rfl rfl | split

theorem Keeps.retireEffect {s τ : State} (hk : Keeps s τ) (extent : Nat) : Keeps s (retireEffect extent τ).1 := by
  unfold Sys2Proof.Machine.retireEffect
  try dsimp only
  repeat' first | with_reducible assumption | (intro _ _ _; try dsimp only) | with_reducible apply Keeps.retireNow | fail_if_no_progress with_reducible refine Keeps.lit ?_ rfl rfl rfl rfl rfl rfl rfl rfl rfl | split

theorem Keeps.resealEffect {s τ : State} (hk : Keeps s τ) (extent frame source : Nat) : Keeps s (resealEffect extent frame source τ).1 := by
  unfold Sys2Proof.Machine.resealEffect
  try dsimp only
  repeat' first | with_reducible assumption | (intro _ _ _; try dsimp only) | with_reducible apply Keeps.startWalk | fail_if_no_progress with_reducible refine Keeps.lit ?_ rfl rfl rfl rfl rfl rfl rfl rfl rfl | split

theorem Keeps.checkEffect {s τ : State} (hk : Keeps s τ) (extent first last override : Nat) : Keeps s (checkEffect extent first last override τ).1 := by
  unfold Sys2Proof.Machine.checkEffect
  try dsimp only
  repeat' first | with_reducible assumption | (intro _ _ _; try dsimp only) | with_reducible apply Keeps.startWalk | fail_if_no_progress with_reducible refine Keeps.lit ?_ rfl rfl rfl rfl rfl rfl rfl rfl rfl | split

theorem Keeps.startPassNow {s τ : State} (hk : Keeps s τ) (depth : Depth) : Keeps s (τ.startPassNow depth) := by
  unfold State.startPassNow
  try dsimp only
  repeat' first | with_reducible assumption | (intro _ _ _; try dsimp only) | with_reducible apply Keeps.startWalk | with_reducible apply Keeps.createPass | fail_if_no_progress with_reducible refine Keeps.lit ?_ rfl rfl rfl rfl rfl rfl rfl rfl rfl | split

theorem Keeps.startPassEffect {s τ : State} (hk : Keeps s τ) (override : Nat) : Keeps s (startPassEffect override τ).1 := by
  unfold Sys2Proof.Machine.startPassEffect
  try dsimp only
  repeat' first | with_reducible assumption | (intro _ _ _; try dsimp only) | with_reducible apply Keeps.startPassNow | fail_if_no_progress with_reducible refine Keeps.lit ?_ rfl rfl rfl rfl rfl rfl rfl rfl rfl | split

theorem Keeps.suspendEffect {s τ : State} (hk : Keeps s τ)  : Keeps s (suspendEffect τ).1 := by
  unfold Sys2Proof.Machine.suspendEffect
  try dsimp only
  repeat' first | with_reducible assumption | (intro _ _ _; try dsimp only) | with_reducible apply Keeps.stopWalk | with_reducible apply Keeps.setWalk | fail_if_no_progress with_reducible refine Keeps.lit ?_ rfl rfl rfl rfl rfl rfl rfl rfl rfl | split

theorem Keeps.resumeEffect {s τ : State} (hk : Keeps s τ)  : Keeps s (resumeEffect τ).1 := by
  unfold Sys2Proof.Machine.resumeEffect
  try dsimp only
  repeat' first | with_reducible assumption | (intro _ _ _; try dsimp only) | with_reducible apply Keeps.walkRun | with_reducible apply Keeps.setWalk | fail_if_no_progress with_reducible refine Keeps.lit ?_ rfl rfl rfl rfl rfl rfl rfl rfl rfl | split

/-- New settings keep what `Lives` speaks of. -/
theorem Lives.changeSettings {s t : State} (h : Lives s t) (c : Settings) : Lives s (t.changeSettings c) := by
  unfold State.changeSettings
  have h1 : Lives s { t with cfg := c } := h.lit rfl rfl rfl rfl rfl rfl
  exact h1.after (Keeps.refl _).markHeader

theorem Lives.setPolicyEffect {s t : State} (h : Lives s t) (policy : Nat) : Lives s (setPolicyEffect policy t).1 := by
  unfold Sys2Proof.Machine.setPolicyEffect
  dsimp only
  repeat' split
  all_goals first | exact h | exact h.changeSettings _

theorem Lives.setWalkDepthEffect {s t : State} (h : Lives s t) (depth : Nat) : Lives s (setWalkDepthEffect depth t).1 := by
  unfold Sys2Proof.Machine.setWalkDepthEffect
  dsimp only
  repeat' split
  all_goals first | exact h | exact h.changeSettings _

theorem Lives.setPaceEffect {s t : State} (h : Lives s t) (threshold depth repeatCode rest : Nat) : Lives s (setPaceEffect threshold depth repeatCode rest t).1 := by
  unfold Sys2Proof.Machine.setPaceEffect
  dsimp only
  split
  · exact h
  · split
    · exact h.changeSettings _
    · exact (h.changeSettings _).lit rfl rfl rfl rfl rfl rfl

theorem Lives.setTimersEffect {s t : State} (h : Lives s t) (timeout idle : Nat) : Lives s (setTimersEffect timeout idle t).1 := by
  unfold Sys2Proof.Machine.setTimersEffect
  exact h.changeSettings _

theorem Lives.setAdmissionEffect {s t : State} (h : Lives s t) (marks : Nat) (rights : List Nat) : Lives s (setAdmissionEffect marks rights t).1 := by
  unfold Sys2Proof.Machine.setAdmissionEffect
  dsimp only
  repeat' split
  all_goals first | exact h | exact h.changeSettings _

theorem Keeps.setAlertEffect {s t : State} (h : Keeps s t) (mask : Nat) : Keeps s (setAlertEffect mask t).1 := by
  unfold Sys2Proof.Machine.setAlertEffect State.changeSettings
  have h1 : Keeps s { t with cfg := { t.cfg with alertMask := maskOf mask } } := h.lit rfl rfl rfl rfl rfl rfl rfl rfl rfl
  exact h1.markHeader

theorem Lives.setClockEffect {s t : State} (h : Lives s t) (clock : Nat) : Lives s (setClockEffect clock t).1 := by
  unfold Sys2Proof.Machine.setClockEffect
  exact h.lit rfl rfl rfl rfl rfl rfl

theorem Keeps.moveLogTailEffect {s τ : State} (hk : Keeps s τ) (slot : Nat) : Keeps s (moveLogTailEffect slot τ).1 := by
  unfold Sys2Proof.Machine.moveLogTailEffect
  try dsimp only
  repeat' first | with_reducible assumption | (intro _ _ _; try dsimp only) | with_reducible apply Keeps.settleHead | with_reducible apply Keeps.recordLog | with_reducible apply Keeps.resumeLog | fail_if_no_progress with_reducible refine Keeps.lit ?_ rfl rfl rfl rfl rfl rfl rfl rfl rfl | split

theorem Keeps.selectWindowEffect {s τ : State} (hk : Keeps s τ) (selection extent : Nat) : Keeps s (selectWindowEffect selection extent τ).1 := by
  unfold Sys2Proof.Machine.selectWindowEffect
  try dsimp only
  repeat' first | with_reducible assumption | (intro _ _ _; try dsimp only) | fail_if_no_progress with_reducible refine Keeps.lit ?_ rfl rfl rfl rfl rfl rfl rfl rfl rfl | split

theorem Keeps.flushTakeLine {s τ : State} (hk : Keeps s τ) (l : Fin 64) : Keeps s (τ.flushTakeLine l).1 := by
  unfold State.flushTakeLine
  try dsimp only
  repeat' first | with_reducible assumption | (intro _ _ _; try dsimp only) | with_reducible apply Keeps.queueWriteback | with_reducible apply Keeps.setLine | fail_if_no_progress with_reducible refine Keeps.lit ?_ rfl rfl rfl rfl rfl rfl rfl rfl rfl | split

theorem Keeps.flushTakeBlock {s τ : State} (hk : Keeps s τ) (b : Fin 17) : Keeps s (τ.flushTakeBlock b).1 := by
  unfold State.flushTakeBlock
  try dsimp only
  repeat' first | with_reducible assumption | (intro _ _ _; try dsimp only) | with_reducible apply Keeps.queueCat | with_reducible apply Keeps.setCat | fail_if_no_progress with_reducible refine Keeps.lit ?_ rfl rfl rfl rfl rfl rfl rfl rfl rfl | split

theorem Keeps.gather {α β : Type} {s : State} (f : State → α → State × List β) (hf : ∀ x u, Keeps s u → Keeps s (f u x).1) :
    ∀ (xs : List α) {t : State}, Keeps s t → Keeps s (gather f xs t).1
  | [], _, h => h
  | x :: xs, _, h => Keeps.gather f hf xs (hf x _ h)

theorem Keeps.flushEffect {s t : State} (h : Keeps s t) : Keeps s (flushEffect t).1 := by
  unfold Sys2Proof.Machine.flushEffect
  dsimp only
  split
  · exact h
  · have h1 := Keeps.gather State.flushTakeLine (fun l u hu => hu.flushTakeLine l) (allFin 64) h
    generalize Sys2Proof.Machine.gather State.flushTakeLine (allFin 64) t = a at h1 ⊢
    have h2 := Keeps.gather State.flushTakeBlock (fun b u hu => hu.flushTakeBlock b) (allFin 17) h1
    generalize Sys2Proof.Machine.gather State.flushTakeBlock (allFin 17) a.1 = b at h2 ⊢
    dsimp only
    with_reducible apply Keeps.tryEndFlush
    exact h2.lit rfl rfl rfl rfl rfl rfl rfl rfl rfl

theorem Keeps.unknownEffect {s τ : State} (hk : Keeps s τ)  : Keeps s (unknownEffect τ).1 := by
  unfold Sys2Proof.Machine.unknownEffect
  try dsimp only
  repeat' first | with_reducible assumption | (intro _ _ _; try dsimp only) | fail_if_no_progress with_reducible refine Keeps.lit ?_ rfl rfl rfl rfl rfl rfl rfl rfl rfl | split

end Sys2Proof.Machine
end

