-- ==== Sys2Proof/Laws/KeepDirectives.lean ====
section
/-!
SUPPORT. `Keeps` through the operations of Machine/Directives.lean.
-/

namespace Sys2Proof.Machine

theorem Keeps.mendFrameRecord {s τ : State} (hk : Keeps s τ) (extent frame target : Nat) : Keeps s (τ.mendFrameRecord extent frame target) := by
  unfold State.mendFrameRecord
  repeat' first | with_reducible assumption | (intro _ _ _; try dsimp only) | with_reducible apply Keeps.frameAsk | with_reducible apply Keeps.addResult | fail_if_no_progress with_reducible refine Keeps.lit ?_ rfl rfl rfl rfl rfl rfl rfl rfl rfl | split

end Sys2Proof.Machine
end

