-- ==== Sys2Proof/WellFormed.lean ====
section
/-!
DEFINITION. Well-formed commands: every operand within the width of the field it stands for. A meaning is defined on
ill-formed commands too; a statement that needs a width takes this check as a premise.
-/

namespace Sys2Proof

/-- A request as the link can carry it (R82): tag and count in their fields, a 40-bit address, and a WRITE with the data
of its count (R82: count × 4,096 bytes, WRITE only). -/
def Request.wellFormed (r : Request) : Bool :=
  decide (r.tag < 256) && decide (r.addr < Config.addressLimit) && decide (r.count < 65536) &&
    (match r.kind with
      | .read => r.data.isEmpty
      | .write => r.data.length == r.count * Config.blockBytes)

/-- Every operand of a directive within the width of its field (section 12.2), and request and image operands as their
carrier can hold them. -/
def Instr.wellFormed : Instr → Bool
  | .eepromReadEnd (some image) => image.length == 256
  | .linkReset n _ => decide (n ≤ Config.blockBytes)
  | .upstreamLinkDown n _ => decide (n ≤ Config.blockBytes)
  | .controllerRequest req _ => req.wellFormed
  | .defineExtent extent cls mode policy base0 replica span frames tail mask digestBase _ =>
      decide (extent < 65536) && decide (cls < 256) && decide (mode < 256) && decide (policy < 256) &&
        decide (base0 < Config.addressLimit) && decide (replica < Config.addressLimit) && decide (span < 2 ^ 32) &&
        decide (frames < 2 ^ 32) && decide (tail < 65536) && decide (mask < 2 ^ 32) &&
        decide (digestBase < Config.addressLimit)
  | .sealExtent extent _ => decide (extent < 65536)
  | .openExtent extent _ => decide (extent < 65536)
  | .retireExtent extent _ => decide (extent < 65536)
  | .resealFrame extent frame source _ => decide (extent < 65536) && decide (frame < 2 ^ 32) && decide (source < 256)
  | .checkExtent extent first last override _ =>
      decide (extent < 65536) && decide (first < 2 ^ 32) && decide (last < 2 ^ 32) && decide (override < 256)
  | .startPass override _ => decide (override < 256)
  | .mendFrame extent frame target _ => decide (extent < 65536) && decide (frame < 2 ^ 32) && decide (target < 256)
  | .setPolicy policy => decide (policy < 256)
  | .setWalkDepth depth => decide (depth < 256)
  | .setPace threshold depth repeatCode rest =>
      decide (threshold < 65536) && decide (depth < 256) && decide (repeatCode < 256) && decide (rest < 2 ^ 32)
  | .setTimers timeout idle => decide (timeout < 65536) && decide (idle < 65536)
  | .setAdmission marks rights => decide (marks < 65536) && rights.length == 16 && rights.all fun r => decide (r < 8)
  | .setAlert mask => decide (mask < 64)
  | .setClock clock => decide (clock < 2 ^ 64)
  | .ackEvents mask seen => decide (mask < 64) && decide (seen < 2 ^ 32)
  | .moveLogTail slot => decide (slot < 65536)
  | .selectWindow selection extent => decide (selection < 256) && decide (extent < 65536)
  | .unknownKind kind => decide (kind < 256) && (decide (kind = 0) || decide (22 < kind))
  | .hardwareReset _ => true
  | .eepromReadEnd none => true
  | .eepromReadTimeout => true
  | .upstreamLinkUp => true
  | .mediaLinkDown _ => true
  | .mediaLinkUp _ => true
  | .passthroughSlotTaken _ => true
  | .writeLinesReady _ => true
  | .directiveWriteProceeds _ => true
  | .passthroughMediaReturn _ _ _ _ => true
  | .unexpectedReturn _ _ _ => true
  | .passthroughReturnTimeout _ _ => true
  | .staleTimeout _ _ => true
  | .injectedReturnTimeout _ _ => true
  | .injectionGrant _ => true
  | .digestFillReturn _ _ _ _ => true
  | .digestRefillReturn _ _ _ _ => true
  | .digestWritebackReturn _ _ _ => true
  | .walkChunkReturn _ _ _ _ => true
  | .mendReadReturn _ _ _ _ => true
  | .mendWriteReturn _ _ _ => true
  | .statusWriteReturn _ _ _ => true
  | .logWriteReturn _ _ _ => true
  | .catalogueReadReturn _ _ _ _ => true
  | .blankCatalogueWriteReturn _ _ _ => true
  | .catalogueWriteReturn _ _ _ => true
  | .catalogueRetryExpiry _ => true
  | .idleTimerExpiry _ _ => true
  | .dirtyTimerExpiry _ _ => true
  | .statusTimerExpiry => true
  | .restTimerExpiry _ => true
  | .lineQueueGrant _ => true
  | .mendStart _ => true
  | .suspendWalk _ => true
  | .resumeWalk _ => true
  | .flush _ => true
  | .freeze => true
  | .partClockTick => true

end Sys2Proof
end

