-- ==== Sys2Proof/Tests/Slice0.lean ====
section
/-!
SUPPORT. Tests: the checks of WellFormed on ill-formed commands, the worked cases of the manual, one small step of each
command, and for each statement with hypotheses a state and operands that meet them. Expected values are those of the
manual's tables and worked cases, or of hand calculation from its rules.
-/

namespace Sys2Proof.Tests

open Sys2Proof Sys2Proof.Machine

set_option Elab.async false

/-! ### WellFormed: each check refuses an ill-formed command -/

def goodRequest : Request := ⟨.read, 2, 5, 2000, 1, []⟩

theorem test_wf_good_request : (Instr.controllerRequest goodRequest none).wellFormed = true := by decide
theorem test_wf_tag : (Instr.controllerRequest { goodRequest with tag := 256 } none).wellFormed = false := by decide
theorem test_wf_addr : (Instr.controllerRequest { goodRequest with addr := 2 ^ 40 } none).wellFormed = false := by decide
theorem test_wf_count : (Instr.controllerRequest { goodRequest with count := 65536 } none).wellFormed = false := by decide
theorem test_wf_read_data : (Instr.controllerRequest { goodRequest with data := [1] } none).wellFormed = false := by decide
theorem test_wf_write_data : (Instr.controllerRequest { goodRequest with kind := .write, data := [1] } none).wellFormed =
    false := by decide
theorem test_wf_image : (Instr.eepromReadEnd (some [1, 2])).wellFormed = false := by decide
theorem test_wf_batch_bytes : (Instr.linkReset 4097 none).wellFormed = false ∧ (Instr.upstreamLinkDown 4097 none).wellFormed = false := by
  decide
theorem test_wf_define : ((Instr.defineExtent 65536 0 0 0 0 0 1 1 1 0 0 none).wellFormed ||
    (Instr.defineExtent 0 256 0 0 0 0 1 1 1 0 0 none).wellFormed || (Instr.defineExtent 0 0 256 0 0 0 1 1 1 0 0 none).wellFormed ||
    (Instr.defineExtent 0 0 0 256 0 0 1 1 1 0 0 none).wellFormed || (Instr.defineExtent 0 0 0 0 (2 ^ 40) 0 1 1 1 0 0 none).wellFormed ||
    (Instr.defineExtent 0 0 0 0 0 (2 ^ 40) 1 1 1 0 0 none).wellFormed || (Instr.defineExtent 0 0 0 0 0 0 (2 ^ 32) 1 1 0 0 none).wellFormed ||
    (Instr.defineExtent 0 0 0 0 0 0 1 (2 ^ 32) 1 0 0 none).wellFormed || (Instr.defineExtent 0 0 0 0 0 0 1 1 65536 0 0 none).wellFormed ||
    (Instr.defineExtent 0 0 0 0 0 0 1 1 1 (2 ^ 32) 0 none).wellFormed ||
    (Instr.defineExtent 0 0 0 0 0 0 1 1 1 0 (2 ^ 40) none).wellFormed) = false := by decide
theorem test_wf_extent_number : ((Instr.sealExtent 65536 none).wellFormed || (Instr.openExtent 65536 none).wellFormed ||
    (Instr.retireExtent 65536 none).wellFormed) = false := by decide
theorem test_wf_reseal : ((Instr.resealFrame 65536 0 0 none).wellFormed || (Instr.resealFrame 0 (2 ^ 32) 0 none).wellFormed ||
    (Instr.resealFrame 0 0 256 none).wellFormed) = false := by decide
theorem test_wf_check : ((Instr.checkExtent 65536 0 0 0 none).wellFormed || (Instr.checkExtent 0 (2 ^ 32) 0 0 none).wellFormed ||
    (Instr.checkExtent 0 0 (2 ^ 32) 0 none).wellFormed || (Instr.checkExtent 0 0 0 256 none).wellFormed) = false := by decide
theorem test_wf_mend_frame : ((Instr.mendFrame 65536 0 0 none).wellFormed || (Instr.mendFrame 0 (2 ^ 32) 0 none).wellFormed ||
    (Instr.mendFrame 0 0 256 none).wellFormed) = false := by decide
theorem test_wf_one_byte : ((Instr.startPass 256 none).wellFormed || (Instr.setPolicy 256).wellFormed ||
    (Instr.setWalkDepth 256).wellFormed || (Instr.setAlert 64).wellFormed) = false := by decide
theorem test_wf_pace : ((Instr.setPace 65536 0 0 0).wellFormed || (Instr.setPace 0 256 0 0).wellFormed ||
    (Instr.setPace 0 0 256 0).wellFormed || (Instr.setPace 0 0 0 (2 ^ 32)).wellFormed) = false := by decide
theorem test_wf_timers : ((Instr.setTimers 65536 0).wellFormed || (Instr.setTimers 0 65536).wellFormed) = false := by decide
theorem test_wf_admission : ((Instr.setAdmission 65536 (List.replicate 16 0)).wellFormed ||
    (Instr.setAdmission 0 []).wellFormed || (Instr.setAdmission 0 (List.replicate 16 8)).wellFormed) = false := by decide
theorem test_wf_clock : (Instr.setClock (2 ^ 64)).wellFormed = false := by decide
theorem test_wf_ack : ((Instr.ackEvents 64 0).wellFormed || (Instr.ackEvents 0 (2 ^ 32)).wellFormed) = false := by decide
theorem test_wf_log_tail : (Instr.moveLogTail 65536).wellFormed = false := by decide
theorem test_wf_window : ((Instr.selectWindow 256 0).wellFormed || (Instr.selectWindow 0 65536).wellFormed) = false := by decide
theorem test_wf_kind : ((Instr.unknownKind 256).wellFormed || (Instr.unknownKind 22).wellFormed) = false := by decide

/-! ### Worked cases of the manual -/

/-- Section 2.7: the check of a fresh entry with a replica, of one without, and of the sealed entry of Case 1. -/
theorem test_check_entries : weightedCheck (Entry.fresh true).guarded = 0x0001 ∧
    weightedCheck (Entry.fresh false).guarded = 0x0063 ∧
    weightedCheck (Entry.guarded ⟨0xBD41, 0x22541, 3, .sealed, .sealed⟩) = 0x043E := by decide

/-- R190, section 12.3: the FAULT window of CATALOGUE_READ and of CATALOGUE_WRITE holds the block address, little-endian, in
bytes 4 to 11; a cause without a detail has zeros there. -/
theorem test_fault_window : (FaultCause.catalogueRead 0x0123456789).detail = [0x89, 0x67, 0x45, 0x23, 0x01, 0, 0, 0] ∧
    (FaultCause.catalogueWrite 0x1022).detail = [0x22, 0x10, 0, 0, 0, 0, 0, 0] ∧ FaultCause.inFlight.detail = zeros 8 := by decide

/-- Section 12.1: the FREE form's check is 0x3BC5. -/
theorem test_check_free_form : field Extent.freeForm.encode 62 2 = 0x3BC5 ∧ Extent.freeForm.encode.length = 64 := by decide

/-- R27: the table of padded words and their reductions. -/
theorem test_reduce_table : [0, 1, 0x7FFFFFFE, 0x7FFFFFFF, 0x80000000, 0x80000001, 0xFFFFFFF0, 0xFFFFFFFD, 0xFFFFFFFE,
    0xFFFFFFFF].map reduceWord = [0, 1, 2147483646, 0, 1, 2, 2147483633, 2147483646, 0, 1] := by decide

/-- Section 2.6, Case 1: tail 10 and mask 0x3F over the first three words; the bytes past the tail are set. -/
theorem test_digest_case1 : blockDigest { Extent.freeForm with span := 1, tail := 10, mask := 0x3F } 0
    [0x41, 0, 0, 0x80, 0x34, 0x12, 0, 0, 0x12, 0xAB, 0xFF, 0xFF] = (0xBD41, 0x22541) := by decide

/-- Section 2.6, Case 2: word 1,024 is the first of block 1. -/
theorem test_digest_case2 : blockDigest { Extent.freeForm with span := 2, tail := 4096 } 1 [0xF0, 0xFF, 0xFF, 0xFF] =
    (2147483633, 2147469297) := by decide

/-- Section 2.6, Case 3: the two block partials combine to the frame digest. -/
theorem test_digest_case3 : combine (2147483637, 2147477489) (2147483638, 999) = (2147483628, 2147478488) := by decide

/-- Section 1.3: extent 7 of the worked decomposition. -/
def extent7 : Extent := ⟨.sealed, .openable, .auto, none, 0x0100000000, some 0x0200000000, 12500, 2000, 4096, 0, 0x2000, 0⟩

/-- Section 1.3: the index in order, with its last blocks. -/
theorem test_index_extent7 :
    (joinIndex [controlRange 0x1000] (extent7.ranges 7)).map (fun r => (r.first, r.stop - 1)) =
      [(0x1000, 0x1032), (0x2000, 0x2007), (0x0100000000, 0x01017D783F), (0x0200000000, 0x02017D783F)] := by decide

/-- Section 1.3: the digest slots of the last block belong to frames 1,792 to 1,999. -/
theorem test_last_digest_block : extent7.slotsOf 0x2007 = 208 ∧ extent7.firstFrame 0x2007 = 1792 ∧
    extent7.digestBlock 98 = 0x2000 := by decide

/-- Section 1.3: a read of 200 blocks from offset 12,400 touches two frame copies. -/
theorem test_touched_extent7 : (touchedFrom 7 .copy0 12500 200 12400 200 0).map
    (fun t => (t.key.frame, t.first, t.last)) = [(0, 12400, 12499), (1, 0, 99)] := by decide

/-- R68: overlapping and touching runs are merged; R70: the gaps a read newly reserves. -/
theorem test_run_lists : insertRun 10 19 [(0, 9), (30, 39)] = [(0, 19), (30, 39)] ∧
    insertRun 5 34 [(0, 9), (30, 39)] = [(0, 39)] ∧ gaps [(0, 9), (30, 39)] 5 45 = [(10, 29), (40, 45)] := by decide

/-- Section 12.2: records of some kinds decode field by field. -/
theorem test_decode_records :
    decodeRecord [6, 0, 7, 0, 2, 0, 0, 0, 9, 1, 0, 0, 1] = .checkExtent 7 2 265 1 none ∧
    decodeRecord [13, 0, 0, 0, 0x20, 0, 4, 1, 0x10, 0x0E] = .setPace 32 4 1 3600 ∧
    decodeRecord [18, 0, 0, 0, 3, 0, 0, 0, 9, 0, 0, 0x80] = .ackEvents 3 0x80000009 ∧
    decodeRecord [20, 0, 7, 0, 1] = .selectWindow 1 7 ∧ decodeRecord [23] = .unknownKind 23 ∧
    decodeRecord [1, 0, 7, 0, 1, 0, 2, 0xD0, 7, 0, 0, 0, 0xFF, 0xFF, 0xFF, 0xFF, 0xFF, 2, 0, 0, 0, 3, 0, 0, 0, 0, 0x10, 0x3F] =
      .defineExtent 7 1 0 2 2000 (2 ^ 40 - 1) 2 3 4096 0x3F 0 none := by decide

/-- The table gives no bits: no word spells a command. -/
theorem test_no_table_word : decodeTableWord 16 0 = none ∧ State.reset.withFetchWord 16 0 = State.reset := ⟨rfl, rfl⟩

/-- The empty queue idles (log 1). -/
theorem test_idle : step State.reset = .next State.reset := rfl

/-! ### Helper states -/

/-- What a command answers, tested where it answers a next state. -/
def after (o : Host.Outcome State Fault Refusal) (p : State → Bool) : Bool :=
  match o with
  | .next t => p t
  | .fault _ => false
  | .refused _ => false

def allRights : Vector Rights 16 := Vector.replicate 16 ⟨true, true, true⟩

/-- The media link up and a setup image accepted, with the control area at block 1,000. -/
def inPart (p : PartState) : State :=
  { State.reset with
    mediaUp := true
    cfg := { Settings.reset with admission := allRights }
    ldr := { Loader.reset with part := p, eeprom := none, setup := some ⟨1000, 100000, 2000, allRights⟩ } }

def running : State := inPart .running

/-- Extent 7: two blocks a frame, three frames, with a replica, its digest block at 4,000. -/
def smallExtent (st : ExtentState) : Extent := ⟨st, .openable, .auto, none, 2000, some 3000, 2, 3, 4096, 0, 4000, 0⟩

def withExtent (st : ExtentState) : State :=
  let s := running.setExtent 7 (smallExtent st)
  { s with map := { s.map with index := joinIndex [controlRange 1000] ((smallExtent st).ranges 7) } }

def entryOf (c0 c1 : CopyState) : Entry := ⟨5, 6, 0, c0, c1⟩

/-- A line of extent 7's digest block. -/
def smallLine (st : LineState) (e : Entry) : Line :=
  { Line.blank with tag := 4000, extent := 7, state := st, entries := List.replicate 3 e ++ List.replicate 253 Entry.zero,
                    pins := 1 }

/-- Line 3 in a state, with extent 7 SEALED. -/
def withLine (st : LineState) (e : Entry) : State := (withExtent .sealed).setLine 3 (smallLine st e)

/-- Slot 9 OUTSTANDING with an injected request. -/
def sent (s : State) (o : Owner) : State :=
  s.setSlot 9 { Slot.injected ⟨o, o.kind, 4000, 1⟩ 2000 with contribs := [] }

/-- Slot 9 OUTSTANDING with a controller request, without contributions. -/
def passing (s : State) (k : ReqKind) : State :=
  s.setSlot 9 { Slot.assigned ⟨k, 2, 5, 50000, 1, []⟩ with life := .outstanding, timer := some ⟨2000, 2000⟩ }

/-- A batch of one record is in progress, its record next in turn. -/
def withRecord (s : State) (record : List Byte) : State :=
  { s with dir := { s.dir with batch := some ⟨zeros 64 ++ record, 1, false, 77, [], 1, some 5, false, false, false⟩ } }

/-- The record has given a result, which the status block is to show (R160). -/
def gave (t : State) (r : Result) : Bool := t.rep.lastBatch == some ⟨77, 1, false, [r]⟩

/-- A CHECK walk at work on frame 1 of extent 7, with a unit in flight. -/
def walkAt (run : RunState) : Walk :=
  { Walk.create .check none 7 0 2 .full with frame := 1, run := run, stage := .reading 1, inFlight := true }

def withWalk (s : State) (w : Walk) : State := s.setWalk (some w)

/-- The accumulator of the walk, with two chunks pending. -/
def scrub : Accum := { Accum.opened .scrub ⟨7, 1, .copy0⟩ none with runs := [(0, 1)], pendingCount := 2 }

/-- A mend of frame 1, copy 0 in COPY. -/
def copying : Mend := { Mend.create ⟨7, 1, .copy0⟩ with stage := .working, phase := .copy, next := 1 }

def request (k : ReqKind) (addr : Nat) (data : List Byte) : Request := ⟨k, 2, 5, addr, 1, data⟩

/-- The slot's return went upstream with a status. -/
def returned (t : State) (st : UpStatus) : Bool := t.ports.upstream.any fun r => r.requester == 2 && r.tag == 5 && r.status == st

/-- The record `r` is next in turn. -/
def ready (s : State) (r : List Byte) (c : Instr) : Prop := (withRecord s r).running = true ∧ (withRecord s r).nextRecord = some c

/-- Line 3 at work: with an injected request of it in slot 9. -/
def filling (o : Owner) (st : LineState) (refill : Bool) : State :=
  let s := sent (withLine st (entryOf .sealed .suspect)) o
  s.setLine 3 { s.line 3 with refilling := refill }

/-- Slot 9's return timer is due. -/
def due (s : State) : State := s.setSlot 9 { s.slot 9 with timer := some ⟨2000, 2000⟩ }

/-- A batch of the part, cut off or not, with the given number of results of its three records. -/
def withBatch (s : State) (cut : Bool) (results : Nat) : State :=
  let b : Batch := ⟨zeros 256, 3, false, 77, List.replicate results .done, 3, some 5, cut, false, false⟩
  { s with dir := { s.dir with batch := some b } }

/-- The CHECK walk of extent 7 with line 3, in a stage. -/
def walkOn (c0 : CopyState) (run : RunState) (stage : WalkStage) (flight : Bool) : State :=
  withWalk (withLine .clean (entryOf c0 .sealed)) { walkAt run with stage := stage, inFlight := flight, line := some 3 }

/-- The first of two one-block chunks of frame 1 is in slot 9. -/
def chunkSent : State :=
  let s := sent (withWalk (withLine .clean (entryOf .sealed .sealed)) (walkAt .running)) (.walkChunk ⟨7, 1, .copy0⟩ 0)
  (s.setSlot 9 { s.slot 9 with contribs := [⟨30, 0, 0, [(0, 0)], 0, 0⟩] }).setAccum 30 (some scrub)

/-- The second of the two chunks of frame 1 of walk `w` is in slot 9, its accumulator having gathered `a`. -/
def lastChunk (w : Walk) (c0 c1 : CopyState) (a : Nat) : State :=
  let s := sent (withWalk (withLine .clean (entryOf c0 c1)) w) (.walkChunk ⟨7, 1, .copy0⟩ 1)
  (s.setSlot 9 { s.slot 9 with contribs := [⟨30, 1, 0, [(1, 1)], 0, 0⟩] }).setAccum 30
    (some { scrub with pendingCount := 1, a := a, b := 6 })

def mendSent (o : Owner) : State := { sent (withLine .clean (entryOf .mending .sealed)) o with mend := ⟨[], some copying⟩ }

/-- The status write of slot 9 has timed out. -/
def statusSent (b : Bool) : State :=
  let s := sent running .status
  { s.setSlot 9 { s.slot 9 with timer := some ⟨2000, 2000⟩ } with
    rep := { s.rep with statusShot := some ⟨8, Vector.replicate 6 true, b⟩, flags := Vector.replicate 6 ⟨true, none⟩ } }

/-- Slot 9 HELD with a read that returned GOOD, a batch in progress, line 3 DIRTY, every flag masked. -/
def heldBefore : State :=
  let s := withBatch (withLine .dirty Entry.zero) false 1
  { s.setSlot 9 { Slot.assigned (request .read 2002 []) with life := .held, held := true, data := [7], contribs := [⟨3, 0, 0, [], 1, 1⟩] } with
    cfg := { s.cfg with alertMask := Vector.replicate 6 true } }

/-- A write waits for a slot at the head. -/
def headWrite (p : PartState) : State :=
  { inPart p with up := ⟨true, some ⟨request .write 50000 [], false, .slot true⟩⟩ }

/-- A CHECK accumulator of frame 1, copy 0 of extent 7, with line 3, at position 4. -/
def withCheck4 (runs : List (Nat × Nat)) : State :=
  (withLine .clean (entryOf .sealed .sealed)).setAccum 4
    (some { Accum.opened .check ⟨7, 1, .copy0⟩ (some 3) with runs := runs, pendingCount := 1 })

/-- Eight runs that do not meet the first block. -/
def eightRuns : List (Nat × Nat) := (List.range 8).map fun k => (2 * k + 2, 2 * k + 2)

/-- Every traffic position of the pool is in use, by accumulators of extent 9. -/
def fullPool (s : State) : State :=
  forEach (allFin 30) (fun p t => t.setAccum (p.castLE (by decide)) (some (Accum.opened .check ⟨9, p.val, .copy0⟩ none))) s

/-- A write of block 2,002 waits for a slot in RUNNING. -/
def headSlot (s : State) (kind : ReqKind) (exact : Bool) : State :=
  { s with up := ⟨true, some ⟨request kind 2002 [5, 0, 0, 0], exact, .slot true⟩⟩ }

/-- The line queue is not empty. -/
def queueing (s : State) : State := { s with store := { s.store with queue := [⟨.write, 4001, 8, false⟩] } }

/-- Extents 1 to 3, OPEN, of one frame of one block from block 2,000 on: three digest blocks. -/
def threeExtents : State :=
  forEach [1, 2, 3] (fun n t =>
    let e : Extent := ⟨.opened, .openable, .auto, none, 1999 + n.val, none, 1, 1, 4096, 0, 3999 + n.val, 0⟩
    let t := t.setExtent n e
    { t with map := { t.map with index := joinIndex t.map.index (e.ranges n) } }) running

/-- The accumulator of withCheck4 is AWAITING, with eight runs, and holds the return of slot 20. -/
def heldCheck : State :=
  let s := withCheck4 eightRuns
  let x : Slot := { Slot.assigned { request .read 2002 [] with tag := 6 } with life := .held, held := true, data := [7] }
  (s.setSlot 20 { x with outcomes := [.failed true] }).setAccum 4
    (some { Accum.opened .check ⟨7, 1, .copy0⟩ (some 3) with runs := eightRuns, holding := [20], awaiting := true })

/-- A read of four blocks, of frames 1 and 2 of extent 7. -/
def twoFrames : Request := { request .read 2002 [] with count := 4 }

/-- CHECK accumulators of frame 1 at position 4 and of frame 2 at position 9. -/
def bothChecks : State :=
  (withCheck4 [(1, 1)]).setAccum 9 (some { Accum.opened .check ⟨7, 2, .copy0⟩ (some 3) with runs := [(1, 1)], pendingCount := 2 })

/-- A write of blocks 2,000 and 2,001, of extents 1 and 2: two digest blocks. -/
def twoBlocks : Request := { request .write 2000 [] with count := 2 }

/-- A line that holds the digest block of one of the three extents. -/
def lineOfExtent (n : Fin 1024) (st : LineState) (pins : Nat) : Line :=
  { Line.blank with tag := 3999 + n.val, extent := n, state := st, entries := List.replicate 256 Entry.zero, pins := pins }

/-- Every line but `keep` is pinned. -/
def pinnedBut (s : State) (keep : List (Fin 64)) : State :=
  forEach ((allFin 64).filter fun l => !keep.contains l) (fun l t => t.pin l) s

/-- The retirement of extent 3 is next in turn, while the head write waits for line 3, the line of extent `n`. -/
def headWaits (n : Fin 1024) (st : ExtentState) : State :=
  let s := withRecord (threeExtents.setLine 3 (lineOfExtent n .filling 1)) [4, 0, 3]
  let s := s.setExtent n { s.extent n with state := st }
  let r := request .write (1999 + n.val) []
  { s.setSlot 9 { Slot.assigned r with pins := [3] } with up := ⟨true, some ⟨r, false, .lines 9⟩⟩ }

/-- Slot 9's request contributes its block to the accumulator of frame 1, copy 0 at position 4, which has gathered `a`. -/
def contributing (s : State) (mode : AccumMode) (k : ReqKind) (runs : List (Nat × Nat)) (a : Nat) : State :=
  let s := passing s k
  (s.setSlot 9 { s.slot 9 with contribs := [⟨4, 0, 0, [(0, 0)], 0, 0⟩] }).setAccum 4
    (some { Accum.opened mode ⟨7, 1, .copy0⟩ (some 3) with runs := runs, pendingCount := 1, a := a, b := 6 })

/-- Line 3 of the SEALED extent 7, with the states of its entries, refilling or not. -/
def refilling (c0 c1 : CopyState) (refill : Bool) : State :=
  let s := withLine .clean (entryOf c0 c1)
  s.setLine 3 { s.line 3 with refilling := refill }

/-- One request is queued at the arbiter. -/
def arbOf (s : State) (r : InjRequest) : State := { s with arb := [r] }

/-- A mend of frame 1, copy 0 in VERIFY_SOURCE, with line 3. -/
def verifying : Mend := { Mend.create ⟨7, 1, .copy0⟩ with stage := .working, line := some 3 }

def withMend (s : State) (m : Mend) : State := { s with mend := ⟨[], some m⟩ }

/-- The read of the last block of a verify phase is in slot 9, its accumulator having gathered `a`. -/
def verifySent (phase : MendPhase) (attempt : Nat) (c0 c1 : CopyState) (a : Nat) : State :=
  let m : Mend := { verifying with phase := phase, attempt := attempt, next := 1 }
  let s := sent (withMend (withLine .clean (entryOf c0 c1)) m) (.mendRead 0)
  (s.setSlot 9 { s.slot 9 with contribs := [⟨31, 0, 0, [(0, 0)], 0, 0⟩] }).setAccum 31
    (some { Accum.opened .mend ⟨7, 1, if phase = .verifyTarget then .copy0 else .copy1⟩ none with
      runs := [(0, 1)], pendingCount := 1, a := a, b := 6 })

/-- A request for extent 7's digest block is the oldest of the line queue. -/
def lineAsked (s : State) (user : LineUser) : State :=
  { s with store := { s.store with queue := [⟨user, 4000, 7, false⟩, ⟨.write, 4001, 8, false⟩] } }

/-- A walk waits in the line queue, at frame 1 of extent 7. -/
def walkQueued (depth : Depth) : State :=
  lineAsked (withWalk (withExtent .sealed) { walkAt .running with depth := depth, stage := .waitQueue, inFlight := false }) .walk

/-- A MEND_FRAME record waits in the line queue. -/
def frameQueued : State :=
  let s := lineAsked (withExtent .sealed) .mendFrame
  { s with dir := { s.dir with mendFrame := some ⟨⟨7, 1, .copy0⟩, .queue, none⟩ } }

/-- RESUME_WALK is next in turn for a SUSPENDED CHECK walk at frame 1 of extent 7. -/
def resuming (s : State) (past : Bool) : State :=
  withRecord (withWalk s { walkAt .suspended with stage := .ready, inFlight := false, past := past }) [9]

/-- A SUSPENDED walk of extent 7, which has been opened and SEALED again since, is to resume. -/
def resealed (kind : WalkKind) (source : Option CopyId) : State :=
  let w : Walk := { walkAt .suspended with kind := kind, source := source, stage := .ready, inFlight := false, changed := true }
  withRecord (withWalk (withLine .clean (entryOf .sealed .sealed)) w) [9]

/-- The fill of line 3 is queued, and an AWAITING accumulator at position 4 holds the return of slot 20 for it. -/
def fillQueued : State :=
  let x : Slot := { Slot.assigned (request .read 2002 []) with life := .held, held := true, data := [7] }
  let s := ((withLine .filling Entry.zero).setSlot 20 x).setAccum 4
    (some { Accum.opened .check ⟨7, 1, .copy0⟩ (some 3) with runs := [(0, 1)], holding := [20], awaiting := true })
  (arbOf s (readOf (.fill 3) 4000)).setLine 3
    { s.line 3 with waiting := [⟨1, .accum 4, .verdict .copy0 5 6⟩] }

/-- A record is next in turn, with two more after it. -/
def withMoreRecords (s : State) (record : List Byte) : State :=
  let b : Batch := ⟨zeros 64 ++ record ++ zeros 256, 3, false, 77, [], 3, some 5, false, false, false⟩
  { s with dir := { s.dir with batch := some b } }

/-- A CHECK walk reads frame 1 of extent 7, with its accumulator, and the extent is released. -/
def releasing (record : List Byte) : State :=
  withRecord ((walkOn .sealed .running (.reading 1) true).setAccum 30 (some { scrub with line := some 3 })) record

/-- The tables at their limits, freeze and every flag set, and one command waiting. -/
def atLimits (p : PartState) : State :=
  let s := inPart p
  { s with
    pending := [.upstreamLinkUp]
    mend := ⟨(List.finRange 16).map fun i => ⟨7, i.val, .copy0⟩, none⟩
    dir := { s.dir with freeze := true }
    rep := { s.rep with completed := [(0, []), (1, []), (2, [])], flags := Vector.replicate 6 ⟨true, none⟩ } }

/-- R185: format 0x0401, C = 1000, capacity 100,000, timeout 2,000, every right; the check over 254 bytes. -/
def goodImage : List Byte :=
  withCheck (padTo 254 ([0x01, 0x04] ++ leBytes 5 1000 ++ [0] ++ leBytes 6 100000 ++ leBytes 2 2000 ++ List.replicate 16 7))

/-- Every slot holds a live passthrough request. -/
def crowded : State := running.mapSlots fun _ => { Slot.freeSlot with life := .outstanding }

/-- A request waits for a slot in LOADING. -/
def waitsForSlot : State := { inPart .loading with up := ⟨true, some ⟨request .read 50000 [], false, .slot false⟩⟩ }

/-- A write to frame 1 of an OPEN extent waits with slot 9 and its line present. -/
def waitsForLines (st : ExtentState) : State :=
  let s := (withExtent st).setLine 3 (smallLine .clean (entryOf .sealed .sealed))
  let r := request .write 2002 [5, 0, 0, 0]
  { s.setSlot 9 { Slot.assigned r with pins := [3] } with up := ⟨true, some ⟨r, false, .lines 9⟩⟩ }

/-- The exact directive-block write waits for the unit: two records, label 77. -/
def waitsForUnit : State :=
  let r := request .write 1000 ([2, 0, 0, 0, 77])
  { running.setSlot 9 (Slot.assigned r) with up := ⟨true, some ⟨r, true, .unit 9⟩⟩ }

def inBatch : State :=
  let s := withRecord (passing running .write) [21]
  s.setSlot 9 { s.slot 9 with batch := true }

/-- A fill, a status write and a walk chunk are queued, the chunk first. -/
def queuedThree : State :=
  { running with arb := [readOf (.walkChunk ⟨7, 0, .copy0⟩ 0) 2000, writeOf .status 1001, readOf (.fill 3) 4000] }

/-- A digest block of three fresh entries with a replica, the second damaged in its check. -/
def digestBlock (damaged : Bool) : List Byte :=
  padBlock ((Entry.fresh true).encode ++ (if damaged then zeros 16 else (Entry.fresh true).encode) ++ (Entry.fresh true).encode)

/-- Every timer of TimersExpire is due. -/
def timersDue : State :=
  let s := withWalk ((withLine .dirty Entry.zero).setCat 16 ⟨.changed, some ⟨5000, 5000⟩, false⟩) (walkAt .running)
  let s := s.setLine 3 { s.line 3 with dirtyTimer := some ⟨5000, 5000⟩ }
  { s with rep := { s.rep with statusTimer := some ⟨1000, 1000⟩ }, walk := { s.walk with restTimer := some ⟨0, 0⟩ } }

/-- The head write waits in the line queue for block 4,000, with slot 9. -/
def queuedWrite : State :=
  let s := withExtent .opened
  let r := request .write 2002 []
  { s.setSlot 9 (Slot.assigned r) with
    up := ⟨true, some ⟨r, false, .lines 9⟩⟩, store := { s.store with queue := [⟨.write, 4000, 7, false⟩] } }

def idleAccum : Accum := { Accum.opened .check ⟨7, 1, .copy0⟩ (some 3) with runs := [(0, 0)], idle := some ⟨500, 500⟩ }

def withIdle : State := (withLine .clean (entryOf .sealed .sealed)).setAccum 29 (some idleAccum)

/-- A walk at work and a record next in turn. -/
def walkThen (st : ExtentState) (run : RunState) (record : List Byte) : State :=
  withRecord (withWalk (withExtent st) (walkAt run)) record

/-- R10 to R12: the record of DEFINE_EXTENT for extent 8 of one frame of one block, at 6,000, without a replica. -/
def defineRecord : List Byte :=
  [1, 0, 8, 0, 0, 0, 0] ++ leBytes 5 6000 ++ leBytes 5 (2 ^ 40 - 1) ++ leBytes 4 1 ++ leBytes 4 1 ++ leBytes 2 4096 ++
    leBytes 4 0 ++ leBytes 5 7000

/-- A mend of frame 1, copy 0 of extent 7 waits, its line present. -/
def mendWaiting : State := { withLine .clean (entryOf .suspect .sealed) with mend := ⟨[⟨7, 1, .copy0⟩], none⟩ }

def frameRecord : State :=
  withRecord (withLine .clean (entryOf .suspect .sealed)) [10, 0, 7, 0, 1]

/-- A log write is in slot 9. -/
def logSent (shot : LogShot) : State :=
  let s := sent running .log
  { s with rep := { s.rep with logShot := some shot, head := 130, completed := [(0, [])], image := some [] } }

/-- FINDING and WALK_END are set with counts 9 and 10, MEND_END with none. -/
def flagged (record : List Byte) : State :=
  let s := withRecord running record
  { s with rep := { s.rep with flags := ((s.rep.flags.set 0 ⟨true, some 9⟩).set 1 ⟨true, some 10⟩).set 2 ⟨true, none⟩ } }

/-- The tail stands at 4,000 and the written head at 10. -/
def withLog (record : List Byte) (withheld : Nat) : State :=
  let s := withRecord running record
  { s with rep := { s.rep with head := 12, writtenHead := 10, tail := 4000, image := some [], withheld := withheld } }

/-- LOADING, with a catalogue read or write of block `b` in slot 9. -/
def loadingWith (o : Owner) (l : Load) : State :=
  let s := sent (inPart .loading) o
  { s with ldr := { s.ldr with load := l } }

/-- R187: the header of a blank catalogue. -/
def goodHeader : List Byte := (freshHeader ⟨1000, 100000, 2000, allRights⟩).encode

/-- R187: a record block of FREE extents. -/
def freeBlock : List Byte := recordBlock (List.replicate 64 Extent.freeForm)

/-- Every record block but the last has been read, and its read is in slot 9. -/
def lastBlock (tries : Nat) : State :=
  loadingWith (.catalogueRead 16) (.records (freshHeader ⟨1000, 100000, 2000, allRights⟩)
    ((Vector.replicate 16 (some freeBlock)).set 15 none) (Vector.replicate 16 tries))

/-- The read of the first record block is in slot 9, with no other block read. -/
def firstBlock (tries : Nat) : State :=
  loadingWith (.catalogueRead 1) (.records (freshHeader ⟨1000, 100000, 2000, allRights⟩) (Vector.replicate 16 none)
    (Vector.replicate 16 tries))

/-- A part at work: a write waits at the head with slot 9, a walk is SAVING with a PASS incoming and one saved, two lines and two
accumulators are in use, one log image is complete, and a tick waits. -/
def atWork : State :=
  let s := (waitsForLines .sealed).setLine 4 { smallLine .dirty Entry.zero with tag := 4001 }
  let s := (s.setAccum 30 (some scrub)).setAccum 4 (some (Accum.opened .check ⟨7, 1, .copy0⟩ (some 3)))
  let f : Finding := s.findingNow .flushDone none none none 1 2 3
  { s with
    pending := [.partClockTick]
    walk := ⟨some (walkAt .saving), some (Walk.create .pass none 0 0 0 .full), [walkAt .suspended], none, false⟩
    rep := { s.rep with head := 130, tail := 5, image := some [f, f], completed := [(0, List.replicate 128 f)] } }

/-! ### Invariants of the step: states and steps that meet their hypotheses -/

theorem witness_TableLimitsKept : (atLimits .running).limits := by unfold State.limits; decide +kernel

theorem witness_step_answers : (∃ t, step atWork = .next t) ∧ atWork.limits := ⟨⟨_, rfl⟩, by unfold State.limits; decide +kernel⟩

theorem witness_IndexKept : atWork.indexHolds := by unfold State.indexHolds State.indexOrdered; decide +kernel

theorem witness_SlotBudgetsKept : atWork.slotsHold := by unfold State.slotsHold; decide +kernel

theorem witness_WalksKept : atWork.walksHold ∧ (atLimits .fault).walksHold := by unfold State.walksHold; decide +kernel

theorem witness_LinesAndAccumulatorsKept : atWork.linesApart ∧ atWork.poolApart := by
  unfold State.linesApart State.poolApart; decide +kernel

theorem witness_LogKept : atWork.logHolds := by
  refine ⟨by decide +kernel, by decide +kernel, by decide +kernel, by unfold Settings.logFits; decide +kernel,
    by decide +kernel, by decide +kernel, by decide +kernel, ?_, ?_⟩ <;> exact trivial

theorem witness_LogKept_place : Report.full { Report.reset with head := 4095, tail := 1, image := some [] } = false ∧
    Report.full { Report.reset with head := 0, tail := 1, image := some [] } = true := by decide +kernel

theorem witness_steps_kept : ∃ t, Steps (atLimits .running) .upstreamLinkUp t ∧ isReset .upstreamLinkUp = false ∧
    clearsFlags .upstreamLinkUp = false ∧ givesSettings .upstreamLinkUp = false ∧ movesClock .upstreamLinkUp = false ∧
    (∀ e, Instr.upstreamLinkUp ≠ .injectionGrant e) ∧ (atLimits .running).dir.freeze = true ∧
    (∀ f, ((atLimits .running).flag f).isSet = true) ∧ (atLimits .running).faultHolds :=
  ⟨_, ⟨⟨_, rfl⟩, rfl⟩, rfl, rfl, rfl, rfl, by simp, rfl, by intro f; cases f <;> rfl, fun _ => rfl⟩

theorem witness_RunningLeftOnlyToFault_fault : ∃ t, Steps (atLimits .fault) .upstreamLinkUp t ∧ isReset .upstreamLinkUp = false ∧
    isLinkReset .upstreamLinkUp = false ∧ (atLimits .fault).ldr.part = .fault ∧ (atLimits .fault).faultHolds :=
  ⟨_, ⟨⟨_, rfl⟩, rfl⟩, rfl, rfl, rfl, fun _ => rfl⟩

theorem witness_StepRunsCommand : (running.withPending [.freeze]).pending = .freeze :: [] := rfl

/-! ### Resets, the EEPROM, the links -/

theorem test_hardware_reset : after (exec (.hardwareReset true) (atLimits .running)) (fun t =>
    t.ldr.part == .setup && t.ldr.maint && !t.dir.freeze && t.pending == [.upstreamLinkUp]) = true := by decide +kernel

theorem witness_LinkResetClearsTraffic : running.ldr.part ≠ .fault ∧ running.enginesIdle := by decide +kernel

theorem witness_LinkResetClearsTraffic_owners : (filling (.fill 3) .filling false).enginesIdle ∧
    ((filling (.fill 3) .filling false).line 3).state = .filling ∧
    ((filling (.writeback 3) .writingRedirtied false).line 3).state.writes = true ∧
    ((filling (.refill 3) .clean true).line 3).state = .clean ∧ ((statusSent true).slot 9).kind = .injected .status ∧
    (statusSent true).controlBase = some 1000 ∧ (statusSent true).ldr.part = .running ∧
    ((sent running (.catalogueWrite 16)).slot 9).life = .outstanding := by decide +kernel

/-- R161: two records of three had reached the image at 192 bytes, one at 191; one has its result. -/
theorem witness_LinkResetClearsTraffic_batch : (withBatch running false 1).dir.mendFrame = none ∧
    ((withBatch running false 1).slot 5).life ≠ .held ∧ 1 < min 3 (192 / 64 - 1) ∧ min 3 (191 / 64 - 1) ≤ 1 ∧
    (withBatch running false 1).rep.statusShot = none ∧ ((withBatch running true 1).dir.batch.map Batch.cut) = some true ∧
    (withBatch running true 1).ldr.part ≠ .fault := by decide +kernel

theorem witness_LinkResetLeavesFault : (inPart .fault).ldr.part = .fault ∧ (inPart .fault).ldr.setup.isSome = true ∧
    State.ldr { inPart .fault with ldr := { Loader.reset with part := .fault } } = { Loader.reset with part := .fault } := by
  decide +kernel

theorem test_link_reset_fault : after (exec (.linkReset 0 none) (inPart .fault)) (fun t =>
    t.ldr.part == .loading && t.arb == [readOf (.catalogueRead 0) 1034] && t.ports.media == [.linkReset]) = true := by
  decide +kernel

theorem test_upstream_down : after (exec (.upstreamLinkDown 0 none) (passing running .read)) (fun t =>
    !t.up.linkUp && (t.slot 9).life == .free && t.ports.upstream == []) = true := by decide +kernel

theorem witness_EepromReadEnds : State.reset.ldr.part = .setup ∧ State.reset.ldr.eeprom.isSome = true ∧
    State.ldr { State.reset with ldr := { Loader.reset with eeprom := some ⟨100, 100⟩ } } =
      { Loader.reset with eeprom := some ⟨100, 100⟩ } ∧ timerDue (some ⟨100, 100⟩) = true := by decide +kernel

theorem test_eeprom_good : after (exec (.eepromReadEnd (some goodImage)) State.reset) (fun t =>
    t.ldr.part == .loading && t.arb == [readOf (.catalogueRead 0) 1034] &&
      t.map.index == [⟨.control, 1000, 51⟩] && t.cfg.admission == allRights) = true := by decide +kernel

theorem test_eeprom_bad : after (exec (.eepromReadEnd (some (zeros 256))) State.reset) (fun t =>
    t.ldr.part == .fault && t.ldr.fault == some .setupImage && (t.flag .fault).isSet && t.alertLow) = true := by decide +kernel

theorem test_eeprom_timeout : after (exec .eepromReadTimeout
    { State.reset with ldr := { Loader.reset with maint := true, eeprom := some ⟨100, 100⟩ } }) (fun t =>
      t.ldr.part == .passthrough && t.alertLow) = true := by decide +kernel

theorem witness_LinksDownAndUp : (withLine .filling Entry.zero).enginesIdle ∧ (withLine .filling Entry.zero).up.head = none ∧
    (∀ i, ((withLine .filling Entry.zero).slot i).life = .free) ∧ (withLine .filling Entry.zero).noneAwaitReads ∧
    ((withLine .filling Entry.zero).line 3).state = .filling ∧ (refilling .sealed .sealed true).noneAwaitReads ∧
    ((refilling .sealed .sealed true).line 3).refilling = true ∧ (passing running .write).noneAwaitReads ∧
    (((withLine .dirty Entry.zero).setLine 4 { Line.blank with cut := true }).line 4).cut = true ∧
    ((running.setCat 16 ⟨.changed, none, true⟩).cat 16).cut = true := by
  unfold State.noneAwaitReads; decide +kernel

/-- R53, R60, R78: a fill that is still queued fails with the media link: its line is INVALID, and the held return it kept
AWAITING has gone upstream MEDIA_ERROR. -/
theorem test_queued_fill_fails : after (exec (.mediaLinkDown none) fillQueued) (fun t =>
    (t.line 3).state == .invalid && (t.line 3).waiting == [] && t.arb == [] && (t.accum 4).isNone && returned t .mediaError &&
      t.ports.upstream.length == 1 && t.rep.head == 0) = true := by decide +kernel

theorem test_media_up_requeues : after (exec (.mediaLinkUp none) (running.setCat 16 ⟨.changed, none, true⟩)) (fun t =>
    t.mediaUp && t.arb == [writeOf (.catalogueWrite 16) 1050]) = true := by decide +kernel

theorem witness_LinksDownAndUp_passthrough : (passing running .write).enginesIdle ∧ (passing running .write).up.head = none ∧
    (passing running .write).dir.batch = none ∧ ((passing running .write).slot 9).life = .outstanding ∧
    ((passing running .write).slot 9).kind = .passthrough .write ∧ ((passing running .write).slot 9).contribs = [] ∧
    (∀ j, j ≠ 9 → ((passing running .write).slot j).life = .free) := by decide +kernel

theorem witness_LinksDownAndUp_injected : (filling (.fill 3) .filling false).enginesIdle ∧
    (filling (.fill 3) .filling false).up.head = none ∧ (filling (.fill 3) .filling false).dir.batch = none ∧
    (filling (.fill 3) .filling false).noneAwaitReads ∧ ((filling (.fill 3) .filling false).slot 9).dead = false ∧
    ((filling (.fill 3) .filling false).slot 9).kind = .injected (.fill 3) ∧
    (∀ j, j ≠ 9 → ((filling (.fill 3) .filling false).slot j).life = .free) ∧
    ((filling (.fill 3) .filling false).line 3).state = .filling ∧ (filling (.refill 3) .clean true).noneAwaitReads ∧
    ((filling (.writeback 3) .writing false).line 3).state.writes = true ∧ ((logSent .completed).slot 9).kind = .injected .log ∧
    (loadingWith (.catalogueRead 3) (.header 2)).controlBase = some 1000 := by
  unfold State.noneAwaitReads; decide +kernel

theorem witness_LinkCutsEngines_down : chunkSent.noneAwaitReads ∧ (mendSent (.mendRead 0)).noneAwaitReads ∧ chunkSent.up.head = none ∧ chunkSent.dir.batch = none ∧
    chunkSent.walk.cur = some (walkAt .running) ∧ chunkSent.mend.active = none ∧ (walkAt .running).stage = .reading 1 ∧
    (walkAt .running).inFlight = true ∧ (∀ j, j ≠ 9 → (chunkSent.slot j).life = .free) ∧
    (chunkSent.slot 9).kind = .injected (.walkChunk ⟨7, 1, .copy0⟩ 0) ∧
    (mendSent (.mendRead 0)).mend.active = some copying ∧ copying.stage = .working ∧
    (∀ j, j ≠ 9 → ((mendSent (.mendRead 0)).slot j).life = .free) := by
  unfold State.noneAwaitReads; decide +kernel

theorem witness_LinkCutsEngines_up :
    (∀ w ∈ (walkOn .sealed .running .cut false).walk.cur, w.visits (walkOn .sealed .running .cut false) ∧ w.stage = .cut ∧
      w.run = .running ∧ w.line = some 3) ∧ (walkOn .sealed .running .cut false).walk.cur.isSome = true ∧
    (∀ w ∈ (walkOn .suspect .suspending .cut true).walk.cur, w.visits (walkOn .suspect .suspending .cut true) ∧
      w.inFlight = true ∧ w.run ≠ .suspended) ∧ (walkOn .suspect .suspending .cut true).walk.cur.isSome = true ∧
    ((walkOn .sealed .running .cut false).line 3).tag = ((walkOn .sealed .running .cut false).extent 7).digestBlock 1 ∧
    ((walkOn .sealed .running .cut false).line 3).state.holds = true ∧
    (walkOn .sealed .running .cut false).inHand Owner.isWalk < (walkOn .sealed .running .cut false).cfg.paceDepth ∧
    (withMend (withLine .clean Entry.zero) { copying with stage := .cut, line := some 3 }).inHand Owner.isMend = 0 := by
  unfold Walk.visits Walk.atUnit; decide +kernel

theorem witness_LinkCutsEngines_reset :
    (∀ w ∈ (walkOn .sealed .running (.reading 1) true).walk.cur, w.visits (walkOn .sealed .running (.reading 1) true) ∧
      w.stage = .reading 1 ∧ w.frame ≤ w.last) ∧ (walkOn .sealed .suspending (.reading 1) true).walk.cur.isSome = true ∧
    Holding (walkOn .sealed .running (.reading 1) true) 7 1 3 ∧
    ((walkOn .sealed .running (.reading 1) true).entryIn 3 1).copyState .copy0 = .sealed ∧
    Holding (withMend (withLine .clean (entryOf .mending .sealed)) { copying with stage := .cut }) 7 1 3 ∧
    (walkOn .sealed .running (.reading 1) true).ldr.part ≠ .fault := by
  unfold Walk.visits Walk.atUnit Holding; decide +kernel

theorem witness_TableErrorEntersFault : heldBefore.store.queue = [] ∧ heldBefore.ldr.part = .running ∧
    heldBefore.up.head = none ∧ (heldBefore.slot 9).life = .held ∧ (∀ j, j ≠ 9 → (heldBefore.slot j).life ≠ .held) ∧
    heldBefore.controlBase = some 1000 ∧ heldBefore.dir.batch.isSome = true ∧ heldBefore.accum 3 = none ∧
    (heldBefore.line 0).dirtyTimer = none ∧
    (headWrite .running).up.head = some ⟨request .write 50000 [], false, .slot true⟩ ∧
    (∀ i, ((headWrite .running).slot i).life ≠ .held) ∧ (headWrite .running).store.queue = [] ∧
    ((statusSent true).slot 9).kind.isPass = false ∧ (inPart .fault).ldr.part = .fault ∧
    (inPart .loading).ldr.part ≠ .running := by decide +kernel

theorem witness_TableErrorEntersFault_slot : (passing (inPart .loading) .read).ldr.part ≠ .running ∧
    (passing running .write).ldr.part = .running ∧ (passing running .write).up.head = none ∧
    (passing running .write).store.queue = [] ∧ (∀ j, j ≠ 9 → ((passing running .write).slot j).life ≠ .held) ∧
    (passing (inPart .loading) .read).up.head = none ∧ ((passing (inPart .loading) .read).slot 9).life ≠ .free ∧
    ((passing (inPart .loading) .read).slot 9).kind = .passthrough .read ∧
    (passing (inPart .loading) .read).store.queue = [] ∧
    ((passing (inPart .fault) .read).slot 9).kind = .passthrough .read := by decide +kernel

/-- R107: an error of a slot found in LOADING is treated by the slot rule, and no FAULT follows. -/
theorem test_table_error : after (exec (.lineQueueGrant (some (.inFlight 9 false))) (passing (inPart .loading) .read)) (fun t =>
    returned t .mediaError && (t.slot 9).life == .free && t.ldr.part == .loading) = true ∧
    after (exec (.lineQueueGrant (some .digestCache)) heldBefore) (fun t =>
      t.ldr.fault == some .digestCache && returned t .good && t.line 3 == Line.blank && t.dir.batch == none) = true ∧
    after (exec (.lineQueueGrant (some (.inFlight 9 false))) (passing running .write)) (fun t =>
      t.ldr.fault == some .inFlight && returned t .mediaError && (t.slot 9).life == .free) = true := by
  decide +kernel

theorem test_media_down : after (exec (.mediaLinkDown none) (passing running .write)) (fun t =>
    !t.mediaUp && returned t .mediaError && (t.slot 9).life == .free) = true := by decide +kernel

/-! ### Controller requests -/

theorem witness_RequestsAnsweredAtOnce : running.takesHeader = true ∧
    running.formFails { request .read 50000 [] with count := 257 } = true ∧
    running.formFails { request .read 50000 [] with tag := 64 } = true ∧
    running.formFails { request .read (2 ^ 40) [] with count := 1 } = true ∧
    running.formFails { request .read (2 ^ 40 - 256) [] with count := 256 } = false ∧
    State.takesHeader { running with mediaUp := false } = true ∧
    ({ running with mediaUp := false } : State).formFails (request .read 50000 []) = false ∧
    State.hasRight { running with cfg := Settings.reset } (request .read 50000 []) = false ∧
    State.takesHeader { running with cfg := Settings.reset } = true ∧ (inPart .fault).takesHeader = true ∧
    (inPart .fault).formFails (request .write 50000 (zeros 4096)) = false := by decide +kernel

theorem witness_FormTest : running.takesHeader = true ∧
    running.formFails { request .read 50000 [] with tag := 64 } = true ∧
    (passing running .read).takesHeader = true ∧
    (passing running .read).formFails (request .read 50000 []) = true := by decide +kernel

theorem test_request_form : after (exec (.controllerRequest { request .read 50000 [] with count := 257 } none) running)
    (fun t => returned t .refused && t.ports.media == []) = true := by decide +kernel

theorem witness_PlainRequestForwarded : (inPart .passthrough).takesHeader = true ∧
    (inPart .passthrough).formFails (request .read 50000 []) = false ∧ (inPart .passthrough).mediaUp = true ∧
    (inPart .loading).takesHeader = true ∧ (inPart .loading).hasRight (request .read 50000 []) = true ∧
    (inPart .passthrough).passSlot? = some 0 ∧ crowded.passSlot? = none := by decide +kernel

theorem test_request_forwarded : after (exec (.controllerRequest (request .read 50000 []) none) (inPart .passthrough))
    (fun t => t.ports.media == [.request .read 2 0 50000 1 []] && (t.slot 0).timer == some ⟨2000, 0⟩) = true := by decide +kernel

theorem witness_PlainRequestForwarded_waiting : waitsForSlot.up.head = some ⟨request .read 50000 [], false, .slot false⟩ ∧
    waitsForSlot.ldr.part ≠ .running ∧ waitsForSlot.passSlot? = some 0 := by decide +kernel

theorem witness_ReadInRunning : (withExtent .sealed).ldr.part = .running ∧ (withExtent .sealed).passSlot? = some 0 ∧
    (withExtent .sealed).takesHeader = true ∧ (withExtent .sealed).formFails (request .read 2002 []) = false ∧
    (withExtent .sealed).mediaUp = true ∧ (withExtent .sealed).hasRight (request .read 2002 []) = true ∧
    (withExtent .sealed).touched 2002 1 = [⟨⟨7, 1, .copy0⟩, 0, 0, 0⟩] ∧ ((withExtent .sealed).extent 7).state = .sealed ∧
    ((withExtent .opened).extent 7).state ≠ .sealed ∧
    (headSlot (withCheck4 [(1, 1)]) .read false).up.head = some ⟨request .read 2002 [5, 0, 0, 0], false, .slot true⟩ := by
  decide +kernel

theorem witness_ReadInRunning_joined : (withCheck4 [(0, 0)]).findAccum .check ⟨7, 1, .copy0⟩ = some 4 ∧
    ((withCheck4 [(0, 0)]).accum 4).map Accum.holding = some [] ∧ gaps [(0, 0)] 0 0 = [] ∧ gaps [(1, 1)] 0 0 ≠ [] ∧
    8 < (insertRun 0 0 eightRuns).length ∧ (insertRun 0 0 [(1, 1)]).length ≤ 8 := by decide +kernel

theorem witness_ReadInRunning_opened : (withExtent .sealed).findAccum .check ⟨7, 1, .copy0⟩ = none ∧
    (withExtent .sealed).freeTraffic? = some 0 ∧ (fullPool (withExtent .sealed)).freeTraffic? = none ∧
    (fullPool (withExtent .sealed)).findAccum .check ⟨7, 1, .copy0⟩ = none ∧
    (withLine .writing (entryOf .suspect .sealed)).findLine 4000 = some 3 ∧
    ((withLine .writing (entryOf .suspect .sealed)).line 3).state.holds = true ∧
    ((withLine .writing (entryOf .suspect .sealed)).entryIn 3 1).copyState .copy0 = .suspect ∧
    ((withLine .writing (entryOf .unsealed .sealed)).entryIn 3 1).copyState .copy0 ∉ [CopyState.sealed, .suspect, .mending] ∧
    (withExtent .sealed).findLine 4000 = none ∧ (withExtent .sealed).victim? = some 0 ∧
    (queueing (withExtent .sealed)).findLine 4000 = none ∧ (queueing (withExtent .sealed)).victim? = some 0 ∧
    (pinnedBut (withExtent .sealed) []).victim? = none ∧ (pinnedBut (withExtent .sealed) []).findLine 4000 = none := by
  decide +kernel

/-- R50: a miss takes the line there is, though a request waits in the line queue. -/
theorem test_read_takes_line : after (exec (.controllerRequest (request .read 2002 []) none) (queueing (withExtent .sealed)))
    (fun t => t.arb == [readOf (.fill 0) 4000] && (t.accum 0).isSome && t.store.queue.length == 1) = true := by decide +kernel

theorem test_read_checked : after (exec (.controllerRequest (request .read 2002 []) none) (withExtent .sealed)) (fun t =>
    (t.slot 0).contribs == [⟨0, 0, 0, [(0, 0)], 0, 0⟩] && t.arb == [readOf (.fill 0) 4000] &&
      t.ports.media == [.request .read 2 0 2002 1 []]) = true := by decide +kernel

/-- An abandoned accumulator that holds a return; a FILLING line; a MENDING copy, of the active mend and of none. -/
theorem witness_ReadInRunning_held : heldCheck.findAccum .check ⟨7, 1, .copy0⟩ = some 4 ∧
    (∀ a ∈ heldCheck.accum 4, a.holding = [20] ∧ 8 < (insertRun 0 0 a.runs).length) ∧ (heldCheck.accum 4).isSome = true ∧
    (heldCheck.slot 20).life = .held ∧ (heldCheck.slot 20).held = true ∧ (heldCheck.slot 20).batch = false ∧
    heldCheck.formFails (request .read 2002 []) = false ∧
    (withLine .filling Entry.zero).findLine 4000 = some 3 ∧ ((withLine .filling Entry.zero).line 3).state = .filling ∧
    ((withLine .clean (entryOf .mending .sealed)).entryIn 3 1).copyState .copy0 = .mending ∧
    (withLine .clean (entryOf .mending .sealed)).mend.active = none ∧ copying.key = ⟨7, 1, .copy0⟩ ∧ copying.begun = true := by
  decide +kernel

theorem test_read_abandons_held : after (exec (.controllerRequest (request .read 2002 []) none) heldCheck) (fun t =>
    t.ports.upstream == [⟨2, 6, .checkFailed, [7]⟩] && t.accum 4 == none && (t.slot 20).life == .free) = true := by
  decide +kernel

theorem test_read_mending : after (exec (.controllerRequest (request .read 2002 []) none)
    (withLine .clean (entryOf .mending .sealed))) (fun t =>
      t.entryIn 3 1 == entryOf .suspect .sealed && t.mend.queue == [⟨7, 1, .copy0⟩] && (t.line 3).pins == 1) = true := by
  decide +kernel

/-- Two frame copies are touched: joined, and opened at positions 0 and 1 on the one line of both. -/
theorem witness_ReadInRunning_two : (bothChecks.touched 2002 4).map (fun u => (u.key, u.first, u.last)) =
      [(⟨7, 1, .copy0⟩, 0, 1), (⟨7, 2, .copy0⟩, 0, 1)] ∧ bothChecks.formFails twoFrames = false ∧
    bothChecks.findAccum .check ⟨7, 1, .copy0⟩ = some 4 ∧ bothChecks.findAccum .check ⟨7, 2, .copy0⟩ = some 9 ∧
    gaps [(1, 1)] 0 1 ≠ [] ∧ (insertRun 0 1 [(1, 1)]).length ≤ 8 ∧
    (withLine .clean (entryOf .sealed .sealed)).freeTraffic? = some 0 ∧
    (withLine .clean (entryOf .sealed .sealed)).accum 1 = none ∧
    (withLine .clean (entryOf .sealed .sealed)).findAccum .check ⟨7, 2, .copy0⟩ = none := by decide +kernel

theorem test_read_two : after (exec (.controllerRequest twoFrames none) (withLine .clean (entryOf .sealed .suspect))) (fun t =>
    (t.accum 0).isSome && (t.accum 1).isSome && (t.line 3).pins == 3 && (t.slot 0).contribs.length == 2) = true := by
  decide +kernel

theorem witness_WriteInRunning : (withExtent .opened).passSlot? = some 0 ∧
    (withExtent .opened).judge ((withExtent .opened).isExact (request .write 2002 [])) 2002 1 = .allowed ∧
    (withExtent .opened).neededBlocks 2002 1 = [(4000, 7)] ∧ (withExtent .opened).findLine 4000 = none ∧
    (withExtent .opened).victim? = some 0 ∧ ((withExtent .opened).setLine 3 (smallLine .clean Entry.zero)).findLine 4000 = some 3 ∧
    (queueing (withExtent .opened)).store.queue ≠ [] ∧ running.ingestTouched 2002 1 = [] ∧
    threeExtents.neededBlocks 2000 3 = [(4000, 1), (4001, 2), (4002, 3)] ∧ threeExtents.judge false 2000 3 = .allowed ∧
    threeExtents.takesHeader = true ∧ running.isExact (request .write 1000 []) = true ∧
    (headSlot running .write true).up.head = some ⟨request .write 2002 [5, 0, 0, 0], true, .slot true⟩ ∧
    (headSlot (withExtent .sealed) .write false).judge false 2002 1 = .refused ∧
    (headSlot (withExtent .sealing) .write false).judge false 2002 1 = .busy := by decide +kernel

theorem test_three_blocks : after (exec (.controllerRequest { request .write 2000 [] with count := 3 } none) threeExtents) (fun t =>
    returned t .refused && (t.rep.image.map fun l => l.map fun f => (f.kind, f.d1, f.d2)) == some [(.writeRefused, 2, 2002)]) =
    true := by decide +kernel

theorem test_slot_taken : after (exec (.passthroughSlotTaken none) waitsForSlot) (fun t =>
    t.up.head == none && t.ports.media == [.request .read 2 0 50000 1 []]) = true := by decide +kernel

/-- Two digest blocks: each a hit, one a hit and one a miss, each a miss; with a line to take for both, for one, for none. -/
theorem witness_WriteInRunning_two : threeExtents.neededBlocks 2000 2 = [(4000, 1), (4001, 2)] ∧
    threeExtents.judge false 2000 2 = .allowed ∧ threeExtents.victim?.isSome = true ∧
    (let s := (threeExtents.setLine 3 (lineOfExtent 1 .clean 0)).setLine 5 (lineOfExtent 2 .filling 0);
      s.findLine 4000 = some 3 ∧ s.findLine 4001 = some 5) ∧
    (let s := threeExtents.setLine 3 (lineOfExtent 1 .clean 0);
      s.findLine 4001 = none ∧ (s.pin 3).victim?.isSome = true ∧ ((pinnedBut s []).pin 3).victim? = none) ∧
    (let s := threeExtents.setLine 5 (lineOfExtent 2 .dirty 0);
      s.findLine 4000 = none ∧ (∀ v ∈ s.victim?, (s.takeForFill v 4000 1).findLine 4001 = some 5) ∧ s.victim?.isSome = true) ∧
    (pinnedBut threeExtents [5, 6]).victim?.isSome = true ∧
    ((pinnedBut threeExtents [5, 6]).takeForFill 5 4000 1).victim?.isSome = true ∧
    (pinnedBut threeExtents [5]).victim? = some 5 ∧ ((pinnedBut threeExtents [5]).takeForFill 5 4000 1).victim? = none ∧
    (pinnedBut threeExtents []).victim? = none ∧ (queueing threeExtents).findLine 4001 = none := by decide +kernel

theorem test_write_two : after (exec (.controllerRequest twoBlocks none) (pinnedBut threeExtents [5])) (fun t =>
    (t.slot 0).pins == [5] && t.store.queue == [⟨.write, 4001, 2, false⟩] && t.arb == [readOf (.fill 5) 4000]) = true := by
  decide +kernel

theorem witness_SlotAndGrantChoice_pass : (passing running .read).passSlot? = some 0 := by decide +kernel

theorem witness_ProtectedWriteStopped : (withExtent .sealed).takesHeader = true ∧ (withExtent .sealed).mediaUp = true ∧
    (withExtent .sealed).ldr.part = .running ∧ (withExtent .sealed).formFails (request .write 2000 []) = false ∧
    (withExtent .sealed).hasRight (request .write 2000 []) = true ∧
    (withExtent .sealed).judge ((withExtent .sealed).isExact (request .write 2000 [])) 2000 1 = .refused ∧
    (withExtent .sealing).judge false 2005 1 = .busy ∧ (withExtent .sealed).rep.full = false := by decide +kernel

theorem test_write_refused : after (exec (.controllerRequest (request .write 2000 (zeros 4096)) none) (withExtent .sealed))
    (fun t => returned t .refused && t.rep.head == 1 && t.ports.media == []) = true := by decide +kernel

theorem witness_PiecesAndProtection_pieces : (withExtent .sealed).map.index.Pairwise (fun a b => a.stop ≤ b.first) ∧
    ((withExtent .sealed).pieces 1990 20).length = 3 := by decide +kernel

theorem witness_PiecesAndProtection_refused : ⟨.digest 7, 4000, 1⟩ ∈ (withExtent .sealed).map.index ∧
    ⟨.copy 7 .copy1, 3000, 6⟩ ∈ (withExtent .sealed).map.index ∧ ((withExtent .sealed).extent 7).state = .sealed ∧
    ⟨.control, 1000, 51⟩ ∈ (withExtent .sealed).map.index ∧ (withExtent .sealed).judge true 1000 1 = .allowed := by
  decide +kernel

theorem witness_WriteWithItsLines : (waitsForLines .opened).linesReady 9 = true ∧
    (waitsForLines .opened).judge false 2002 1 = .allowed ∧ (waitsForLines .sealed).linesReady 9 = true ∧
    (waitsForLines .sealed).judge false 2002 1 = .refused ∧ (waitsForLines .sealing).judge false 2002 1 = .busy := by
  decide +kernel

/-- A SEAL accumulator of frame 1, copy 0 stands at position 4. -/
theorem witness_WriteWithItsLines_accums : (waitsForLines .opened).touched 2002 1 = [⟨⟨7, 1, .copy0⟩, 0, 0, 0⟩] ∧
    ((waitsForLines .opened).extent 7).state.ingest = true ∧ ((waitsForLines .opened).slot 9).contribs = [] ∧
    (waitsForLines .opened).findAccum .seal ⟨7, 1, .copy0⟩ = none ∧ (waitsForLines .opened).freeTraffic? = some 0 ∧
    (waitsForLines .opened).lineOf 7 1 = some 3 ∧ (fullPool (waitsForLines .opened)).freeTraffic? = none ∧
    ((waitsForLines .opened).setAccum 4 (some (Accum.opened .seal ⟨7, 1, .copy0⟩ (some 3)))).findAccum .seal ⟨7, 1, .copy0⟩ =
      some 4 ∧ overlapsRuns [(0, 1)] 0 0 = true ∧ overlapsRuns [(1, 1)] 0 0 = false ∧
    8 < (insertRun 0 0 eightRuns).length ∧ overlapsRuns eightRuns 0 0 = false ∧
    ((waitsForLines .opened).line 3).entries.length = 256 ∧ ((waitsForLines .opened).line 3).waits = false ∧
    ((waitsForLines .opened).entryIn 3 1).copyState .copy0 ≠ .absent := by decide +kernel

theorem test_write_accepted : after (exec (.writeLinesReady none) (waitsForLines .opened)) (fun t =>
    (t.entryIn 3 1).copy0 == .unsealed && (t.entryIn 3 1).copy1 == .sealed && (t.line 3).state == .dirty &&
      t.ports.media == [.request .write 2 9 2002 1 [5, 0, 0, 0]] &&
      (t.slot 9).contribs == [⟨0, 0, 0, [(0, 0)], 5, 5⟩]) = true := by decide +kernel

theorem test_write_sealed_meanwhile : after (exec (.writeLinesReady none) (waitsForLines .sealed)) (fun t =>
    returned t .refused && (t.line 3).pins == 0 && (t.slot 9).life == .free) = true := by decide +kernel

theorem witness_DirectiveBlock_sent : waitsForUnit.up.head = some ⟨request .write 1000 [2, 0, 0, 0, 77], true, .unit 9⟩ ∧
    waitsForUnit.dir.batch = none := by decide +kernel

theorem test_directive_block : after (exec (.directiveWriteProceeds none) waitsForUnit) (fun t =>
    (t.slot 9).batch && (t.slot 9).life == .outstanding &&
      (t.dir.batch.map fun b => (b.count, b.label, b.records, b.ended)) == some (2, 77, 2, false)) = true := by decide +kernel

/-! ### Returns and return timers -/

theorem witness_PassthroughReturnGoesUp : (passing running .read).mediaUp = true ∧
    ((passing running .read).slot 9).life = .outstanding ∧ ((passing running .read).slot 9).kind = .passthrough .read ∧
    ((passing running .read).slot 9).batch = false ∧ ((passing running .read).slot 9).contribs = [] ∧
    ((passing running .read).slot 9).watches = [] ∧ ((passing running .read).slot 9).held = false ∧
    (passing running .read).walk.cur = none := by decide +kernel

theorem witness_AccumulatorReturns : let s := contributing (refilling .sealed .sealed false) .check .read [(0, 1)] 4
    (s.slot 9).life = .outstanding ∧ (s.slot 9).kind = .passthrough .read ∧ (s.slot 9).batch = false ∧ (s.slot 9).watches = [] ∧
    (s.slot 9).held = false ∧ (s.slot 9).outcomes = [] ∧ (s.slot 9).contribs = [⟨4, 0, 0, [(0, 0)], 0, 0⟩] ∧
    (s.accum 4).map Accum.holding = some [] ∧ (∀ q, q ≠ 4 → s.accum q = none) ∧ s.walk.cur = none ∧ s.mend.active = none ∧
    s.mediaUp = true ∧ s.lineOf 7 1 = some 3 ∧ (s.line 3).waits = false ∧ (s.line 3).state.holds = true ∧
    (s.extent 7).state ≠ .preparing ∧ 1 < (s.extent 7).frames ∧ (s.line 3).entries.length = 256 ∧
    (s.slot 9).timer = some ⟨2000, 2000⟩ ∧ s.dir.batch = none := by
  intro s; decide +kernel

/-- One more commit completes the accumulator, or leaves it incomplete; the line takes changes, or is being read. -/
theorem witness_AccumulatorReturns_cases :
    (Accum.complete { Accum.opened .check ⟨7, 1, .copy0⟩ (some 3) with runs := [(0, 1)] } 2) = true ∧
    (Accum.complete { Accum.opened .seal ⟨7, 1, .copy0⟩ (some 3) with runs := [(0, 0)] } 2) = false ∧
    ((contributing (refilling .sealed .sealed true) .check .read [(0, 1)] 4).line 3).waits = true ∧
    (contributing (refilling .unsealed .sealed false) .seal .write [(0, 1)] 4).lineOf 7 1 = some 3 ∧
    (entryOf .sealed .sealed).verdict .copy0 4 6 = (entryOf .suspect .sealed, .failedSuspect) ∧
    (entryOf .suspect .sealed).verdict .copy0 5 6 = (entryOf .sealed .sealed, .passed true) ∧
    (entryOf .sealed .suspect).verdict .copy0 4 6 = (entryOf .lost .lost, .failedLost .suspect) := by decide +kernel

theorem test_check_fails : after (exec (.passthroughMediaReturn 9 .good (zeros 4096) none)
    (contributing (refilling .sealed .sealed false) .check .read [(0, 1)] 4)) (fun t =>
      returned t .checkFailed && (t.entryIn 3 1).copy0 == .suspect && (t.accum 4).isNone &&
        (t.rep.image.map fun l => l.map Finding.kind) == some [.frameMismatch]) = true := by decide +kernel

theorem test_read_returns : after (exec (.passthroughMediaReturn 9 .good (zeros 4096) none) (passing running .read)) (fun t =>
    returned t .good && (t.slot 9).life == .free) = true := by decide +kernel

theorem test_short_read_fails : after (exec (.passthroughMediaReturn 9 .good (zeros 4095) none) (passing running .read))
    (fun t => returned t .mediaError) = true := by decide +kernel

theorem witness_DirectiveBlock_held : inBatch.mediaUp = true ∧ (inBatch.slot 9).life = .outstanding ∧
    (inBatch.slot 9).kind = .passthrough .write ∧ (inBatch.slot 9).batch = true ∧ inBatch.dir.batch.isSome = true ∧
    (∀ b ∈ inBatch.dir.batch, ¬(b.ended = true ∧ b.reported = true)) := by decide +kernel

theorem witness_UnexpectedReturnDropped : running.mediaUp = true ∧ (running.slot 9).life ≠ .outstanding ∧
    running.ldr.part = .running ∧ running.rep.full = false ∧
    ((running.setSlot 9 { Slot.freeSlot with life := .stale }).slot 9).life = .stale ∧ (inPart .passthrough).mediaUp = true ∧
    (inPart .passthrough).ldr.part ≠ .running := by decide +kernel

theorem test_stale_return : after (exec (.unexpectedReturn 9 (.other 7) none)
    (running.setSlot 9 { Slot.freeSlot with life := .stale })) (fun t =>
      (t.slot 9).life == .free && (t.rep.image.map fun l => l.map fun f => (f.kind, f.d1, f.d2, f.d3)) ==
        some [(.unexpectedReturn, 9, 7, 4)]) = true := by decide +kernel

theorem witness_ReturnTimeout : ((passing running .read).slot 9).life = .outstanding ∧
    ((passing running .read).slot 9).kind = .passthrough .read ∧ ((passing running .read).slot 9).timer = some ⟨2000, 2000⟩ ∧
    ((passing running .read).slot 9).contribs = [] ∧ (passing running .read).dir.batch = none ∧
    (passing running .read).walk.cur = none := by decide +kernel

theorem test_return_timeout : after (exec (.passthroughReturnTimeout 9 none) (passing running .read)) (fun t =>
    returned t .timeout && (t.slot 9).life == .stale && (t.slot 9).timer == some ⟨2000, 0⟩) = true := by decide +kernel

theorem test_stale_timeout : after (exec (.staleTimeout 9 none)
    (running.setSlot 9 { Slot.freeSlot with life := .stale, timer := some ⟨2000, 2000⟩ })) (fun t =>
      (t.slot 9).life == .free && t.rep.head == 0) = true := by decide +kernel

theorem witness_InjectedTimeout : ((statusSent false).slot 9).life = .outstanding ∧
    ((statusSent false).slot 9).kind = .injected .status ∧ ((statusSent false).slot 9).timer = some ⟨2000, 2000⟩ ∧
    ((statusSent false).slot 9).dead = false ∧ (statusSent false).rep.statusShot.isSome = true ∧
    (Owner.fill 3).isWalk = false ∧ (Owner.fill 3).isMend = false := by decide +kernel

theorem witness_InjectedTimeout_owners : ((due (filling (.fill 3) .filling false)).slot 9).timer = some ⟨2000, 2000⟩ ∧
    (due (filling (.fill 3) .filling false)).enginesIdle ∧ (due (filling (.fill 3) .filling false)).dir.mendFrame = none ∧
    (due (filling (.fill 3) .filling false)).dir.flush = none ∧ (due (filling (.fill 3) .filling false)).up.head = none ∧
    (due (filling (.fill 3) .filling false)).store.queue = [] ∧ ((due (filling (.refill 3) .clean true)).line 3).waiting = [] ∧
    ((due (filling (.writeback 3) .writing false)).line 3).state.writes = true ∧
    ((due (filling (.writeback 3) .writing false)).line 3).retrigger = false ∧
    (due (logSent .completed)).rep.logShot.isSome = true ∧ ((due (logSent .completed)).slot 9).dead = false ∧
    (due (loadingWith (.catalogueRead 0) (.header 1))).ldr.load = .header 1 ∧
    (due (loadingWith (.blankWrite 4) (.blank 4 1))).ldr.load = .blank 4 1 ∧
    (due (loadingWith (.blankWrite 4) (.blank 4 1))).controlBase = some 1000 ∧
    ((due (sent running (.catalogueWrite 16))).slot 9).kind = .injected (.catalogueWrite 16) := by decide +kernel

/-- A slot whose result is to be discarded, a chunk of a SUSPENDING walk, and a chunk of a mend's first attempt. -/
theorem witness_InjectedTimeout_engines :
    (((due (filling (.fill 3) .filling false)).killOutstanding fun o => !o.isWalk).slot 9).dead = true ∧
    ((due chunkSent).setWalk (some (walkAt .suspending))).walk.cur = some (walkAt .suspending) ∧
    (walkAt .suspending).kind = .check ∧ (walkAt .suspending).plan = none ∧ (due chunkSent).mend.active = none ∧
    ((due chunkSent).accum scrubPos).map Accum.holding = some [] ∧
    ((due chunkSent).slot 9).kind = .injected (.walkChunk ⟨7, 1, .copy0⟩ 0) ∧ ((due chunkSent).slot 9).dead = false ∧
    (due (mendSent (.mendRead 0))).mend.active = some copying ∧ copying.phase = .copy ∧ copying.attempt = 1 ∧
    (due (mendSent (.mendRead 0))).walk.cur = none ∧ (due (mendSent (.mendRead 0))).accum mendPos = none ∧
    (∀ q, q ≠ 9 → ((due (mendSent (.mendRead 0))).slot q).life = .free) ∧
    0 < (due (mendSent (.mendRead 0))).cfg.paceDepth ∧ 0 < ((due (mendSent (.mendRead 0))).extent 7).span := by decide +kernel

theorem test_injected_timeout : after (exec (.injectedReturnTimeout 9 none) (statusSent false)) (fun t =>
    t.rep.statusDue && (t.slot 9).life == .stale && t.arb == [writeOf .status 1001]) = true := by decide +kernel

theorem witness_InjectionGranted : queuedThree.nextGrant = some (readOf (.fill 3) 4000) ∧ queuedThree.injSlot? = some 0 ∧
    State.nextGrant { queuedThree with arb := [writeOf .status 1001] } = some (writeOf .status 1001) ∧
    running.nextGrant = none ∧ crowded.injSlot? = none := by decide +kernel

theorem witness_InjectionGranted_owners :
    (arbOf (withLine .dirty Entry.zero) (writeOf (.writeback 3) 4000)).nextGrant = some (writeOf (.writeback 3) 4000) ∧
    (arbOf (logSent .completed) (writeOf .log 1002)).nextGrant = some (writeOf .log 1002) ∧
    (logSent .completed).rep.completed = [(0, [])] ∧ running.rep.completed = [] ∧
    (arbOf running (writeOf (.catalogueWrite 16) 1050)).nextGrant = some (writeOf (.catalogueWrite 16) 1050) ∧
    (arbOf (inPart .loading) (writeOf (.blankWrite 0) 1034)).nextGrant = some (writeOf (.blankWrite 0) 1034) ∧
    (arbOf (inPart .loading) (writeOf (.blankWrite 0) 1034)).accum scrubPos = none ∧
    (arbOf (inPart .loading) (writeOf (.blankWrite 0) 1034)).accum mendPos = none ∧
    ((withLine .clean Entry.zero).line 3).state ≠ .dirty := by decide +kernel

theorem witness_InjectionGranted_engines :
    (arbOf (walkOn .sealed .running (.reading 1) false) ⟨.walkChunk ⟨7, 1, .copy0⟩ 0, .read, 2002, 2⟩).nextGrant =
      some ⟨.walkChunk ⟨7, 1, .copy0⟩ 0, .read, 2002, 2⟩ ∧
    (walkOn .sealed .running (.reading 1) false).walk.cur.isSome = true ∧
    (walkOn .sealed .running (.reading 1) false).accum scrubPos = none ∧
    (scrub.key = ⟨7, 1, .copy0⟩ ∧ scrub.mode = .scrub ∧ (insertRun 0 1 [(4, 4)]).length ≤ 8 ∧ gaps [(4, 4)] 0 1 ≠ []) ∧
    (arbOf (withMend (withLine .clean Entry.zero) verifying) ⟨.mendRead 0, .read, 3002, 2⟩).nextGrant =
      some ⟨.mendRead 0, .read, 3002, 2⟩ ∧ verifying.phase ≠ .copy ∧ verifying.line = some 3 ∧ copying.phase = .copy ∧
    (arbOf (withMend (withLine .clean Entry.zero) { copying with buffer := some (0, [8]) }) ⟨.mendWrite 0, .write, 2002, 2⟩).nextGrant =
      some ⟨.mendWrite 0, .write, 2002, 2⟩ := by decide +kernel

theorem test_grant_write : after (exec (.injectionGrant none) (arbOf (withLine .dirty Entry.zero) (writeOf (.writeback 3) 4000)))
    (fun t => (t.line 3).state == .writing && (t.slot 0).addr == 4000 && t.arb == []) = true := by decide +kernel

theorem witness_SlotAndGrantChoice_grant : State.nextGrant { queuedThree with arb := queuedThree.arb.take 1 } =
    some (readOf (.walkChunk ⟨7, 0, .copy0⟩ 0) 2000) := by decide +kernel

theorem witness_SlotAndGrantChoice_classes : queuedThree.mediaUp = true ∧ queuedThree.ldr.part = .running ∧
    Owner.cls (.fill 3) ≤ 3 ∧ Owner.cls (.mendRead 0) = 4 ∧ Owner.cls (.walkChunk ⟨7, 0, .copy0⟩ 0) = 5 ∧
    readOf (.fill 3) 4000 ∈ queuedThree.arb ∧ (inPart .loading).ldr.part = .loading ∧
    (inPart .fault).eligible (writeOf .status 1001) = true := by decide +kernel

/-- R100: crowded traffic holds walk and mend back, and nothing of classes 1 to 3. -/
theorem test_eligible_crowded : crowded.eligible (readOf (.fill 3) 4000) = true ∧
    crowded.eligible (readOf (.mendRead 0) 3000) = false ∧
    crowded.eligible (readOf (.walkChunk ⟨7, 0, .copy0⟩ 0) 2000) = false := by decide +kernel

theorem test_injection_grant : after (exec (.injectionGrant none) queuedThree) (fun t =>
    t.ports.media == [.request .read 0 0 4000 1 []] && t.arb.length == 2 && (t.slot 0).life == .outstanding) = true := by
  decide +kernel

/-! ### The digest store -/

theorem witness_DigestReadEnds_good : (filling (.fill 3) .filling false).enginesIdle ∧
    (filling (.fill 3) .filling false).dir.mendFrame = none ∧ (filling (.fill 3) .filling false).mediaUp = true ∧
    ((filling (.fill 3) .filling false).slot 9).life = .outstanding ∧ ((filling (.fill 3) .filling false).slot 9).count = 1 ∧
    ((filling (.fill 3) .filling false).slot 9).dead = false ∧ (digestBlock true).length = 4096 ∧
    ((filling (.fill 3) .filling false).line 3).waiting = [] ∧
    ((filling (.fill 3) .filling false).slot 9).kind = .injected (.fill 3) ∧
    ((filling (.refill 3) .clean true).slot 9).kind = .injected (.refill 3) ∧
    (decodeEntry true (((digestBlock true).drop 16).take 16)).isOk = false ∧
    (decodeEntry true (((digestBlock false).drop 16).take 16)).isOk = true := by decide +kernel

theorem test_fill_damaged : after (exec (.digestFillReturn 9 .good (digestBlock true) none) (filling (.fill 3) .filling false))
    (fun t => (t.line 3).state == .dirty && (t.line 3).entry 1 == Entry.digestLost true &&
      (t.line 3).entry 2 == Entry.fresh true && (t.rep.image.map fun l => l.map fun f => (f.kind, f.frame, f.d1, f.d2, f.d3)) ==
        some [(.digestDamaged, some 1, 0, 1, 1)]) = true := by decide +kernel

theorem test_refill_good : after (exec (.digestRefillReturn 9 .good (digestBlock false) none) (filling (.refill 3) .clean true))
    (fun t => (t.line 3).state == .clean && !(t.line 3).refilling && (t.line 3).entry 0 == Entry.fresh true) = true := by
  decide +kernel

theorem witness_DigestReadEnds_failed : (filling (.refill 3) .clean true).enginesIdle ∧
    (filling (.refill 3) .clean true).up.head = none ∧ (filling (.refill 3) .clean true).rep.full = false ∧
    ((filling (.refill 3) .clean true).line 3).waiting = [] ∧ (MediaStatus.mediaError ≠ .good) ∧ (zeros 4095).length ≠ 4096 := by
  decide +kernel

theorem test_fill_fails : after (exec (.digestFillReturn 9 .mediaError [] none) (filling (.fill 3) .filling false)) (fun t =>
    (t.line 3).state == .invalid && (t.line 3).pins == 1 && t.rep.head == 1) = true := by decide +kernel

theorem test_refill_fails : after (exec (.digestRefillReturn 9 .mediaError [] none) (filling (.refill 3) .clean true)) (fun t =>
    (t.line 3).state == .clean && (t.line 3).entry 0 == entryOf .sealed .suspect && !(t.line 3).refilling) = true := by
  decide +kernel

theorem witness_WritebackReturns : (filling (.writeback 3) .writing false).walk.cur = none ∧
    (filling (.writeback 3) .writing false).dir.flush = none ∧ (filling (.writeback 3) .writing false).store.queue = [] ∧
    (filling (.writeback 3) .writing false).mediaUp = true ∧
    ((filling (.writeback 3) .writing false).slot 9).kind = .injected (.writeback 3) ∧
    ((filling (.writeback 3) .writing false).slot 9).dead = false ∧
    ((filling (.writeback 3) .writing false).line 3).state = .writing ∧
    ((filling (.writeback 3) .writingRedirtied false).line 3).state = .writingRedirtied ∧
    ((filling (.writeback 3) .writingRedirtied false).line 3).retrigger = false := by decide +kernel

theorem test_writeback_good : after (exec (.digestWritebackReturn 9 .good none) (filling (.writeback 3) .writingRedirtied false))
    (fun t => (t.line 3).state == .dirty && (t.line 3).dirtyTimer == some ⟨5000, 0⟩) = true := by decide +kernel

theorem test_writeback_fails : after (exec (.digestWritebackReturn 9 (.other 3) none) (filling (.writeback 3) .writing false))
    (fun t => (t.line 3).state == .dirty && (t.rep.image.map fun l => l.map fun f => (f.kind, f.d1)) ==
      some [(.mediaError, 4000)]) = true := by decide +kernel

theorem witness_TimersExpire : timerDue (timersDue.line 3).dirtyTimer = true ∧ timerDue (timersDue.cat 16).retry = true ∧
    timersDue.controlBase = some 1000 ∧ timerDue timersDue.rep.statusTimer = true ∧ timerDue timersDue.walk.restTimer = true ∧
    timersDue.walk.cur.isSome = true ∧ timerDue (some ⟨5000, 4999⟩) = false ∧ timersDue.ldr.part = .running ∧
    timersDue.rep.statusShot = none := by decide +kernel

theorem test_dirty_timer : after (exec (.dirtyTimerExpiry 3 none) timersDue) (fun t => t.arb == [writeOf (.writeback 3) 4000]) =
    true := by decide +kernel
theorem test_catalogue_retry : after (exec (.catalogueRetryExpiry 16) timersDue) (fun t =>
    t.arb == [writeOf (.catalogueWrite 16) 1050] && (t.cat 16).retry == none) = true := by decide +kernel
theorem test_status_timer : after (exec .statusTimerExpiry timersDue) (fun t =>
    t.rep.statusDue && t.rep.statusTimer == some ⟨1000, 0⟩ && t.arb == [writeOf .status 1001]) = true := by decide +kernel
theorem test_rest_timer : after (exec (.restTimerExpiry none) timersDue) (fun t => t.walk.passDue && t.walk.restTimer == none) =
    true := by decide +kernel

theorem witness_LineQueueGranted : queuedWrite.store.queue = [⟨.write, 4000, 7, false⟩] ∧ queuedWrite.victim? = some 0 ∧
    queuedWrite.up.head = some ⟨request .write 2002 [], false, .lines 9⟩ ∧ queuedWrite.findLine 4000 = none ∧
    (queuedWrite.setLine 3 (smallLine .clean Entry.zero)).findLine 4000 = some 3 ∧ running.store.queue = [] := by decide +kernel

theorem witness_LineQueueGranted_engines : (walkQueued .full).store.queue = [⟨.walk, 4000, 7, false⟩, ⟨.write, 4001, 8, false⟩] ∧
    (walkQueued .full).victim? = some 0 ∧ (walkQueued .full).findLine 4000 = none ∧
    (∀ w ∈ (walkQueued .full).walk.cur, w.atUnit (walkQueued .full) ∧ w.run = .running ∧ w.extent = 7 ∧ w.depth = .full ∧
      ((walkQueued .full).extent 7).digestBlock w.frame = 4000) ∧ (walkQueued .full).walk.cur.isSome = true ∧
    (∀ w ∈ (walkQueued .audit).walk.cur, w.depth = .audit) ∧ frameQueued.dir.mendFrame = some ⟨⟨7, 1, .copy0⟩, .queue, none⟩ ∧
    frameQueued.victim? = some 0 ∧
    (lineAsked (withMend (withExtent .sealed) (Mend.create ⟨7, 1, .copy0⟩)) .mend).mend.active =
      some (Mend.create ⟨7, 1, .copy0⟩) := by unfold Walk.atUnit; decide +kernel

theorem test_line_granted : after (exec (.lineQueueGrant none) queuedWrite) (fun t =>
    (t.line 0).tag == 4000 && (t.line 0).state == .filling && (t.slot 9).pins == [0] && t.arb == [readOf (.fill 0) 4000]) =
    true := by decide +kernel

/-- R43: the rows of the table. -/
theorem test_mismatch_table : (entryOf .sealed .mending).mismatch .copy0 = (entryOf .suspect .mending, .failedSuspect) ∧
    (entryOf .sealed .lost).mismatch .copy0 = (entryOf .lost .lost, .failedLost .lost) ∧
    (entryOf .suspect .sealed).mismatch .copy0 = (entryOf .suspect .sealed, .failedUnchanged) ∧
    (entryOf .provisional .sealed).mismatch .copy0 = (entryOf .provisional .sealed, .notApplied) := by decide

theorem witness_MatchAndMismatch : (entryOf .sealed .absent).copyState .copy0 = .sealed ∧
    (entryOf .suspect .lost).copyState (CopyId.other .copy0) = .lost ∧ (entryOf .absent .suspect).copyState .copy1 = .suspect ∧
    (entryOf .provisional .sealed).copyState .copy0 ≠ .sealed := by decide

theorem witness_EntryRoundTrip : (2147483646 < 2147483647) ∧ (4294967295 < 2 ^ 32) ∧
    decodeEntry false (Entry.encode ⟨2147483646, 0, 4294967295, .digestLost, .absent⟩) =
      .ok ⟨2147483646, 0, 4294967295, .digestLost, .absent⟩ := by decide

theorem witness_CheckCatchesOneByte : (zeros 2 ++ [255, 0]).length = 2 + 2 ∧ checkPasses 2 ([0, 0] ++ leBytes 2 1) = true ∧
    ([0, 0] ++ leBytes 2 1 : List Byte)[1]? ≠ some 255 ∧ checkPasses 2 (([0, 0] ++ leBytes 2 1).set 1 255) = false := by decide

theorem witness_DigestOfParts : 1 ≤ extent7.span ∧ extent7.tail ≤ 4096 ∧ (zeros 4096).length = 4096 ∧
    (zeros 0).length = 4096 - extent7.tail := by decide +kernel

/-! ### Accumulators, walks, mends -/

theorem witness_IdleTimerAbandons : withIdle.accum 29 = some idleAccum ∧ idleAccum.holding = [] ∧
    timerDue idleAccum.idle = true ∧ timerDue (some ⟨500, 499⟩) = false := by decide +kernel

theorem test_idle_timer : after (exec (.idleTimerExpiry 29 none) withIdle) (fun t =>
    (t.accum 29).isNone && (t.line 3).pins == 0 && t.rep.head == 0) = true := by decide +kernel

theorem witness_WalkChunkCommitted : chunkSent.walk.cur = some (walkAt .running) ∧ chunkSent.accum 30 = some scrub ∧
    scrub.mode = .scrub ∧ 1 < scrub.pendingCount ∧ chunkSent.mediaUp = true ∧ (chunkSent.slot 9).life = .outstanding ∧
    (chunkSent.slot 9).kind = .injected (.walkChunk ⟨7, 1, .copy0⟩ 0) ∧ (chunkSent.slot 9).dead = false ∧
    (chunkSent.slot 9).contribs = [⟨30, 0, 0, [(0, 0)], 0, 0⟩] ∧ (zeros 4096).length = (chunkSent.slot 9).count * 4096 := by
  decide +kernel

/-- R115, R117: a failed chunk of a CHECK walk makes its copy SUSPECT, and the visit ends with a finding. -/
theorem test_chunk_fails : after (exec (.walkChunkReturn 9 .mediaError [] none)
    (chunkSent.setLine 3 { chunkSent.line 3 with pins := 2 })) (fun t =>
      (t.entryIn 3 1).copy0 == .suspect && (t.accum 30).isNone && (t.walk.cur.map fun w => (w.frame, w.copy, w.skipped)) ==
        some (1, .copy1, 1)) = true := by decide +kernel

theorem witness_WalkChunkCommitted_last : let s := lastChunk (walkAt .suspending) .sealed .lost 4
    s.walk.cur = some (walkAt .suspending) ∧ s.mend.active = none ∧ (walkAt .suspending).run = .suspending ∧
    (walkAt .suspending).plan = none ∧ (walkAt .suspending).past = false ∧ (walkAt .suspending).frame < (walkAt .suspending).last ∧
    (s.slot 9).life = .outstanding ∧ (s.slot 9).kind = .injected (.walkChunk (walkAt .suspending).key 1) ∧
    (s.accum 30).map (fun a => (a.mode, a.key, a.holding)) = some (.scrub, (walkAt .suspending).key, []) ∧
    s.lineOf 7 1 = some 3 ∧ (s.line 3).waits = false ∧ (s.line 3).state.holds = true ∧ (s.line 3).entries.length = 256 ∧
    (s.extent 7).state ≠ .preparing ∧ 1 < (s.extent 7).frames ∧ (s.entryIn 3 1).copyState .copy1 = .lost ∧
    ((Accum.commit { scrub with pendingCount := 1, a := 4, b := 6 } 2 500 0 0).complete 2) = true := by
  intro s; decide +kernel

/-- R116: a SUSPECT copy that matches is SEALED again, and the frame is stamped in a pass; a mismatch beside a LOST copy
makes both LOST. -/
theorem test_chunk_completes :
    after (exec (.walkChunkReturn 9 .good (zeros 4096) none)
      (lastChunk { walkAt .suspending with kind := .pass, entered := true } .suspect .sealed 5)) (fun t =>
        t.entryIn 3 1 == entryOf .sealed .sealed && (t.accum 30).isNone && (t.rep.image.map fun l => l.map Finding.kind) ==
          some [.frameRecovered] && (t.walk.cur.map fun w => (w.run, w.frame, w.copy, w.checked)) ==
          some (.suspended, 1, .copy1, 1)) = true ∧
    after (exec (.walkChunkReturn 9 .good (zeros 4096) none) (lastChunk (walkAt .suspending) .sealed .lost 4)) (fun t =>
      t.entryIn 3 1 == entryOf .lost .lost && (t.rep.image.map fun l => l.map Finding.kind) ==
        some [.frameLost, .frameMismatch] && (t.walk.cur.map fun w => (w.checked, w.mismatches, w.skipped)) ==
        some (1, 1, 0)) = true := by decide +kernel

theorem witness_WalksStart : (walkThen .sealed .running [6, 0, 7, 0, 0, 0, 0, 0, 2]).walk.cur = some (walkAt .running) ∧
    (walkAt .running).inFlight = true ∧ (walkAt .running).stage ≠ .ready ∧ (walkAt .running).kind ≠ .pass ∧
    (walkThen .sealed .running [6, 0, 7, 0, 0, 0, 0, 0, 2]).running = true ∧
    (walkThen .sealed .running [6, 0, 7, 0, 0, 0, 0, 0, 2]).nextRecord = some (.checkExtent 7 0 2 0 none) ∧
    ((walkThen .sealed .running [6, 0, 7, 0, 0, 0, 0, 0, 2]).extent 7).state = .sealed ∧
    2 < ((walkThen .sealed .running [6, 0, 7, 0, 0, 0, 0, 0, 2]).extent 7).frames ∧ depthOverrideOfCode 0 = some none ∧
    (walkThen .sealed .running [7]).nextRecord = some (.startPass 0 none) ∧
    (walkThen .sealed .running [7]).walk.saved.length < 2 ∧ (List.replicate 2 (walkAt .suspended)).length = 2 := by
  decide +kernel

theorem test_check_extent : after (exec (.checkExtent 7 0 2 0 none) (walkThen .sealed .running [6, 0, 7, 0, 0, 0, 0, 0, 2]))
    (fun t => gave t .started && (t.walk.cur.map Walk.run) == some .saving && (t.walk.incoming.map Walk.last) == some 2) =
    true := by decide +kernel

theorem test_start_pass : after (exec (.startPass 2 none) (walkThen .sealed .running [7, 0, 0, 0, 2])) (fun t =>
    gave t .started && t.cfg.passNumber == 1 && (t.walk.incoming.map Walk.depth) == some .audit) = true := by decide +kernel

/-- R109: a saved walk too many. -/
theorem test_start_pass_busy : after (exec (.startPass 0 none)
    { walkThen .sealed .running [7] with walk := ⟨some (walkAt .running), none, List.replicate 2 (walkAt .suspended), none, false⟩ })
    (fun t => gave t .busy && t.cfg.passNumber == 0) = true := by decide +kernel

theorem witness_ExtentWalksStart :
    (walkThen .sealed .running defineRecord).nextRecord = some (.defineExtent 8 0 0 0 6000 (2 ^ 40 - 1) 1 1 4096 0 7000 none) ∧
    (walkThen .sealed .running defineRecord).running = true ∧
    geometry 100000 0 0 0 6000 (2 ^ 40 - 1) 1 1 4096 0 7000 =
      some ⟨.preparing, .openable, .auto, none, 6000, none, 1, 1, 4096, 0, 7000, 0⟩ ∧
    (walkThen .sealed .running defineRecord).capacity = 100000 ∧
    overlapFree (walkThen .sealed .running defineRecord).map.index
      (Extent.ranges ⟨.preparing, .openable, .auto, none, 6000, none, 1, 1, 4096, 0, 7000, 0⟩ 8) = true ∧
    ((walkThen .sealed .running defineRecord).extent 8).state = .free ∧
    (walkThen .defined .running [2, 0, 7]).nextRecord = some (.sealExtent 7 none) ∧
    ((walkThen .defined .running [2, 0, 7]).extent 7).state = .defined ∧
    (walkThen .sealed .running [5, 0, 7, 0, 2, 0, 0, 0, 1]).nextRecord = some (.resealFrame 7 2 1 none) ∧
    CopyId.ofNum 1 = some .copy1 ∧ (smallExtent .sealed).hasReplica = true ∧ 2 < (smallExtent .sealed).frames := by
  decide +kernel

/-- The refusals: their order, at the ends of the ranges, and a walk that is SAVING. -/
theorem witness_ExtentWalksStart_refused : extentNumber 1023 = some 1023 ∧ extentNumber 1024 = none ∧
    (walkThen .sealed .saving defineRecord).nextRecord.isSome = true ∧
    (withRecord running [2, 0, 0, 4]).nextRecord = some (.sealExtent 1024 none) ∧
    (withRecord running [5, 0, 7, 0, 3, 0, 0, 0, 2]).nextRecord = some (.resealFrame 7 3 2 none) ∧
    (geometry 100000 1 1 2 (100000 - 65536) (2 ^ 40 - 1) 65536 1 4096 0 99999).isSome = true ∧
    (geometry 100000 1 1 2 (100001 - 65536) (2 ^ 40 - 1) 65536 1 4096 0 99999).isSome = false ∧
    (geometry 100000 1 1 2 0 0 1 256 1 0 99999).isSome = true ∧ (geometry 100000 1 1 2 0 0 1 257 1 0 99999).isSome = false ∧
    (geometry 100000 1 1 3 0 0 1 1 1 0 0).isSome = false ∧ (geometry 100000 0 0 0 0 0 1 1 1 (2 ^ 32 - 1) 0).isSome = false := by
  decide +kernel

/-- R10: OVERLAP stands before STATE, and STATE before BUSY. -/
theorem test_define_refused :
    after (exec (.defineExtent 7 0 0 0 2001 (2 ^ 40 - 1) 1 1 4096 0 7000 none) (walkThen .sealed .saving
      ([1, 0, 7, 0, 0, 0, 0] ++ leBytes 5 2001 ++ leBytes 5 (2 ^ 40 - 1) ++ leBytes 4 1 ++ leBytes 4 1 ++ leBytes 2 4096 ++
        leBytes 4 0 ++ leBytes 5 7000))) (fun t => gave t .refusedOverlap) = true ∧
    after (exec (.defineExtent 7 0 0 0 6000 (2 ^ 40 - 1) 1 1 4096 0 7000 none)
      (walkThen .sealed .saving (defineRecord.set 2 7))) (fun t => gave t .refusedState) = true ∧
    after (exec (.defineExtent 8 0 0 0 6000 (2 ^ 40 - 1) 1 1 4096 0 7000 none) (walkThen .sealed .saving defineRecord))
      (fun t => gave t .busy) = true := by decide +kernel

theorem test_define_extent : after (exec (.defineExtent 8 0 0 0 6000 (2 ^ 40 - 1) 1 1 4096 0 7000 none)
    (walkThen .sealed .running defineRecord)) (fun t => gave t .started && (t.extent 8).state == .preparing &&
      t.map.index.length == 6 && (t.cat 1).state == .changed) = true := by decide +kernel

/-- R130: with no walk the PREPARE walk takes its line and queues the writeback of fresh entries. -/
theorem test_define_extent_prepares : after (exec (.defineExtent 8 0 0 0 6000 (2 ^ 40 - 1) 1 1 4096 0 7000 none)
    (withRecord running defineRecord)) (fun t => gave t .started && (t.line 0).tag == 7000 && (t.line 0).state == .dirty &&
      (t.line 0).entry 0 == Entry.fresh false && t.queued (.writeback 0)) = true := by decide +kernel

theorem test_seal_extent : after (exec (.sealExtent 7 none) (walkThen .defined .running [2, 0, 7])) (fun t =>
    gave t .started && (t.extent 7).state == .sealing && (t.walk.incoming.map Walk.kind) == some .seal) = true := by
  decide +kernel

theorem test_reseal_frame : after (exec (.resealFrame 7 2 1 none) (walkThen .sealed .running [5, 0, 7, 0, 2, 0, 0, 0, 1])) (fun t =>
    gave t .started && (t.walk.incoming.map fun w => (w.first, w.last, w.source)) == some (2, 2, some .copy1)) = true := by
  decide +kernel

theorem witness_SuspendAndResume : (walkThen .sealed .running [8]).nextRecord = some (.suspendWalk none) ∧
    (walkThen .sealed .running [8]).running = true ∧ (walkThen .sealed .saving [9]).nextRecord = some (.resumeWalk none) ∧
    (walkThen .sealed .suspending [9]).walk.cur = some (walkAt .suspending) ∧ (walkAt .suspending).run ≠ .suspended ∧
    (withRecord running [8]).walk.cur = none ∧ (withRecord running [9]).nextRecord = some (.resumeWalk none) := by decide +kernel

theorem witness_SuspendAndResume_resumed : let s := resuming (withLine .writing (entryOf .suspect .sealed)) false
    s.running = true ∧ s.nextRecord = some (.resumeWalk none) ∧
    (∀ w ∈ s.walk.cur, w.visits s ∧ w.run = .suspended ∧ w.stage = .ready ∧ w.line = none) ∧ s.walk.cur.isSome = true ∧
    Holding s 7 1 3 ∧ s.inHand Owner.isWalk < s.cfg.paceDepth ∧ (s.entryIn 3 1).copyState .copy0 = .suspect := by
  intro s; unfold Walk.visits Walk.atUnit Holding; decide +kernel

theorem witness_SuspendAndResume_missed : let s := withMoreRecords (resuming (withExtent .sealed) false) [9]
    s.nextRecord = some (.resumeWalk none) ∧ s.running = true ∧ s.findLine 4000 = none ∧ s.store.queue = [] ∧
    s.victim? = some 0 ∧ (∀ w ∈ s.walk.cur, w.visits s) ∧ (∀ b ∈ s.dir.batch, b.results.length + 1 < b.records) ∧
    (resuming (withExtent .sealed) true).walk.saved = [] ∧ (resuming (withExtent .sealed) true).map.restart = [] ∧
    (resuming (withExtent .sealed) true).walk.passDue = false ∧
    ((resuming (withExtent .sealed) true).walk.cur.map fun w => (w.kind, w.past)) = some (.check, true) := by
  intro s; unfold Walk.visits Walk.atUnit; decide +kernel

/-- R111, R124: a SUSPENDED CHECK walk past its range ends as it resumes. -/
theorem test_resume_ends : after (exec (.resumeWalk none) (resuming (withExtent .sealed) true)) (fun t =>
    gave t .done && t.walk.cur.isNone && (t.flag .walkEnd).isSet && (t.rep.image.map fun l => l.map Finding.kind) ==
      some [.checkDone]) = true := by decide +kernel

theorem witness_SuspendAndResume_changed : (resealed .check none).nextRecord = some (.resumeWalk none) ∧
    (resealed .check none).running = true ∧ ((resealed .check none).extent 7).state = .sealed ∧
    ((resealed .seal (some .copy1)).walk.cur.map fun w => (w.run, w.stage, w.past, w.changed)) =
      some (.suspended, .ready, false, true) ∧ (resealed .check none).walk.saved = [] ∧
    (resealed .check none).map.restart = [] ∧ (resealed .check none).walk.passDue = false := by decide +kernel

/-- R118, R137: a walk whose extent was opened and SEALED again while it was SUSPENDED skips the rest as it resumes. -/
theorem test_resume_changed :
    after (exec (.resumeWalk none) (resealed .check none)) (fun t => t.walk.cur.isNone && t.arb.all (fun r => !r.owner.isWalk) &&
      (t.rep.image.map fun l => l.map fun f => (f.kind, f.copy)) == some [(.checkDone, some 1)]) = true ∧
    after (exec (.resumeWalk none) (resealed .seal (some .copy0))) (fun t => t.walk.cur.isNone &&
      t.entryIn 3 1 == entryOf .sealed .sealed && (t.rep.image.map fun l => l.map Finding.kind) == some [.sealDone]) = true := by
  decide +kernel

/-- R39, R46: without a replica a digest replacement leaves copy 1 ABSENT, and a comparing reread of it is not applied. -/
theorem test_no_replica : ((entryOf .suspect .absent).apply false (.acceptTake .copy1 7 8 .absent)).1 =
      { entryOf .suspect .absent with a := 7, b := 8 } ∧
    ((entryOf .suspect .absent).apply false (.sealCompare .copy1 5 6 .absent)).2 = .notApplied ∧
    Plan.move (Plan.form (some .copy1) (entryOf .sealed .absent)) (some .copy1) (entryOf .sealed .absent) = .sourceMending := by
  decide

theorem test_suspend : after (exec (.suspendWalk none) (walkThen .sealed .running [8])) (fun t =>
    gave t .done && (t.walk.cur.map Walk.run) == some .suspending) = true := by decide +kernel

theorem test_suspend_resume_saving : after (exec (.suspendWalk none) (walkThen .sealed .saving [8])) (fun t => gave t .busy) = true ∧
    after (exec (.resumeWalk none) (walkThen .sealed .suspending [9])) (fun t =>
      gave t .done && (t.walk.cur.map Walk.run) == some .running) = true := by decide +kernel

theorem witness_MendStarts : mendWaiting.mendReady = true ∧ mendWaiting.mend.queue = [⟨7, 1, .copy0⟩] ∧
    (mendWaiting.extent 7).state = .sealed ∧ (mendWaiting.extent 7).hasReplica = true ∧ 1 < (mendWaiting.extent 7).frames ∧
    0 < (mendWaiting.extent 7).span ∧ mendWaiting.findLine ((mendWaiting.extent 7).digestBlock 1) = some 3 ∧
    (mendWaiting.line 3).extent = 7 ∧ (mendWaiting.line 3).state.holds = true ∧ (mendWaiting.line 3).waits = false ∧
    (mendWaiting.line 3).entries.length = 256 ∧ (mendWaiting.entryIn 3 1).copyState .copy0 = .suspect ∧
    (mendWaiting.entryIn 3 1).copyState .copy1 = .sealed ∧ (∀ p, mendWaiting.accum p = none) ∧
    mendWaiting.inHand Owner.isMend < mendWaiting.cfg.paceDepth ∧ (inPart .fault).mendReady = false := by decide +kernel

theorem test_mend_start : after (exec (.mendStart none) mendWaiting) (fun t =>
    (t.entryIn 3 1).copy0 == .mending && t.arb == [⟨.mendRead 0, .read, 3002, 2⟩] && (t.line 3).pins == 2 &&
      t.rep.statusTimer == some ⟨1000, 0⟩) = true := by decide +kernel

theorem witness_MendCopiesAndVerifies : (mendSent (.mendRead 0)).mend.active = some copying ∧ copying.phase = .copy ∧
    (mendSent (.mendRead 0)).mediaUp = true ∧ ((mendSent (.mendRead 0)).slot 9).life = .outstanding ∧
    ((mendSent (.mendRead 0)).slot 9).dead = false ∧ ((mendSent (.mendRead 0)).slot 9).kind = .injected (.mendRead 0) ∧
    (zeros 4096).length = ((mendSent (.mendRead 0)).slot 9).count * 4096 ∧ copying.stage = .working ∧
    (mendSent (.mendRead 0)).arb = [] ∧ (∀ q, q ≠ 9 → ((mendSent (.mendRead 0)).slot q).life = .free) ∧
    ((mendSent (.mendWrite 0)).slot 9).kind = .injected (.mendWrite 0) ∧
    ((mendSent (.mendWrite 0)).extent copying.extent).chunks ≤ 0 + 1 := by decide +kernel

theorem witness_MendCopiesAndVerifies_verify : let s := verifySent .verifySource 1 .mending .sealed 5
    (s.slot 9).kind = .injected (.mendRead 0) ∧ (s.slot 9).life = .outstanding ∧ (s.slot 9).dead = false ∧
    s.lineOf 7 1 = some 3 ∧ (s.line 3).waits = false ∧ (s.line 3).state.holds = true ∧ (s.line 3).entries.length = 256 ∧
    (s.extent 7).hasReplica = true ∧ 1 < (s.extent 7).frames ∧ s.walk.cur = none ∧ s.arb = [] ∧
    (∀ q, q ≠ 9 → (s.slot q).life = .free) ∧
    (∀ m ∈ s.mend.active, m.stage = .working ∧ m.readCopy = .copy1) ∧
    (∀ x ∈ s.accum mendPos, x.holding = [] ∧ (x.commit 2 500 0 0).complete 2 = true) ∧ (s.accum mendPos).isSome = true ∧
    (s.rep.full = false ∧ ∀ f ∈ [s.findingNow .mendMediaError none none none 0 0 0], (s.rep.place f).full = false) ∧
    (∀ m ∈ (verifySent .verifyTarget 2 .mending .sealed 5).mend.active, m.readCopy = .copy0) := by
  intro s; decide +kernel

/-- R146, R147: a good source begins COPY, a bad one is lost with both copies. -/
theorem test_mend_source : after (exec (.mendReadReturn 9 .good (zeros 4096) none) (verifySent .verifySource 1 .mending .sealed 5))
      (fun t => (t.mend.active.map Mend.phase) == some .copy && t.arb == [⟨.mendRead 0, .read, 3002, 2⟩]) = true ∧
    after (exec (.mendReadReturn 9 .good (zeros 4096) none) (verifySent .verifySource 1 .mending .sealed 4)) (fun t =>
      t.entryIn 3 1 == entryOf .lost .lost && (t.rep.image.map fun l => l.map fun f => (f.kind, f.copy, f.d1)) ==
        some [(.frameLost, some 1, 4)]) = true := by decide +kernel

/-- R149: a target found equal is SEALED with MEND_DONE; one found unequal in attempt 2 is given up with reason 1. -/
theorem test_mend_target : after (exec (.mendReadReturn 9 .good (zeros 4096) none) (verifySent .verifyTarget 2 .mending .sealed 5))
      (fun t => t.entryIn 3 1 == entryOf .sealed .sealed && (t.rep.image.map fun l => l.map fun f => (f.kind, f.d3)) ==
        some [(.mendDone, 2)]) = true ∧
    after (exec (.mendReadReturn 9 .good (zeros 4096) none) (verifySent .verifyTarget 2 .mending .sealed 4)) (fun t =>
      t.entryIn 3 1 == entryOf .lost .sealed && (t.rep.image.map fun l => l.map fun f => (f.kind, f.d3)) ==
        some [(.mendFailed, 1)]) = true := by decide +kernel

/-- R150: a media error in VERIFY_SOURCE makes both copies SUSPECT. -/
theorem test_mend_source_fails : after (exec (.mendReadReturn 9 .mediaError [] none) (verifySent .verifySource 1 .mending .sealed 5))
    (fun t => t.entryIn 3 1 == entryOf .suspect .suspect && (t.rep.image.map fun l => l.map fun f => (f.kind, f.d3)) ==
      some [(.mendMediaError, 1), (.mendFailed, 5)]) = true := by decide +kernel

theorem test_mend_read : after (exec (.mendReadReturn 9 .good (zeros 4096) none) (mendSent (.mendRead 0))) (fun t =>
    t.arb == [⟨.mendWrite 0, .write, 2002, 2⟩]) = true := by decide +kernel

theorem test_mend_write : after (exec (.mendWriteReturn 9 .good none) (mendSent (.mendWrite 0))) (fun t =>
    (t.mend.active.map Mend.phase) == some .verifyTarget && t.arb == [⟨.mendRead 0, .read, 2002, 2⟩]) = true := by
  decide +kernel

/-- R150, R151: a second failure gives the target up as LOST. -/
theorem test_mend_write_fails : after (exec (.mendWriteReturn 9 .mediaError none)
    { mendSent (.mendWrite 0) with mend := ⟨[], some { copying with attempt := 2 }⟩ }) (fun t =>
      (t.entryIn 3 1).copy0 == .lost && t.mend.active.isNone && (t.flag .mendEnd).isSet) = true := by decide +kernel

theorem witness_MendFrameQueued : frameRecord.running = true ∧ frameRecord.nextRecord = some (.mendFrame 7 1 0 none) ∧
    (match frameRecord.mendFrameCheck 7 1 0 with | .ok k => k == ⟨7, 1, .copy0⟩ | .error _ => false) = true ∧
    frameRecord.findLine ((frameRecord.extent 7).digestBlock 1) = some 3 ∧ (frameRecord.line 3).state ≠ .filling ∧
    (frameRecord.entryIn 3 1).copyState .copy0 = .suspect ∧ (frameRecord.entryIn 3 1).copyState .copy1 = .sealed ∧
    frameRecord.mendPresent ⟨7, 1, .copy0⟩ = false ∧ frameRecord.mend.queue.length < 16 ∧
    (match frameRecord.mendFrameCheck 7 3 0 with | .ok _ => false | .error r => r == .refusedRange) = true := by decide +kernel

theorem test_mend_frame : after (exec (.mendFrame 7 1 0 none) frameRecord) (fun t =>
    gave t .done && t.mend.queue == [⟨7, 1, .copy0⟩] && (t.line 3).pins == 1) = true := by decide +kernel

theorem witness_ExtentReleased : (withExtent .sealed).walk.cur = none ∧ (∀ p, (withExtent .sealed).accum p = none) ∧
    (withRecord (withExtent .sealed) [3, 0, 7]).running = true ∧
    (withRecord (withExtent .sealed) [3, 0, 7]).nextRecord = some (.openExtent 7 none) ∧
    (withRecord (withExtent .opened) [4, 0, 7]).nextRecord = some (.retireExtent 7 none) ∧ (withExtent .opened).up.head = none ∧
    (withExtent .opened).store.queue = [] ∧ (∀ l, ((withExtent .opened).line l).state = .invalid) := by decide +kernel

/-- R90: the retirement of another extent leaves a head write that waits for its line waiting; that of its own ends the wait. -/
theorem test_retire_head : (headWaits 1 .sealing).headAwaitsExtent 3 = false ∧ (headWaits 3 .opened).headAwaitsExtent 3 = true ∧
    after (exec (.retireExtent 3 none) (headWaits 1 .sealing)) (fun t =>
      t.up == (headWaits 1 .sealing).up && t.ports == (headWaits 1 .sealing).ports && t.extent 3 == Extent.freeForm) = true ∧
    after (exec (.retireExtent 3 none) (headWaits 3 .opened)) (fun t =>
      t.up.head.isNone && t.ports.media.length == 1 && (t.slot 9).life == .outstanding) = true := by decide +kernel

theorem witness_ExtentReleased_lines : let s := withRecord (withLine .dirty (entryOf .sealed .sealed)) [4, 0, 7]
    s.running = true ∧ s.nextRecord = some (.retireExtent 7 none) ∧ (s.extent 7).state.retirable = true ∧
    (s.extent 7).cls ≠ .fixed ∧ s.dir.freeze = false ∧ s.mendConcerns 7 = false ∧ s.up.head = none ∧ s.store.queue = [] ∧
    s.dir.flush = none ∧ s.dir.mendFrame = none ∧ (∀ l, (s.line l).waiting = []) ∧ s.walk.cur = none ∧
    (∀ p, s.accum p = none) ∧ (s.line 3).state ≠ .invalid ∧ (s.line 3).extent = 7 := by
  intro s; decide +kernel

theorem witness_ExtentReleased_walk : (releasing [3, 0, 7]).nextRecord = some (.openExtent 7 none) ∧
    (releasing [4, 0, 7]).nextRecord = some (.retireExtent 7 none) ∧ ((releasing [3, 0, 7]).extent 7).state = .sealed ∧
    (∀ w ∈ (releasing [3, 0, 7]).walk.cur, w.kind = .check ∧ w.run = .running ∧ w.extent = 7 ∧ w.past = false ∧
      w.stage ≠ .auditing) ∧ (releasing [3, 0, 7]).walk.cur.isSome = true ∧ (releasing [3, 0, 7]).walk.saved = [] ∧
    (releasing [3, 0, 7]).map.restart = [] ∧ (releasing [3, 0, 7]).walk.passDue = false ∧
    (∀ p, ∀ a ∈ (releasing [3, 0, 7]).accum p, p = scrubPos ∧ a.mode = .scrub ∧ a.key.extent = 7 ∧ a.holding = []) := by
  decide +kernel

/-- R118: the release leaves its mark on a saved walk at work on the extent, and on no other. -/
theorem test_release_marks : after (exec (.openExtent 7 none)
    (let s := withRecord (withExtent .sealed) [3, 0, 7]
     { s with walk := { s.walk with saved := [walkAt .running, { walkAt .running with extent := 8 }] } })) (fun t =>
      t.walk.saved.map Walk.changed == [true, false]) = true := by decide +kernel

theorem test_open_extent : after (exec (.openExtent 7 none) (withRecord (withExtent .sealed) [3, 0, 7])) (fun t =>
    gave t .done && (t.extent 7).state == .opened) = true ∧
    after (exec (.openExtent 7 none) (withRecord { withExtent .sealed with dir := { DirectiveUnit.reset with freeze := true } } [3, 0, 7]))
      (fun t => gave t .refusedFrozen && (t.extent 7).state == .sealed) = true := by decide +kernel

theorem test_retire_extent : after (exec (.retireExtent 7 none) (withRecord (withLine .dirty Entry.zero) [4, 0, 7])) (fun t =>
    gave t .done && t.extent 7 == Extent.freeForm && t.map.index == [controlRange 1000] && (t.line 3).state == .invalid) =
    true := by decide +kernel

/-! ### The report writer -/

theorem witness_StatusWriteReturns : (statusSent false).mediaUp = true ∧
    (statusSent false).rep.statusShot = some ⟨8, Vector.replicate 6 true, false⟩ ∧
    ((statusSent true).slot 9).dead = false ∧
    (Batch.ended ⟨[], 1, false, 77, [.done], 1, some 5, false, true, false⟩) = true ∧
    (((statusSent true).setSlot 5 { Slot.freeSlot with life := .held }).slot 5).life = .held ∧ (5 : Fin 256) ≠ 9 := by
  decide +kernel

theorem test_status_good : after (exec (.statusWriteReturn 9 .good none) (statusSent false)) (fun t =>
    t.flag .finding == ⟨true, some 8⟩ && t.rep.statusShot == none && !t.rep.statusDue) = true := by decide +kernel

theorem test_status_ends_batch : after (exec (.statusWriteReturn 9 .good none)
    { (statusSent true).setSlot 5 { Slot.freeSlot with life := .held, requester := 2, tag := 5, status := .mediaError } with
      dir := { DirectiveUnit.reset with batch := some ⟨[], 1, false, 77, [.done], 1, some 5, false, true, false⟩ } })
    (fun t => t.dir.batch == none && returned t .mediaError && (t.slot 5).life == .free) = true := by decide +kernel

theorem witness_LogWriteReturns : (logSent .completed).mediaUp = true ∧ ((logSent .completed).slot 9).life = .outstanding ∧
    ((logSent .completed).slot 9).kind = .injected .log ∧ ((logSent .completed).slot 9).dead = false ∧
    (logSent .completed).rep.logShot = some .completed ∧ (logSent .completed).rep.withheld = 0 ∧
    (logSent (.headImage 129)).rep.logShot = some (.headImage 129) ∧ 129 % 128 ≠ 0 ∧
    129 / 128 = (logSent (.headImage 129)).rep.head / 128 := by decide +kernel

theorem test_log_completed : after (exec (.logWriteReturn 9 .good none) (logSent .completed)) (fun t =>
    t.rep.completed == [] && t.rep.writtenHead == 128 && t.cfg.headerHead == 128 && (t.cat 0).state == .changed) = true := by
  decide +kernel

theorem test_log_head : after (exec (.logWriteReturn 9 .good none) (logSent (.headImage 129))) (fun t =>
    t.rep.writtenHead == 129 && t.cfg.headerHead == 0) = true := by decide +kernel

theorem test_tick : after (exec .partClockTick (withIdle.setAccum 29 (some { idleAccum with idle := some ⟨500, 3⟩ }))) (fun t =>
    t.rep.clock == 1 && ((t.accum 29).bind Accum.idle) == some ⟨500, 4⟩) = true ∧
    after (exec .partClockTick { running with rep := { Report.reset with clock := 0xFFFFFFFFFFFFFFFF } }) (fun t =>
      t.rep.clock == 0) = true := by decide +kernel

theorem witness_EventsAcknowledged : (flagged [18, 0, 0, 0, 63, 0, 0, 0, 9]).running = true ∧
    (flagged [18, 0, 0, 0, 63, 0, 0, 0, 9]).nextRecord = some (.ackEvents 63 9) ∧
    ((flagged [18, 0, 0, 0, 63, 0, 0, 0, 9]).flag .finding) = ⟨true, some 9⟩ ∧
    (9 + 4294967296 - (9 : BitVec 32).toNat) % 4294967296 < 2147483648 := by decide +kernel

theorem test_ack_events : after (exec (.ackEvents 63 9) (flagged [18, 0, 0, 0, 63, 0, 0, 0, 9])) (fun t =>
    gave t .done && t.flag .finding == ⟨false, none⟩ && t.flag .walkEnd == ⟨true, some 10⟩ && t.flag .mendEnd == ⟨true, none⟩) =
    true := by decide +kernel

/-- R176: 0xFFFFFFFF is not later than 3, cyclically. -/
theorem test_not_later_wraps : notLater 0xFFFFFFFF 3 = true ∧ notLater 3 0xFFFFFFFF = false ∧ notLater 0 0x7FFFFFFF = true ∧
    notLater 0 0x80000000 = false := by decide

theorem witness_LogTailMoves : (withLog [19, 0, 0, 0, 10] 5).running = true ∧
    (withLog [19, 0, 0, 0, 10] 5).nextRecord = some (.moveLogTail 10) ∧
    (withLog [19, 0, 0, 0, 11] 0).nextRecord = some (.moveLogTail 11) ∧
    (10 + 4096 - (withLog [19, 0, 0, 0, 10] 5).rep.tail) % 4096 ≤ (10 + 4096 - 4000) % 4096 ∧
    ¬((11 + 4096 - 4000) % 4096 ≤ (10 + 4096 - 4000) % 4096) ∧ 0 < (withLog [] 5).rep.withheld ∧
    (State.settleHead { withLog [] 5 with rep := { (withLog [] 5).rep with tail := 10 } }).rep.full = false := by decide +kernel

/-- Slots 4,095 and 4,096: the first lies from the tail, 4,000, to the written head, the second is no slot. -/
theorem witness_LogTailMoves_ends : (withLog [19, 0, 0, 0, 0xFF, 0x0F] 5).nextRecord = some (.moveLogTail 4095) ∧
    (4095 + 4096 - 4000) % 4096 ≤ (10 + 4096 - 4000) % 4096 ∧
    (withLog [19, 0, 0, 0, 0, 0x10] 5).nextRecord = some (.moveLogTail 4096) ∧ ¬(4096 ≤ 4095) ∧
    (State.settleHead { withLog [] 5 with rep := { (withLog [] 5).rep with tail := 4095 } }).rep.full = false := by
  decide +kernel

theorem test_log_tail_ends : after (exec (.moveLogTail 4095) (withLog [19, 0, 0, 0, 0xFF, 0x0F] 5)) (fun t =>
    gave t .done && t.rep.tail == 4095 && (t.rep.image.map fun l => l.map Finding.kind) == some [.logResumed]) = true ∧
    after (exec (.moveLogTail 4096) (withLog [19, 0, 0, 0, 0, 0x10] 5)) (fun t => gave t .clamped && t.rep.tail == 10) = true := by
  decide +kernel

theorem test_log_tail : after (exec (.moveLogTail 10) (withLog [19, 0, 0, 0, 10] 5)) (fun t =>
    gave t .done && t.rep.tail == 10 && t.cfg.headerTail == 10 && t.cfg.headerHead == 10 && t.rep.withheld == 0 &&
      (t.rep.image.map fun l => l.map fun f => (f.kind, f.d1)) == some [(.logResumed, 5)]) = true := by decide +kernel

theorem test_log_tail_clamped : after (exec (.moveLogTail 11) (withLog [19, 0, 0, 0, 11] 0)) (fun t =>
    gave t .clamped && t.rep.tail == 10) = true := by decide +kernel

/-! ### Settings, the directive unit, the catalogue -/

theorem witness_SettingsTaken : (withRecord running [11, 0, 0, 0, 2]).running = true ∧
    (withRecord running [11, 0, 0, 0, 2]).nextRecord = some (.setPolicy 2) ∧
    (withRecord running [12, 0, 0, 0, 2]).nextRecord = some (.setWalkDepth 2) ∧
    (withRecord running [13, 0, 0, 0, 241, 0, 17, 1]).nextRecord = some (.setPace 241 17 1 0) ∧
    (withRecord running [14, 0, 0, 0, 99, 0, 0x89, 0x13]).nextRecord = some (.setTimers 99 5001) ∧
    (withRecord running [15, 0, 0, 0, 33]).nextRecord = some (.setAlert 33) ∧
    (withRecord running [16, 0, 0, 0, 1, 0]).nextRecord = some (.setAdmission 1 (List.replicate 16 0)) ∧
    running.ldr.part ≠ .passthrough := by decide +kernel

theorem test_set_policy : after (exec (.setPolicy 2) (withRecord running [11, 0, 0, 0, 2])) (fun t =>
    gave t .done && t.cfg.policy == .pass && (t.cat 0).state == .changed) = true ∧
    after (exec (.setPolicy 3) (withRecord running [11, 0, 0, 0, 3])) (fun t => gave t .refusedRange) = true := by decide +kernel

theorem test_set_depth : after (exec (.setWalkDepth 2) (withRecord running [12, 0, 0, 0, 2])) (fun t =>
    gave t .done && t.cfg.depth == .audit) = true := by decide +kernel

theorem test_set_pace : after (exec (.setPace 241 17 1 0) (withRecord running [13, 0, 0, 0, 241, 0, 17, 1])) (fun t =>
    gave t .clamped && t.cfg.paceThreshold == 240 && t.cfg.paceDepth == 16 && t.cfg.repeatOn) = true := by decide +kernel

theorem test_set_timers : after (exec (.setTimers 99 5001) (withRecord running [14, 0, 0, 0, 99, 0, 0x89, 0x13])) (fun t =>
    gave t .clamped && t.cfg.returnTimeout == 100 && t.cfg.idleTime == 5000) = true := by decide +kernel

theorem test_set_alert : after (exec (.setAlert 33) (withRecord running [15, 0, 0, 0, 33])) (fun t =>
    gave t .done && t.cfg.alertMask[0] && t.cfg.alertMask[5] && !t.cfg.alertMask[1]) = true := by decide +kernel

/-- R167: the last requester with WRITE and DIRECT cannot lose them. -/
theorem test_set_admission : after (exec (.setAdmission 0xFFFF (List.replicate 16 0))
    (withRecord running ([16, 0, 0, 0, 0xFF, 0xFF]))) (fun t => gave t .refusedRange && t.cfg.admission == allRights) = true ∧
    after (exec (.setAdmission 1 (List.replicate 16 0)) (withRecord running [16, 0, 0, 0, 1, 0])) (fun t =>
      gave t .done && t.cfg.admission[0] == ⟨false, false, false⟩ && t.cfg.admission[1] == ⟨true, true, true⟩) = true := by
  decide +kernel

theorem witness_UnitDirectives : (withRecord running [17, 0, 0, 0, 0, 0, 0, 0, 5]).running = true ∧
    (withRecord running [17, 0, 0, 0, 0, 0, 0, 0, 5]).nextRecord = some (.setClock 5) ∧
    (withRecord running [20, 0, 0, 4, 1]).nextRecord = some (.selectWindow 1 1024) ∧
    (withRecord running [22]).nextRecord = some .freeze ∧ (withRecord running [0]).nextRecord = some (.unknownKind 0) ∧
    (withRecord (withLine .dirty Entry.zero) [21]).nextRecord = some (.flush none) ∧
    ((withLine .dirty Entry.zero).line 3).state = .dirty ∧ (withRecord running [21]).dir.flush = none ∧
    (∀ l, (running.line l).state = .clean ∨ (running.line l).state = .invalid) ∧ (∀ b, (running.cat b).state = .current) := by
  decide +kernel

theorem test_set_clock : after (exec (.setClock 5) (withRecord running [17, 0, 0, 0, 0, 0, 0, 0, 5])) (fun t =>
    gave t .done && t.rep.clock == 5) = true := by decide +kernel

theorem test_select_window : after (exec (.selectWindow 1 7) (withRecord running [20, 0, 7, 0, 1])) (fun t =>
    gave t .done && t.rep.selection == .extent 7) = true ∧
    after (exec (.selectWindow 1 1024) (withRecord running [20, 0, 0, 4, 1])) (fun t => gave t .refusedRange) = true := by
  decide +kernel

theorem test_freeze : after (exec .freeze (withRecord running [22])) (fun t => gave t .done && t.dir.freeze) = true := by
  decide +kernel

theorem test_unknown_kind : after (exec (.unknownKind 0) (withRecord running [0])) (fun t => gave t .unknownKind) = true := by
  decide +kernel

theorem test_flush_empty : after (exec (.flush none) (withRecord running [21])) (fun t =>
    gave t .started && t.dir.flush == none && (t.flag .flushEnd).isSet &&
      (t.rep.image.map fun l => l.map Finding.kind) == some [.flushDone]) = true := by decide +kernel

theorem test_flush_dirty : after (exec (.flush none) (withRecord (withLine .dirty Entry.zero) [21])) (fun t =>
    gave t .started && t.dir.flush.isSome && t.queued (.writeback 3)) = true := by decide +kernel

/-- A command whose record is not next in turn has no effect (log 16). -/
theorem test_not_in_turn : after (exec .freeze (withRecord running [21])) (fun t => !t.dir.freeze && t.rep.lastBatch == none) =
    true := by decide +kernel

theorem witness_CatalogueReads_header : (loadingWith (.catalogueRead 0) (.header 2)).mediaUp = true ∧
    (loadingWith (.catalogueRead 0) (.header 2)).ldr.part = .loading ∧
    (loadingWith (.catalogueRead 0) (.header 2)).controlBase = some 1000 ∧
    (loadingWith (.catalogueRead 0) (.header 2)).ldr.load = .header 2 ∧
    ((loadingWith (.catalogueRead 0) (.header 2)).slot 9).kind = .injected (.catalogueRead 0) ∧
    ((loadingWith (.catalogueRead 0) (.header 2)).slot 9).life = .outstanding ∧
    ((loadingWith (.catalogueRead 0) (.header 2)).slot 9).dead = false ∧
    ((loadingWith (.catalogueRead 0) (.header 2)).slot 9).count = 1 ∧ goodHeader.length = 4096 ∧
    (decodeHeader goodHeader).isSome = true ∧ decodeHeader (goodHeader.set 4 9) = none := by decide +kernel

theorem witness_CatalogueReads_records : (lastBlock 0).mediaUp = true ∧ (lastBlock 0).ldr.part = .loading ∧
    (lastBlock 0).controlBase = some 1000 ∧ ((lastBlock 0).slot 9).life = .outstanding ∧ ((lastBlock 0).slot 9).dead = false ∧
    ((lastBlock 0).slot 9).count = 1 ∧ ((lastBlock 0).slot 9).kind = .injected (.catalogueRead (Fin.succ 15)) ∧
    ((firstBlock 1).slot 9).kind = .injected (.catalogueRead (Fin.succ 0)) ∧ (lastBlock 0).up.head = none ∧
    (lastBlock 0).walk.cur = none ∧ (lastBlock 0).walk.saved = [] ∧ freeBlock.length = 4096 ∧
    ((Vector.replicate 16 (some freeBlock)).set 15 (some freeBlock)).toList.all Option.isSome = true ∧
    ((Vector.replicate 16 (none : Option (List Byte))).set 0 (some freeBlock)).toList.all Option.isSome = false ∧
    (freshHeader ⟨1000, 100000, 2000, allRights⟩).repeatOn = false ∧
    (freshHeader ⟨1000, 100000, 2000, allRights⟩).headerHead % 128 = 0 ∧ 1 < 2 := by decide +kernel

/-- R186, R187: a record of the FREE form loads, one whose check fails ends the load, and a read that failed three times is tried no more. -/
theorem test_record_reads : (match loadRecords 100000 ((recordsOf freeBlock).take 2) 0 [controlRange 1000] with
      | .ok r => r.1.length == 2 && r.2 == [controlRange 1000]
      | .error _ => false) = true ∧
    (match loadRecords 100000 [(freeBlock.take 64).set 5 9] 0 [controlRange 1000] with
      | .ok _ => false
      | .error c => c == .catalogueRecord 0 1) = true ∧
    after (exec (.catalogueReadReturn 9 .mediaError [] none) (firstBlock 2)) (fun t => t.ldr.fault == some (.catalogueRead 1035)) =
      true := by decide +kernel

theorem witness_blank_extents (e : Fin 1024) : ((loadingWith (.blankWrite 0) (.blank 0 2)).extent e).state = .free := by
  show ((Vector.replicate 1024 Extent.freeForm)[e]).state = .free
  simp [Extent.freeForm]

theorem test_header_valid : after (exec (.catalogueReadReturn 9 .good goodHeader none) (loadingWith (.catalogueRead 0) (.header 0)))
    (fun t => t.arb.length == 16 && (t.arb.map InjRequest.addr).head? == some 1035 && t.ldr.part == .loading) = true := by
  decide +kernel

theorem test_header_bad : after (exec (.catalogueReadReturn 9 .good (goodHeader.set 4 9) none)
    (loadingWith (.catalogueRead 0) (.header 0))) (fun t => t.ldr.part == .fault && t.ldr.fault == some .catalogueHeader &&
      t.map.index == [controlRange 1000]) = true := by decide +kernel

theorem witness_CatalogueWritesReturn : (loadingWith (.blankWrite 0) (.blank 0 2)).mediaUp = true ∧
    (loadingWith (.blankWrite 0) (.blank 0 2)).controlBase = some 1000 ∧
    ((loadingWith (.blankWrite 0) (.blank 0 2)).slot 9).life = .outstanding ∧
    ((loadingWith (.blankWrite 0) (.blank 0 2)).slot 9).dead = false ∧
    ((loadingWith (.blankWrite 0) (.blank 0 2)).slot 9).kind = .injected (.blankWrite 0) ∧
    (loadingWith (.blankWrite 0) (.blank 0 2)).ldr.part = .loading ∧
    (loadingWith (.blankWrite 0) (.blank 0 2)).ldr.load = .blank 0 2 ∧
    (loadingWith (.blankWrite 0) (.blank 0 2)).ldr.setup.isSome = true ∧
    (loadingWith (.blankWrite 0) (.blank 0 2)).walk.cur = none ∧ (loadingWith (.blankWrite 0) (.blank 0 2)).up.head = none ∧
    (0 : Fin 17).val = (16 + 1) % 17 ∧
    ((sent running (.catalogueWrite 16)).slot 9).kind = .injected (.catalogueWrite 16) ∧ running.dir.flush = none ∧
    ((running.setCat 16 ⟨.writingChanged, none, false⟩).cat 16).state = .writingChanged := by decide +kernel

/-- R187: the header is written after record block 16. -/
theorem test_blank_last_record : after (exec (.blankCatalogueWriteReturn 9 .good none) (loadingWith (.blankWrite 16) (.blank 16 2)))
    (fun t => t.ldr.part == .loading && t.arb == [writeOf (.blankWrite 0) 1034]) = true := by decide +kernel

theorem test_blank_fails : after (exec (.blankCatalogueWriteReturn 9 .mediaError none) (loadingWith (.blankWrite 5) (.blank 5 2)))
    (fun t => t.ldr.part == .fault && t.ldr.fault == some (.catalogueWrite 1039)) = true := by decide +kernel

theorem test_catalogue_write : after (exec (.catalogueWriteReturn 9 .mediaError none)
    ((sent running (.catalogueWrite 16)).setCat 16 ⟨.writing, none, false⟩)) (fun t =>
      t.cat 16 == ⟨.changed, some ⟨5000, 0⟩, false⟩ && (t.rep.image.map fun l => l.map fun f => (f.kind, f.d1)) ==
        some [(.mediaError, 1050)]) = true := by decide +kernel

end Sys2Proof.Tests
end

/-!
PROOFS. The weighted byte check (R34, R36): what it gives on zeros, and what one changed byte does to it.
-/

namespace Sys2Proof.Machine

/-! ### A record of zeros -/

@[simp] theorem leNat_zeros (n : Nat) : leNat (zeros n) = 0 := by
  induction n with
  | zero => rfl
  | succ n ih =>
    calc leNat (zeros (n + 1)) = 0 + 256 * leNat (zeros n) := rfl
      _ = 0 := by rw [ih]

@[simp] theorem weightedSum_zeros (k n : Nat) : weightedSum k (zeros n) = 0 := by
  induction n generalizing k with
  | zero => rfl
  | succ n ih =>
    calc weightedSum k (zeros (n + 1)) = (k + 1) * 0 + weightedSum (k + 1) (zeros n) := rfl
      _ = 0 := by rw [ih, Nat.mul_zero]

@[simp] theorem weightedCheck_zeros (n : Nat) : weightedCheck (zeros n) = 1 := by
  simp [weightedCheck]

theorem take_zeros (m n : Nat) : (zeros n).take m = zeros (min m n) := List.take_replicate

theorem drop_zeros (m n : Nat) : (zeros n).drop m = zeros (n - m) := List.drop_replicate

@[simp] theorem field_zeros (n off len : Nat) : field (zeros n) off len = 0 := by
  simp [field, drop_zeros, take_zeros]

theorem checkPasses_iff (n : Nat) (bytes : List Byte) :
    checkPasses n bytes = true ↔ field bytes n 2 = weightedCheck (bytes.take n) := beq_iff_eq

theorem checkPasses_zeros (n m : Nat) : checkPasses n (zeros m) = false := by
  rw [Bool.eq_false_iff, Ne, checkPasses_iff, take_zeros, field_zeros, weightedCheck_zeros]
  exact Nat.zero_ne_one

/-! ### One changed byte -/

/-- A field does not see a change of a byte before it. -/
theorem field_set_of_lt (bytes : List Byte) {k off : Nat} (len : Nat) (b : Byte) (h : k < off) :
    field (bytes.set k b) off len = field bytes off len := by
  rw [field, List.drop_set_of_lt h, field]

/-- Byte `k` counts `i + k + 1` times in the sum, the old value before a change and the new one after it; written without
subtraction. -/
theorem weightedSum_set (bytes : List Byte) (i k : Nat) (b : Byte) (h : k < bytes.length) :
    weightedSum i (bytes.set k b) + (i + k + 1) * bytes[k].toNat = weightedSum i bytes + (i + k + 1) * b.toNat := by
  induction bytes generalizing i k with
  | nil => cases h
  | cons x xs ih =>
    cases k with
    | zero => simp only [List.set_cons_zero, List.getElem_cons_zero, weightedSum, Nat.add_zero]; omega
    | succ k =>
      have hk : k < xs.length := Nat.lt_of_succ_lt_succ h
      have hrest := ih (i + 1) k hk
      rw [show i + 1 + k + 1 = i + (k + 1) + 1 by omega] at hrest
      simp only [List.set_cons_succ, List.getElem_cons_succ, weightedSum]
      omega

/-- R36: a byte's share of the sum, with a factor from 1 to 256, stays below 65,536, so that two values with the same share
modulo 65,536 are one. -/
theorem eq_of_share_modEq {c : Nat} {x y : Byte} (hpos : 0 < c) (hc : c ≤ 256)
    (h : c * x.toNat ≡ c * y.toNat [MOD 65536]) : x = y := by
  have share_lt (z : Byte) : c * z.toNat < 65536 :=
    calc c * z.toNat ≤ 256 * 255 := Nat.mul_le_mul hc (Nat.le_of_lt_succ z.isLt)
      _ < 65536 := by decide
  have heq : c * x.toNat = c * y.toNat := h.eq_of_lt_of_lt (share_lt x) (share_lt y)
  exact BitVec.eq_of_toNat_eq (Nat.eq_of_mul_eq_mul_left hpos heq)

/-- R36: among the first 256 bytes, the check stays the same only where the byte does. -/
theorem eq_of_weightedCheck_set_eq {bytes : List Byte} {k : Nat} {b : Byte} (hk : k < bytes.length) (hsmall : k < 256)
    (h : weightedCheck (bytes.set k b) = weightedCheck bytes) : bytes[k] = b := by
  have hsum : weightedSum 0 (bytes.set k b) ≡ weightedSum 0 bytes [MOD 65536] := Nat.ModEq.add_left_cancel' 1 h
  have hmove := weightedSum_set bytes 0 k b hk
  have hshare : (0 + k + 1) * bytes[k].toNat ≡ (0 + k + 1) * b.toNat [MOD 65536] :=
    hsum.add_left_cancel (congrArg (· % 65536) hmove)
  exact eq_of_share_modEq (by omega) (by omega) hshare

/-- R36: a record of up to 256 guarded bytes that passes fails after a change of one of them. -/
theorem checkPasses_set {bytes : List Byte} {n k : Nat} {b : Byte} (hn : n ≤ 256) (hlen : bytes.length = n + 2) (hk : k < n)
    (hne : bytes[k]? ≠ some b) (hpass : checkPasses n bytes = true) : checkPasses n (bytes.set k b) = false := by
  rw [checkPasses_iff] at hpass
  rw [Bool.eq_false_iff, Ne, checkPasses_iff, field_set_of_lt bytes 2 b hk, List.take_set, hpass]
  intro hsame
  have hkt : k < (bytes.take n).length := by rw [List.length_take]; omega
  have hbyte : (bytes.take n)[k] = b := eq_of_weightedCheck_set_eq hkt (by omega) hsame.symm
  rw [List.getElem_take] at hbyte
  exact hne (List.getElem?_eq_some_iff.mpr ⟨by omega, hbyte⟩)

/-- Settles O42: zeros by their computed check, one change by the share of its byte in the sum. -/
theorem checkCatchesOneByte : Obligations.CheckCatchesOneByte := by
  unfold Obligations.CheckCatchesOneByte
  refine ⟨fun n => ⟨weightedCheck_zeros n, checkPasses_zeros n (n + 2)⟩, ?_⟩
  intro bytes n k b hn hlen hk hne hpass
  exact checkPasses_set hn hlen hk hne hpass

end Sys2Proof.Machine

/-!
PROOFS. The form test of a controller request (R87): its four conditions, and what the step does with a request that the
switch answers without forwarding it.
-/

namespace Sys2Proof.Machine

/-! ### The four conditions -/

/-- A test that some entry of the in-flight table passes is one that some slot passes. -/
theorem any_slots_iff (s : State) (p : Slot → Bool) : s.slots.toList.any p = true ↔ ∃ i, p (s.slot i) = true := by
  rw [List.any_eq_true]
  constructor
  · rintro ⟨x, hx, hp⟩
    obtain ⟨i, hi, rfl⟩ := Vector.mem_iff_getElem.mp (Vector.mem_toList_iff.mp hx)
    exact ⟨⟨i, hi⟩, hp⟩
  · rintro ⟨i, hp⟩
    exact ⟨s.slot i, Vector.mem_toList_iff.mpr (Vector.getElem_mem i.isLt), hp⟩

theorem Slot.livePass_iff (x : Slot) : x.livePass = true ↔ x.life.live = true ∧ x.kind.isPass = true := by
  rw [Slot.livePass, Bool.and_eq_true, and_comm]

theorem State.duplicate_iff (s : State) (r : Request) :
    s.duplicate r = true ↔ ∃ i, (s.slot i).life.live = true ∧ (s.slot i).kind.isPass = true ∧
      (s.slot i).requester = r.requester ∧ (s.slot i).tag = r.tag := by
  rw [State.duplicate, any_slots_iff]
  simp only [Bool.and_eq_true, decide_eq_true_eq, Slot.livePass_iff, and_assoc]

theorem State.formFails_iff (s : State) (r : Request) :
    s.formFails r = true ↔
      (r.count = 0 ∨ 256 < r.count) ∨ 63 < r.tag ∨ Config.addressLimit < r.addr + r.count ∨
        ∃ i, (s.slot i).life.live = true ∧ (s.slot i).kind.isPass = true ∧ (s.slot i).requester = r.requester ∧
          (s.slot i).tag = r.tag := by
  simp only [State.formFails, Bool.or_eq_true, decide_eq_true_eq, State.duplicate_iff, or_assoc]

/-! ### A request answered without being forwarded -/

theorem State.decideRequest_of_formFails {s : State} {r : Request} (h : s.formFails r = true) :
    s.decideRequest r = .answer .refused := if_pos h

/-- A request taken at the port with no table error found is decided, and the decision is carried out (R86). -/
theorem exec_controllerRequest_taken {s : State} (r : Request) (h : s.takesHeader = true) :
    exec (.controllerRequest r none) s = .next (s.carryOut r (s.decideRequest r)).syncStatusTimer :=
  calc exec (.controllerRequest r none) s = (s.request r).done := rfl
    _ = (s.carryOut r (s.decideRequest r)).done := congrArg State.done (if_pos h)

@[simp] theorem State.carryOut_answer_slots (s : State) (r : Request) (status : UpStatus) :
    (s.carryOut r (.answer status)).slots = s.slots := rfl

@[simp] theorem State.carryOut_answer_up (s : State) (r : Request) (status : UpStatus) :
    (s.carryOut r (.answer status)).up = { s.up with head := none } := rfl

@[simp] theorem State.carryOut_answer_ports (s : State) (r : Request) (status : UpStatus) :
    (s.carryOut r (.answer status)).ports =
      { s.ports with upstream := s.ports.upstream ++ [⟨r.requester, r.tag, status, []⟩] } := rfl

/-- Settles O21: the test is its four conditions, and a request that fails it is carried out as the answer REFUSED. -/
theorem formTest : Obligations.FormTest := by
  unfold Obligations.FormTest
  intro s r
  constructor
  · exact s.formFails_iff r
  · intro htakes hfails
    have hstep := exec_controllerRequest_taken r htakes
    rw [State.decideRequest_of_formFails hfails] at hstep
    exact ⟨_, hstep, by simp, by simp, by simp⟩

end Sys2Proof.Machine

/-!
PROOFS. ACK_EVENTS (R176): which flags it clears, the result its record gains (R158 to R160), and what it leaves unchanged.
-/

namespace Sys2Proof.Machine

/-! ### A record that is next in turn has its result -/

theorem State.executes_batch {s : State} {i : Instr} (h : s.executes i) : ∃ b, s.dir.batch = some b := by
  obtain ⟨_, hnext⟩ := h
  cases hb : s.dir.batch with
  | none => simp [State.nextRecord, hb] at hnext
  | some b => exact ⟨b, rfl⟩

theorem State.directive_of_executes {s : State} {i : Instr} (effect : Effect) (h : s.executes i) :
    s.directive i effect = .next ((effect s).1.addResult (effect s).2).syncStatusTimer := if_pos h

@[simp] theorem State.setBatch_dir_batch (s : State) (b : Option Batch) : (s.setBatch b).dir.batch = b := rfl

@[simp] theorem State.handBatch_rep_lastBatch (s : State) (b : Batch) :
    (s.handBatch b).rep.lastBatch = some ⟨b.label, b.count, b.clamped, b.results⟩ := by
  simp [State.handBatch]

theorem State.addResult_of_batch {s : State} {b : Batch} (hb : s.dir.batch = some b) (r : Result) :
    s.addResult r = (s.setBatch (some { b with results := b.results ++ [r] })).tryEndBatch := by
  simp only [State.addResult, hb]

theorem State.tryEndBatch_of_complete {s : State} {b : Batch} (hb : s.dir.batch = some b)
    (hend : b.ended = false ∧ b.results.length = b.records) :
    s.tryEndBatch = (s.setBatch (if b.cut then none else some { b with ended := true })).handBatch b := by
  simp only [State.tryEndBatch, hb]
  exact if_pos hend

theorem State.tryEndBatch_of_incomplete {s : State} {b : Batch} (hb : s.dir.batch = some b)
    (hend : ¬(b.ended = false ∧ b.results.length = b.records)) : s.tryEndBatch = s := by
  simp only [State.tryEndBatch, hb]
  exact if_neg hend

/-- A result that is not the batch's last is only added to it: nothing is handed to the status block (R160). -/
theorem State.addResult_of_more {s : State} {b : Batch} (hb : s.dir.batch = some b)
    (hmore : b.results.length + 1 < b.records) (r : Result) :
    s.addResult r = s.setBatch (some { b with results := b.results ++ [r] }) := by
  rw [State.addResult_of_batch hb]
  have hlen : (b.results ++ [r]).length ≠ b.records := by simpa using hmore.ne
  exact State.tryEndBatch_of_incomplete rfl fun hend => hlen hend.2

/-- The result is the newest of the batch that stays, or, where it ends a batch that was cut off, of the last-batch group
(R160, R161). -/
theorem State.gained_addResult {s : State} {b : Batch} (hb : s.dir.batch = some b) (r : Result) :
    Gained s (s.addResult r) r := by
  refine ⟨b, hb, ?_⟩
  rw [State.addResult_of_batch hb]
  by_cases hend : b.ended = false ∧ (b.results ++ [r]).length = b.records
  · rw [State.tryEndBatch_of_complete rfl hend]
    cases hcut : b.cut with
    | true => exact .inr ⟨by simp, _, State.handBatch_rep_lastBatch .., rfl⟩
    | false => exact .inl ⟨{ b with results := b.results ++ [r], ended := true }, by simp [hcut], rfl⟩
  · rw [State.tryEndBatch_of_incomplete rfl hend]
    exact .inl ⟨_, rfl, rfl⟩

theorem Gained.syncStatusTimer {s t : State} {r : Result} (h : Gained s t r) : Gained s t.syncStatusTimer r := by
  simpa [Gained] using h

/-! ### One flag -/

theorem bitOf_iff (x i : Nat) : bitOf x i = true ↔ x / 2 ^ i % 2 = 1 := beq_iff_eq

/-- The cyclic comparison of R176, in numbers. -/
theorem notLater_ofNat_iff (r : BitVec 32) (seen : Nat) :
    notLater r (BitVec.ofNat 32 seen) = true ↔ (seen + 4294967296 - r.toNat) % 4294967296 < 2147483648 := by
  rw [notLater, decide_eq_true_eq, BitVec.toNat_sub, BitVec.toNat_ofNat]
  have hr := r.isLt
  omega

/-- The flag is one that ACK_EVENTS clears: named by the mask, set, and with a remembered count that is not later (R176). -/
def Flag.Acked (f : Flag) (masked : Bool) (seen : BitVec 32) : Prop :=
  masked = true ∧ f.isSet = true ∧ ∃ r, f.seen = some r ∧ notLater r seen = true

theorem Flag.acked_iff (f : Flag) (mask i seen : Nat) :
    f.Acked (bitOf mask i) (BitVec.ofNat 32 seen) ↔
      mask / 2 ^ i % 2 = 1 ∧ f.isSet = true ∧
        ∃ r, f.seen = some r ∧ (seen + 4294967296 - r.toNat) % 4294967296 < 2147483648 := by
  simp only [Flag.Acked, bitOf_iff, notLater_ofNat_iff]

theorem Flag.ack_of_acked {f : Flag} {masked : Bool} {seen : BitVec 32} (h : f.Acked masked seen) :
    f.ack masked seen = Flag.clear := by
  obtain ⟨hmask, hset, r, hr, hle⟩ := h
  simp only [Flag.ack, hr, hmask, hset, hle, Bool.and_self, if_true]

theorem Flag.ack_of_not_acked {f : Flag} {masked : Bool} {seen : BitVec 32} (h : ¬ f.Acked masked seen) :
    f.ack masked seen = f := by
  unfold Flag.ack
  split
  next => rfl
  next r hr =>
    refine if_neg fun hall => h ?_
    rw [Bool.and_eq_true, Bool.and_eq_true] at hall
    obtain ⟨⟨hmask, hset⟩, hle⟩ := hall
    exact ⟨hmask, hset, r, hr, hle⟩

/-! ### The record -/

theorem ackEventsEffect_flag (mask seen : Nat) (s : State) (f : EventFlag) :
    (ackEventsEffect mask seen s).1.flag f = (s.flag f).ack (bitOf mask f.idx.val) (BitVec.ofNat 32 seen) := by
  simp [ackEventsEffect, State.flag, maskOf]

theorem State.flag_congr {s t : State} (h : t.rep.flags = s.rep.flags) (f : EventFlag) : t.flag f = s.flag f := by
  rw [State.flag, State.flag, h]

/-- The state after ACK_EVENTS where its record is next in turn. -/
def State.afterAck (s : State) (mask seen : Nat) : State :=
  ((ackEventsEffect mask seen s).1.addResult .done).syncStatusTimer

theorem exec_ackEvents_of_executes {s : State} {mask seen : Nat} (h : s.executes (.ackEvents mask seen)) :
    exec (.ackEvents mask seen) s = .next (s.afterAck mask seen) :=
  State.directive_of_executes (ackEventsEffect mask seen) h

theorem State.afterAck_flag (s : State) (mask seen : Nat) (f : EventFlag) :
    (s.afterAck mask seen).flag f = (s.flag f).ack (bitOf mask f.idx.val) (BitVec.ofNat 32 seen) := by
  rw [← ackEventsEffect_flag]
  exact State.flag_congr (by simp [State.afterAck]) f

theorem State.gained_afterAck {s : State} {b : Batch} (hb : s.dir.batch = some b) (mask seen : Nat) :
    Gained s (s.afterAck mask seen) .done :=
  (State.gained_addResult (s := (ackEventsEffect mask seen s).1) hb .done).syncStatusTimer

theorem State.afterAck_statusDue {s : State} {b : Batch} (hb : s.dir.batch = some b)
    (hmore : b.results.length + 1 < b.records) (mask seen : Nat) :
    (s.afterAck mask seen).rep.statusDue = s.rep.statusDue := by
  rw [State.afterAck, State.addResult_of_more (s := (ackEventsEffect mask seen s).1) hb hmore,
    State.syncStatusTimer_rep_statusDue]
  rfl

theorem State.samePorts_afterAck (s : State) (mask seen : Nat) : SamePorts s (s.afterAck mask seen) := by
  simp [SamePorts, State.afterAck, ackEventsEffect]

theorem State.sameShelf_afterAck (s : State) (mask seen : Nat) : SameShelf s (s.afterAck mask seen) := by
  simp [SameShelf, State.afterAck, ackEventsEffect]

/-- Settles O55: the record's effect is on the flags alone, and each flag is cleared exactly where it is acknowledged. -/
theorem eventsAcknowledged : Obligations.EventsAcknowledged := by
  unfold Obligations.EventsAcknowledged
  intro s mask seen hexec
  obtain ⟨b, hb⟩ := State.executes_batch hexec
  refine ⟨s.afterAck mask seen, exec_ackEvents_of_executes hexec, State.gained_afterAck hb mask seen,
    s.samePorts_afterAck mask seen, s.sameShelf_afterAck mask seen, by simp [State.afterAck, ackEventsEffect],
    by simp [State.afterAck, ackEventsEffect], by simp [State.afterAck, ackEventsEffect], ?statusDue, ?flags⟩
  case statusDue =>
    intro b' hb' hmore
    exact State.afterAck_statusDue hb' hmore mask seen
  case flags =>
    intro f
    rw [State.afterAck_flag, ← Flag.acked_iff]
    exact ⟨Flag.ack_of_acked, Flag.ack_of_not_acked⟩

end Sys2Proof.Machine

/-!
PROOFS. What every command keeps: the step on the queue, freeze, the maintenance mark, the event flags, the settings, the
clock, the limits of the mend queue and of the log images. `Keeps`, `Lives` and `Holds` carry these through the operations;
here they are taken through the commands.
-/

namespace Sys2Proof.Machine

/-- The outcome is a next state of which `P` holds. -/
def Leads (o : Host.Outcome State Fault Refusal) (P : State → Prop) : Prop := ∃ t, o = .next t ∧ P t

theorem Leads.mono {o : Host.Outcome State Fault Refusal} {P Q : State → Prop} (h : Leads o P) (hpq : ∀ t, P t → Q t) :
    Leads o Q := by
  obtain ⟨t, ho, ht⟩ := h
  exact ⟨t, ho, hpq t ht⟩

theorem Leads.of_next {o : Host.Outcome State Fault Refusal} {P : State → Prop} {t : State} (h : Leads o P)
    (ho : o = .next t) : P t := by
  obtain ⟨u, hu, hp⟩ := h
  cases hu.symm.trans ho
  exact hp

theorem Leads.next {P : State → Prop} {t : State} (h : P t) : Leads (.next t) P := ⟨t, rfl, h⟩

theorem Leads.ite {c : Prop} [Decidable c] {o p : Host.Outcome State Fault Refusal} {P : State → Prop}
    (ho : c → Leads o P) (hp : Leads p P) : Leads (if c then o else p) P := by
  split
  case isTrue hc => exact ho hc
  case isFalse => exact hp

theorem Keeps.done {s t : State} (h : Keeps s t) : Leads t.done (Keeps s) := .next h.syncStatusTimer
theorem Lives.done {s t : State} (h : Lives s t) : Leads t.done (Lives s) :=
  .next (h.after (Keeps.refl t).syncStatusTimer)
theorem Holds.done {s t : State} (h : Holds s t) : Leads t.done (Holds s) :=
  .next (h.after (Keeps.refl t).syncStatusTimer)

theorem Keeps.directive {s t : State} {i : Instr} {effect : Effect} (h : Keeps s t) (he : Keeps s (effect t).1) :
    Leads (t.directive i effect) (Keeps s) := .ite (fun _ => (he.addResult _).done) (.next h)

theorem Lives.directive {s : State} {i : Instr} {effect : Effect} (he : Lives s (effect s).1) :
    Leads (s.directive i effect) (Lives s) :=
  .ite (fun _ => (he.after ((Keeps.refl _).addResult _)).done) (.next (Lives.refl s))

/-! ### Commands of which `Keeps` holds -/

/-- The command is a directive of the settings, of the clock, of the freeze flag or of the event flags. -/
def setsPart : Instr → Bool
  | .setPolicy _ => true
  | .setWalkDepth _ => true
  | .setPace _ _ _ _ => true
  | .setTimers _ _ => true
  | .setAdmission _ _ => true
  | .setClock _ => true
  | .ackEvents _ _ => true
  | .freeze => true
  | _ => false

/-- The command may give the part another state, or act with what a catalogue or the EEPROM gives. -/
def movesPart : Instr → Bool
  | .hardwareReset _ => true
  | .eepromReadEnd _ => true
  | .eepromReadTimeout => true
  | .linkReset _ _ => true
  | .upstreamLinkDown _ _ => true
  | .catalogueReadReturn _ _ _ _ => true
  | .blankCatalogueWriteReturn _ _ _ => true
  | .injectionGrant _ => true
  | .partClockTick => true
  | _ => false

/-- A blank write that was not made is tried again, or ends the load: it does not enter RUNNING. -/
theorem Keeps.blankEnded_of_bad {s t : State} (h : Keeps s t) (b : Fin 17) (e : MediaEnd) (err : Option TableError)
    (he : e.isGood = false) : Keeps s (t.blankEnded b e err) := by
  unfold State.blankEnded
  rw [he]
  split
  · rw [if_neg Bool.false_ne_true]
    split
    · exact h.loadFails _
    · exact (h.setLoad _).queueBlank _
  · exact h

/-- A return timer that expires lets no load end well. -/
theorem Keeps.ownerEnded_timeout {s t : State} (h : Keeps s t) (x : Slot) (o : Owner) (err : Option TableError) :
    Keeps s (t.ownerEnded x o .timeout err) := by
  cases o with
  | catalogueRead b =>
    show Keeps s (if x.dead then t else t.readFailed b)
    split
    · exact h
    · exact h.readFailed b
  | blankWrite b =>
    show Keeps s (if x.dead then t else t.blankEnded b .timeout err)
    split
    · exact h
    · exact h.blankEnded_of_bad b _ err rfl
  | _ => exact h.ownerEnded x _ .timeout err (by simp) (by simp)

theorem Keeps.injectedTimeout {s t : State} (h : Keeps s t) (i : Fin 256) (err : Option TableError) :
    Keeps s (t.injectedTimeout i err) := by
  unfold State.injectedTimeout
  dsimp only
  split
  · exact h
  · split
    · exact (h.setSlot _ _).ownerEnded_timeout _ _ _
    · exact h

theorem State.findError_keeps (s : State) (err : Option TableError) : Keeps s (s.findError err) :=
  (Keeps.refl s).findError err

/-- A media return of an owner that is not the catalogue load's. -/
theorem injReturn_keeps (s : State) (tag : Fin 256) (test : Owner → Bool) (status : MediaStatus) (data : List Byte)
    (err : Option TableError) (hr : ∀ b, test (.catalogueRead b) = false) (hb : ∀ b, test (.blankWrite b) = false) :
    Leads ((s.findError err).injReturn tag test status data err).done (Keeps s) :=
  ((s.findError_keeps err).injReturn tag test status data err hr hb).done

theorem execCatalogueRetryExpiry_keeps (b : Fin 17) (s : State) : Leads (execCatalogueRetryExpiry b s) (Keeps s) :=
  .ite (fun _ => .next (((Keeps.refl s).setCat _ _).queueCat _)) (.next (Keeps.refl s))

theorem execIdleTimerExpiry_keeps (p : Fin 32) (s : State) (err : Option TableError) :
    Leads (execIdleTimerExpiry p s err) (Keeps s) :=
  .ite (fun _ => .next ((s.findError_keeps err).abandon p)) (.next (s.findError_keeps err))

theorem execDirtyTimerExpiry_keeps (l : Fin 64) (s : State) (err : Option TableError) :
    Leads (execDirtyTimerExpiry l s err) (Keeps s) :=
  .ite (fun _ => .next (((s.findError_keeps err).setLine _ _).queueWriteback l)) (.next (s.findError_keeps err))

theorem execStatusTimerExpiry_keeps (s : State) : Leads (execStatusTimerExpiry s) (Keeps s) :=
  .ite (fun _ => .next (Keeps.statusDue (by exact (Keeps.refl s).lit rfl rfl rfl rfl rfl rfl rfl rfl rfl))) (.next (Keeps.refl s))

theorem execRestTimerExpiry_keeps (s : State) (err : Option TableError) : Leads (execRestTimerExpiry s err) (Keeps s) :=
  .ite (fun _ => (s.findError_keeps err).restExpires.done) (.next (s.findError_keeps err))

theorem execLineQueueGrant_keeps (s : State) (err : Option TableError) : Leads (execLineQueueGrant err s) (Keeps s) := by
  unfold execLineQueueGrant
  dsimp only
  cases hg : (s.findError err).grantLine with
  | none => exact (s.findError_keeps err).done
  | some u => exact ((s.findError_keeps err).grantLine hg).done

theorem execMendStart_keeps (s : State) (err : Option TableError) : Leads (execMendStart err s) (Keeps s) :=
  .ite (fun _ => (Keeps.takeMend _ (s.findError_keeps err)).done) (s.findError_keeps err).done

theorem execMendFrame_keeps (s : State) (e f t : Nat) (err : Option TableError) : Leads (execMendFrame e f t s err) (Keeps s) :=
  .ite (fun _ => ((s.findError_keeps err).mendFrameRecord e f t).done) (.next (s.findError_keeps err))

/-- Every command but those that move the part and those that set it keeps what `Keeps` says. -/
theorem exec_keeps (c : Instr) (s : State) (hm : movesPart c = false) (hs : setsPart c = false) :
    Leads (exec c s) (Keeps s) := by
  cases c with
  | hardwareReset | eepromReadEnd | eepromReadTimeout | linkReset | upstreamLinkDown | catalogueReadReturn | blankCatalogueWriteReturn | injectionGrant | partClockTick => cases hm
  | setPolicy | setWalkDepth | setPace | setTimers | setAdmission | setClock | ackEvents | freeze => cases hs
  | upstreamLinkUp => exact .next ((Keeps.refl s).lit rfl rfl rfl rfl rfl rfl rfl rfl rfl)
  | mediaLinkDown err => exact (s.findError_keeps err).mediaLost.done
  | mediaLinkUp err => exact (s.findError_keeps err).mediaBack.done
  | controllerRequest req err => exact ((s.findError_keeps err).request req).done
  | passthroughSlotTaken err => exact (s.findError_keeps err).slotTaken.done
  | writeLinesReady err => exact (s.findError_keeps err).writeReady.done
  | directiveWriteProceeds err => exact (s.findError_keeps err).directiveProceeds.done
  | passthroughMediaReturn tag status data err => exact ((s.findError_keeps err).passReturn tag status data).done
  | unexpectedReturn tag status err => exact ((s.findError_keeps err).strayReturn tag status).done
  | passthroughReturnTimeout i err => exact ((s.findError_keeps err).passTimeout i).done
  | staleTimeout i err => exact ((s.findError_keeps err).staleTimeout i).done
  | injectedReturnTimeout i err => exact ((s.findError_keeps err).injectedTimeout i err).done
  | digestFillReturn tag status data err => exact injReturn_keeps s tag _ status data err (fun _ => rfl) fun _ => rfl
  | digestRefillReturn tag status data err => exact injReturn_keeps s tag _ status data err (fun _ => rfl) fun _ => rfl
  | digestWritebackReturn tag status err => exact injReturn_keeps s tag _ status [] err (fun _ => rfl) fun _ => rfl
  | walkChunkReturn tag status data err => exact injReturn_keeps s tag _ status data err (fun _ => rfl) fun _ => rfl
  | mendReadReturn tag status data err => exact injReturn_keeps s tag _ status data err (fun _ => rfl) fun _ => rfl
  | mendWriteReturn tag status err => exact injReturn_keeps s tag _ status [] err (fun _ => rfl) fun _ => rfl
  | statusWriteReturn tag status err => exact injReturn_keeps s tag _ status [] err (fun _ => rfl) fun _ => rfl
  | logWriteReturn tag status err => exact injReturn_keeps s tag _ status [] err (fun _ => rfl) fun _ => rfl
  | catalogueWriteReturn tag status err => exact injReturn_keeps s tag _ status [] err (fun _ => rfl) fun _ => rfl
  | catalogueRetryExpiry b => exact execCatalogueRetryExpiry_keeps b s
  | idleTimerExpiry p err => exact execIdleTimerExpiry_keeps p s err
  | dirtyTimerExpiry l err => exact execDirtyTimerExpiry_keeps l s err
  | statusTimerExpiry => exact execStatusTimerExpiry_keeps s
  | restTimerExpiry err => exact execRestTimerExpiry_keeps s err
  | lineQueueGrant err => exact execLineQueueGrant_keeps s err
  | mendStart err => exact execMendStart_keeps s err
  | defineExtent _ _ _ _ _ _ _ _ _ _ _ err => exact (s.findError_keeps err).directive ((s.findError_keeps err).defineEffect _ _)
  | sealExtent e err => exact (s.findError_keeps err).directive ((s.findError_keeps err).sealEffect e)
  | openExtent e err => exact (s.findError_keeps err).directive ((s.findError_keeps err).openEffect e)
  | retireExtent e err => exact (s.findError_keeps err).directive ((s.findError_keeps err).retireEffect e)
  | resealFrame e f c err => exact (s.findError_keeps err).directive ((s.findError_keeps err).resealEffect e f c)
  | checkExtent e a b d err => exact (s.findError_keeps err).directive ((s.findError_keeps err).checkEffect e a b d)
  | startPass d err => exact (s.findError_keeps err).directive ((s.findError_keeps err).startPassEffect d)
  | suspendWalk err => exact (s.findError_keeps err).directive (s.findError_keeps err).suspendEffect
  | resumeWalk err => exact (s.findError_keeps err).directive (s.findError_keeps err).resumeEffect
  | mendFrame e f t err => exact execMendFrame_keeps s e f t err
  | setAlert m => exact (Keeps.refl s).directive ((Keeps.refl s).setAlertEffect m)
  | moveLogTail i => exact (Keeps.refl s).directive ((Keeps.refl s).moveLogTailEffect i)
  | selectWindow w e => exact (Keeps.refl s).directive ((Keeps.refl s).selectWindowEffect w e)
  | flush err => exact (s.findError_keeps err).directive (s.findError_keeps err).flushEffect
  | unknownKind k => exact (Keeps.refl s).directive (Keeps.refl s).unknownEffect

/-! ### The clock and the update count, where the part moves or is set -/

/-- The part clock and the update count are as they were. -/
structure Timed (s t : State) : Prop where
  clock : t.rep.clock = s.rep.clock
  count : t.rep.updateCount = s.rep.updateCount

theorem Keeps.timed {s t : State} (h : Keeps s t) : Timed s t := ⟨h.clock, h.count⟩

theorem Timed.refl (s : State) : Timed s s := ⟨rfl, rfl⟩

theorem Timed.after {s t u : State} (h : Timed s t) (k : Keeps t u) : Timed s u :=
  ⟨k.clock.trans h.clock, k.count.trans h.count⟩

theorem Timed.done {s t : State} (h : Timed s t) : Leads t.done (Timed s) := .next (h.after (Keeps.refl t).syncStatusTimer)

theorem Timed.enterRunning {s t : State} (h : Timed s t) (c : Settings) (err : Option TableError) :
    Timed s (t.enterRunning c err) := by
  have hload : Timed s (t.loadHeader c) := ⟨h.clock, h.count⟩
  have hfound : Timed s ((t.loadHeader c).settleHead.findError err) := hload.after ((Keeps.refl _).settleHead.findError err)
  unfold State.enterRunning
  dsimp only
  split
  · exact hfound.after ((Keeps.refl _).releaseBlocks _)
  · exact hfound

theorem Timed.readEnded {s t : State} (h : Timed s t) (b : Fin 17) (e : MediaEnd) (err : Option TableError) :
    Timed s (t.readEnded b e err) := by
  unfold State.readEnded
  split
  · split
    · exact h.after ((Keeps.refl t).takeHeader _)
    · unfold State.takeBlock
      dsimp only
      split
      · unfold State.takeRecords
        split
        · exact h.after ((Keeps.refl t).loadFails _)
        · exact (h.after ((Keeps.refl t).loadMap _ _)).enterRunning _ _
      · exact h.after ((Keeps.refl t).setLoad _)
    · exact h
  · exact h.after ((Keeps.refl t).readFailed b)
  · exact h.after ((Keeps.refl t).readFailed b)

theorem Timed.blankEnded {s t : State} (h : Timed s t) (b : Fin 17) (e : MediaEnd) (err : Option TableError) :
    Timed s (t.blankEnded b e err) := by
  cases hgood : e.isGood with
  | false => exact h.after ((Keeps.refl t).blankEnded_of_bad b e err hgood)
  | true =>
    unfold State.blankEnded
    rw [hgood]
    split
    · rw [if_pos rfl]
      split
      · exact h.enterRunning _ _
      · exact h.after (((Keeps.refl t).setLoad _).queueBlank _)
    · exact h

theorem Timed.ownerEnded {s t : State} (h : Timed s t) (x : Slot) (o : Owner) (e : MediaEnd) (err : Option TableError) :
    Timed s (t.ownerEnded x o e err) := by
  cases o with
  | catalogueRead b =>
    show Timed s (if x.dead then t else t.readEnded b e err)
    split
    · exact h
    · exact h.readEnded b e err
  | blankWrite b =>
    show Timed s (if x.dead then t else t.blankEnded b e err)
    split
    · exact h
    · exact h.blankEnded b e err
  | _ => exact h.after ((Keeps.refl t).ownerEnded x _ e err (by simp) (by simp))

theorem Timed.injReturn {s t : State} (h : Timed s t) (tag : Fin 256) (test : Owner → Bool) (status : MediaStatus)
    (data : List Byte) (err : Option TableError) : Timed s (t.injReturn tag test status data err) := by
  unfold State.injReturn
  dsimp only
  split
  · exact h
  · split
    · exact (h.after ((Keeps.refl t).setSlot _ _)).ownerEnded _ _ _ _
    · exact h

theorem Timed.setupRead {s t : State} (h : Timed s t) (image : Option Setup) : Timed s (t.setupRead image) := by
  unfold State.setupRead
  split
  · exact ⟨h.clock, h.count⟩
  · exact ⟨h.clock, h.count⟩
  · exact h.after ((Keeps.refl t).eepromOver.enterFault _)
  · exact ⟨h.clock, h.count⟩

theorem Timed.changeSettings {s t : State} (h : Timed s t) (c : Settings) : Timed s (t.changeSettings c) := by
  constructor
  · simpa [State.changeSettings] using h.clock
  · simpa [State.changeSettings] using h.count

theorem Timed.directive {s : State} {i : Instr} {effect : Effect} (he : Timed s (effect s).1) :
    Leads (s.directive i effect) (Timed s) :=
  .ite (fun _ => (he.after ((Keeps.refl _).addResult _)).done) (.next (Timed.refl s))

theorem setPolicyEffect_timed (s : State) (p : Nat) : Timed s (setPolicyEffect p s).1 := by
  unfold setPolicyEffect
  split
  · exact Timed.refl s
  · split
    · exact Timed.refl s
    · exact (Timed.refl s).changeSettings _

theorem setWalkDepthEffect_timed (s : State) (d : Nat) : Timed s (setWalkDepthEffect d s).1 := by
  unfold setWalkDepthEffect
  split
  · exact Timed.refl s
  · exact (Timed.refl s).changeSettings _

theorem setPaceEffect_timed (s : State) (a b c d : Nat) : Timed s (setPaceEffect a b c d s).1 := by
  unfold setPaceEffect
  split
  · exact Timed.refl s
  · dsimp only
    have hset := (Timed.refl s).changeSettings
      { s.cfg with paceThreshold := clamp 0 240 a, paceDepth := clamp 1 16 b, repeatOn := c == 1,
                   restInterval := clamp 0 604800 d }
    split
    · exact hset
    · exact ⟨hset.clock, hset.count⟩

theorem setTimersEffect_timed (s : State) (a b : Nat) : Timed s (setTimersEffect a b s).1 :=
  (Timed.refl s).changeSettings _

theorem setAdmissionEffect_timed (s : State) (m : Nat) (r : List Nat) : Timed s (setAdmissionEffect m r s).1 := by
  unfold setAdmissionEffect
  dsimp only
  split
  · exact Timed.refl s
  · split
    · exact Timed.refl s
    · dsimp only
      split
      · exact (Timed.refl s).changeSettings _
      · exact Timed.refl s

/-- The settings a directive alone gives are as they were, and with them the clock and the count. -/
structure Steady (s t : State) : Prop extends Timed s t where
  chosen : t.cfg.chosen = s.cfg.chosen

theorem Keeps.steady {s t : State} (h : Keeps s t) : Steady s t := ⟨h.timed, h.chosen⟩

theorem Steady.after {s t u : State} (h : Steady s t) (k : Keeps t u) : Steady s u :=
  ⟨h.toTimed.after k, k.chosen.trans h.chosen⟩

theorem Steady.done {s t : State} (h : Steady s t) : Leads t.done (Steady s) := .next (h.after (Keeps.refl t).syncStatusTimer)

theorem State.resetFault_steady (s : State) : Steady s s.resetFault := by
  unfold State.resetFault
  dsimp only
  split <;> exact ⟨⟨rfl, rfl⟩, rfl⟩

theorem State.resetLink_steady (s : State) (bytes : Nat) : Steady s (s.resetLink bytes) := by
  by_cases hp : s.ldr.part = .fault
  · have hr : s.resetLink bytes = (s.sendMedia .linkReset).resetFault := if_pos hp
    rw [hr]
    obtain ⟨⟨hclock, hcount⟩, hchosen⟩ := (s.sendMedia .linkReset).resetFault_steady
    exact ⟨⟨hclock, hcount⟩, hchosen⟩
  · exact ((Keeps.refl s).resetLink bytes hp).steady

theorem execLinkReset_steady (n : Nat) (s : State) (err : Option TableError) : Leads (execLinkReset n s err) (Steady s) :=
  ((s.resetLink_steady n).after (State.findError_keeps _ err)).done

theorem execUpstreamLinkDown_steady (n : Nat) (s : State) (err : Option TableError) :
    Leads (execUpstreamLinkDown n s err) (Steady s) := by
  obtain ⟨⟨hclock, hcount⟩, hchosen⟩ := ({ s with up := { s.up with linkUp := false } } : State).resetLink_steady n
  have h : Steady s (({ s with up := { s.up with linkUp := false } } : State).resetLink n) := ⟨⟨hclock, hcount⟩, hchosen⟩
  exact (h.after (State.findError_keeps _ err)).done

theorem execEepromReadTimeout_steady (s : State) : Leads (execEepromReadTimeout s) (Steady s) := by
  refine .ite (fun _ => Steady.done ?_) (.next (Keeps.refl s).steady)
  unfold State.setupRead
  cases s.ldr.maint with
  | true => exact ⟨⟨rfl, rfl⟩, rfl⟩
  | false => exact ((Keeps.refl s).eepromOver.enterFault _).steady

theorem State.grant_chosen (s : State) (i : Fin 256) (r : InjRequest) :
    (s.grant i r).cfg.chosen = s.cfg.chosen ∧ (s.grant i r).rep.clock = s.rep.clock := by
  by_cases hr : r.owner = .status
  · unfold State.grant State.grantOwner
    rw [hr]
    exact ⟨rfl, rfl⟩
  · exact ⟨((Keeps.refl s).grant i r hr).chosen, ((Keeps.refl s).grant i r hr).clock⟩

theorem State.grantNext_chosen (s : State) :
    s.grantNext.cfg.chosen = s.cfg.chosen ∧ s.grantNext.rep.clock = s.rep.clock := by
  unfold State.grantNext
  split
  · exact s.grant_chosen _ _
  · exact ⟨rfl, rfl⟩

theorem execInjectionGrant_chosen (s : State) (err : Option TableError) :
    Leads (execInjectionGrant err s) fun t => t.cfg.chosen = s.cfg.chosen ∧ t.rep.clock = s.rep.clock := by
  obtain ⟨hchosen, hclock⟩ := (s.findError err).grantNext_chosen
  have hfound := s.findError_keeps err
  have hsync := (Keeps.refl (s.findError err).grantNext).syncStatusTimer
  exact .next ⟨hsync.chosen.trans (hchosen.trans hfound.chosen), hsync.clock.trans (hclock.trans hfound.clock)⟩

theorem execFreeze_steady (s : State) : Leads (execFreeze s) (Steady s) := by
  have he : Steady s (freezeEffect s).1 := ⟨⟨rfl, rfl⟩, rfl⟩
  exact .ite (fun _ => (he.after ((Keeps.refl _).addResult _)).done) (.next (Keeps.refl s).steady)

theorem execAckEvents_steady (m seen : Nat) (s : State) : Leads (execAckEvents m seen s) (Steady s) := by
  have he : Steady s (ackEventsEffect m seen s).1 := ⟨⟨rfl, rfl⟩, rfl⟩
  exact .ite (fun _ => (he.after ((Keeps.refl _).addResult _)).done) (.next (Keeps.refl s).steady)

theorem execSetClock_settings (n : Nat) (s : State) :
    Leads (execSetClock n s) fun t => t.cfg.chosen = s.cfg.chosen ∧ t.rep.updateCount = s.rep.updateCount := by
  refine .ite (fun _ => .next ?_) (.next ⟨rfl, rfl⟩)
  have h := ((Keeps.refl (setClockEffect n s).1).addResult (setClockEffect n s).2).syncStatusTimer
  exact ⟨h.chosen, h.count⟩

/-- R89, R166, R167, R185, R188: only the commands that may give settings give the part others. -/
theorem exec_chosen (c : Instr) (s : State) (h : givesSettings c = false) :
    Leads (exec c s) fun t => t.cfg.chosen = s.cfg.chosen := by
  cases c with
  | hardwareReset | eepromReadEnd | catalogueReadReturn | blankCatalogueWriteReturn | setPolicy | setWalkDepth | setPace
  | setTimers | setAdmission => cases h
  | eepromReadTimeout => exact (execEepromReadTimeout_steady s).mono fun _ k => k.chosen
  | linkReset n err => exact (execLinkReset_steady n s err).mono fun _ k => k.chosen
  | upstreamLinkDown n err => exact (execUpstreamLinkDown_steady n s err).mono fun _ k => k.chosen
  | injectionGrant err => exact (execInjectionGrant_chosen s err).mono fun _ k => k.1
  | partClockTick => exact .next rfl
  | setClock n => exact (execSetClock_settings n s).mono fun _ k => k.1
  | ackEvents m n => exact (execAckEvents_steady m n s).mono fun _ k => k.chosen
  | freeze => exact (execFreeze_steady s).mono fun _ k => k.chosen
  | _ => exact (exec_keeps _ s rfl rfl).mono fun _ k => k.chosen

/-- Every command but HARDWARE_RESET, the grant, SET_CLOCK and the tick leaves the clock and the count. -/
theorem exec_timed (c : Instr) (s : State) (hr : isReset c = false) (hg : ∀ e, c ≠ .injectionGrant e)
    (hc : movesClock c = false) : Leads (exec c s) (Timed s) := by
  cases c with
  | hardwareReset => cases hr
  | setClock | partClockTick => cases hc
  | injectionGrant e => exact absurd rfl (hg e)
  | eepromReadEnd image => exact .ite (fun _ => ((Timed.refl s).setupRead _).done) (.next (Timed.refl s))
  | eepromReadTimeout => exact (execEepromReadTimeout_steady s).mono fun _ k => k.toTimed
  | linkReset n err => exact (execLinkReset_steady n s err).mono fun _ k => k.toTimed
  | upstreamLinkDown n err => exact (execUpstreamLinkDown_steady n s err).mono fun _ k => k.toTimed
  | catalogueReadReturn tag status data err => exact ((s.findError_keeps err).timed.injReturn tag _ status data err).done
  | blankCatalogueWriteReturn tag status err => exact ((s.findError_keeps err).timed.injReturn tag _ status [] err).done
  | setPolicy p => exact Timed.directive (setPolicyEffect_timed s p)
  | setWalkDepth d => exact Timed.directive (setWalkDepthEffect_timed s d)
  | setPace a b c d => exact Timed.directive (setPaceEffect_timed s a b c d)
  | setTimers a b => exact Timed.directive (setTimersEffect_timed s a b)
  | setAdmission m r => exact Timed.directive (setAdmissionEffect_timed s m r)
  | ackEvents m n => exact (execAckEvents_steady m n s).mono fun _ k => k.toTimed
  | freeze => exact (execFreeze_steady s).mono fun _ k => k.toTimed
  | _ => exact (exec_keeps _ s rfl rfl).mono fun _ k => k.timed

theorem exec_clock (c : Instr) (s : State) (h : movesClock c = false) : Leads (exec c s) fun t => t.rep.clock = s.rep.clock := by
  cases c with
  | hardwareReset => cases h
  | injectionGrant err => exact (execInjectionGrant_chosen s err).mono fun _ k => k.2
  | _ => exact (exec_timed _ s rfl (by simp) h).mono fun _ k => k.clock

theorem exec_updateCount (c : Instr) (s : State) (hr : isReset c = false) (hg : ∀ e, c ≠ .injectionGrant e) :
    Leads (exec c s) fun t => t.rep.updateCount = s.rep.updateCount := by
  cases c with
  | hardwareReset => cases hr
  | partClockTick => exact .next rfl
  | setClock n => exact (execSetClock_settings n s).mono fun _ k => k.2
  | _ => exact (exec_timed _ s hr hg rfl).mono fun _ k => k.count

/-! ### Freeze, the maintenance mark, the flags, the limits -/

/-- What carries over in every command but HARDWARE_RESET, FREEZE and ACK_EVENTS. -/
theorem exec_holds (c : Instr) (s : State) (hc : clearsFlags c = false) (hf : c ≠ .freeze) : Leads (exec c s) (Holds s) := by
  cases c with
  | hardwareReset | ackEvents => cases hc
  | freeze => exact absurd rfl hf
  | eepromReadEnd image => exact .ite (fun _ => ((Holds.refl s).setupRead _).done) (.next (Holds.refl s))
  | eepromReadTimeout => exact .ite (fun _ => ((Holds.refl s).setupRead _).done) (.next (Holds.refl s))
  | linkReset n err => exact (((Holds.refl s).resetLink n).after (State.findError_keeps _ err)).done
  | upstreamLinkDown n err =>
    have h : Holds s { s with up := { s.up with linkUp := false } } := (Holds.refl s).lit rfl rfl rfl rfl rfl
    exact ((h.resetLink n).after (State.findError_keeps _ err)).done
  | catalogueReadReturn tag status data err =>
    exact ((s.findError_keeps err).toLives.injReturn tag _ status data err).toHolds.done
  | blankCatalogueWriteReturn tag status err =>
    exact ((s.findError_keeps err).toLives.injReturn tag _ status [] err).toHolds.done
  | injectionGrant err => exact (s.findError_keeps err).toLives.grantNext.toHolds.done
  | partClockTick => exact .next ((Keeps.refl s).tickTimers.toHolds.lit rfl rfl rfl rfl rfl)
  | setPolicy p => exact (Lives.directive ((Lives.refl s).setPolicyEffect p)).mono fun _ k => k.toHolds
  | setWalkDepth d => exact (Lives.directive ((Lives.refl s).setWalkDepthEffect d)).mono fun _ k => k.toHolds
  | setPace a b c d => exact (Lives.directive ((Lives.refl s).setPaceEffect a b c d)).mono fun _ k => k.toHolds
  | setTimers a b => exact (Lives.directive ((Lives.refl s).setTimersEffect a b)).mono fun _ k => k.toHolds
  | setAdmission m r => exact (Lives.directive ((Lives.refl s).setAdmissionEffect m r)).mono fun _ k => k.toHolds
  | setClock n => exact (Lives.directive ((Lives.refl s).setClockEffect n)).mono fun _ k => k.toHolds
  | _ => exact (exec_keeps _ s rfl rfl).mono fun _ k => k.toHolds

/-- What every command but HARDWARE_RESET keeps, FREEZE and ACK_EVENTS too. -/
structure Stays (s t : State) : Prop where
  pending : t.pending = s.pending
  freeze : s.dir.freeze = true → t.dir.freeze = true
  maint : t.ldr.maint = s.ldr.maint
  queue : s.mend.fits → t.mend.fits
  images : s.rep.fits → t.rep.fits

theorem Holds.stays {s t : State} (h : Holds s t) : Stays s t :=
  ⟨h.pending, fun hf => h.freeze.trans hf, h.maint, h.queue, h.images⟩

theorem Stays.after {s t u : State} (h : Stays s t) (k : Keeps t u) : Stays s u where
  pending := k.pending.trans h.pending
  freeze := fun hf => k.freeze.trans (h.freeze hf)
  maint := k.maint.trans h.maint
  queue := fun hq => k.queue (h.queue hq)
  images := fun hi => k.images (h.images hi)

theorem Stays.directive {s : State} {i : Instr} {effect : Effect} (he : Stays s (effect s).1) :
    Leads (s.directive i effect) (Stays s) :=
  .ite (fun _ => .next ((he.after ((Keeps.refl _).addResult _)).after (Keeps.refl _).syncStatusTimer))
    (.next (Holds.refl s).stays)

theorem exec_stays (c : Instr) (s : State) (h : isReset c = false) : Leads (exec c s) (Stays s) := by
  cases c with
  | hardwareReset => cases h
  | freeze => exact Stays.directive (effect := freezeEffect) ⟨rfl, fun _ => rfl, rfl, id, id⟩
  | ackEvents m n => exact Stays.directive (effect := ackEventsEffect m n) ⟨rfl, id, rfl, id, id⟩
  | _ => exact (exec_holds _ s rfl (by simp)).mono fun _ k => k.stays

/-- FREEZE sets its own flag alone: no event flag falls. -/
theorem exec_flags (c : Instr) (s : State) (h : clearsFlags c = false) :
    Leads (exec c s) fun t => ∀ f : EventFlag, (s.flag f).isSet = true → (t.flag f).isSet = true := by
  cases c with
  | hardwareReset | ackEvents => cases h
  | freeze =>
    refine .ite (fun _ => .next ?_) (.next fun _ hf => hf)
    intro f
    exact ((Keeps.refl (freezeEffect s).1).addResult .done).syncStatusTimer.flags f.idx
  | _ => exact (exec_holds _ s rfl (by simp)).mono fun _ k f => k.flags f.idx

/-! ### The statements -/

theorem step_of_pending {s : State} {c : Instr} {cs : List Instr} (h : s.pending = c :: cs) :
    step s = exec c (s.withPending cs) := by
  unfold step
  rw [h]

theorem Steps.leads {s t : State} {c : Instr} (h : Steps s c t) {P : State → State → Prop}
    (hp : ∀ cs, Leads (exec c (s.withPending cs)) (P (s.withPending cs))) : ∃ cs, P (s.withPending cs) t := by
  obtain ⟨⟨cs, hcs⟩, hstep⟩ := h
  rw [step_of_pending hcs] at hstep
  exact ⟨cs, (hp cs).of_next hstep⟩

/-- A step is the execution of some command with the rest of the queue, or idles. -/
theorem step_cases {s t : State} (h : step s = .next t) : t = s ∨ ∃ c cs, exec c (s.withPending cs) = .next t := by
  unfold step at h
  split at h
  case h_1 => exact .inl (Host.Outcome.next.inj h).symm
  case h_2 c cs _ => exact .inr ⟨c, cs, h⟩

/-- Settles O1: it is the step's own definition on a queue that is not empty. -/
theorem stepRunsCommand : Obligations.StepRunsCommand := by
  unfold Obligations.StepRunsCommand
  intro s c cs h
  exact step_of_pending h

/-- Settles O2: HARDWARE_RESET by its own state, every other command by `exec_stays`. -/
theorem everyCommandAnswers : Obligations.EveryCommandAnswers := by
  unfold Obligations.EveryCommandAnswers
  intro c s
  cases hr : isReset c with
  | false => exact (exec_stays c s hr).mono fun _ k => k.pending
  | true =>
    cases c with
    | hardwareReset maint => exact ⟨_, rfl, rfl⟩
    | _ => cases hr

/-- Settles O3. -/
theorem freezeAndFlagsKept : Obligations.FreezeAndFlagsKept := by
  unfold Obligations.FreezeAndFlagsKept
  intro s t c h
  constructor
  · intro hr
    obtain ⟨_, k⟩ := h.leads fun _ => exec_stays c _ hr
    exact ⟨k.freeze, k.maint⟩
  · intro hc
    obtain ⟨_, k⟩ := h.leads (P := fun u v => ∀ f : EventFlag, (u.flag f).isSet = true → (v.flag f).isSet = true)
      fun _ => exec_flags c _ hc
    exact k

theorem State.limits_iff (s : State) : s.limits ↔ s.mend.fits ∧ s.rep.fits := by
  unfold State.limits MendEngine.fits Report.fits
  exact and_assoc.symm

theorem exec_limits {c : Instr} {s t : State} (h : exec c s = .next t) (hs : s.limits) : t.limits := by
  rw [State.limits_iff] at hs ⊢
  cases hr : isReset c with
  | false => exact ⟨((exec_stays c s hr).of_next h).queue hs.1, ((exec_stays c s hr).of_next h).images hs.2⟩
  | true =>
    cases c with
    | hardwareReset maint =>
      cases h
      exact ⟨⟨Nat.zero_le _, List.nodup_nil⟩, Nat.zero_le _⟩
    | _ => cases hr

/-- Settles O4. -/
theorem tableLimitsKept : Obligations.TableLimitsKept := by
  unfold Obligations.TableLimitsKept
  intro s t hs hstep
  obtain rfl | ⟨c, cs, hexec⟩ := step_cases hstep
  · exact hs
  · exact exec_limits hexec hs

/-- Settles O11. -/
theorem settingsAndClockKept : Obligations.SettingsAndClockKept := by
  unfold Obligations.SettingsAndClockKept
  intro s t c h
  refine ⟨fun hg => ?settings, fun hm => ?clock, fun hr hg => ?count⟩
  case settings =>
    obtain ⟨_, k⟩ := h.leads (P := fun u v => v.cfg.chosen = u.cfg.chosen) fun _ => exec_chosen c _ hg
    rw [Chosen.mk.injEq] at k
    obtain ⟨hpolicy, hdepth, hthreshold, hpace, hrepeat, hrest, htimeout, hidle, hadmission⟩ := k
    exact ⟨hadmission, hpolicy, hdepth, hthreshold, hpace, hrepeat, hrest, htimeout, hidle⟩
  case clock =>
    obtain ⟨_, k⟩ := h.leads (P := fun u v => v.rep.clock = u.rep.clock) fun _ => exec_clock c _ hm
    exact k
  case count =>
    obtain ⟨_, k⟩ := h.leads (P := fun u v => v.rep.updateCount = u.rep.updateCount) fun _ => exec_updateCount c _ hr hg
    exact k

end Sys2Proof.Machine

/-!
PROOFS. The state after reset meets each invariant that every step keeps.
-/

namespace Sys2Proof.Machine

@[simp] theorem State.reset_slot (i : Fin 256) : State.reset.slot i = Slot.freeSlot := by simp [State.slot, State.reset]

@[simp] theorem State.reset_accum (p : Fin 32) : State.reset.accum p = none := by simp [State.accum, State.reset]

@[simp] theorem State.reset_line (l : Fin 64) : State.reset.line l = Line.blank := by
  simp [State.line, State.reset, Store.reset]

/-- No slot of the part after reset passes a test that a FREE slot fails. -/
theorem State.reset_countSlots {p : Slot → Bool} (hp : p Slot.freeSlot = false) : State.reset.countSlots p = 0 := by
  rw [State.countSlots, List.countP_eq_zero]
  intro x hx
  obtain ⟨i, hi, rfl⟩ := Vector.mem_iff_getElem.mp (Vector.mem_toList_iff.mp hx)
  have hfree : State.reset.slots[i] = Slot.freeSlot := State.reset_slot ⟨i, hi⟩
  simp [hfree, hp]

theorem State.reset_slotsHold : State.reset.slotsHold := by
  refine ⟨?_, ?_, by rintro h ⟨⟩⟩
  · rw [State.reset_countSlots rfl]
    decide
  · rw [State.reset_countSlots rfl]
    decide

theorem State.reset_walksHold : State.reset.walksHold :=
  ⟨fun _ => rfl, rfl, by rintro w ⟨⟩, by rintro w ⟨⟩, by decide, by decide⟩

theorem State.reset_logHolds : State.reset.logHolds :=
  ⟨by decide, by decide, by decide, ⟨by decide, by decide⟩, by rintro x ⟨⟩, by rintro x ⟨⟩,
    by rintro ⟨⟩, trivial, trivial⟩

/-- Settles O10. -/
theorem invariantsAtReset : Obligations.InvariantsAtReset := by
  unfold Obligations.InvariantsAtReset
  refine ⟨⟨Nat.zero_le _, List.nodup_nil, Nat.zero_le _⟩, ⟨.nil, by rintro r ⟨⟩⟩, State.reset_slotsHold,
    State.reset_walksHold, ?lines, ⟨?positions, ?keys⟩, State.reset_logHolds, by rintro ⟨⟩⟩
  case lines =>
    intro k l hk
    simp [Line.blank] at hk
  case positions =>
    intro p a ha
    simp at ha
  case keys =>
    intro p q a ha
    simp at ha

end Sys2Proof.Machine

/-!
PROOFS. The walk engine's limits are not kept from every state that meets them: they do not say that a part in RUNNING has no
load under way.
-/

namespace Sys2Proof.Machine

/-- A CHECK walk of extent 0 in a run state, which waits in the line queue. -/
def loadedWalk (run : RunState) : Walk := { Walk.create .check none 0 0 0 .full with run := run, stage := .waitQueue }

/-- The engine with a walk SAVING, one incoming and one saved: the most that R109 and R110 allow. -/
def loadedEngine : WalkEngine where
  cur := some (loadedWalk .saving)
  incoming := some (loadedWalk .running)
  saved := [loadedWalk .suspended]
  restTimer := none
  passDue := false

/-- A part in RUNNING with its walk engine full, in which the header write of a blank catalogue is still under way and returns.
No run of the part reaches it, but the walk engine is within its limits. -/
def loadingWhileRunning : State :=
  { State.reset with
    pending := [.blankCatalogueWriteReturn 0 .good none]
    mediaUp := true
    slots := State.reset.slots.set 0 { Slot.freeSlot with life := .outstanding, kind := .injected (.blankWrite 0) }
    walk := loadedEngine
    ldr := { Loader.reset with part := .running, load := .blank 0 0 } }

theorem loadingWhileRunning_walksHold : loadingWhileRunning.walksHold := by
  refine ⟨fun hpart => absurd rfl hpart, rfl, ?incoming, ?saved, by decide, by decide⟩
  case incoming =>
    rintro w ⟨⟩
    rfl
  case saved =>
    intro w hw
    exact .inr (congrArg Walk.run (List.mem_singleton.mp hw))

/-- R188's entry to RUNNING takes up the saved walk in place of the one that is SAVING; the incoming walk stays. -/
theorem step_loadingWhileRunning :
    ∃ t, step loadingWhileRunning = .next t ∧ t.walk.incoming.isSome = true ∧ t.walk.isSaving = false :=
  ⟨_, rfl, rfl, rfl⟩

/-- Refutes O7: the return of the blank catalogue's header write enters RUNNING again, and the walk that follows takes the
place of the one that is SAVING. -/
theorem not_walksKept : ¬ Obligations.WalksKept := by
  unfold Obligations.WalksKept
  intro h
  obtain ⟨t, hstep, hincoming, hsaving⟩ := step_loadingWhileRunning
  obtain ⟨_, hboth, _⟩ := h _ t loadingWhileRunning_walksHold hstep
  rw [hincoming, hsaving] at hboth
  cases hboth

end Sys2Proof.Machine

/-!
PROOFS. Two relations between a state and a later one. `Rest` is what nearly every operation does with the claimed-range
index, the part state, the digest lines, the accumulator pool and the finding log: the first two stay, and the invariants of the
others are carried over. `Calm` is `Rest` where the in-flight table changes only by held returns that leave, and the head request
stays. Here they are taken through the shared writes of the state.
-/

namespace Sys2Proof.Machine

/-! ### The relations -/

/-- What the invariant of the finding log speaks of in the report writer and the settings. -/
structure LogView where
  head : Nat
  writtenHead : Nat
  tail : Nat
  image : Option (List Finding)
  completed : List (Nat × List Finding)
  shot : Option LogShot
  headerHead : Nat
  headerTail : Nat

/-- The finding log's part of the state. -/
abbrev logView (r : Report) (c : Settings) : LogView :=
  ⟨r.head, r.writtenHead, r.tail, r.image, r.completed, r.logShot, c.headerHead, c.headerTail⟩

theorem State.logHolds_congr {s t : State} (hv : logView t.rep t.cfg = logView s.rep s.cfg) (hp : t.ldr.part = s.ldr.part)
    (hl : t.ldr.load = s.ldr.load) (h : s.logHolds) : t.logHolds := by
  simp only [logView, LogView.mk.injEq] at hv
  obtain ⟨hhead, hwritten, htail, himage, hcompleted, hshot, hch, hct⟩ := hv
  unfold State.logHolds Settings.logFits Report.tailAhead at *
  rw [hhead, hwritten, htail, himage, hcompleted, hshot, hch, hct, hp, hl]
  exact h

/-- What nearly every operation leaves as it was, or carries over. -/
structure Rest (s t : State) : Prop where
  index : t.map.index = s.map.index
  part : t.ldr.part = s.ldr.part
  load : t.ldr.load = s.ldr.load
  lines : s.linesApart → t.linesApart
  pool : s.poolApart → t.poolApart
  logs : s.logHolds → t.logHolds

theorem Rest.refl (s : State) : Rest s s := ⟨rfl, rfl, rfl, id, id, id⟩

theorem Rest.trans {s t u : State} (h : Rest s t) (k : Rest t u) : Rest s u where
  index := k.index.trans h.index
  part := k.part.trans h.part
  load := k.load.trans h.load
  lines := fun x => k.lines (h.lines x)
  pool := fun x => k.pool (h.pool x)
  logs := fun x => k.logs (h.logs x)

/-- A slot keeps its life state and kind, or a return it held has left. -/
def SlotCalm (x y : Slot) : Prop := (y.life = x.life ∧ y.kind = x.kind) ∨ (x.life = .held ∧ y.life = .free)

theorem SlotCalm.refl (x : Slot) : SlotCalm x x := .inl ⟨rfl, rfl⟩

theorem SlotCalm.trans {x y z : Slot} (h : SlotCalm x y) (k : SlotCalm y z) : SlotCalm x z := by
  obtain ⟨hl, hk⟩ | ⟨hheld, hfree⟩ := h
  · obtain ⟨hl', hk'⟩ | ⟨hheld', hfree'⟩ := k
    · exact .inl ⟨hl'.trans hl, hk'.trans hk⟩
    · exact .inr ⟨hl ▸ hheld', hfree'⟩
  · obtain ⟨hl', _⟩ | ⟨hheld', _⟩ := k
    · exact .inr ⟨hheld, hl'.trans hfree⟩
    · exact absurd (hheld'.symm.trans hfree) (by decide)

/-- With it, the in-flight table changes only by held returns that leave, and the head request stays. -/
structure Calm (s t : State) : Prop extends Rest s t where
  slots : ∀ i, SlotCalm (s.slot i) (t.slot i)
  head : t.up.head = s.up.head

theorem Calm.refl (s : State) : Calm s s := ⟨Rest.refl s, fun _ => SlotCalm.refl _, rfl⟩

theorem Calm.trans {s t u : State} (h : Calm s t) (k : Calm t u) : Calm s u :=
  ⟨h.toRest.trans k.toRest, fun i => (h.slots i).trans (k.slots i), k.head.trans h.head⟩

theorem Rest.after {s t u : State} (h : Rest s t) (k : Calm t u) : Rest s u := h.trans k.toRest

/-- A record update of `t` that touches nothing `Rest` speaks of. -/
theorem Rest.lit {s t : State} {pending ports up mediaUp slots arb cfg map pool store walk mend dir rep ldr} (h : Rest s t)
    (hi : map.index = t.map.index) (hl : store.lines = t.store.lines) (hp : pool = t.pool)
    (hv : logView rep cfg = logView t.rep t.cfg) (hpart : ldr.part = t.ldr.part) (hload : ldr.load = t.ldr.load) :
    Rest s ⟨pending, ports, up, mediaUp, slots, arb, cfg, map, pool, store, walk, mend, dir, rep, ldr⟩ where
  index := hi.trans h.index
  part := hpart.trans h.part
  load := hload.trans h.load
  lines := fun x => by
    have hx := h.lines x
    unfold State.linesApart State.line at *
    simp only [hl]
    exact hx
  pool := fun x => by
    have hx := h.pool x
    unfold State.poolApart State.accum at *
    simp only [hp]
    exact hx
  logs := fun x => State.logHolds_congr hv hpart hload (h.logs x)

/-- A record update of `t` that touches nothing `Calm` speaks of. -/
theorem Calm.lit {s t : State} {pending ports up mediaUp slots arb cfg map pool store walk mend dir rep ldr} (h : Calm s t)
    (hi : map.index = t.map.index) (hl : store.lines = t.store.lines) (hp : pool = t.pool)
    (hv : logView rep cfg = logView t.rep t.cfg) (hpart : ldr.part = t.ldr.part) (hload : ldr.load = t.ldr.load)
    (hs : slots = t.slots) (hh : up.head = t.up.head) :
    Calm s ⟨pending, ports, up, mediaUp, slots, arb, cfg, map, pool, store, walk, mend, dir, rep, ldr⟩ where
  toRest := h.toRest.lit hi hl hp hv hpart hload
  slots := fun i => by
    subst hs
    exact h.slots i
  head := hh.trans h.head

/-- Goes through a loop that each turn keeps. -/
theorem Calm.forEach {α : Type} {s : State} (f : α → State → State) (hf : ∀ x u, Calm s u → Calm s (f x u)) :
    ∀ (xs : List α) {t : State}, Calm s t → Calm s (forEach xs f t)
  | [], _, h => h
  | x :: xs, _, h => Calm.forEach f hf xs (hf x _ h)

theorem Rest.forEach {α : Type} {s : State} (f : α → State → State) (hf : ∀ x u, Rest s u → Rest s (f x u)) :
    ∀ (xs : List α) {t : State}, Rest s t → Rest s (forEach xs f t)
  | [], _, h => h
  | x :: xs, _, h => Rest.forEach f hf xs (hf x _ h)

/-! ### Slots -/

theorem Rest.setSlot {s τ : State} (h : Rest s τ) (i : Fin 256) (x : Slot) : Rest s (τ.setSlot i x) :=
  h.lit rfl rfl rfl rfl rfl rfl

theorem Rest.mapSlots {s τ : State} (h : Rest s τ) (f : Slot → Slot) : Rest s (τ.mapSlots f) := h.lit rfl rfl rfl rfl rfl rfl

/-- A slot written with its life state and kind as they were, or a held return that leaves. -/
theorem Calm.setSlot {s τ : State} (h : Calm s τ) (i : Fin 256) (x : Slot) (hx : SlotCalm (τ.slot i) x) :
    Calm s (τ.setSlot i x) := by
  refine h.trans ⟨(Rest.refl τ).setSlot i x, fun j => ?_, rfl⟩
  rw [State.slot_setSlot]
  split
  · rename_i hj
    exact hj ▸ hx
  · exact SlotCalm.refl _

theorem Calm.mapSlots {s τ : State} (h : Calm s τ) (f : Slot → Slot) (hf : ∀ x, SlotCalm x (f x)) :
    Calm s (τ.mapSlots f) :=
  h.trans ⟨(Rest.refl τ).mapSlots f, fun j => by rw [State.slot_mapSlots]; exact hf _, rfl⟩

/-! ### Lines -/

/-- A line written that holds no other block than before. -/
theorem Calm.setLine {s τ : State} (h : Calm s τ) (l : Fin 64) (x : Line)
    (hx : x.state ≠ .invalid → (τ.line l).state ≠ .invalid ∧ x.tag = (τ.line l).tag) : Calm s (τ.setLine l x) := by
  refine h.trans ⟨{ Rest.refl τ with lines := ?_, logs := State.logHolds_congr rfl rfl rfl }, fun j => SlotCalm.refl _, rfl⟩
  have tagged : ∀ k, ((τ.setLine l x).line k).state ≠ .invalid →
      (τ.line k).state ≠ .invalid ∧ ((τ.setLine l x).line k).tag = (τ.line k).tag := by
    intro k
    rw [State.line_setLine]
    split
    · rename_i hk
      subst hk
      exact hx
    · exact fun hk => ⟨hk, rfl⟩
  intro ha j k hj hk heq
  obtain ⟨hj', htj⟩ := tagged j hj
  obtain ⟨hk', htk⟩ := tagged k hk
  exact ha j k hj' hk' (htj.symm.trans (heq.trans htk))

theorem State.findLine_none {s : State} {tag : Nat} (h : s.findLine tag = none) (l : Fin 64)
    (hl : (s.line l).state ≠ .invalid) : (s.line l).tag ≠ tag := by
  intro htag
  have hall := List.find?_eq_none.mp h l (List.mem_finRange l)
  simp [htag, hl] at hall

/-- A line written to hold a block that no line held. -/
theorem Calm.setLine_taken {s τ : State} (h : Calm s τ) (l : Fin 64) (x : Line) (hx : τ.findLine x.tag = none) :
    Calm s (τ.setLine l x) := by
  refine h.trans ⟨{ Rest.refl τ with lines := ?_, logs := State.logHolds_congr rfl rfl rfl }, fun j => SlotCalm.refl _, rfl⟩
  intro ha j k hj hk heq
  rw [State.line_setLine] at hj hk heq
  rw [State.line_setLine (j := k)] at heq
  split at hj <;> rename_i hjl <;> split at hk <;> rename_i hkl
  · exact hjl.trans hkl.symm
  · rw [if_pos hjl, if_neg hkl] at heq
    exact absurd heq.symm (State.findLine_none hx k hk)
  · rw [if_neg hjl, if_pos hkl] at heq
    exact absurd heq (State.findLine_none hx j hj)
  · rw [if_neg hjl, if_neg hkl] at heq
    exact ha j k hj hk heq

/-! ### The pool -/

/-- Another pool, each accumulator of which stands where one of its mode and key stood. -/
theorem Calm.withPool {s τ : State} (h : Calm s τ) (v : Vector (Option Accum) 32)
    (hv : ∀ (p : Fin 32), ∀ a ∈ v[p], ∃ b ∈ τ.accum p, a.mode = b.mode ∧ a.key = b.key) : Calm s { τ with pool := v } := by
  refine h.trans ⟨{ Rest.refl τ with pool := ?_, logs := State.logHolds_congr rfl rfl rfl }, fun j => SlotCalm.refl _, rfl⟩
  rintro ⟨hpos, huniq⟩
  constructor
  · intro p a ha
    obtain ⟨b, hb, hmode, _⟩ := hv p a ha
    rw [hmode]
    exact hpos p b hb
  · intro p q a ha b hb hmode hkey
    obtain ⟨a', ha', hma, hka⟩ := hv p a ha
    obtain ⟨b', hb', hmb, hkb⟩ := hv q b hb
    exact huniq p q a' ha' b' hb' (hma.symm.trans (hmode.trans hmb)) (hka.symm.trans (hkey.trans hkb))

theorem Calm.setAccum_none {s τ : State} (h : Calm s τ) (p : Fin 32) : Calm s (τ.setAccum p none) := by
  refine h.withPool (τ.setAccum p none).pool fun q a ha => ?_
  have hq := State.accum_setAccum τ p q none
  split at hq
  · exact nomatch hq.symm.trans ha
  · exact ⟨a, hq.symm.trans ha, rfl, rfl⟩

theorem Calm.setAccum_some {s τ : State} (h : Calm s τ) {p : Fin 32} {b : Accum} (hb : τ.accum p = some b) (x : Accum)
    (hm : x.mode = b.mode) (hk : x.key = b.key) : Calm s (τ.setAccum p (some x)) := by
  refine h.withPool (τ.setAccum p (some x)).pool fun q a ha => ?_
  have hq := State.accum_setAccum τ p q (some x)
  split at hq
  · rename_i hqp
    cases hq.symm.trans ha
    exact ⟨b, hqp ▸ hb, hm, hk⟩
  · exact ⟨a, hq.symm.trans ha, rfl, rfl⟩

/-- An accumulator opened where it belongs, of a frame copy that had none in its mode. -/
theorem Calm.openAccum {s τ : State} (h : Calm s τ) (p : Fin 32) (mode : AccumMode) (k : FrameKey) (line : Option (Fin 64))
    (hpos : (mode = .scrub ↔ p = scrubPos) ∧ (mode = .mend ↔ p = mendPos))
    (hnew : τ.poolApart → ∀ q, q ≠ p → ∀ a ∈ τ.accum q, a.mode = mode → a.key ≠ k) :
    Calm s (τ.openAccum p mode k line) := by
  refine h.trans ⟨{ Rest.refl τ with pool := ?_, logs := State.logHolds_congr rfl rfl rfl }, fun j => SlotCalm.refl _, rfl⟩
  unfold State.openAccum
  have hread := State.accum_setAccum τ p
  rintro ⟨hposs, huniq⟩
  have hnew := hnew ⟨hposs, huniq⟩
  constructor
  · intro q a ha
    rw [hread] at ha
    split at ha
    · rename_i hq
      cases ha
      exact hq ▸ hpos
    · exact hposs q a ha
  · intro q r a ha b hb hmode hkey
    rw [hread] at ha hb
    split at ha <;> rename_i hq <;> split at hb <;> rename_i hr
    · exact hq.trans hr.symm
    · cases ha
      exact absurd hkey.symm (hnew r hr b hb hmode.symm)
    · cases hb
      exact absurd hkey (hnew q hq a ha hmode)
    · exact huniq q r a ha b hb hmode hkey

theorem Calm.mapPool {s τ : State} (h : Calm s τ) (f : Accum → Accum) (hf : ∀ a, (f a).mode = a.mode ∧ (f a).key = a.key) :
    Calm s { τ with pool := vmap (fun o => o.map f) τ.pool } := by
  refine h.withPool _ fun p a ha => ?_
  rw [Fin.getElem_fin, getElem_vmap] at ha
  obtain ⟨b, hb, rfl⟩ := Option.mem_map.mp ha
  exact ⟨b, hb, hf b⟩

/-! ### The finding log -/

theorem mod_of_next_mod {h : Nat} (hn : (h + 1) % 4096 % 128 = 0) : h % 128 = 127 := by omega

theorem mod_of_next {h : Nat} (hn : (h + 1) % 4096 % 128 ≠ 0) : (h + 1) % 4096 % 128 = h % 128 + 1 := by omega

/-- A finding placed in a log that is not full, in RUNNING (R178, R179): its images stay as long as the head says. -/
theorem State.logHolds_place {s : State} (f : Finding) (hrun : s.running = true) (hfull : s.rep.full = false)
    (h : s.logHolds) : ({ s with rep := s.rep.place f } : State).logHolds := by
  obtain ⟨hhead, hwritten, htail, hcfg, hcompleted, himage, hheld, hshot, hload⟩ := h
  have hlen : (s.rep.image.getD []).length = s.rep.head % 128 := by
    cases hi : s.rep.image with
    | some x => exact himage x hi
    | none =>
      simp only [Report.full, hi, Option.isNone_none, Bool.true_and, Bool.or_eq_false_iff] at hfull
      obtain hzero | hahead := hheld (of_decide_eq_true hrun) hi
      · exact hzero.symm
      · rw [hahead] at hfull
        exact absurd hfull.2 (by decide)
  have hnext : (s.rep.head + 1) % 4096 < 4096 := Nat.mod_lt _ (by decide)
  unfold Report.place
  dsimp only
  split
  · rename_i hend
    refine ⟨hnext, hwritten, htail, hcfg, ?_, ?_, fun _ => nofun, hshot, hload⟩
    · intro x hx
      obtain hx | hx := List.mem_append.mp hx
      · exact hcompleted x hx
      · cases List.mem_singleton.mp hx
        have hfull' := mod_of_next_mod hend
        refine ⟨?_, ?_⟩
        · show s.rep.head / 128 < 32
          omega
        · rw [List.length_append, hlen, hfull']
          rfl
    · rintro x ⟨⟩
      exact hend.symm
  · rename_i hend
    refine ⟨hnext, hwritten, htail, hcfg, hcompleted, ?_, fun _ => nofun, hshot, hload⟩
    rintro x ⟨⟩
    rw [List.length_append, hlen, List.length_singleton]
    exact (mod_of_next hend).symm

/-- Another report writer and settings of which the log's invariant is carried over. -/
theorem Calm.withLog {s τ : State} (h : Calm s τ) (r : Report) (c : Settings)
    (hl : τ.logHolds → ({ τ with rep := r, cfg := c } : State).logHolds) : Calm s { τ with rep := r, cfg := c } :=
  h.trans ⟨{ Rest.refl τ with logs := hl }, fun _ => SlotCalm.refl _, rfl⟩

end Sys2Proof.Machine

/-!
PROOFS. `Calm` through the shared operations and the digest store (Machine/Ops.lean, Flags.lean, Store.lean).
-/

namespace Sys2Proof.Machine

theorem Calm.setExtent {s τ : State} (h : Calm s τ) (e : Fin 1024) (x : Extent) : Calm s (τ.setExtent e x) := by
  unfold State.setExtent
  repeat'
    first
    | with_reducible assumption
    | fail_if_no_progress with_reducible refine Calm.lit ?_ rfl rfl rfl rfl rfl rfl rfl rfl

theorem Calm.setCat {s τ : State} (h : Calm s τ) (b : Fin 17) (x : CatBlock) : Calm s (τ.setCat b x) := by
  unfold State.setCat
  repeat'
    first
    | with_reducible assumption
    | fail_if_no_progress with_reducible refine Calm.lit ?_ rfl rfl rfl rfl rfl rfl rfl rfl

theorem Calm.sendUp {s τ : State} (h : Calm s τ) (r : UpReturn) : Calm s (τ.sendUp r) := by
  unfold State.sendUp
  repeat'
    first
    | with_reducible assumption
    | fail_if_no_progress with_reducible refine Calm.lit ?_ rfl rfl rfl rfl rfl rfl rfl rfl

theorem Calm.sendMedia {s τ : State} (h : Calm s τ) (m : MediaSend) : Calm s (τ.sendMedia m) := by
  unfold State.sendMedia
  repeat'
    first
    | with_reducible assumption
    | fail_if_no_progress with_reducible refine Calm.lit ?_ rfl rfl rfl rfl rfl rfl rfl rfl

theorem Calm.enqueue {s τ : State} (h : Calm s τ) (r : InjRequest) : Calm s (τ.enqueue r) := by
  unfold State.enqueue
  repeat'
    first
    | with_reducible assumption
    | fail_if_no_progress with_reducible refine Calm.lit ?_ rfl rfl rfl rfl rfl rfl rfl rfl

theorem Calm.withdraw {s τ : State} (h : Calm s τ) (p : Owner → Bool) : Calm s (τ.withdraw p) := by
  unfold State.withdraw
  repeat'
    first
    | with_reducible assumption
    | fail_if_no_progress with_reducible refine Calm.lit ?_ rfl rfl rfl rfl rfl rfl rfl rfl

theorem Calm.killOutstanding {s τ : State} (h : Calm s τ) (p : Owner → Bool) : Calm s (τ.killOutstanding p) := by
  refine h.mapSlots _ fun x => ?_
  split
  · split
    · exact .inl ⟨rfl, rfl⟩
    · exact SlotCalm.refl x
  · exact SlotCalm.refl x

theorem Calm.pin {s τ : State} (h : Calm s τ) (l : Fin 64) : Calm s (τ.pin l) := by
  unfold State.pin
  dsimp only
  repeat'
    first
    | with_reducible assumption | with_reducible apply Calm.setLine | exact (fun hx => ⟨hx, rfl⟩)
    | exact (fun hx => absurd rfl hx)
    | fail_if_no_progress with_reducible refine Calm.lit ?_ rfl rfl rfl rfl rfl rfl rfl rfl

theorem Calm.unpin {s τ : State} (h : Calm s τ) (l : Fin 64) : Calm s (τ.unpin l) := by
  unfold State.unpin
  repeat'
    first
    | with_reducible assumption | with_reducible apply Calm.setLine | exact (fun hx => ⟨hx, rfl⟩)

theorem Calm.unpin? {s τ : State} (h : Calm s τ) (o : Option (Fin 64)) : Calm s (τ.unpin? o) := by
  unfold State.unpin?
  repeat'
    first
    | with_reducible assumption | with_reducible apply Calm.unpin
    | fail_if_no_progress with_reducible refine Calm.lit ?_ rfl rfl rfl rfl rfl rfl rfl rfl | split

theorem Calm.queueCat {s τ : State} (h : Calm s τ) (b : Fin 17) : Calm s (τ.queueCat b) := by
  unfold State.queueCat
  repeat'
    first
    | with_reducible assumption | with_reducible apply Calm.enqueue
    | fail_if_no_progress with_reducible refine Calm.lit ?_ rfl rfl rfl rfl rfl rfl rfl rfl | split

theorem Calm.markCat {s τ : State} (h : Calm s τ) (b : Fin 17) : Calm s (τ.markCat b) := by
  unfold State.markCat
  repeat'
    first
    | with_reducible assumption | with_reducible apply Calm.queueCat | with_reducible apply Calm.setCat
    | fail_if_no_progress with_reducible refine Calm.lit ?_ rfl rfl rfl rfl rfl rfl rfl rfl | split

theorem Calm.markHeader {s τ : State} (h : Calm s τ) : Calm s (τ.markHeader) := by
  unfold State.markHeader
  repeat'
    first
    | with_reducible assumption | with_reducible apply Calm.markCat

theorem Calm.changeExtent {s τ : State} (h : Calm s τ) (e : Fin 1024) (x : Extent) : Calm s (τ.changeExtent e x) := by
  unfold State.changeExtent
  repeat'
    first
    | with_reducible assumption | with_reducible apply Calm.markCat | with_reducible apply Calm.setExtent

theorem Calm.pumpStatus {s τ : State} (h : Calm s τ) : Calm s (τ.pumpStatus) := by
  unfold State.pumpStatus
  repeat'
    first
    | with_reducible assumption | with_reducible apply Calm.enqueue
    | fail_if_no_progress with_reducible refine Calm.lit ?_ rfl rfl rfl rfl rfl rfl rfl rfl | split

theorem Calm.statusDue {s τ : State} (h : Calm s τ) : Calm s (τ.statusDue) := by
  unfold State.statusDue
  repeat'
    first
    | with_reducible assumption | with_reducible apply Calm.pumpStatus
    | fail_if_no_progress with_reducible refine Calm.lit ?_ rfl rfl rfl rfl rfl rfl rfl rfl

theorem Calm.raise {s τ : State} (h : Calm s τ) (f : EventFlag) : Calm s (τ.raise f) := by
  refine Calm.statusDue ?_
  exact h.lit rfl rfl rfl rfl rfl rfl rfl rfl

theorem Calm.pumpLog {s τ : State} (h : Calm s τ) : Calm s (τ.pumpLog) := by
  unfold State.pumpLog
  repeat'
    first
    | with_reducible assumption | with_reducible apply Calm.enqueue
    | fail_if_no_progress with_reducible refine Calm.lit ?_ rfl rfl rfl rfl rfl rfl rfl rfl | split

theorem Calm.placeFinding {s τ : State} (h : Calm s τ) (f : Finding) (hrun : τ.running = true) (hfull : τ.rep.full = false) :
    Calm s (τ.placeFinding f) := by
  refine ((Calm.raise ?_ .finding).pumpLog)
  exact h.withLog (τ.rep.place f) τ.cfg (State.logHolds_place f hrun hfull)

theorem Calm.handFinding {s τ : State} (h : Calm s τ) (f : Finding) : Calm s (τ.handFinding f) := by
  unfold State.handFinding
  split
  case isTrue hrun =>
    split
    case isTrue =>
      refine Calm.raise ?_ .logFull
      exact h.lit rfl rfl rfl rfl rfl rfl rfl rfl
    case isFalse hfull => exact h.placeFinding f hrun (by simpa using hfull)
  case isFalse => exact h

theorem Calm.log {s τ : State} (h : Calm s τ) (kind : FindingKind) (extent frame copy : Option Nat) (d1 d2 d3 : Nat) :
    Calm s (τ.log kind extent frame copy d1 d2 d3) := by
  unfold State.log
  repeat'
    first
    | with_reducible assumption | with_reducible apply Calm.handFinding

theorem Calm.logCopy {s τ : State} (h : Calm s τ) (kind : FindingKind) (k : FrameKey) (d1 d2 d3 : Nat) :
    Calm s (τ.logCopy kind k d1 d2 d3) := by
  unfold State.logCopy
  repeat'
    first
    | with_reducible assumption | with_reducible apply Calm.log

theorem Calm.resumeLog {s τ : State} (h : Calm s τ) : Calm s τ.resumeLog := by
  unfold State.resumeLog
  split
  case isTrue hif =>
    simp only [Bool.and_eq_true, Bool.not_eq_true'] at hif
    obtain ⟨⟨hrun, _⟩, hfull⟩ := hif
    exact (h.placeFinding _ hrun hfull).lit rfl rfl rfl rfl rfl rfl rfl rfl
  case isFalse => exact h

/-- What the log records in the header image are its own head and tail. -/
theorem Calm.recordLog {s τ : State} (h : Calm s τ) : Calm s τ.recordLog := by
  refine Calm.markHeader (h.withLog τ.rep _ ?_)
  rintro ⟨hhead, hwritten, htail, _, hrest⟩
  exact ⟨hhead, hwritten, htail, ⟨hwritten, htail⟩, hrest⟩

theorem Calm.syncStatusTimer {s τ : State} (h : Calm s τ) : Calm s (τ.syncStatusTimer) := by
  unfold State.syncStatusTimer
  repeat'
    first
    | with_reducible assumption
    | fail_if_no_progress with_reducible refine Calm.lit ?_ rfl rfl rfl rfl rfl rfl rfl rfl | split

/-- A line that is not INVALID becomes DIRTY. -/
theorem Calm.becomeDirty {s τ : State} (h : Calm s τ) (l : Fin 64) (hl : (τ.line l).state ≠ .invalid) :
    Calm s (τ.becomeDirty l) :=
  (h.setLine l { τ.line l with state := .dirty, dirtyTimer := some (Timer.start Config.dirtyMs) } fun _ => ⟨hl, rfl⟩).lit
    rfl rfl rfl rfl rfl rfl rfl rfl

theorem Calm.leaveDirty {s τ : State} (h : Calm s τ) (l : Fin 64) : Calm s (τ.leaveDirty l) := by
  unfold State.leaveDirty
  repeat'
    first
    | with_reducible assumption
    | fail_if_no_progress with_reducible refine Calm.lit ?_ rfl rfl rfl rfl rfl rfl rfl rfl

theorem Calm.dirtyLine {s τ : State} (h : Calm s τ) (l : Fin 64) : Calm s (τ.dirtyLine l) := by
  unfold State.dirtyLine
  split
  case h_1 hstate => exact h.becomeDirty l (by simp [hstate])
  case h_2 hstate => exact h.setLine l _ fun _ => ⟨by simp [hstate], rfl⟩
  case h_3 => exact h

theorem Calm.invalidate {s τ : State} (h : Calm s τ) (l : Fin 64) : Calm s (τ.invalidate l) := by
  unfold State.invalidate
  dsimp only
  repeat'
    first
    | with_reducible assumption | with_reducible apply Calm.leaveDirty | with_reducible apply Calm.setLine
    | exact (fun hx => ⟨hx, rfl⟩) | exact (fun hx => absurd rfl hx)
    | fail_if_no_progress with_reducible refine Calm.lit ?_ rfl rfl rfl rfl rfl rfl rfl rfl

theorem Calm.queueWriteback {s τ : State} (h : Calm s τ) (l : Fin 64) : Calm s (τ.queueWriteback l) := by
  unfold State.queueWriteback
  repeat'
    first
    | with_reducible assumption | with_reducible apply Calm.enqueue
    | fail_if_no_progress with_reducible refine Calm.lit ?_ rfl rfl rfl rfl rfl rfl rfl rfl | split

theorem Calm.queueEviction {s τ : State} (h : Calm s τ) (but : Option (Fin 64)) : Calm s (τ.queueEviction but) := by
  unfold State.queueEviction
  dsimp only
  repeat'
    first
    | with_reducible assumption | with_reducible apply Calm.queueWriteback | with_reducible apply Calm.setLine
    | exact (fun hx => ⟨hx, rfl⟩) | exact (fun hx => absurd rfl hx)
    | fail_if_no_progress with_reducible refine Calm.lit ?_ rfl rfl rfl rfl rfl rfl rfl rfl | split

theorem Calm.takeForFill {s τ : State} (h : Calm s τ) (l : Fin 64) (tag : Nat) (e : Fin 1024) (hnew : τ.findLine tag = none) :
    Calm s (τ.takeForFill l tag e) :=
  ((h.setLine_taken l { Line.blank with tag := tag, extent := e, state := .filling } hnew).leaveDirty l).pin l |>.enqueue _

theorem Calm.takeFresh {s τ : State} (h : Calm s τ) (l : Fin 64) (tag : Nat) (e : Fin 1024) (hnew : τ.findLine tag = none) :
    Calm s (τ.takeFresh l tag e) :=
  Calm.pin (h.setLine_taken l _ hnew) l

theorem Calm.takeLine {s τ : State} (h : Calm s τ) (l : Fin 64) (tag : Nat) (e : Fin 1024) (fresh : Bool)
    (hnew : τ.findLine tag = none) : Calm s (τ.takeLine l tag e fresh) := by
  unfold State.takeLine
  split
  · exact h.takeFresh l tag e hnew
  · exact h.takeForFill l tag e hnew

theorem Calm.requestLine {s τ : State} (h : Calm s τ) (user : LineUser) (tag : Nat) (e : Fin 1024) (fresh : Bool) :
    Calm s (τ.requestLine user tag e fresh).1 := by
  unfold State.requestLine
  split
  case h_1 l _ => exact h.pin l
  case h_2 hnew =>
    split
    case h_1 l _ _ => exact h.takeLine l tag e fresh hnew
    case h_2 =>
      refine Calm.queueEviction ?_ none
      exact h.lit rfl rfl rfl rfl rfl rfl rfl rfl

theorem Calm.requestLineNow {s τ : State} (h : Calm s τ) (tag : Nat) (e : Fin 1024) :
    Calm s (τ.requestLineNow tag e).1 := by
  unfold State.requestLineNow
  split
  case h_1 l _ => exact h.pin l
  case h_2 hnew =>
    split
    case h_1 l _ => exact h.takeForFill l tag e hnew
    case h_2 => exact h.queueEviction none

theorem Calm.dropRequests {s τ : State} (h : Calm s τ) (user : LineUser) : Calm s (τ.dropRequests user) := by
  unfold State.dropRequests
  dsimp only
  repeat'
    first
    | with_reducible assumption
    | fail_if_no_progress with_reducible refine Calm.lit ?_ rfl rfl rfl rfl rfl rfl rfl rfl

theorem Calm.logChange {s τ : State} (h : Calm s τ) (e : Fin 1024) (frame : Nat) (ch : Change) (ans : Answer) :
    Calm s (τ.logChange e frame ch ans) := by
  unfold State.logChange
  repeat'
    first
    | with_reducible assumption | with_reducible apply Calm.logCopy
    | fail_if_no_progress with_reducible refine Calm.lit ?_ rfl rfl rfl rfl rfl rfl rfl rfl | split

theorem Calm.applyCore {s τ : State} (h : Calm s τ) (l : Fin 64) (frame : Nat) (ch : Change) :
    Calm s (τ.applyCore l frame ch).1 := by
  unfold State.applyCore
  dsimp only
  split
  · exact h
  · split
    · exact h
    · refine Calm.logChange ?_ _ _ _ _
      split
      · refine Calm.lit ?_ rfl rfl rfl rfl rfl rfl rfl rfl
        split
        · exact h
        · refine Calm.dirtyLine (h.setLine l _ ?_) l
          exact fun hx => ⟨hx, rfl⟩
      · split
        · exact h
        · refine Calm.dirtyLine (h.setLine l _ ?_) l
          exact fun hx => ⟨hx, rfl⟩

end Sys2Proof.Machine

/-!
PROOFS. `Calm` through the accumulator pool, the batch and the flush, and the changes of the digest store (Machine/Pool.lean,
Batch.lean, Changes.lean).
-/

namespace Sys2Proof.Machine

theorem Calm.unpinSlot {s τ : State} (h : Calm s τ) (i : Fin 256) : Calm s (τ.unpinSlot i) :=
  Calm.forEach _ (fun l _ hu => hu.unpin l) _ h

/-- A held return leaves its slot. -/
theorem Calm.endSlot {s τ : State} (h : Calm s τ) (i : Fin 256) (status : UpStatus) (data : List Byte)
    (hheld : (τ.slot i).life = .held) : Calm s (τ.endSlot i status data) := by
  refine Calm.setSlot ((h.sendUp _).unpinSlot i) i _ (.inr ⟨?_, rfl⟩)
  rw [State.slot_congr (State.unpinSlot_slots _ i), State.slot_congr (State.sendUp_slots τ _)]
  exact hheld

theorem Calm.tryRelease {s τ : State} (h : Calm s τ) (i : Fin 256) : Calm s (τ.tryRelease i) := by
  unfold State.tryRelease
  dsimp only
  split
  case isTrue hheld => exact h.endSlot i _ _ hheld.1
  case isFalse => exact h

theorem Calm.giveOutcome {s τ : State} (h : Calm s τ) (o : SlotOutcome) (i : Fin 256) : Calm s (τ.giveOutcome o i) := by
  unfold State.giveOutcome
  repeat'
    first
    | with_reducible assumption | with_reducible apply Calm.tryRelease | with_reducible apply Calm.setSlot
    | exact (.inl ⟨rfl, rfl⟩)

theorem Calm.endAccum {s τ : State} (h : Calm s τ) (p : Fin 32) (o : SlotOutcome) : Calm s (τ.endAccum p o) := by
  unfold State.endAccum
  repeat'
    first
    | with_reducible assumption | with_reducible apply Calm.mapSlots | exact (fun _ => .inl ⟨rfl, rfl⟩)
    | with_reducible apply Calm.giveOutcome | with_reducible apply Calm.unpin?
    | with_reducible apply Calm.setAccum_none | with_reducible apply Calm.setAccum_some | exact rfl
    | (intro _ _ _; try dsimp only) | with_reducible apply Calm.forEach
    | fail_if_no_progress with_reducible refine Calm.lit ?_ rfl rfl rfl rfl rfl rfl rfl rfl | split


/-- Every line written with its state and tag as they were. -/
theorem Calm.mapLines {s τ : State} (h : Calm s τ) (f : Line → Line) (hf : ∀ x, (f x).state = x.state ∧ (f x).tag = x.tag) :
    Calm s { τ with store := { τ.store with lines := vmap f τ.store.lines } } := by
  refine h.trans ⟨{ Rest.refl τ with lines := ?_, logs := State.logHolds_congr rfl rfl rfl }, fun j => SlotCalm.refl _, rfl⟩
  unfold State.linesApart
  intro ha j k
  simp only [State.line, Fin.getElem_fin, getElem_vmap, (hf _).1, (hf _).2]
  exact ha j k

theorem Calm.dropWaiting {s τ : State} (h : Calm s τ) (who : Submitter) : Calm s (τ.dropWaiting who) :=
  h.mapLines _ fun _ => ⟨rfl, rfl⟩

theorem Calm.abandon {s τ : State} (h : Calm s τ) (p : Fin 32) : Calm s (τ.abandon p) := by
  unfold State.abandon
  repeat'
    first
    | with_reducible assumption | with_reducible apply Calm.dropWaiting | with_reducible apply Calm.endAccum
    | with_reducible apply Calm.mapSlots | exact (fun _ => .inl ⟨rfl, rfl⟩)
    | fail_if_no_progress with_reducible refine Calm.lit ?_ rfl rfl rfl rfl rfl rfl rfl rfl | split

theorem Calm.abandonAll {s τ : State} (h : Calm s τ) (test : Accum → Bool) : Calm s (τ.abandonAll test) := by
  unfold State.abandonAll
  repeat'
    first
    | with_reducible assumption | with_reducible apply Calm.abandon | (intro _ _ _; try dsimp only)
    | with_reducible apply Calm.forEach
    | fail_if_no_progress with_reducible refine Calm.lit ?_ rfl rfl rfl rfl rfl rfl rfl rfl | split

theorem Calm.addContribution {s τ : State} (h : Calm s τ) (i : Fin 256) (c : Contribution) :
    Calm s (τ.addContribution i c) := by
  unfold State.addContribution
  repeat'
    first
    | with_reducible assumption | with_reducible apply Calm.setSlot | exact (.inl ⟨rfl, rfl⟩)

theorem Calm.joinSeal {s τ : State} (h : Calm s τ) (p : Fin 32) (i : Fin 256) (t : Touched) (data : List Byte) :
    Calm s (τ.joinSeal p i t data) := by
  unfold State.joinSeal
  dsimp only
  repeat'
    first
    | with_reducible assumption | with_reducible apply Calm.addContribution | with_reducible apply Calm.abandon
    | with_reducible apply Calm.setAccum_none | with_reducible apply Calm.setAccum_some | exact rfl
    | fail_if_no_progress with_reducible refine Calm.lit ?_ rfl rfl rfl rfl rfl rfl rfl rfl | split

theorem Calm.joinRead {s τ : State} (h : Calm s τ) (p : Fin 32) (i : Fin 256) (t : Touched) :
    Calm s (τ.joinRead p i t) := by
  unfold State.joinRead
  dsimp only
  repeat'
    first
    | with_reducible assumption | with_reducible apply Calm.addContribution | with_reducible apply Calm.abandon
    | with_reducible apply Calm.setAccum_none | with_reducible apply Calm.setAccum_some | exact rfl
    | with_reducible apply Calm.setSlot | exact (.inl ⟨rfl, rfl⟩)
    | fail_if_no_progress with_reducible refine Calm.lit ?_ rfl rfl rfl rfl rfl rfl rfl rfl | split

theorem Calm.commit {s τ : State} (h : Calm s τ) (p : Fin 32) (a b : Nat) : Calm s (τ.commit p a b) := by
  unfold State.commit
  repeat'
    first
    | with_reducible assumption | with_reducible apply Calm.setAccum_none | with_reducible apply Calm.setAccum_some
    | exact rfl | fail_if_no_progress with_reducible refine Calm.lit ?_ rfl rfl rfl rfl rfl rfl rfl rfl | split

theorem Calm.failContribution {s τ : State} (h : Calm s τ) (c : Contribution) : Calm s (τ.failContribution c) := by
  unfold State.failContribution
  repeat'
    first
    | with_reducible assumption | with_reducible apply Calm.abandon | with_reducible apply Calm.logCopy
    | fail_if_no_progress with_reducible refine Calm.lit ?_ rfl rfl rfl rfl rfl rfl rfl rfl | split

theorem Calm.setBatch {s τ : State} (h : Calm s τ) (b : Option Batch) : Calm s (τ.setBatch b) := by
  unfold State.setBatch
  repeat'
    first
    | with_reducible assumption
    | fail_if_no_progress with_reducible refine Calm.lit ?_ rfl rfl rfl rfl rfl rfl rfl rfl

theorem Calm.handBatch {s τ : State} (h : Calm s τ) (b : Batch) : Calm s (τ.handBatch b) := by
  unfold State.handBatch
  repeat'
    first
    | with_reducible assumption | with_reducible apply Calm.statusDue
    | fail_if_no_progress with_reducible refine Calm.lit ?_ rfl rfl rfl rfl rfl rfl rfl rfl

theorem Calm.tryEndBatch {s τ : State} (h : Calm s τ) : Calm s (τ.tryEndBatch) := by
  unfold State.tryEndBatch
  repeat'
    first
    | with_reducible assumption | with_reducible apply Calm.handBatch | with_reducible apply Calm.setBatch
    | fail_if_no_progress with_reducible refine Calm.lit ?_ rfl rfl rfl rfl rfl rfl rfl rfl | split

theorem Calm.addResult {s τ : State} (h : Calm s τ) (r : Result) : Calm s (τ.addResult r) := by
  unfold State.addResult
  repeat'
    first
    | with_reducible assumption | with_reducible apply Calm.tryEndBatch | with_reducible apply Calm.setBatch
    | fail_if_no_progress with_reducible refine Calm.lit ?_ rfl rfl rfl rfl rfl rfl rfl rfl | split

theorem Calm.settleBatch {s τ : State} (h : Calm s τ) : Calm s (τ.settleBatch) := by
  unfold State.settleBatch
  repeat'
    first
    | with_reducible assumption | with_reducible apply Calm.setBatch | with_reducible apply Calm.endSlot
    | fail_if_no_progress with_reducible refine Calm.lit ?_ rfl rfl rfl rfl rfl rfl rfl rfl | split

theorem Calm.reportBatch {s τ : State} (h : Calm s τ) : Calm s (τ.reportBatch) := by
  unfold State.reportBatch
  repeat'
    first
    | with_reducible assumption | with_reducible apply Calm.settleBatch | with_reducible apply Calm.setBatch
    | fail_if_no_progress with_reducible refine Calm.lit ?_ rfl rfl rfl rfl rfl rfl rfl rfl | split

theorem Calm.loseBatchSlot {s τ : State} (h : Calm s τ) (i : Fin 256) : Calm s (τ.loseBatchSlot i) := by
  unfold State.loseBatchSlot
  repeat'
    first
    | with_reducible assumption | with_reducible apply Calm.settleBatch | with_reducible apply Calm.setBatch
    | fail_if_no_progress with_reducible refine Calm.lit ?_ rfl rfl rfl rfl rfl rfl rfl rfl | split

theorem Calm.answerFrame {s τ : State} (h : Calm s τ) (r : Result) : Calm s (τ.answerFrame r) := by
  unfold State.answerFrame
  repeat'
    first
    | with_reducible assumption | with_reducible apply Calm.addResult | with_reducible apply Calm.unpin?
    | fail_if_no_progress with_reducible refine Calm.lit ?_ rfl rfl rfl rfl rfl rfl rfl rfl | split

theorem Calm.tryEndFlush {s τ : State} (h : Calm s τ) : Calm s (τ.tryEndFlush) := by
  unfold State.tryEndFlush
  repeat'
    first
    | with_reducible assumption | with_reducible apply Calm.log | with_reducible apply Calm.raise
    | fail_if_no_progress with_reducible refine Calm.lit ?_ rfl rfl rfl rfl rfl rfl rfl rfl | split

theorem Calm.flushLine {s τ : State} (h : Calm s τ) (l : Fin 64) (good : Bool) : Calm s (τ.flushLine l good) := by
  unfold State.flushLine
  dsimp only
  repeat'
    first
    | with_reducible assumption | with_reducible apply Calm.tryEndFlush
    | fail_if_no_progress with_reducible refine Calm.lit ?_ rfl rfl rfl rfl rfl rfl rfl rfl | split

theorem Calm.flushBlock {s τ : State} (h : Calm s τ) (b : Fin 17) (good : Bool) : Calm s (τ.flushBlock b good) := by
  unfold State.flushBlock
  dsimp only
  repeat'
    first
    | with_reducible assumption | with_reducible apply Calm.tryEndFlush
    | fail_if_no_progress with_reducible refine Calm.lit ?_ rfl rfl rfl rfl rfl rfl rfl rfl | split

theorem Calm.flushCutLine {s τ : State} (h : Calm s τ) (l : Fin 64) : Calm s (τ.flushCutLine l) := by
  unfold State.flushCutLine
  dsimp only
  repeat'
    first
    | with_reducible assumption
    | fail_if_no_progress with_reducible refine Calm.lit ?_ rfl rfl rfl rfl rfl rfl rfl rfl

theorem Calm.flushCutBlock {s τ : State} (h : Calm s τ) (b : Fin 17) : Calm s (τ.flushCutBlock b) := by
  unfold State.flushCutBlock
  dsimp only
  repeat'
    first
    | with_reducible assumption
    | fail_if_no_progress with_reducible refine Calm.lit ?_ rfl rfl rfl rfl rfl rfl rfl rfl

theorem Calm.flushDrop {s τ : State} (h : Calm s τ) (l : Fin 64) : Calm s (τ.flushDrop l) := by
  unfold State.flushDrop
  dsimp only
  repeat'
    first
    | with_reducible assumption | with_reducible apply Calm.tryEndFlush
    | fail_if_no_progress with_reducible refine Calm.lit ?_ rfl rfl rfl rfl rfl rfl rfl rfl | split


theorem Calm.mendWanted {s τ : State} (h : Calm s τ) (k : FrameKey) : Calm s (τ.mendWanted k) := by
  unfold State.mendWanted
  split
  · exact h.lit rfl rfl rfl rfl rfl rfl rfl rfl
  · exact h

theorem Calm.mendUnwanted {s τ : State} (h : Calm s τ) (k : FrameKey) : Calm s (τ.mendUnwanted k) :=
  h.lit rfl rfl rfl rfl rfl rfl rfl rfl

theorem Calm.reportCopy {s τ : State} (h : Calm s τ) (k : FrameKey) (before after : Entry) :
    Calm s (τ.reportCopy k before after) := by
  unfold State.reportCopy
  repeat'
    first
    | with_reducible assumption | with_reducible apply Calm.mendUnwanted | with_reducible apply Calm.mendWanted
    | fail_if_no_progress with_reducible refine Calm.lit ?_ rfl rfl rfl rfl rfl rfl rfl rfl | split

theorem Calm.reportEntry {s τ : State} (h : Calm s τ) (e : Fin 1024) (frame : Nat) (before after : Entry) :
    Calm s (τ.reportEntry e frame before after) := by
  unfold State.reportEntry
  repeat'
    first
    | with_reducible assumption | with_reducible apply Calm.reportCopy

theorem Calm.addWaiting {s τ : State} (h : Calm s τ) (l : Fin 64) (w : Waiting) : Calm s (τ.addWaiting l w) := by
  unfold State.addWaiting
  repeat'
    first
    | with_reducible assumption | with_reducible apply Calm.setLine | exact (fun hx => ⟨hx, rfl⟩)

theorem Calm.setMend {s τ : State} (h : Calm s τ) (m : Option Mend) : Calm s (τ.setMend m) := by
  unfold State.setMend
  repeat'
    first
    | with_reducible assumption
    | fail_if_no_progress with_reducible refine Calm.lit ?_ rfl rfl rfl rfl rfl rfl rfl rfl

theorem Calm.finishMend {s τ : State} (h : Calm s τ) (m : Mend) (c : MendClose) : Calm s (τ.finishMend m c) := by
  unfold State.finishMend
  dsimp only
  repeat'
    first
    | with_reducible assumption | with_reducible apply Calm.logCopy | with_reducible apply Calm.raise
    | with_reducible apply Calm.unpin?
    | fail_if_no_progress with_reducible refine Calm.lit ?_ rfl rfl rfl rfl rfl rfl rfl rfl | split

theorem Calm.applyClosing {s τ : State} (h : Calm s τ) (l : Fin 64) (m : Mend) (reason : Nat) (ch : Change) :
    Calm s (τ.applyClosing l m reason ch) := by
  unfold State.applyClosing
  dsimp only
  repeat'
    first
    | with_reducible assumption | with_reducible apply Calm.finishMend | with_reducible apply Calm.setMend
    | with_reducible apply Calm.reportEntry | with_reducible apply Calm.applyCore
    | fail_if_no_progress with_reducible refine Calm.lit ?_ rfl rfl rfl rfl rfl rfl rfl rfl | split

theorem Calm.submitClosing {s τ : State} (h : Calm s τ) (m : Mend) (reason : Nat) (target : CopyState) :
    Calm s (τ.submitClosing m reason target) := by
  unfold State.submitClosing
  dsimp only
  repeat'
    first
    | with_reducible assumption | with_reducible apply Calm.applyClosing | with_reducible apply Calm.finishMend
    | with_reducible apply Calm.setMend | with_reducible apply Calm.addWaiting
    | fail_if_no_progress with_reducible refine Calm.lit ?_ rfl rfl rfl rfl rfl rfl rfl rfl | split

theorem Calm.stopMendWork {s τ : State} (h : Calm s τ) : Calm s (τ.stopMendWork) := by
  unfold State.stopMendWork
  repeat'
    first
    | with_reducible assumption | with_reducible apply Calm.dropWaiting | with_reducible apply Calm.abandon
    | with_reducible apply Calm.killOutstanding | with_reducible apply Calm.withdraw

theorem Calm.endMend {s τ : State} (h : Calm s τ) (m : Mend) : Calm s (τ.endMend m) := by
  unfold State.endMend
  dsimp only
  repeat'
    first
    | with_reducible assumption | with_reducible apply Calm.stopMendWork | with_reducible apply Calm.submitClosing
    | with_reducible apply Calm.finishMend | with_reducible apply Calm.setMend
    | with_reducible apply Calm.dropRequests
    | fail_if_no_progress with_reducible refine Calm.lit ?_ rfl rfl rfl rfl rfl rfl rfl rfl | split

theorem Calm.reportMend {s τ : State} (h : Calm s τ) (e : Fin 1024) (frame : Nat) (who : Submitter) (after : Entry) :
    Calm s (τ.reportMend e frame who after) := by
  unfold State.reportMend
  repeat'
    first
    | with_reducible assumption | with_reducible apply Calm.endMend
    | fail_if_no_progress with_reducible refine Calm.lit ?_ rfl rfl rfl rfl rfl rfl rfl rfl | split

theorem Calm.applyNow {s τ : State} (h : Calm s τ) (l : Fin 64) (frame : Nat) (who : Submitter) (ch : Change) :
    Calm s (τ.applyNow l frame who ch).1 := by
  unfold State.applyNow
  dsimp only
  repeat'
    first
    | with_reducible assumption | with_reducible apply Calm.reportMend | with_reducible apply Calm.reportEntry
    | with_reducible apply Calm.applyCore
    | fail_if_no_progress with_reducible refine Calm.lit ?_ rfl rfl rfl rfl rfl rfl rfl rfl | split

theorem Calm.submit {s τ : State} (h : Calm s τ) (e : Fin 1024) (frame : Nat) (who : Submitter) (ch : Change) :
    Calm s (τ.submit e frame who ch).1 := by
  unfold State.submit
  dsimp only
  repeat'
    first
    | with_reducible assumption | with_reducible apply Calm.applyNow | with_reducible apply Calm.addWaiting
    | fail_if_no_progress with_reducible refine Calm.lit ?_ rfl rfl rfl rfl rfl rfl rfl rfl | split

theorem Calm.tell {s τ : State} (h : Calm s τ) (e : Fin 1024) (frame : Nat) (ch : Change) :
    Calm s (τ.tell e frame ch) := by
  unfold State.tell
  repeat'
    first
    | with_reducible assumption | with_reducible apply Calm.submit

theorem Calm.foundMending {s τ : State} (h : Calm s τ) (k : FrameKey) : Calm s (τ.foundMending k) := by
  unfold State.foundMending
  dsimp only
  repeat'
    first
    | with_reducible assumption | with_reducible apply Calm.tell
    | fail_if_no_progress with_reducible refine Calm.lit ?_ rfl rfl rfl rfl rfl rfl rfl rfl | split

theorem Calm.logVerdict {s τ : State} (h : Calm s τ) (k : FrameKey) (a b : Nat) (ans : Answer) :
    Calm s (τ.logVerdict k a b ans) := by
  unfold State.logVerdict
  dsimp only
  repeat'
    first
    | with_reducible assumption | with_reducible apply Calm.logCopy
    | fail_if_no_progress with_reducible refine Calm.lit ?_ rfl rfl rfl rfl rfl rfl rfl rfl | split

theorem Calm.finishCheck {s τ : State} (h : Calm s τ) (p : Fin 32) (ans : Answer) : Calm s (τ.finishCheck p ans) := by
  unfold State.finishCheck
  dsimp only
  repeat'
    first
    | with_reducible assumption | with_reducible apply Calm.logVerdict | with_reducible apply Calm.endAccum
    | fail_if_no_progress with_reducible refine Calm.lit ?_ rfl rfl rfl rfl rfl rfl rfl rfl | split

theorem Calm.hold {s τ : State} (h : Calm s τ) (p : Fin 32) (i : Fin 256) : Calm s (τ.hold p i) := by
  unfold State.hold
  repeat'
    first
    | with_reducible assumption | with_reducible apply Calm.setAccum_none | with_reducible apply Calm.setAccum_some
    | exact rfl | with_reducible apply Calm.setSlot | exact (.inl ⟨rfl, rfl⟩)
    | fail_if_no_progress with_reducible refine Calm.lit ?_ rfl rfl rfl rfl rfl rfl rfl rfl | split

theorem Calm.await {s τ : State} (h : Calm s τ) (p : Fin 32) : Calm s (τ.await p) := by
  unfold State.await
  repeat'
    first
    | with_reducible assumption | with_reducible apply Calm.setAccum_none | with_reducible apply Calm.setAccum_some
    | exact rfl | fail_if_no_progress with_reducible refine Calm.lit ?_ rfl rfl rfl rfl rfl rfl rfl rfl | split

theorem Calm.completeTraffic {s τ : State} (h : Calm s τ) (p : Fin 32) (i : Fin 256) :
    Calm s (τ.completeTraffic p i) := by
  unfold State.completeTraffic
  dsimp only
  repeat'
    first
    | with_reducible assumption | with_reducible apply Calm.await | with_reducible apply Calm.hold
    | with_reducible apply Calm.finishCheck | with_reducible apply Calm.tell | with_reducible apply Calm.submit
    | with_reducible apply Calm.endAccum
    | fail_if_no_progress with_reducible refine Calm.lit ?_ rfl rfl rfl rfl rfl rfl rfl rfl | split

theorem Calm.commitTraffic {s τ : State} (h : Calm s τ) (i : Fin 256) (data : Option (List Byte)) (c : Contribution) :
    Calm s (τ.commitTraffic i data c) := by
  unfold State.commitTraffic
  dsimp only
  repeat'
    first
    | with_reducible assumption | with_reducible apply Calm.completeTraffic | with_reducible apply Calm.commit
    | with_reducible apply Calm.setSlot | exact (.inl ⟨rfl, rfl⟩)
    | fail_if_no_progress with_reducible refine Calm.lit ?_ rfl rfl rfl rfl rfl rfl rfl rfl | split

theorem Calm.commitAll {s τ : State} (h : Calm s τ) (i : Fin 256) (data : Option (List Byte)) :
    Calm s (τ.commitAll i data) := by
  unfold State.commitAll
  repeat'
    first
    | with_reducible assumption | with_reducible apply Calm.commitTraffic | (intro _ _ _; try dsimp only)
    | with_reducible apply Calm.forEach

theorem Calm.watch {s τ : State} (h : Calm s τ) (i : Fin 256) (p : Fin 32) : Calm s (τ.watch i p) := by
  unfold State.watch
  repeat'
    first
    | with_reducible assumption | with_reducible apply Calm.hold
    | fail_if_no_progress with_reducible refine Calm.lit ?_ rfl rfl rfl rfl rfl rfl rfl rfl | split

theorem Calm.failAll {s τ : State} (h : Calm s τ) (i : Fin 256) : Calm s (τ.failAll i) := by
  unfold State.failAll
  repeat'
    first
    | with_reducible assumption | with_reducible apply Calm.failContribution | (intro _ _ _; try dsimp only)
    | with_reducible apply Calm.forEach
    | fail_if_no_progress with_reducible refine Calm.lit ?_ rfl rfl rfl rfl rfl rfl rfl rfl | split

theorem Calm.abandonContributions {s τ : State} (h : Calm s τ) (i : Fin 256) : Calm s (τ.abandonContributions i) := by
  unfold State.abandonContributions
  repeat'
    first
    | with_reducible assumption | with_reducible apply Calm.abandon | (intro _ _ _; try dsimp only)
    | with_reducible apply Calm.forEach
    | fail_if_no_progress with_reducible refine Calm.lit ?_ rfl rfl rfl rfl rfl rfl rfl rfl | split


end Sys2Proof.Machine

/-!
PROOFS. `Calm` through the walk engine and the mend engine (Machine/Walk.lean, MendEngine.lean).
-/

namespace Sys2Proof.Machine

theorem Calm.setWalk {s τ : State} (h : Calm s τ) (w : Option Walk) : Calm s (τ.setWalk w) := by
  unfold State.setWalk
  repeat'
    first
    | with_reducible assumption
    | fail_if_no_progress with_reducible refine Calm.lit ?_ rfl rfl rfl rfl rfl rfl rfl rfl

theorem Calm.createPass {s τ : State} (h : Calm s τ) (depth : Depth) : Calm s (τ.createPass depth).1 := by
  unfold State.createPass
  dsimp only
  repeat'
    first
    | with_reducible assumption | with_reducible apply Calm.markHeader
    | fail_if_no_progress with_reducible refine Calm.lit ?_ rfl rfl rfl rfl rfl rfl rfl rfl

theorem Calm.clearWalk {s τ : State} (h : Calm s τ) : Calm s (τ.clearWalk) := by
  unfold State.clearWalk
  repeat'
    first
    | with_reducible assumption | with_reducible apply Calm.dropRequests | with_reducible apply Calm.killOutstanding
    | with_reducible apply Calm.withdraw

theorem Calm.feedWalk {s τ : State} (h : Calm s τ) : Calm s (τ.feedWalk) := by
  unfold State.feedWalk
  dsimp only
  repeat'
    first
    | with_reducible assumption | with_reducible apply Calm.setWalk | with_reducible apply Calm.enqueue
    | (intro _ _ _; try dsimp only) | with_reducible apply Calm.forEach
    | fail_if_no_progress with_reducible refine Calm.lit ?_ rfl rfl rfl rfl rfl rfl rfl rfl | split

theorem Calm.startRead {s τ : State} (h : Calm s τ) (w : Walk) : Calm s (τ.startRead w) := by
  unfold State.startRead
  repeat'
    first
    | with_reducible assumption | with_reducible apply Calm.feedWalk | with_reducible apply Calm.setWalk

theorem Calm.pushWalk {s τ : State} (h : Calm s τ) (w : Walk) (run : RunState) : Calm s (τ.pushWalk w run) := by
  unfold State.pushWalk
  dsimp only
  repeat'
    first
    | with_reducible assumption | with_reducible apply Calm.clearWalk | with_reducible apply Calm.unpin?
    | fail_if_no_progress with_reducible refine Calm.lit ?_ rfl rfl rfl rfl rfl rfl rfl rfl

theorem Calm.stopWalk {s τ : State} (h : Calm s τ) (w : Walk) : Calm s (τ.stopWalk w) := by
  unfold State.stopWalk
  dsimp only
  repeat'
    first
    | with_reducible assumption | with_reducible apply Calm.pushWalk | with_reducible apply Calm.clearWalk
    | with_reducible apply Calm.setWalk | with_reducible apply Calm.unpin?
    | fail_if_no_progress with_reducible refine Calm.lit ?_ rfl rfl rfl rfl rfl rfl rfl rfl | split

theorem Calm.skipRest {s τ : State} (h : Calm s τ) (w : Walk) : Calm s (τ.skipRest w) := by
  unfold State.skipRest
  dsimp only
  repeat'
    first
    | with_reducible assumption | with_reducible apply Calm.clearWalk | with_reducible apply Calm.setWalk
    | with_reducible apply Calm.unpin?
    | fail_if_no_progress with_reducible refine Calm.lit ?_ rfl rfl rfl rfl rfl rfl rfl rfl | split

theorem Calm.skipBlock {s τ : State} (h : Calm s τ) (w : Walk) : Calm s (τ.skipBlock w) := by
  unfold State.skipBlock
  dsimp only
  repeat'
    first
    | with_reducible assumption | with_reducible apply Calm.setWalk | with_reducible apply Calm.unpin?

theorem Calm.queueExtents {s τ : State} (h : Calm s τ) (test : Fin 1024 → Bool) : Calm s (τ.queueExtents test) := by
  unfold State.queueExtents
  repeat'
    first
    | with_reducible assumption | with_reducible apply Calm.queueWriteback | (intro _ _ _; try dsimp only)
    | with_reducible apply Calm.forEach
    | fail_if_no_progress with_reducible refine Calm.lit ?_ rfl rfl rfl rfl rfl rfl rfl rfl | split

theorem Calm.walkState {s τ : State} (h : Calm s τ) (e : Fin 1024) (source target : ExtentState) :
    Calm s (τ.walkState e source target) := by
  unfold State.walkState
  repeat'
    first
    | with_reducible assumption | with_reducible apply Calm.changeExtent
    | fail_if_no_progress with_reducible refine Calm.lit ?_ rfl rfl rfl rfl rfl rfl rfl rfl | split

theorem Calm.logWalkEnd {s τ : State} (h : Calm s τ) (w : Walk) : Calm s (τ.logWalkEnd w) := by
  unfold State.logWalkEnd
  repeat'
    first
    | with_reducible assumption | with_reducible apply Calm.walkState | with_reducible apply Calm.logCopy
    | with_reducible apply Calm.log
    | fail_if_no_progress with_reducible refine Calm.lit ?_ rfl rfl rfl rfl rfl rfl rfl rfl | split

theorem Calm.nextWalk {s τ : State} (h : Calm s τ) : Calm s (τ.nextWalk) := by
  unfold State.nextWalk
  dsimp only
  repeat'
    first
    | with_reducible assumption | with_reducible apply Calm.createPass | with_reducible apply Calm.setWalk
    | fail_if_no_progress with_reducible refine Calm.lit ?_ rfl rfl rfl rfl rfl rfl rfl rfl | split

theorem Calm.restAfter {s τ : State} (h : Calm s τ) (w : Walk) : Calm s (τ.restAfter w) := by
  unfold State.restAfter
  repeat'
    first
    | with_reducible assumption
    | fail_if_no_progress with_reducible refine Calm.lit ?_ rfl rfl rfl rfl rfl rfl rfl rfl | split

theorem Calm.endWalk {s τ : State} (h : Calm s τ) (w : Walk) : Calm s (τ.endWalk w) := by
  unfold State.endWalk
  dsimp only
  repeat'
    first
    | with_reducible assumption | with_reducible apply Calm.restAfter | with_reducible apply Calm.nextWalk
    | with_reducible apply Calm.logWalkEnd | with_reducible apply Calm.queueExtents
    | with_reducible apply Calm.setWalk | with_reducible apply Calm.raise | with_reducible apply Calm.unpin?

theorem Calm.askLine {s τ : State} (h : Calm s τ) (w : Walk) : Calm s (τ.askLine w) := by
  unfold State.askLine
  dsimp only
  repeat'
    first
    | with_reducible assumption | with_reducible apply Calm.setWalk | with_reducible apply Calm.requestLine
    | fail_if_no_progress with_reducible refine Calm.lit ?_ rfl rfl rfl rfl rfl rfl rfl rfl | split

theorem Calm.leaveExtent {s τ : State} (h : Calm s τ) (w : Walk) : Calm s (τ.leaveExtent w) := by
  unfold State.leaveExtent
  dsimp only
  repeat'
    first
    | with_reducible assumption | with_reducible apply Calm.setWalk | with_reducible apply Calm.changeExtent
    | with_reducible apply Calm.unpin?
    | fail_if_no_progress with_reducible refine Calm.lit ?_ rfl rfl rfl rfl rfl rfl rfl rfl | split

theorem Calm.passRange {s τ : State} (h : Calm s τ) (w : Walk) : Calm s (τ.passRange w) := by
  unfold State.passRange
  repeat'
    first
    | with_reducible assumption | with_reducible apply Calm.leaveExtent | with_reducible apply Calm.setWalk
    | fail_if_no_progress with_reducible refine Calm.lit ?_ rfl rfl rfl rfl rfl rfl rfl rfl | split

theorem Calm.visitCopy {s τ : State} (h : Calm s τ) (w : Walk) (l : Fin 64) : Calm s (τ.visitCopy w l) := by
  unfold State.visitCopy
  repeat'
    first
    | with_reducible assumption | with_reducible apply Calm.startRead | with_reducible apply Calm.setWalk
    | with_reducible apply Calm.foundMending
    | fail_if_no_progress with_reducible refine Calm.lit ?_ rfl rfl rfl rfl rfl rfl rfl rfl | split

theorem Calm.visitFull {s τ : State} (h : Calm s τ) (w : Walk) : Calm s (τ.visitFull w) := by
  unfold State.visitFull
  repeat'
    first
    | with_reducible assumption | with_reducible apply Calm.visitCopy | with_reducible apply Calm.passRange
    | with_reducible apply Calm.askLine | with_reducible apply Calm.skipRest | with_reducible apply Calm.setWalk
    | with_reducible apply Calm.unpin
    | fail_if_no_progress with_reducible refine Calm.lit ?_ rfl rfl rfl rfl rfl rfl rfl rfl | split

theorem Calm.auditAnswer {s τ : State} (h : Calm s τ) (w : Walk) (verified : Bool) (replaced : List Nat) :
    Calm s (τ.auditAnswer w verified replaced) := by
  unfold State.auditAnswer
  dsimp only
  repeat'
    first
    | with_reducible assumption | with_reducible apply Calm.setWalk | with_reducible apply Calm.unpin?

theorem Calm.auditLine {s τ : State} (h : Calm s τ) (w : Walk) (l : Fin 64) : Calm s (τ.auditLine w l) := by
  unfold State.auditLine
  dsimp only
  repeat'
    first
    | with_reducible assumption | with_reducible apply Calm.auditAnswer | with_reducible apply Calm.setWalk
    | with_reducible apply Calm.enqueue | with_reducible apply Calm.setLine | exact (fun hx => ⟨hx, rfl⟩)
    | exact (fun hx => absurd rfl hx)
    | fail_if_no_progress with_reducible refine Calm.lit ?_ rfl rfl rfl rfl rfl rfl rfl rfl | split

theorem Calm.visitAudit {s τ : State} (h : Calm s τ) (w : Walk) : Calm s (τ.visitAudit w) := by
  unfold State.visitAudit
  repeat'
    first
    | with_reducible assumption | with_reducible apply Calm.auditLine | with_reducible apply Calm.passRange
    | with_reducible apply Calm.askLine | with_reducible apply Calm.skipRest
    | fail_if_no_progress with_reducible refine Calm.lit ?_ rfl rfl rfl rfl rfl rfl rfl rfl | split

theorem Calm.startSeal {s τ : State} (h : Calm s τ) (w : Walk) : Calm s (τ.startSeal w) := by
  unfold State.startSeal
  repeat'
    first
    | with_reducible assumption | with_reducible apply Calm.setWalk | with_reducible apply Calm.abandonAll
    | fail_if_no_progress with_reducible refine Calm.lit ?_ rfl rfl rfl rfl rfl rfl rfl rfl | split

theorem Calm.startReread {s τ : State} (h : Calm s τ) (w : Walk) (p : Plan) (r : Reread) :
    Calm s (τ.startReread w p r) := by
  unfold State.startReread
  repeat'
    first
    | with_reducible assumption | with_reducible apply Calm.startRead

theorem Calm.reportFound {s τ : State} (h : Calm s τ) (w : Walk) (e : Entry) (c : CopyId) :
    Calm s (τ.reportFound w e c) := by
  unfold State.reportFound
  repeat'
    first
    | with_reducible assumption | with_reducible apply Calm.foundMending
    | fail_if_no_progress with_reducible refine Calm.lit ?_ rfl rfl rfl rfl rfl rfl rfl rfl | split

theorem Calm.visitPlan {s τ : State} (h : Calm s τ) (w : Walk) (l : Fin 64) : Calm s (τ.visitPlan w l) := by
  unfold State.visitPlan
  dsimp only
  repeat'
    first
    | with_reducible assumption | with_reducible apply Calm.reportFound | with_reducible apply Calm.startReread
    | with_reducible apply Calm.setWalk
    | fail_if_no_progress with_reducible refine Calm.lit ?_ rfl rfl rfl rfl rfl rfl rfl rfl | split

theorem Calm.visitSeal {s τ : State} (h : Calm s τ) (w : Walk) : Calm s (τ.visitSeal w) := by
  unfold State.visitSeal
  repeat'
    first
    | with_reducible assumption | with_reducible apply Calm.visitPlan | with_reducible apply Calm.startSeal
    | with_reducible apply Calm.askLine | with_reducible apply Calm.skipRest | with_reducible apply Calm.setWalk
    | with_reducible apply Calm.unpin
    | fail_if_no_progress with_reducible refine Calm.lit ?_ rfl rfl rfl rfl rfl rfl rfl rfl | split

theorem Calm.prepareLine {s τ : State} (h : Calm s τ) (w : Walk) (l : Fin 64) : Calm s (τ.prepareLine w l) := by
  unfold State.prepareLine
  dsimp only
  repeat'
    first
    | with_reducible assumption | with_reducible apply Calm.setWalk | with_reducible apply Calm.queueWriteback
    | with_reducible apply Calm.becomeDirty | (simp [*]; done) | with_reducible apply Calm.unpin
    | with_reducible apply Calm.setLine | exact (fun hx => ⟨hx, rfl⟩) | exact (fun hx => absurd rfl hx)
    | fail_if_no_progress with_reducible refine Calm.lit ?_ rfl rfl rfl rfl rfl rfl rfl rfl | split

theorem Calm.visitPrepare {s τ : State} (h : Calm s τ) (w : Walk) : Calm s (τ.visitPrepare w) := by
  unfold State.visitPrepare
  repeat'
    first
    | with_reducible assumption | with_reducible apply Calm.prepareLine | with_reducible apply Calm.askLine
    | with_reducible apply Calm.skipRest | with_reducible apply Calm.setWalk
    | fail_if_no_progress with_reducible refine Calm.lit ?_ rfl rfl rfl rfl rfl rfl rfl rfl | split

theorem Calm.preparedBlock {s τ : State} (h : Calm s τ) (w : Walk) (good : Bool) : Calm s (τ.preparedBlock w good) := by
  unfold State.preparedBlock
  dsimp only
  repeat'
    first
    | with_reducible assumption | with_reducible apply Calm.setWalk | with_reducible apply Calm.unpin?

theorem Calm.enterExtent {s τ : State} (h : Calm s τ) (w : Walk) : Calm s (τ.enterExtent w) := by
  unfold State.enterExtent
  dsimp only
  repeat'
    first
    | with_reducible assumption | with_reducible apply Calm.setWalk
    | fail_if_no_progress with_reducible refine Calm.lit ?_ rfl rfl rfl rfl rfl rfl rfl rfl | split

theorem Calm.visit {s τ : State} (h : Calm s τ) (w : Walk) : Calm s (τ.visit w) := by
  unfold State.visit
  repeat'
    first
    | with_reducible assumption | with_reducible apply Calm.enterExtent | with_reducible apply Calm.visitPrepare
    | with_reducible apply Calm.visitSeal | with_reducible apply Calm.visitAudit
    | with_reducible apply Calm.visitFull
    | fail_if_no_progress with_reducible refine Calm.lit ?_ rfl rfl rfl rfl rfl rfl rfl rfl | split


theorem Calm.walkMove {s τ u : State} (h : Calm s τ) (hu : τ.walkMove = some u) : Calm s u := by
  unfold State.walkMove at hu
  split at hu
  · cases hu
  · split at hu
    · cases hu
    · split at hu
      · cases hu
        exact h.passRange _
      · split at hu
        · cases hu
          exact h.stopWalk _
        · split at hu
          · cases hu
            exact h.endWalk _
          · cases hu
            exact h.visit _

theorem Calm.walkLoop {s : State} : ∀ (n : Nat) {τ : State}, Calm s τ → Calm s (State.walkLoop n τ)
  | 0, _, h => h
  | n + 1, τ, h => by
    unfold State.walkLoop
    split
    · exact h
    · rename_i hmove
      exact Calm.walkLoop n (h.walkMove hmove)

theorem Calm.walkRun {s τ : State} (h : Calm s τ) : Calm s τ.walkRun := Calm.walkLoop _ h

theorem Calm.placeWalk {s τ : State} (h : Calm s τ) (w : Walk) : Calm s (τ.placeWalk w) := by
  unfold State.placeWalk
  repeat'
    first
    | with_reducible assumption | with_reducible apply Calm.pushWalk | with_reducible apply Calm.setWalk
    | fail_if_no_progress with_reducible refine Calm.lit ?_ rfl rfl rfl rfl rfl rfl rfl rfl | split

theorem Calm.startWalk {s τ : State} (h : Calm s τ) (w : Walk) : Calm s (τ.startWalk w) := by
  unfold State.startWalk
  repeat'
    first
    | with_reducible assumption | with_reducible apply Calm.placeWalk | with_reducible apply Calm.walkRun

theorem Calm.rereadDone {s τ : State} (h : Calm s τ) (w : Walk) (step : PlanStep) : Calm s (τ.rereadDone w step) := by
  unfold State.rereadDone
  dsimp only
  repeat'
    first
    | with_reducible assumption | with_reducible apply Calm.setWalk
    | fail_if_no_progress with_reducible refine Calm.lit ?_ rfl rfl rfl rfl rfl rfl rfl rfl | split

theorem Calm.sealAnswer {s τ : State} (h : Calm s τ) (w : Walk) (p : Plan) (r : Reread) (a b : Nat) (ans : Answer) :
    Calm s (τ.sealAnswer w p r a b ans) := by
  unfold State.sealAnswer
  dsimp only
  repeat'
    first
    | with_reducible assumption | with_reducible apply Calm.rereadDone | with_reducible apply Calm.logCopy
    | fail_if_no_progress with_reducible refine Calm.lit ?_ rfl rfl rfl rfl rfl rfl rfl rfl | split

theorem Calm.walkAnswer {s τ : State} (h : Calm s τ) (a b : Nat) (ans : Answer) : Calm s (τ.walkAnswer a b ans) := by
  unfold State.walkAnswer
  dsimp only
  repeat'
    first
    | with_reducible assumption | with_reducible apply Calm.sealAnswer | with_reducible apply Calm.setWalk
    | with_reducible apply Calm.logVerdict | with_reducible apply Calm.tell
    | fail_if_no_progress with_reducible refine Calm.lit ?_ rfl rfl rfl rfl rfl rfl rfl rfl | split

theorem Calm.completeScrub {s τ : State} (h : Calm s τ) : Calm s (τ.completeScrub) := by
  unfold State.completeScrub
  dsimp only
  repeat'
    first
    | with_reducible assumption | with_reducible apply Calm.walkAnswer | with_reducible apply Calm.setWalk
    | with_reducible apply Calm.await | with_reducible apply Calm.submit | with_reducible apply Calm.endAccum
    | fail_if_no_progress with_reducible refine Calm.lit ?_ rfl rfl rfl rfl rfl rfl rfl rfl | split

theorem Calm.walkFailed {s τ : State} (h : Calm s τ) (chunk : Nat) (media : Bool) :
    Calm s (τ.walkFailed chunk media) := by
  unfold State.walkFailed
  dsimp only
  repeat'
    first
    | with_reducible assumption | with_reducible apply Calm.rereadDone | with_reducible apply Calm.clearWalk
    | with_reducible apply Calm.setWalk | with_reducible apply Calm.tell | with_reducible apply Calm.abandon
    | with_reducible apply Calm.logCopy
    | fail_if_no_progress with_reducible refine Calm.lit ?_ rfl rfl rfl rfl rfl rfl rfl rfl | split

theorem Calm.walkLostCopy {s τ : State} (h : Calm s τ) : Calm s (τ.walkLostCopy) := by
  unfold State.walkLostCopy
  repeat'
    first
    | with_reducible assumption | with_reducible apply Calm.walkAnswer | with_reducible apply Calm.walkRun
    | with_reducible apply Calm.clearWalk

theorem Calm.pokeWalk {s τ : State} (h : Calm s τ) : Calm s (τ.pokeWalk) := by
  unfold State.pokeWalk
  repeat'
    first
    | with_reducible assumption | with_reducible apply Calm.walkRun | with_reducible apply Calm.setWalk
    | fail_if_no_progress with_reducible refine Calm.lit ?_ rfl rfl rfl rfl rfl rfl rfl rfl | split

theorem Calm.feedCopy {s τ : State} (h : Calm s τ) (m : Mend) : Calm s (τ.feedCopy m) := by
  unfold State.feedCopy
  repeat'
    first
    | with_reducible assumption | with_reducible apply Calm.setMend | with_reducible apply Calm.enqueue
    | fail_if_no_progress with_reducible refine Calm.lit ?_ rfl rfl rfl rfl rfl rfl rfl rfl | split

theorem Calm.feedMend {s τ : State} (h : Calm s τ) : Calm s (τ.feedMend) := by
  unfold State.feedMend
  dsimp only
  repeat'
    first
    | with_reducible assumption | with_reducible apply Calm.feedCopy | with_reducible apply Calm.setMend
    | with_reducible apply Calm.enqueue | (intro _ _ _; try dsimp only) | with_reducible apply Calm.forEach
    | fail_if_no_progress with_reducible refine Calm.lit ?_ rfl rfl rfl rfl rfl rfl rfl rfl | split

theorem Calm.startPhase {s τ : State} (h : Calm s τ) (m : Mend) (phase : MendPhase) :
    Calm s (τ.startPhase m phase) := by
  unfold State.startPhase
  repeat'
    first
    | with_reducible assumption | with_reducible apply Calm.feedMend | with_reducible apply Calm.setMend

theorem Calm.discardMend {s τ : State} (h : Calm s τ) : Calm s (τ.discardMend) := by
  unfold State.discardMend
  repeat'
    first
    | with_reducible assumption | with_reducible apply Calm.setMend | with_reducible apply Calm.unpin?
    | fail_if_no_progress with_reducible refine Calm.lit ?_ rfl rfl rfl rfl rfl rfl rfl rfl | split

theorem Calm.beginMend {s τ : State} (h : Calm s τ) : Calm s (τ.beginMend) := by
  unfold State.beginMend
  dsimp only
  repeat'
    first
    | with_reducible assumption | with_reducible apply Calm.startPhase | with_reducible apply Calm.walkLostCopy
    | with_reducible apply Calm.abandonAll | with_reducible apply Calm.abandon
    | fail_if_no_progress with_reducible refine Calm.lit ?_ rfl rfl rfl rfl rfl rfl rfl rfl | split

theorem Calm.marked {s τ : State} (h : Calm s τ) (ans : Answer) : Calm s (τ.marked ans) := by
  unfold State.marked
  repeat'
    first
    | with_reducible assumption | with_reducible apply Calm.beginMend | with_reducible apply Calm.discardMend
    | fail_if_no_progress with_reducible refine Calm.lit ?_ rfl rfl rfl rfl rfl rfl rfl rfl | split

theorem Calm.mendHeld {s τ : State} (h : Calm s τ) (m : Mend) (l : Fin 64) : Calm s (τ.mendHeld m l) := by
  unfold State.mendHeld
  dsimp only
  repeat'
    first
    | with_reducible assumption | with_reducible apply Calm.marked | with_reducible apply Calm.discardMend
    | with_reducible apply Calm.startPhase | with_reducible apply Calm.submit | with_reducible apply Calm.setMend
    | fail_if_no_progress with_reducible refine Calm.lit ?_ rfl rfl rfl rfl rfl rfl rfl rfl | split

theorem Calm.mendGotLine {s τ : State} (h : Calm s τ) (m : Mend) (l : Fin 64) : Calm s (τ.mendGotLine m l) := by
  unfold State.mendGotLine
  dsimp only
  repeat'
    first
    | with_reducible assumption | with_reducible apply Calm.mendHeld | with_reducible apply Calm.setMend
    | fail_if_no_progress with_reducible refine Calm.lit ?_ rfl rfl rfl rfl rfl rfl rfl rfl | split

theorem Calm.mendAsk {s τ : State} (h : Calm s τ) (m : Mend) : Calm s (τ.mendAsk m) := by
  unfold State.mendAsk
  dsimp only
  repeat'
    first
    | with_reducible assumption | with_reducible apply Calm.mendGotLine | with_reducible apply Calm.setMend
    | with_reducible apply Calm.requestLine
    | fail_if_no_progress with_reducible refine Calm.lit ?_ rfl rfl rfl rfl rfl rfl rfl rfl | split


theorem Calm.takeMend {s : State} : ∀ (n : Nat) {τ : State}, Calm s τ → Calm s (State.takeMend n τ)
  | 0, _, h => h
  | n + 1, τ, h => by
    unfold State.takeMend
    split
    · exact h
    · rename_i k rest _
      have hq : Calm s { τ with mend := { τ.mend with queue := rest } } := h.lit rfl rfl rfl rfl rfl rfl rfl rfl
      dsimp only
      split
      · split
        · exact Calm.takeMend n (hq.mendAsk _)
        · exact hq.mendAsk _
      · exact Calm.takeMend n hq

theorem Calm.attemptFailed {s τ : State} (h : Calm s τ) (m : Mend) (reason : Nat) :
    Calm s (τ.attemptFailed m reason) := by
  unfold State.attemptFailed
  repeat'
    first
    | with_reducible assumption | with_reducible apply Calm.startPhase | with_reducible apply Calm.submitClosing
    | fail_if_no_progress with_reducible refine Calm.lit ?_ rfl rfl rfl rfl rfl rfl rfl rfl | split

theorem Calm.compared {s τ : State} (h : Calm s τ) (m : Mend) (a b : Nat) (ans : Answer) :
    Calm s (τ.compared m a b ans) := by
  unfold State.compared
  repeat'
    first
    | with_reducible assumption | with_reducible apply Calm.attemptFailed | with_reducible apply Calm.startPhase
    | with_reducible apply Calm.endMend | with_reducible apply Calm.finishMend | with_reducible apply Calm.setMend
    | fail_if_no_progress with_reducible refine Calm.lit ?_ rfl rfl rfl rfl rfl rfl rfl rfl | split

theorem Calm.mendAnswer {s τ : State} (h : Calm s τ) (a b : Nat) (ans : Answer) : Calm s (τ.mendAnswer a b ans) := by
  unfold State.mendAnswer
  repeat'
    first
    | with_reducible assumption | with_reducible apply Calm.compared
    | fail_if_no_progress with_reducible refine Calm.lit ?_ rfl rfl rfl rfl rfl rfl rfl rfl | split

theorem Calm.completeMend {s τ : State} (h : Calm s τ) : Calm s (τ.completeMend) := by
  unfold State.completeMend
  dsimp only
  repeat'
    first
    | with_reducible assumption | with_reducible apply Calm.mendAnswer | with_reducible apply Calm.submit
    | with_reducible apply Calm.setMend | with_reducible apply Calm.endAccum
    | fail_if_no_progress with_reducible refine Calm.lit ?_ rfl rfl rfl rfl rfl rfl rfl rfl | split

theorem Calm.mendFailed {s τ : State} (h : Calm s τ) (chunk : Nat) (copy : CopyId) (media : Bool) :
    Calm s (τ.mendFailed chunk copy media) := by
  unfold State.mendFailed
  dsimp only
  repeat'
    first
    | with_reducible assumption | with_reducible apply Calm.attemptFailed | with_reducible apply Calm.tell
    | with_reducible apply Calm.stopMendWork | with_reducible apply Calm.submitClosing
    | with_reducible apply Calm.setMend | with_reducible apply Calm.logCopy
    | fail_if_no_progress with_reducible refine Calm.lit ?_ rfl rfl rfl rfl rfl rfl rfl rfl | split

theorem Calm.cutMend {s τ : State} (h : Calm s τ) : Calm s (τ.cutMend) := by
  unfold State.cutMend
  repeat'
    first
    | with_reducible assumption | with_reducible apply Calm.stopMendWork | with_reducible apply Calm.setMend
    | fail_if_no_progress with_reducible refine Calm.lit ?_ rfl rfl rfl rfl rfl rfl rfl rfl | split

theorem Calm.uncutMend {s τ : State} (h : Calm s τ) : Calm s (τ.uncutMend) := by
  unfold State.uncutMend
  repeat'
    first
    | with_reducible assumption | with_reducible apply Calm.startPhase
    | fail_if_no_progress with_reducible refine Calm.lit ?_ rfl rfl rfl rfl rfl rfl rfl rfl | split

theorem Calm.resetMend {s τ : State} (h : Calm s τ) : Calm s (τ.resetMend) := by
  unfold State.resetMend
  dsimp only
  repeat'
    first
    | with_reducible assumption | with_reducible apply Calm.mendAsk | with_reducible apply Calm.stopMendWork
    | with_reducible apply Calm.setMend
    | fail_if_no_progress with_reducible refine Calm.lit ?_ rfl rfl rfl rfl rfl rfl rfl rfl | split


theorem Calm.frameTests {s τ : State} (h : Calm s τ) (q : FrameAsk) (l : Fin 64) : Calm s (τ.frameTests q l) := by
  unfold State.frameTests
  dsimp only
  split
  · exact h.answerFrame _
  · split
    · exact h.answerFrame _
    · split
      · exact h.answerFrame _
      · split
        · exact h.answerFrame _
        · refine Calm.answerFrame ?_ _
          exact h.lit rfl rfl rfl rfl rfl rfl rfl rfl

theorem Calm.setAsk {s τ : State} (h : Calm s τ) (q : FrameAsk) : Calm s (τ.setAsk q) := by
  unfold State.setAsk
  repeat'
    first
    | with_reducible assumption
    | fail_if_no_progress with_reducible refine Calm.lit ?_ rfl rfl rfl rfl rfl rfl rfl rfl

theorem Calm.frameHeld {s τ : State} (h : Calm s τ) (q : FrameAsk) (l : Fin 64) : Calm s (τ.frameHeld q l) := by
  unfold State.frameHeld
  dsimp only
  repeat'
    first
    | with_reducible assumption | with_reducible apply Calm.setAsk | with_reducible apply Calm.frameTests
    | with_reducible apply Calm.submit
    | fail_if_no_progress with_reducible refine Calm.lit ?_ rfl rfl rfl rfl rfl rfl rfl rfl | split

theorem Calm.frameGotLine {s τ : State} (h : Calm s τ) (q : FrameAsk) (l : Fin 64) : Calm s (τ.frameGotLine q l) := by
  unfold State.frameGotLine
  dsimp only
  repeat'
    first
    | with_reducible assumption | with_reducible apply Calm.frameHeld | with_reducible apply Calm.setAsk
    | fail_if_no_progress with_reducible refine Calm.lit ?_ rfl rfl rfl rfl rfl rfl rfl rfl | split

theorem Calm.frameAsk {s τ : State} (h : Calm s τ) (k : FrameKey) : Calm s (τ.frameAsk k) := by
  unfold State.frameAsk
  dsimp only
  repeat'
    first
    | with_reducible assumption | with_reducible apply Calm.frameGotLine | with_reducible apply Calm.setAsk
    | with_reducible apply Calm.requestLine
    | fail_if_no_progress with_reducible refine Calm.lit ?_ rfl rfl rfl rfl rfl rfl rfl rfl | split


end Sys2Proof.Machine

/-!
PROOFS. `Calm` through the results of injected requests, the links, the grants and the directives (Machine/Results.lean,
Links.lean, Grant.lean, DirectiveOps.lean), where the head request and the slots are not spoken to.
-/

namespace Sys2Proof.Machine

theorem Calm.deliver {s τ : State} (h : Calm s τ) (l : Fin 64) (w : Waiting) (ans : Answer) :
    Calm s (τ.deliver l w ans) := by
  unfold State.deliver
  dsimp only
  repeat'
    first
    | with_reducible assumption | with_reducible apply Calm.frameTests | with_reducible apply Calm.mendAnswer
    | with_reducible apply Calm.marked | with_reducible apply Calm.walkAnswer | with_reducible apply Calm.walkRun
    | with_reducible apply Calm.finishCheck | with_reducible apply Calm.finishMend
    | with_reducible apply Calm.setMend | with_reducible apply Calm.answerFrame | with_reducible apply Calm.endAccum
    | fail_if_no_progress with_reducible refine Calm.lit ?_ rfl rfl rfl rfl rfl rfl rfl rfl | split

theorem Calm.takeWaiting {s τ : State} (h : Calm s τ) (l : Fin 64) (w : Waiting) : Calm s (τ.takeWaiting l w) := by
  unfold State.takeWaiting
  dsimp only
  repeat'
    first
    | with_reducible assumption | with_reducible apply Calm.deliver | with_reducible apply Calm.applyNow
    | with_reducible apply Calm.applyClosing
    | fail_if_no_progress with_reducible refine Calm.lit ?_ rfl rfl rfl rfl rfl rfl rfl rfl | split


theorem Calm.drain {s : State} : ∀ (n : Nat) (l : Fin 64) {τ : State}, Calm s τ → Calm s (State.drain n l τ)
  | 0, _, _, h => h
  | n + 1, l, τ, h => by
    unfold State.drain
    split
    · exact h
    · split
      · exact h
      · refine Calm.drain n l (Calm.takeWaiting (h.setLine l _ ?_) l _)
        exact fun hx => ⟨hx, rfl⟩

theorem Calm.failWaiting {s τ : State} (h : Calm s τ) (l : Fin 64) (ws : List Waiting) :
    Calm s (τ.failWaiting l ws) := by
  unfold State.failWaiting
  repeat'
    first
    | with_reducible assumption | with_reducible apply Calm.deliver | (intro _ _ _; try dsimp only)
    | with_reducible apply Calm.forEach

theorem Calm.logDamage {s τ : State} (h : Calm s τ) (e : Fin 1024) (d : Damage) : Calm s (τ.logDamage e d) := by
  unfold State.logDamage
  repeat'
    first
    | with_reducible assumption | with_reducible apply Calm.reportMend | with_reducible apply Calm.log


/-- What a read gives a line that is not INVALID. -/
theorem Calm.takeEntries {s τ : State} (h : Calm s τ) (l : Fin 64) (data : List Byte) (hl : (τ.line l).state ≠ .invalid) :
    Calm s (τ.takeEntries l data).1 := by
  unfold State.takeEntries
  dsimp only
  refine Calm.forEach _ (fun d u hu => hu.logDamage _ d) _ ?_
  have hset := h.setLine l
  split
  · exact hset _ fun _ => ⟨hl, rfl⟩
  · refine Calm.becomeDirty (hset _ ?_) l (by simp)
    exact fun _ => ⟨hl, rfl⟩

theorem Calm.logLineFailure {s τ : State} (h : Calm s τ) (kind : FindingKind) (l : Fin 64) :
    Calm s (τ.logLineFailure kind l) := by
  unfold State.logLineFailure
  dsimp only
  repeat'
    first
    | with_reducible assumption | with_reducible apply Calm.log

theorem Calm.walkLineRead {s τ : State} (h : Calm s τ) (l : Fin 64) (verified : Bool) (replaced : List Nat) :
    Calm s (τ.walkLineRead l verified replaced) := by
  unfold State.walkLineRead
  repeat'
    first
    | with_reducible assumption | with_reducible apply Calm.walkRun | with_reducible apply Calm.auditAnswer
    | with_reducible apply Calm.setWalk
    | fail_if_no_progress with_reducible refine Calm.lit ?_ rfl rfl rfl rfl rfl rfl rfl rfl | split

theorem Calm.lineFilled {s τ : State} (h : Calm s τ) (l : Fin 64) : Calm s (τ.lineFilled l) := by
  unfold State.lineFilled
  dsimp only
  repeat'
    first
    | with_reducible assumption | with_reducible apply Calm.frameHeld | with_reducible apply Calm.mendHeld
    | fail_if_no_progress with_reducible refine Calm.lit ?_ rfl rfl rfl rfl rfl rfl rfl rfl | split


theorem Calm.fillGood {s τ : State} (h : Calm s τ) (l : Fin 64) (data : List Byte) : Calm s (τ.fillGood l data) := by
  unfold State.fillGood
  split
  case isTrue => exact h
  case isFalse hl => exact (((h.takeEntries l data hl).drain _ l).lineFilled l).walkLineRead l _ _

theorem Calm.refillLost {s τ : State} (h : Calm s τ) (l : Fin 64) : Calm s (τ.refillLost l) := by
  unfold State.refillLost
  dsimp only
  repeat'
    first
    | with_reducible assumption | with_reducible apply Calm.lineFilled | with_reducible apply Calm.walkLineRead
    | with_reducible apply Calm.drain | with_reducible apply Calm.setLine | exact (fun hx => ⟨hx, rfl⟩)

theorem Calm.refillEnded {s τ : State} (h : Calm s τ) (l : Fin 64) (e : MediaEnd) : Calm s (τ.refillEnded l e) := by
  unfold State.refillEnded
  repeat'
    first
    | with_reducible assumption | with_reducible apply Calm.refillLost | with_reducible apply Calm.fillGood
    | with_reducible apply Calm.logLineFailure
    | fail_if_no_progress with_reducible refine Calm.lit ?_ rfl rfl rfl rfl rfl rfl rfl rfl | split

theorem Calm.nextVictim {s τ : State} (h : Calm s τ) (l : Fin 64) : Calm s (τ.nextVictim l) := by
  unfold State.nextVictim
  repeat'
    first
    | with_reducible assumption | with_reducible apply Calm.queueEviction
    | fail_if_no_progress with_reducible refine Calm.lit ?_ rfl rfl rfl rfl rfl rfl rfl rfl | split


theorem LineState.writes_ne_invalid {x : LineState} (h : x.writes = true) : x ≠ .invalid := by
  rintro rfl
  cases h

theorem Calm.writebackGood {s τ : State} (h : Calm s τ) (l : Fin 64) : Calm s (τ.writebackGood l) := by
  unfold State.writebackGood
  dsimp only
  split
  case h_1 hstate =>
    have hset := h.setLine l { (τ.line l).writeEnded with state := .clean, dirtyTimer := none } fun _ => ⟨by simp [hstate], rfl⟩
    split
    · exact hset.nextVictim l
    · exact hset
  case h_2 hstate =>
    have hset := h.setLine l { (τ.line l).writeEnded with state := .clean, dirtyTimer := none } fun _ => ⟨by simp [hstate], rfl⟩
    have hdirty := hset.becomeDirty l (by simp)
    split
    · exact hdirty.queueWriteback l
    · exact hdirty
  case h_3 => exact h

theorem Calm.writebackFailed {s τ : State} (h : Calm s τ) (l : Fin 64) (kind : FindingKind) :
    Calm s (τ.writebackFailed l kind) := by
  unfold State.writebackFailed
  dsimp only
  split
  case isTrue hwrites =>
    have hne := LineState.writes_ne_invalid hwrites
    have hset := h.setLine l (τ.line l).writeEnded fun _ => ⟨hne, rfl⟩
    have hlog := (hset.becomeDirty l (by simpa [Line.writeEnded] using hne)).logLineFailure kind l
    split
    · split
      · exact (hlog.queueWriteback l).nextVictim l
      · exact hlog.nextVictim l
    · split
      · exact hlog.queueWriteback l
      · exact hlog
  case isFalse => exact h

theorem Calm.writebackEnded {s τ : State} (h : Calm s τ) (l : Fin 64) (e : MediaEnd) :
    Calm s (τ.writebackEnded l e) := by
  unfold State.writebackEnded
  dsimp only
  repeat'
    first
    | with_reducible assumption | with_reducible apply Calm.writebackFailed | with_reducible apply Calm.writebackGood
    | with_reducible apply Calm.walkRun | with_reducible apply Calm.preparedBlock
    | with_reducible apply Calm.flushLine
    | fail_if_no_progress with_reducible refine Calm.lit ?_ rfl rfl rfl rfl rfl rfl rfl rfl | split

theorem Calm.commitInjected {s τ : State} (h : Calm s τ) (cs : List Contribution) (data : List Byte) :
    Calm s (τ.commitInjected cs data) := by
  unfold State.commitInjected
  dsimp only
  repeat'
    first
    | with_reducible assumption | with_reducible apply Calm.commit | (intro _ _ _; try dsimp only)
    | with_reducible apply Calm.forEach

theorem Calm.walkChunkEnded {s τ : State} (h : Calm s τ) (x : Slot) (chunk : Nat) (e : MediaEnd) :
    Calm s (τ.walkChunkEnded x chunk e) := by
  unfold State.walkChunkEnded
  dsimp only
  repeat'
    first
    | with_reducible assumption | with_reducible apply Calm.commitInjected | with_reducible apply Calm.walkFailed
    | with_reducible apply Calm.completeScrub | with_reducible apply Calm.walkRun
    | with_reducible apply Calm.feedWalk
    | fail_if_no_progress with_reducible refine Calm.lit ?_ rfl rfl rfl rfl rfl rfl rfl rfl | split

theorem Calm.mendReadEnded {s τ : State} (h : Calm s τ) (x : Slot) (chunk : Nat) (e : MediaEnd) :
    Calm s (τ.mendReadEnded x chunk e) := by
  unfold State.mendReadEnded
  dsimp only
  repeat'
    first
    | with_reducible assumption | with_reducible apply Calm.commitInjected | with_reducible apply Calm.mendFailed
    | with_reducible apply Calm.completeMend | with_reducible apply Calm.feedMend | with_reducible apply Calm.setMend
    | fail_if_no_progress with_reducible refine Calm.lit ?_ rfl rfl rfl rfl rfl rfl rfl rfl | split

theorem Calm.mendWriteEnded {s τ : State} (h : Calm s τ) (x : Slot) (chunk : Nat) (e : MediaEnd) :
    Calm s (τ.mendWriteEnded x chunk e) := by
  unfold State.mendWriteEnded
  repeat'
    first
    | with_reducible assumption | with_reducible apply Calm.mendFailed | with_reducible apply Calm.startPhase
    | with_reducible apply Calm.feedMend
    | fail_if_no_progress with_reducible refine Calm.lit ?_ rfl rfl rfl rfl rfl rfl rfl rfl | split


theorem Calm.statusGood {s τ : State} (h : Calm s τ) (shot : StatusShot) : Calm s (τ.statusGood shot) := by
  unfold State.statusGood
  dsimp only
  refine Calm.pumpStatus ?_
  split
  · refine Calm.reportBatch ?_
    exact h.lit rfl rfl rfl rfl rfl rfl rfl rfl
  · exact h.lit rfl rfl rfl rfl rfl rfl rfl rfl

theorem Calm.statusEnded {s τ : State} (h : Calm s τ) (good : Bool) : Calm s (τ.statusEnded good) := by
  unfold State.statusEnded
  repeat'
    first
    | with_reducible assumption | with_reducible apply Calm.statusGood | with_reducible apply Calm.statusDue
    | fail_if_no_progress with_reducible refine Calm.lit ?_ rfl rfl rfl rfl rfl rfl rfl rfl | split


/-! ### The end of a log write -/

theorem State.logHolds_written {s : State} {n : Nat} (hn : n < 4096) (h : s.logHolds) :
    ({ s with rep := { s.rep with writtenHead := n } } : State).logHolds := by
  obtain ⟨hhead, _, hrest⟩ := h
  exact ⟨hhead, hn, hrest⟩

theorem State.logHolds_shot {s : State} {x : Option LogShot} (hx : ∀ h, x = some (.headImage h) → h < 4096) (h : s.logHolds) :
    ({ s with rep := { s.rep with logShot := x } } : State).logHolds := by
  obtain ⟨hhead, hwritten, htail, hcfg, hcompleted, himage, hheld, _, hload⟩ := h
  cases x with
  | none => exact ⟨hhead, hwritten, htail, hcfg, hcompleted, himage, hheld, trivial, hload⟩
  | some x =>
    cases x with
    | completed => exact ⟨hhead, hwritten, htail, hcfg, hcompleted, himage, hheld, trivial, hload⟩
    | headImage n => exact ⟨hhead, hwritten, htail, hcfg, hcompleted, himage, hheld, hx n rfl, hload⟩

/-- The head a head image carries is a slot of the log. -/
theorem State.logHolds_shot_lt {s : State} {n : Nat} (h : s.logHolds) (hs : s.rep.logShot = some (.headImage n)) : n < 4096 := by
  obtain ⟨_, _, _, _, _, _, _, hshot, _⟩ := h
  rw [hs] at hshot
  exact hshot

theorem State.logHolds_completed {s : State} {x : Nat × List Finding} {rest : List (Nat × List Finding)}
    (hs : s.rep.completed = x :: rest) (h : s.logHolds) :
    ({ s with rep := { s.rep with completed := rest } } : State).logHolds := by
  obtain ⟨hhead, hwritten, htail, hcfg, hcompleted, hmore⟩ := h
  refine ⟨hhead, hwritten, htail, hcfg, fun y hy => hcompleted y ?_, hmore⟩
  rw [hs]
  exact List.mem_cons_of_mem _ hy

theorem Report.logLost_fields (r : Report) (c : Settings) :
    logView r.logLost c = { logView r c with shot := none } := by
  unfold Report.logLost
  split
  · split <;> rfl
  · rfl

theorem Calm.logLost {s τ : State} (h : Calm s τ) : Calm s { τ with rep := τ.rep.logLost } := by
  refine h.withLog τ.rep.logLost τ.cfg fun hl => ?_
  have hnone : ({ τ with rep := { τ.rep with logShot := none } } : State).logHolds := State.logHolds_shot (fun _ => nofun) hl
  exact State.logHolds_congr (s := { τ with rep := { τ.rep with logShot := none } }) (Report.logLost_fields τ.rep τ.cfg) rfl rfl hnone

/-- The write in flight is over, and the head follows what it carried. -/
theorem Calm.logGood {s : State} (shot : LogShot) (hshot : s.rep.logShot = some shot) :
    Calm s (({ s with rep := { s.rep with logShot := none } } : State).logGood shot) := by
  unfold State.logGood
  split
  · split
    · exact (Calm.refl s).withLog _ s.cfg (State.logHolds_shot fun _ => nofun)
    · rename_i b _ rest hs
      refine Calm.recordLog ((Calm.refl s).withLog _ s.cfg fun hl => ?_)
      have hnone : ({ s with rep := { s.rep with logShot := none } } : State).logHolds := State.logHolds_shot (fun _ => nofun) hl
      exact State.logHolds_written (Nat.mod_lt _ (by decide)) (State.logHolds_completed hs hnone)
  · rename_i n
    have hset : Calm s { s with rep := { { s.rep with logShot := none } with writtenHead := n } } := by
      refine (Calm.refl s).withLog _ s.cfg fun hl => ?_
      have hnone : ({ s with rep := { s.rep with logShot := none } } : State).logHolds := State.logHolds_shot (fun _ => nofun) hl
      exact State.logHolds_written (State.logHolds_shot_lt hl hshot) hnone
    dsimp only
    split
    · exact hset.recordLog
    · exact hset

theorem Calm.logEnded {s τ : State} (h : Calm s τ) (good : Bool) : Calm s (τ.logEnded good) := by
  unfold State.logEnded
  split
  case h_1 => exact h
  case h_2 shot hshot =>
    split
    · exact (h.trans (Calm.logGood shot hshot)).resumeLog.pumpLog
    · exact h.logLost.pumpLog

theorem Calm.logCatalogue {s τ : State} (h : Calm s τ) (kind : FindingKind) (b : Fin 17) :
    Calm s (τ.logCatalogue kind b) := by
  unfold State.logCatalogue
  dsimp only
  repeat'
    first
    | with_reducible assumption | with_reducible apply Calm.log

theorem Calm.catalogueEnded {s τ : State} (h : Calm s τ) (b : Fin 17) (e : MediaEnd) :
    Calm s (τ.catalogueEnded b e) := by
  unfold State.catalogueEnded
  dsimp only
  repeat'
    first
    | with_reducible assumption | with_reducible apply Calm.logCatalogue | with_reducible apply Calm.flushBlock
    | with_reducible apply Calm.queueCat | with_reducible apply Calm.setCat
    | fail_if_no_progress with_reducible refine Calm.lit ?_ rfl rfl rfl rfl rfl rfl rfl rfl | split


end Sys2Proof.Machine

/-!
PROOFS. `Calm` through the switch, the links, the grants and the directives (Machine/Switch.lean, Links.lean, Grant.lean,
DirectiveOps.lean), where the head request and the slots are not spoken to.
-/

namespace Sys2Proof.Machine


/-! ### The switch -/

theorem State.findAccum_none {s : State} {mode : AccumMode} {k : FrameKey} (h : s.findAccum mode k = none) {q : Fin 32}
    {a : Accum} (ha : s.accum q = some a) (hm : a.mode = mode) : a.key ≠ k := by
  intro hk
  have hall := List.find?_eq_none.mp h q (List.mem_finRange q)
  simp [ha, hm, hk] at hall

theorem State.freeTraffic_lt {s : State} {p : Fin 32} (h : s.freeTraffic? = some p) : p.val < 30 := by
  have hp := List.find?_some h
  simp only [Bool.and_eq_true, decide_eq_true_eq] at hp
  exact hp.1

theorem State.findAccum_congr {s t : State} (h : t.pool = s.pool) (mode : AccumMode) (k : FrameKey) :
    t.findAccum mode k = s.findAccum mode k := by
  unfold State.findAccum
  simp only [State.accum_congr h]

/-- An accumulator opened at a traffic position, of a frame copy that had none in its mode. -/
theorem Calm.openTraffic {s τ : State} (h : Calm s τ) {p : Fin 32} {mode : AccumMode} {k : FrameKey} (line : Option (Fin 64))
    (hp : p.val < 30) (hm : mode = .check ∨ mode = .seal) (hnew : τ.findAccum mode k = none) :
    Calm s (τ.openAccum p mode k line) := by
  refine h.openAccum p mode k line ?_ fun _ q _ a ha => State.findAccum_none hnew ha
  have hscrub : p ≠ scrubPos := fun he => absurd (he ▸ hp) (by decide)
  have hmend : p ≠ mendPos := fun he => absurd (he ▸ hp) (by decide)
  obtain rfl | rfl := hm <;> simp [hscrub, hmend]

theorem Calm.offerCheck {s τ : State} (h : Calm s τ) (i : Fin 256) (t : Touched) : Calm s (τ.offerCheck i t) := by
  unfold State.offerCheck
  dsimp only
  split
  · exact h
  · split
    · exact h.joinRead _ i t
    · rename_i hfind
      split
      · exact h
      · rename_i p hfree
        have hline := h.requestLineNow ((τ.extent t.key.extent).digestBlock t.key.frame) t.key.extent
        split
        · exact hline
        · rename_i l _
          have hopen := (hline.openTraffic (some l) (State.freeTraffic_lt hfree) (.inl rfl)
            ((State.findAccum_congr (State.requestLineNow_pool τ _ _) .check t.key).trans hfind)).joinRead p i t
          split
          · split
            · exact hopen
            · exact hopen
            · exact (hline.unpin l).foundMending t.key
            · exact hline.unpin l
          · exact hopen

theorem Calm.offerSeal {s τ : State} (h : Calm s τ) (i : Fin 256) (data : List Byte) (t : Touched) :
    Calm s (τ.offerSeal i data t) := by
  unfold State.offerSeal
  split
  · exact h.joinSeal _ i t data
  · rename_i hfind
    split
    · rename_i p l hfree _
      exact ((h.pin l).openTraffic _ (State.freeTraffic_lt hfree) (.inr rfl)
        ((State.findAccum_congr (State.pin_pool τ l) .seal t.key).trans hfind)).joinSeal p i t data
    · rename_i p hfree _
      exact (h.openTraffic _ (State.freeTraffic_lt hfree) (.inr rfl) hfind).joinSeal p i t data
    · exact h

theorem Calm.acceptCopy {s τ : State} (h : Calm s τ) (k : FrameKey) : Calm s (τ.acceptCopy k) := by
  unfold State.acceptCopy
  repeat'
    first
    | with_reducible assumption | with_reducible apply Calm.tell

theorem Calm.logRefused {s τ : State} (h : Calm s τ) (r : Request) (block : Nat) : Calm s (τ.logRefused r block) := by
  unfold State.logRefused
  repeat'
    first
    | with_reducible assumption | with_reducible apply Calm.log

theorem Calm.addPin {s τ : State} (h : Calm s τ) (i : Fin 256) (l : Fin 64) : Calm s (τ.addPin i l) := by
  unfold State.addPin
  repeat'
    first
    | with_reducible assumption | with_reducible apply Calm.setSlot | exact (.inl ⟨rfl, rfl⟩)

theorem Calm.askWriteLine {s τ : State} (h : Calm s τ) (i : Fin 256) (b : Nat × Fin 1024) :
    Calm s (τ.askWriteLine i b) := by
  unfold State.askWriteLine
  dsimp only
  repeat'
    first
    | with_reducible assumption | with_reducible apply Calm.addPin | with_reducible apply Calm.requestLine
    | fail_if_no_progress with_reducible refine Calm.lit ?_ rfl rfl rfl rfl rfl rfl rfl rfl | split

theorem Calm.queueRead {s τ : State} (h : Calm s τ) (b : Fin 17) : Calm s (τ.queueRead b) := by
  unfold State.queueRead
  repeat'
    first
    | with_reducible assumption | with_reducible apply Calm.enqueue

theorem Calm.queueBlank {s τ : State} (h : Calm s τ) (b : Fin 17) : Calm s (τ.queueBlank b) := by
  unfold State.queueBlank
  repeat'
    first
    | with_reducible assumption | with_reducible apply Calm.enqueue

theorem Calm.takeRestart {s τ : State} (h : Calm s τ) (repeatOn : Bool) : Calm s (τ.takeRestart repeatOn) := by
  unfold State.takeRestart
  repeat'
    first
    | with_reducible assumption
    | fail_if_no_progress with_reducible refine Calm.lit ?_ rfl rfl rfl rfl rfl rfl rfl rfl

theorem Calm.batchAtFault {s τ : State} (h : Calm s τ) : Calm s (τ.batchAtFault) := by
  unfold State.batchAtFault
  repeat'
    first
    | with_reducible assumption | with_reducible apply Calm.handBatch
    | fail_if_no_progress with_reducible refine Calm.lit ?_ rfl rfl rfl rfl rfl rfl rfl rfl | split

theorem Calm.releaseAtFault {s τ : State} (h : Calm s τ) (i : Fin 256) : Calm s (τ.releaseAtFault i) := by
  unfold State.releaseAtFault
  dsimp only
  repeat'
    first
    | with_reducible assumption | with_reducible apply Calm.endSlot
    | fail_if_no_progress with_reducible refine Calm.lit ?_ rfl rfl rfl rfl rfl rfl rfl rfl | split

theorem Calm.faultUnit {s τ : State} (h : Calm s τ) : Calm s (τ.faultUnit) := by
  unfold State.faultUnit
  repeat'
    first
    | with_reducible assumption
    | fail_if_no_progress with_reducible refine Calm.lit ?_ rfl rfl rfl rfl rfl rfl rfl rfl


/-! ### The links -/

theorem Calm.cutWriteback {s τ : State} (h : Calm s τ) (l : Fin 64) : Calm s (τ.cutWriteback l) := by
  unfold State.cutWriteback
  dsimp only
  split
  · rename_i hwrites
    have hne := LineState.writes_ne_invalid hwrites
    have hset := h.setLine l { (τ.line l).writeEnded with cut := true, victim := (τ.line l).victim } fun _ => ⟨hne, rfl⟩
    exact (hset.becomeDirty l (by simpa [Line.writeEnded] using hne)).flushCutLine l
  · exact h

theorem Calm.cutCatalogue {s τ : State} (h : Calm s τ) (b : Fin 17) : Calm s (τ.cutCatalogue b) := by
  unfold State.cutCatalogue
  repeat'
    first
    | with_reducible assumption | with_reducible apply Calm.flushCutBlock | with_reducible apply Calm.setCat

theorem Calm.cutStatus {s τ : State} (h : Calm s τ) : Calm s (τ.cutStatus) := by
  unfold State.cutStatus
  repeat'
    first
    | with_reducible assumption | with_reducible apply Calm.statusDue
    | fail_if_no_progress with_reducible refine Calm.lit ?_ rfl rfl rfl rfl rfl rfl rfl rfl


theorem Calm.cutLog {s τ : State} (h : Calm s τ) : Calm s τ.cutLog := h.logLost

theorem Calm.requeueCut {s τ : State} (h : Calm s τ) : Calm s (τ.requeueCut) := by
  unfold State.requeueCut
  dsimp only
  repeat'
    first
    | with_reducible assumption | with_reducible apply Calm.queueWriteback | with_reducible apply Calm.pumpLog
    | with_reducible apply Calm.pumpStatus | with_reducible apply Calm.queueCat | with_reducible apply Calm.setCat
    | with_reducible apply Calm.setLine | exact (fun hx => ⟨hx, rfl⟩) | exact (fun hx => absurd rfl hx)
    | (intro _ _ _; try dsimp only) | with_reducible apply Calm.forEach
    | fail_if_no_progress with_reducible refine Calm.lit ?_ rfl rfl rfl rfl rfl rfl rfl rfl | split

theorem Calm.ownerLinkDown {s τ : State} (h : Calm s τ) (o : Owner) : Calm s (τ.ownerLinkDown o) := by
  unfold State.ownerLinkDown
  repeat'
    first
    | with_reducible assumption | with_reducible apply Calm.cutLog | with_reducible apply Calm.cutStatus
    | with_reducible apply Calm.cutCatalogue | with_reducible apply Calm.cutWriteback
    | with_reducible apply Calm.queueBlank | with_reducible apply Calm.queueRead | with_reducible apply Calm.log
    | fail_if_no_progress with_reducible refine Calm.lit ?_ rfl rfl rfl rfl rfl rfl rfl rfl | split


theorem Calm.unhold {s τ : State} (h : Calm s τ) (i : Fin 256) : Calm s (τ.unhold i) := h.mapPool _ fun _ => ⟨rfl, rfl⟩

theorem Calm.cutWalk {s τ : State} (h : Calm s τ) : Calm s (τ.cutWalk) := by
  unfold State.cutWalk
  repeat'
    first
    | with_reducible assumption | with_reducible apply Calm.clearWalk | with_reducible apply Calm.setWalk
    | with_reducible apply Calm.abandon
    | fail_if_no_progress with_reducible refine Calm.lit ?_ rfl rfl rfl rfl rfl rfl rfl rfl | split

theorem Calm.mediaBack {s τ : State} (h : Calm s τ) : Calm s (τ.mediaBack) := by
  unfold State.mediaBack
  dsimp only
  repeat'
    first
    | with_reducible assumption | with_reducible apply Calm.requeueCut | with_reducible apply Calm.uncutMend
    | with_reducible apply Calm.walkRun | with_reducible apply Calm.setWalk
    | fail_if_no_progress with_reducible refine Calm.lit ?_ rfl rfl rfl rfl rfl rfl rfl rfl | split


theorem Line.atReset_of_not_filling {x : Line} (h : x.state ≠ .filling) :
    x.atReset.state = x.state ∧ x.atReset.tag = x.tag := by
  unfold Line.atReset
  rw [if_neg h]
  exact ⟨rfl, rfl⟩

theorem Calm.lineReset {s τ : State} (h : Calm s τ) (l : Fin 64) : Calm s (τ.lineReset l) := by
  have hset : (τ.line l).state ≠ .filling → Calm s (τ.setLine l (τ.line l).atReset) := fun hne => by
    obtain ⟨hstate, htag⟩ := Line.atReset_of_not_filling hne
    exact h.setLine l _ fun hx => ⟨hstate ▸ hx, htag⟩
  unfold State.lineReset
  dsimp only
  split
  case h_1 =>
    have hblank := h.setLine l Line.blank (fun hx => absurd rfl hx)
    exact hblank.lit rfl rfl rfl rfl rfl rfl rfl rfl
  case h_2 hs => exact (hset (by simp [hs])).cutWriteback l
  case h_3 hs => exact (hset (by simp [hs])).cutWriteback l
  case h_4 hne _ _ => exact hset hne

theorem Calm.storeReset {s τ : State} (h : Calm s τ) : Calm s (τ.storeReset) := by
  unfold State.storeReset
  dsimp only
  repeat'
    first
    | with_reducible assumption | with_reducible apply Calm.lineReset | with_reducible apply Calm.withdraw
    | (intro _ _ _; try dsimp only) | with_reducible apply Calm.forEach
    | fail_if_no_progress with_reducible refine Calm.lit ?_ rfl rfl rfl rfl rfl rfl rfl rfl

theorem Calm.walkReset {s τ : State} (h : Calm s τ) (fillCut : Bool) : Calm s (τ.walkReset fillCut) := by
  unfold State.walkReset
  dsimp only
  repeat'
    first
    | with_reducible assumption | with_reducible apply Calm.auditAnswer | with_reducible apply Calm.skipBlock
    | with_reducible apply Calm.walkRun | with_reducible apply Calm.clearWalk | with_reducible apply Calm.setWalk
    | fail_if_no_progress with_reducible refine Calm.lit ?_ rfl rfl rfl rfl rfl rfl rfl rfl | split

theorem Calm.ownerReset {s τ : State} (h : Calm s τ) (o : Owner) : Calm s (τ.ownerReset o) := by
  unfold State.ownerReset
  repeat'
    first
    | with_reducible assumption | with_reducible apply Calm.cutLog | with_reducible apply Calm.cutStatus
    | with_reducible apply Calm.cutCatalogue | with_reducible apply Calm.queueBlank
    | with_reducible apply Calm.queueRead | with_reducible apply Calm.log
    | fail_if_no_progress with_reducible refine Calm.lit ?_ rfl rfl rfl rfl rfl rfl rfl rfl | split

theorem Calm.cutFrame {s τ : State} (h : Calm s τ) : Calm s (τ.cutFrame) := by
  unfold State.cutFrame
  repeat'
    first
    | with_reducible assumption | with_reducible apply Calm.setAsk | with_reducible apply Calm.answerFrame
    | fail_if_no_progress with_reducible refine Calm.lit ?_ rfl rfl rfl rfl rfl rfl rfl rfl | split

theorem Calm.cutBatch {s τ : State} (h : Calm s τ) (bytes : Nat) : Calm s (τ.cutBatch bytes) := by
  unfold State.cutBatch
  repeat'
    first
    | with_reducible assumption | with_reducible apply Calm.cutFrame | with_reducible apply Calm.tryEndBatch
    | with_reducible apply Calm.setBatch
    | fail_if_no_progress with_reducible refine Calm.lit ?_ rfl rfl rfl rfl rfl rfl rfl rfl | split


/-! ### The grants -/

theorem Calm.grantLog {s τ : State} (h : Calm s τ) : Calm s (τ.grantLog).1 := by
  unfold State.grantLog
  dsimp only
  split
  · exact h.withLog _ τ.cfg fun hl => State.logHolds_shot (fun _ => nofun) hl
  · have hshot : Calm s { τ with rep := { τ.rep with logShot := some (.headImage τ.rep.head) } } :=
      h.withLog _ τ.cfg fun hl => State.logHolds_shot (fun n hn => by cases hn; exact hl.1) hl
    exact hshot.lit rfl rfl rfl rfl rfl rfl rfl rfl

theorem Calm.beginWrite {s τ : State} (h : Calm s τ) (l : Fin 64) : Calm s (τ.beginWrite l) := by
  unfold State.beginWrite
  split
  · rename_i hdirty
    refine (h.setLine l { τ.line l with state := .writing, dirtyTimer := none, cut := false } fun _ => ?_).leaveDirty l
    exact ⟨by simp [hdirty], rfl⟩
  · exact h

theorem Calm.grantWriteback {s τ : State} (h : Calm s τ) (l : Fin 64) : Calm s (τ.grantWriteback l).1 := by
  unfold State.grantWriteback
  dsimp only
  split
  · exact h.beginWrite l
  · exact (h.beginWrite l).setWalk _

/-- An accumulator of a dedicated position opened there, which is then the only one of its mode. -/
theorem Calm.openDedicated {s τ : State} (h : Calm s τ) {p : Fin 32} {mode : AccumMode} (k : FrameKey) (line : Option (Fin 64))
    (hp : (mode = .scrub ∧ p = scrubPos) ∨ (mode = .mend ∧ p = mendPos)) : Calm s (τ.openAccum p mode k line) := by
  refine h.openAccum p mode k line ?_ fun hapart q hq a ha hm => ?_
  · obtain ⟨rfl, rfl⟩ | ⟨rfl, rfl⟩ := hp <;> decide
  · obtain ⟨hscrub, hmend⟩ := hapart.1 q a ha
    obtain ⟨rfl, rfl⟩ | ⟨rfl, rfl⟩ := hp
    · exact absurd (hscrub.mp hm) hq
    · exact absurd (hmend.mp hm) hq

theorem Calm.nameCopy {s τ : State} (h : Calm s τ) {p : Fin 32} {mode : AccumMode} (k : FrameKey) (line : Option (Fin 64))
    (hp : (mode = .scrub ∧ p = scrubPos) ∨ (mode = .mend ∧ p = mendPos)) : Calm s (τ.nameCopy p mode k line) := by
  unfold State.nameCopy
  cases line with
  | none =>
    dsimp only
    split
    · exact h.openDedicated k none hp
    · split
      · exact h
      · exact (h.abandon p).openDedicated k none hp
  | some l =>
    dsimp only
    split
    · exact (h.pin l).openDedicated k _ hp
    · split
      · exact h
      · exact ((h.abandon p).pin l).openDedicated k _ hp

theorem Calm.grantWalk {s τ : State} (h : Calm s τ) (i : Fin 256) (k : FrameKey) (j count : Nat) :
    Calm s (τ.grantWalk i k j count) := by
  unfold State.grantWalk
  split
  · exact h
  · exact ((h.setWalk _).nameCopy k _ (.inl ⟨rfl, rfl⟩)).joinRead scrubPos i _

theorem Calm.grantMendRead {s τ : State} (h : Calm s τ) (i : Fin 256) (j count : Nat) :
    Calm s (τ.grantMendRead i j count) := by
  unfold State.grantMendRead
  dsimp only
  split
  · exact h
  · split
    · exact h
    · exact (h.nameCopy _ _ (.inr ⟨rfl, rfl⟩)).joinRead mendPos i _

theorem Calm.grantMendWrite {s τ : State} (h : Calm s τ) : Calm s (τ.grantMendWrite).1 := by
  unfold State.grantMendWrite
  repeat'
    first
    | with_reducible assumption | with_reducible apply Calm.feedMend | with_reducible apply Calm.setMend
    | fail_if_no_progress with_reducible refine Calm.lit ?_ rfl rfl rfl rfl rfl rfl rfl rfl | split

theorem Calm.lineGranted {s τ : State} (h : Calm s τ) (user : LineUser) (l : Fin 64) :
    Calm s (τ.lineGranted user l) := by
  unfold State.lineGranted
  repeat'
    first
    | with_reducible assumption | with_reducible apply Calm.addPin | with_reducible apply Calm.frameGotLine
    | with_reducible apply Calm.mendGotLine | with_reducible apply Calm.walkRun | with_reducible apply Calm.setWalk
    | with_reducible apply Calm.unpin
    | fail_if_no_progress with_reducible refine Calm.lit ?_ rfl rfl rfl rfl rfl rfl rfl rfl | split


theorem Calm.grantLine {s τ u : State} (h : Calm s τ) (hu : τ.grantLine = some u) : Calm s u := by
  unfold State.grantLine at hu
  split at hu
  · rename_i r rest v _ _
    have hrest : Calm s { τ with store := { τ.store with queue := rest } } := h.lit rfl rfl rfl rfl rfl rfl rfl rfl
    dsimp only at hu
    split at hu
    · cases hu
      exact (hrest.pin _).lineGranted _ _
    · rename_i hfind
      cases hu
      exact (hrest.takeLine v r.tag r.extent r.fresh hfind).lineGranted _ _
  · cases hu

theorem Calm.grantLines {s : State} : ∀ (n : Nat) {τ : State}, Calm s τ → Calm s (State.grantLines n τ)
  | 0, _, h => h
  | n + 1, τ, h => by
    unfold State.grantLines
    split
    · exact h
    · rename_i u hu
      exact Calm.grantLines n (h.grantLine hu)


theorem Calm.losePins {s τ : State} (h : Calm s τ) (l : Fin 64) : Calm s (τ.losePins l) := by
  have hslots := h.mapSlots (fun x => { x with pins := x.pins.filter fun k => decide (k ≠ l) }) fun _ => .inl ⟨rfl, rfl⟩
  have hpool := hslots.mapPool (fun a => { a with line := if a.line = some l then none else a.line }) fun _ => ⟨rfl, rfl⟩
  exact hpool.lit rfl rfl rfl rfl rfl rfl rfl rfl

theorem Calm.dropLine {s τ : State} (h : Calm s τ) (l : Fin 64) : Calm s (τ.dropLine l) := by
  unfold State.dropLine
  dsimp only
  repeat'
    first
    | with_reducible assumption | with_reducible apply Calm.losePins | with_reducible apply Calm.failWaiting
    | with_reducible apply Calm.flushDrop | with_reducible apply Calm.leaveDirty
    | with_reducible apply Calm.killOutstanding | with_reducible apply Calm.withdraw
    | with_reducible apply Calm.setLine | exact (fun hx => ⟨hx, rfl⟩) | exact (fun hx => absurd rfl hx)
    | fail_if_no_progress with_reducible refine Calm.lit ?_ rfl rfl rfl rfl rfl rfl rfl rfl

theorem Calm.dropExtent {s τ : State} (h : Calm s τ) (e : Fin 1024) : Calm s (τ.dropExtent e) := by
  unfold State.dropExtent
  dsimp only
  repeat'
    first
    | with_reducible assumption | with_reducible apply Calm.dropLine | (intro _ _ _; try dsimp only)
    | with_reducible apply Calm.forEach
    | fail_if_no_progress with_reducible refine Calm.lit ?_ rfl rfl rfl rfl rfl rfl rfl rfl | split


/-! ### The timers and the directives -/

theorem Calm.tickTimers {s τ : State} (h : Calm s τ) : Calm s τ.tickTimers := by
  have hslots := h.mapSlots (fun x => { x with timer := tick? x.timer }) fun _ => .inl ⟨rfl, rfl⟩
  have hpool := hslots.mapPool (fun a => { a with idle := tick? a.idle }) fun _ => ⟨rfl, rfl⟩
  have hlines := hpool.mapLines (fun x => { x with dirtyTimer := tick? x.dirtyTimer }) fun _ => ⟨rfl, rfl⟩
  exact hlines.lit rfl rfl rfl rfl rfl rfl rfl rfl

theorem Calm.restExpires {s τ : State} (h : Calm s τ) : Calm s (τ.restExpires) := by
  unfold State.restExpires
  dsimp only
  repeat'
    first
    | with_reducible assumption | with_reducible apply Calm.walkRun | with_reducible apply Calm.nextWalk
    | fail_if_no_progress with_reducible refine Calm.lit ?_ rfl rfl rfl rfl rfl rfl rfl rfl | split

theorem Calm.setExtentState {s τ : State} (h : Calm s τ) (n : Fin 1024) (st : ExtentState) :
    Calm s (τ.setExtentState n st) := by
  unfold State.setExtentState
  repeat'
    first
    | with_reducible assumption | with_reducible apply Calm.changeExtent

theorem Calm.sealEffect {s τ : State} (h : Calm s τ) (extent : Nat) : Calm s (sealEffect extent τ).1 := by
  unfold Sys2Proof.Machine.sealEffect
  repeat'
    first
    | with_reducible assumption | with_reducible apply Calm.setExtentState | with_reducible apply Calm.startWalk
    | fail_if_no_progress with_reducible refine Calm.lit ?_ rfl rfl rfl rfl rfl rfl rfl rfl | split

theorem Calm.leaveSealed {s τ : State} (h : Calm s τ) (n : Fin 1024) : Calm s (τ.leaveSealed n) := by
  unfold State.leaveSealed
  dsimp only
  repeat'
    first
    | with_reducible assumption | with_reducible apply Calm.walkRun | with_reducible apply Calm.skipRest
    | fail_if_no_progress with_reducible refine Calm.lit ?_ rfl rfl rfl rfl rfl rfl rfl rfl | split

theorem Calm.openNow {s τ : State} (h : Calm s τ) (n : Fin 1024) : Calm s (τ.openNow n) := by
  unfold State.openNow
  dsimp only
  repeat'
    first
    | with_reducible assumption | with_reducible apply Calm.setExtentState | with_reducible apply Calm.leaveSealed
    | with_reducible apply Calm.abandonAll

theorem Calm.openEffect {s τ : State} (h : Calm s τ) (extent : Nat) : Calm s (openEffect extent τ).1 := by
  unfold Sys2Proof.Machine.openEffect
  repeat'
    first
    | with_reducible assumption | with_reducible apply Calm.openNow
    | fail_if_no_progress with_reducible refine Calm.lit ?_ rfl rfl rfl rfl rfl rfl rfl rfl | split

theorem Calm.resealEffect {s τ : State} (h : Calm s τ) (extent frame source : Nat) :
    Calm s (resealEffect extent frame source τ).1 := by
  unfold Sys2Proof.Machine.resealEffect
  dsimp only
  repeat'
    first
    | with_reducible assumption | with_reducible apply Calm.startWalk
    | fail_if_no_progress with_reducible refine Calm.lit ?_ rfl rfl rfl rfl rfl rfl rfl rfl | split

theorem Calm.checkEffect {s τ : State} (h : Calm s τ) (extent first last override : Nat) :
    Calm s (checkEffect extent first last override τ).1 := by
  unfold Sys2Proof.Machine.checkEffect
  dsimp only
  repeat'
    first
    | with_reducible assumption | with_reducible apply Calm.startWalk
    | fail_if_no_progress with_reducible refine Calm.lit ?_ rfl rfl rfl rfl rfl rfl rfl rfl | split

theorem Calm.startPassNow {s τ : State} (h : Calm s τ) (depth : Depth) : Calm s (τ.startPassNow depth) := by
  unfold State.startPassNow
  dsimp only
  repeat'
    first
    | with_reducible assumption | with_reducible apply Calm.startWalk | with_reducible apply Calm.createPass
    | fail_if_no_progress with_reducible refine Calm.lit ?_ rfl rfl rfl rfl rfl rfl rfl rfl

theorem Calm.startPassEffect {s τ : State} (h : Calm s τ) (override : Nat) : Calm s (startPassEffect override τ).1 := by
  unfold Sys2Proof.Machine.startPassEffect
  repeat'
    first
    | with_reducible assumption | with_reducible apply Calm.startPassNow
    | fail_if_no_progress with_reducible refine Calm.lit ?_ rfl rfl rfl rfl rfl rfl rfl rfl | split

theorem Calm.suspendEffect {s τ : State} (h : Calm s τ) : Calm s (suspendEffect τ).1 := by
  unfold Sys2Proof.Machine.suspendEffect
  repeat'
    first
    | with_reducible assumption | with_reducible apply Calm.stopWalk | with_reducible apply Calm.setWalk
    | fail_if_no_progress with_reducible refine Calm.lit ?_ rfl rfl rfl rfl rfl rfl rfl rfl | split

theorem Calm.resumeEffect {s τ : State} (h : Calm s τ) : Calm s (resumeEffect τ).1 := by
  unfold Sys2Proof.Machine.resumeEffect
  repeat'
    first
    | with_reducible assumption | with_reducible apply Calm.walkRun | with_reducible apply Calm.setWalk
    | fail_if_no_progress with_reducible refine Calm.lit ?_ rfl rfl rfl rfl rfl rfl rfl rfl | split

theorem Calm.selectWindowEffect {s τ : State} (h : Calm s τ) (selection extent : Nat) :
    Calm s (selectWindowEffect selection extent τ).1 := by
  unfold Sys2Proof.Machine.selectWindowEffect
  dsimp only
  repeat'
    first
    | with_reducible assumption
    | fail_if_no_progress with_reducible refine Calm.lit ?_ rfl rfl rfl rfl rfl rfl rfl rfl | split

theorem Calm.flushTakeLine {s τ : State} (h : Calm s τ) (l : Fin 64) : Calm s (τ.flushTakeLine l).1 := by
  unfold State.flushTakeLine
  dsimp only
  repeat'
    first
    | with_reducible assumption | with_reducible apply Calm.queueWriteback | with_reducible apply Calm.setLine
    | exact (fun hx => ⟨hx, rfl⟩) | exact (fun hx => absurd rfl hx)
    | fail_if_no_progress with_reducible refine Calm.lit ?_ rfl rfl rfl rfl rfl rfl rfl rfl | split

theorem Calm.flushTakeBlock {s τ : State} (h : Calm s τ) (b : Fin 17) : Calm s (τ.flushTakeBlock b).1 := by
  unfold State.flushTakeBlock
  dsimp only
  repeat'
    first
    | with_reducible assumption | with_reducible apply Calm.queueCat | with_reducible apply Calm.setCat
    | fail_if_no_progress with_reducible refine Calm.lit ?_ rfl rfl rfl rfl rfl rfl rfl rfl | split


theorem Calm.gather {α β : Type} {s : State} (f : State → α → State × List β) (hf : ∀ x u, Calm s u → Calm s (f u x).1) :
    ∀ (xs : List α) {τ : State}, Calm s τ → Calm s (gather f xs τ).1
  | [], _, h => h
  | x :: xs, _, h => Calm.gather f hf xs (hf x _ h)

theorem Calm.flushEffect {s τ : State} (h : Calm s τ) : Calm s (flushEffect τ).1 := by
  unfold Sys2Proof.Machine.flushEffect
  dsimp only
  split
  · exact h
  · have hlines := Calm.gather State.flushTakeLine (fun l u hu => hu.flushTakeLine l) (allFin 64) h
    generalize Sys2Proof.Machine.gather State.flushTakeLine (allFin 64) τ = a at hlines ⊢
    have hblocks := Calm.gather State.flushTakeBlock (fun b u hu => hu.flushTakeBlock b) (allFin 17) hlines
    dsimp only
    exact Calm.tryEndFlush (hblocks.lit rfl rfl rfl rfl rfl rfl rfl rfl)

theorem Calm.mendFrameRecord {s τ : State} (h : Calm s τ) (extent frame target : Nat) :
    Calm s (τ.mendFrameRecord extent frame target) := by
  unfold State.mendFrameRecord
  repeat'
    first
    | with_reducible assumption | with_reducible apply Calm.frameAsk | with_reducible apply Calm.addResult
    | fail_if_no_progress with_reducible refine Calm.lit ?_ rfl rfl rfl rfl rfl rfl rfl rfl | split


end Sys2Proof.Machine

/-!
PROOFS. `Safe` and `Sound`: what a step has to carry over, invariant by invariant, so that an operation which changes the head
request or a slot's life state is spoken of too. The budgets of the in-flight table are counted here.
-/

namespace Sys2Proof.Machine

/-! ### Counting slots -/

theorem State.countSlots_eq (s : State) (p : Slot → Bool) : s.countSlots p = (allFin 256).countP fun i => p (s.slot i) := by
  have hlist : s.slots.toList = (allFin 256).map s.slot := by
    refine List.ext_getElem (by simp [allFin]) fun i hi hj => ?_
    simp [allFin, State.slot]
  rw [State.countSlots, hlist, List.countP_map]
  rfl

theorem State.countSlots_mono {s t : State} {p : Slot → Bool} (h : ∀ i, p (t.slot i) = true → p (s.slot i) = true) :
    t.countSlots p ≤ s.countSlots p := by
  rw [State.countSlots_eq, State.countSlots_eq]
  exact List.countP_mono_left fun i _ => h i

theorem countP_le_add_one {α : Type} [DecidableEq α] {p q : α → Bool} {x : α} (h : ∀ y, y ≠ x → q y = true → p y = true) :
    ∀ {l : List α}, l.Nodup → l.countP q ≤ l.countP p + 1
  | [], _ => Nat.zero_le _
  | y :: l, hn => by
    obtain ⟨hy, hl⟩ := List.nodup_cons.mp hn
    by_cases hyx : y = x
    · have htail : l.countP q ≤ l.countP p := List.countP_mono_left fun z hz hq => h z (fun hzx => hy (hyx ▸ hzx ▸ hz)) hq
      rw [List.countP_cons, List.countP_cons]
      split <;> split <;> omega
    · have htail := countP_le_add_one h hl
      rw [List.countP_cons, List.countP_cons]
      by_cases hq : q y = true
      · rw [if_pos hq, if_pos (h y hyx hq)]
        omega
      · rw [if_neg hq]
        omega

/-- One slot more at most passes the test where one slot alone was written. -/
theorem State.countSlots_le_add_one {s t : State} {p : Slot → Bool} (i : Fin 256) (h : ∀ j, j ≠ i → t.slot j = s.slot j) :
    t.countSlots p ≤ s.countSlots p + 1 := by
  rw [State.countSlots_eq, State.countSlots_eq]
  exact countP_le_add_one (x := i) (fun j hj hp => h j hj ▸ hp) (List.nodup_finRange 256)

theorem State.freeSlot_free {s : State} {i : Fin 256} (h : s.freeSlot? = some i) : (s.slot i).life = .free := by
  have hi := List.find?_some h
  simpa using hi

theorem State.passSlot_free {s : State} {i : Fin 256} (h : s.passSlot? = some i) :
    (s.slot i).life = .free ∧ s.countSlots Slot.countsPass < 240 := by
  unfold State.passSlot? at h
  split at h
  · rename_i hlt
    exact ⟨State.freeSlot_free h, hlt⟩
  · cases h

theorem State.injSlot_free {s : State} {i : Fin 256} (h : s.injSlot? = some i) :
    (s.slot i).life = .free ∧ s.countSlots Slot.countsInjected < 64 := by
  unfold State.injSlot? at h
  split at h
  · rename_i hlt
    exact ⟨State.freeSlot_free h, Nat.lt_of_lt_of_le hlt (Nat.min_le_left _ _)⟩
  · cases h

/-! ### The budgets and the head's slot -/

/-- The head request waits with no slot but one ASSIGNED to it (R90). -/
def State.headHolds (s : State) : Prop :=
  ∀ h ∈ s.up.head, ∀ i, h.waitsWith i = true → (s.slot i).life = .assigned ∧ (s.slot i).kind.isPass = true

/-- No head request waits with the slot. -/
def State.unwaited (s : State) (i : Fin 256) : Prop := ∀ h ∈ s.up.head, h.waitsWith i = false

theorem State.unwaited_of_life {s : State} {i : Fin 256} (h : s.slotsHold) (hi : (s.slot i).life ≠ .assigned) : s.unwaited i := by
  intro hd hhd
  cases hw : hd.waitsWith i with
  | false => rfl
  | true => exact absurd (h.2.2 hd hhd i hw).1 hi

theorem State.unwaited_of_none {s : State} (h : s.up.head = none) (i : Fin 256) : s.unwaited i := by
  intro hd hhd
  rw [h] at hhd
  cases hhd

/-- No slot more is in use, and the head's slot is still ASSIGNED to it. -/
theorem State.slotsHold_of_fewer {s t : State} (h : s.slotsHold)
    (hf : ∀ i, (t.slot i).life ≠ .free → (s.slot i).life ≠ .free ∧ (t.slot i).kind.isPass = (s.slot i).kind.isPass)
    (hh : t.headHolds) : t.slotsHold := by
  obtain ⟨hpass, hinj, _⟩ := h
  refine ⟨Nat.le_trans (State.countSlots_mono fun i => ?_) hpass, Nat.le_trans (State.countSlots_mono fun i => ?_) hinj, hh⟩
  · simp only [Slot.countsPass, Bool.and_eq_true, decide_eq_true_eq]
    rintro ⟨hk, hl⟩
    exact ⟨(hf i hl).2 ▸ hk, (hf i hl).1⟩
  · simp only [Slot.countsInjected, Bool.and_eq_true, decide_eq_true_eq]
    rintro ⟨hk, hl⟩
    exact ⟨(hf i hl).2 ▸ hk, (hf i hl).1⟩

theorem SlotCalm.free_of_free {x y : Slot} (h : SlotCalm x y) (hy : y.life ≠ .free) : y.life = x.life ∧ y.kind = x.kind := by
  obtain h | ⟨_, hfree⟩ := h
  · exact h
  · exact absurd hfree hy

theorem SlotCalm.of_not_held {x y : Slot} (h : SlotCalm x y) (hx : x.life ≠ .held) : y.life = x.life ∧ y.kind = x.kind := by
  obtain h | ⟨hheld, _⟩ := h
  · exact h
  · exact absurd hheld hx

theorem Calm.slotsHold {s t : State} (h : Calm s t) (hs : s.slotsHold) : t.slotsHold := by
  refine State.slotsHold_of_fewer hs (fun i hi => ?_) fun hd hhd i hw => ?_
  · obtain ⟨hlife, hkind⟩ := (h.slots i).free_of_free hi
    exact ⟨hlife ▸ hi, by rw [hkind]⟩
  · rw [h.head] at hhd
    obtain ⟨hassigned, hpass⟩ := hs.2.2 hd hhd i hw
    obtain ⟨hlife, hkind⟩ := (h.slots i).of_not_held (by simp [hassigned])
    exact ⟨hlife.trans hassigned, by rw [hkind]; exact hpass⟩

theorem State.slotsHold_setSlot {s : State} {i : Fin 256} {x : Slot} (h : s.slotsHold)
    (hx : x.life ≠ .free → (s.slot i).life ≠ .free ∧ x.kind.isPass = (s.slot i).kind.isPass) (hi : s.unwaited i) :
    (s.setSlot i x).slotsHold := by
  refine State.slotsHold_of_fewer h (fun j hj => ?_) fun hd hhd j hw => ?_
  · rw [State.slot_setSlot] at hj ⊢
    split at hj <;> rename_i hji
    · subst hji
      rw [if_pos rfl]
      exact hx hj
    · rw [if_neg hji]
      exact ⟨hj, rfl⟩
  · have hji : j ≠ i := fun he => by
      rw [he, hi hd hhd] at hw
      cases hw
    rw [State.slot_setSlot, if_neg hji]
    exact h.2.2 hd hhd j hw

/-- A slot of the lowest-numbered FREE one's place goes into use, within the budget. -/
theorem State.slotsHold_taken {s : State} {i : Fin 256} {x : Slot} (h : s.slotsHold) (hfree : (s.slot i).life = .free)
    (hpass : x.countsPass = true → s.countSlots Slot.countsPass < 240)
    (hinj : x.countsInjected = true → s.countSlots Slot.countsInjected < 64) : (s.setSlot i x).slotsHold := by
  have other : ∀ j, j ≠ i → (s.setSlot i x).slot j = s.slot j := fun j hj => by rw [State.slot_setSlot, if_neg hj]
  have counted : ∀ {p : Slot → Bool} {n : Nat}, s.countSlots p ≤ n → (p x = true → s.countSlots p < n) →
      (s.setSlot i x).countSlots p ≤ n := by
    intro p n hle hlt
    by_cases hp : p x = true
    · exact Nat.le_trans (State.countSlots_le_add_one i other) (hlt hp)
    · refine Nat.le_trans (State.countSlots_mono fun j hj => ?_) hle
      rw [State.slot_setSlot] at hj
      split at hj
      · exact absurd hj hp
      · exact hj
  refine ⟨counted h.1 hpass, counted h.2.1 hinj, fun hd hhd j hw => ?_⟩
  have hji : j ≠ i := fun he => by
    have hassigned := (h.2.2 hd hhd j hw).1
    rw [he, hfree] at hassigned
    cases hassigned
  rw [other j hji]
  exact h.2.2 hd hhd j hw

/-! ### The relations -/

/-- Each of these invariants is carried over. -/
structure Safe (s t : State) : Prop where
  index : s.indexHolds → t.indexHolds
  lines : s.linesApart → t.linesApart
  pool : s.poolApart → t.poolApart
  logs : s.logHolds → t.logHolds
  slots : s.slotsHold → t.slotsHold
  fault : s.faultHolds → t.faultHolds

/-- With it, the part does not leave FAULT. -/
structure Sound (s t : State) : Prop extends Safe s t where
  stuck : s.faultHolds → s.ldr.part = .fault → t.ldr.part = .fault

theorem Safe.trans {s t u : State} (h : Safe s t) (k : Safe t u) : Safe s u where
  index := fun x => k.index (h.index x)
  lines := fun x => k.lines (h.lines x)
  pool := fun x => k.pool (h.pool x)
  logs := fun x => k.logs (h.logs x)
  slots := fun x => k.slots (h.slots x)
  fault := fun x => k.fault (h.fault x)

theorem Sound.trans {s t u : State} (h : Sound s t) (k : Sound t u) : Sound s u :=
  ⟨h.toSafe.trans k.toSafe, fun x y => k.stuck (h.fault x) (h.stuck x y)⟩

theorem Rest.sound {s t : State} (h : Rest s t) (hs : s.slotsHold → t.slotsHold) : Sound s t where
  index := by
    unfold State.indexHolds State.indexOrdered
    rw [h.index]
    exact id
  lines := h.lines
  pool := h.pool
  logs := h.logs
  slots := hs
  fault := by
    unfold State.faultHolds
    rw [h.part, h.load]
    exact id
  stuck := fun _ hp => h.part.trans hp

theorem Calm.sound {s t : State} (h : Calm s t) : Sound s t := h.toRest.sound h.slotsHold

theorem Sound.refl (s : State) : Sound s s := (Calm.refl s).sound

theorem Sound.calm {s t u : State} (h : Sound s t) (k : Calm t u) : Sound s u := h.trans k.sound

theorem Sound.forEach {α : Type} {s : State} (f : α → State → State) (hf : ∀ x u, Sound s u → Sound s (f x u)) :
    ∀ (xs : List α) {t : State}, Sound s t → Sound s (forEach xs f t)
  | [], _, h => h
  | x :: xs, _, h => Sound.forEach f hf xs (hf x _ h)

/-! ### Slots and the head -/

theorem Sound.setSlot {s τ : State} (h : Sound s τ) (i : Fin 256) (x : Slot)
    (hx : x.life ≠ .free → τ.slotsHold → (τ.slot i).life ≠ .free ∧ x.kind.isPass = (τ.slot i).kind.isPass)
    (hi : τ.slotsHold → τ.unwaited i) : Sound s (τ.setSlot i x) :=
  h.trans (((Rest.refl τ).setSlot i x).sound fun hs => State.slotsHold_setSlot hs (fun hl => hx hl hs) (hi hs))

theorem Sound.freeSlot {s τ : State} (h : Sound s τ) (i : Fin 256) (hi : τ.slotsHold → τ.unwaited i) :
    Sound s (τ.setSlot i Slot.freeSlot) :=
  h.setSlot i _ (fun hl => absurd rfl hl) hi

theorem Sound.endSlot {s τ : State} (h : Sound s τ) (i : Fin 256) (status : UpStatus) (data : List Byte)
    (hi : τ.slotsHold → τ.unwaited i) : Sound s (τ.endSlot i status data) := by
  have hcalm := ((Calm.refl τ).sendUp ⟨(τ.slot i).requester, (τ.slot i).tag, status, data⟩).unpinSlot i
  refine h.trans ?_
  have hrest := hcalm.toRest.setSlot i Slot.freeSlot
  refine hrest.sound fun hs => ?_
  refine State.slotsHold_setSlot (hcalm.slotsHold hs) (fun hl => absurd rfl hl) fun hd hhd => hi hs hd ?_
  rwa [hcalm.head] at hhd

/-- The head is written: with no request, or with one that waits with an ASSIGNED slot alone. -/
theorem Sound.setHead {s τ : State} (h : Sound s τ) (x : Option Head)
    (hx : τ.slotsHold → ∀ hd ∈ x, ∀ i, hd.waitsWith i = true → (τ.slot i).life = .assigned ∧ (τ.slot i).kind.isPass = true) :
    Sound s (τ.setHead x) := by
  refine h.trans (Rest.sound ((Rest.refl τ).lit rfl rfl rfl rfl rfl rfl) fun hs => ?_)
  exact State.slotsHold_of_fewer (t := τ.setHead x) hs (fun _ hl => ⟨hl, rfl⟩) (hx hs)

theorem Sound.setHead_none {s τ : State} (h : Sound s τ) : Sound s (τ.setHead none) := h.setHead none fun _ _ => nofun

/-- A slot in use that the head does not wait with goes to the media. -/
theorem Sound.sendSlot {s τ : State} (h : Sound s τ) (i : Fin 256) (r : Request) (hl : τ.slotsHold → (τ.slot i).life ≠ .free)
    (hi : τ.slotsHold → τ.unwaited i) : Sound s (τ.sendSlot i r) :=
  (h.setSlot i { τ.slot i with life := .outstanding, timer := some (Timer.start τ.cfg.returnTimeout) }
    (fun _ hs => ⟨hl hs, rfl⟩) hi).calm ((Calm.refl _).sendMedia _)

/-- The head is emptied and its slot goes to the media. -/
theorem Sound.sendHead {s τ : State} (h : Sound s τ) (i : Fin 256) (r : Request) (hl : τ.slotsHold → (τ.slot i).life ≠ .free) :
    Sound s ((τ.setHead none).sendSlot i r) := by
  refine h.trans ?_
  have hrest : Rest τ ((τ.setHead none).sendSlot i r) :=
    (((Rest.refl τ).lit rfl rfl rfl rfl rfl rfl).setSlot i _).after ((Calm.refl _).sendMedia _)
  refine hrest.sound fun hs => ?_
  have hnone : (τ.setHead none).slotsHold := ((Sound.refl τ).setHead_none).slots hs
  exact ((Sound.refl (τ.setHead none)).sendSlot i r (fun _ => hl hs) fun _ => State.unwaited_of_none rfl i).slots hnone

theorem Sound.answerHead {s τ : State} (h : Sound s τ) (status : UpStatus) : Sound s (τ.answerHead status) := by
  unfold State.answerHead
  split
  · exact h
  · have hnone : Sound s (({ τ with up := { τ.up with head := none } } : State).dropRequests .write) :=
      h.setHead_none.calm ((Calm.refl _).dropRequests _)
    dsimp only
    split
    · exact hnone.endSlot _ status [] fun _ => State.unwaited_of_none rfl _
    · exact hnone.endSlot _ status [] fun _ => State.unwaited_of_none rfl _
    · exact hnone.calm ((Calm.refl _).sendUp _)
    · exact hnone.calm ((Calm.refl _).sendUp _)

end Sys2Proof.Machine

/-!
PROOFS. `Sound` through the operations that answer, send or free a request: the switch, the links, the entry to FAULT and the
table errors (Machine/Results.lean, Switch.lean, Links.lean, Loader.lean).
-/

namespace Sys2Proof.Machine

/-! ### The switch -/

/-- An ASSIGNED slot goes to the media from the head, after what is `Calm`. -/
theorem Sound.sendAssigned {s τ u : State} (h : Sound s τ) (k : Calm τ u) (i : Fin 256) (r : Request)
    (hl : τ.slotsHold → (τ.slot i).life = .assigned) : Sound s ((u.setHead none).sendSlot i r) := by
  have hcalm : Sound τ ((u.setHead none).sendSlot i r) := by
    have hrest : Rest τ ((u.setHead none).sendSlot i r) :=
      k.toRest.trans ((((Rest.refl u).lit rfl rfl rfl rfl rfl rfl).setSlot i _).after ((Calm.refl _).sendMedia _))
    refine hrest.sound fun hs => ?_
    refine ((Sound.refl u).sendHead i r fun _ => ?_).slots (k.slotsHold hs)
    rw [((k.slots i).of_not_held (by simp [hl hs])).1, hl hs]
    decide
  exact h.trans hcalm

theorem Sound.readProceeds {s τ : State} (h : Sound s τ) (i : Fin 256) (r : Request) (checked : Bool)
    (hl : τ.slotsHold → (τ.slot i).life = .assigned) : Sound s (τ.readProceeds i r checked) := by
  unfold State.readProceeds
  dsimp only
  refine h.sendAssigned ?_ i r hl
  split
  · exact Calm.forEach _ (fun t _ hu => hu.offerCheck i t) _ (Calm.refl τ)
  · exact Calm.refl τ

theorem Sound.ingest {s τ : State} (h : Sound s τ) (i : Fin 256) (r : Request)
    (hl : τ.slotsHold → (τ.slot i).life = .assigned) : Sound s (τ.ingest i r) := by
  unfold State.ingest
  dsimp only
  refine h.sendAssigned ?_ i r hl
  refine Calm.forEach _ (fun t _ hu => hu.acceptCopy t.key) _ ?_
  refine Calm.forEach _ (fun t u hu => ?_) _ ?_
  · split
    · exact hu
    · exact hu.abandon _
  · exact Calm.forEach _ (fun t _ hu => hu.offerSeal i r.data t) _ (Calm.refl τ)

theorem Sound.writeJudged {s τ : State} (h : Sound s τ) (i : Fin 256) (r : Request)
    (hl : τ.slotsHold → (τ.slot i).life = .assigned) : Sound s (τ.writeJudged i r) := by
  unfold State.writeJudged
  split
  · exact (h.calm ((Calm.refl τ).logRefused _ _)).answerHead .refused
  · exact h.answerHead .busy
  · split
    · refine h.sendAssigned ?_ i r hl
      exact ((Calm.refl τ).unpinSlot i).setSlot i _ (.inl ⟨rfl, rfl⟩)
    · exact h.ingest i r hl

/-- A slot that a passthrough request has taken. -/
def State.holdsPass (s : State) (i : Fin 256) : Prop := (s.slot i).life = .assigned ∧ (s.slot i).kind.isPass = true

/-- The head waits with its slot. -/
theorem Sound.setHead_slot {s τ : State} (h : Sound s τ) (i : Fin 256) (hd : Head)
    (hw : ∀ j, hd.waitsWith j = true → j = i) (hi : τ.holdsPass i) : Sound s (τ.setHead (some hd)) := by
  refine h.setHead _ fun _ x hx j hj => ?_
  cases hx
  exact hw j hj ▸ hi

/-- The head waits with no slot. -/
theorem Sound.setHead_bare {s τ : State} (h : Sound s τ) (hd : Head) (hw : ∀ j, hd.waitsWith j = false) :
    Sound s (τ.setHead (some hd)) := by
  refine h.setHead _ fun _ x hx j hj => ?_
  cases hx
  exact absurd hj (by simp [hw j])

theorem Sound.writeHasSlot {s τ : State} (h : Sound s τ) (i : Fin 256) (r : Request) (exact : Bool) (hi : τ.holdsPass i) :
    Sound s (τ.writeHasSlot i r exact) := by
  unfold State.writeHasSlot
  split
  · exact h.setHead_slot i _ (fun j hj => (of_decide_eq_true hj).symm) hi
  · have hlines := h.setHead_slot i ⟨r, false, .lines i⟩ (fun j hj => (of_decide_eq_true hj).symm) hi
    dsimp only
    split
    · exact hlines.writeJudged i r fun _ => hi.1
    · exact hlines.calm ((Calm.refl _).askWriteLine i _)
    · exact hlines.calm (((Calm.refl _).askWriteLine i _).askWriteLine i _)
    · exact (hlines.calm ((Calm.refl _).logRefused _ _)).answerHead .refused
    · exact hlines.writeJudged i r fun _ => hi.1

theorem Sound.hasSlot {s τ : State} (h : Sound s τ) (i : Fin 256) (r : Request) (exact checked : Bool) (hi : τ.holdsPass i) :
    Sound s (τ.hasSlot i r exact checked) := by
  unfold State.hasSlot
  split
  · exact h.readProceeds i r checked fun _ => hi.1
  · split
    · exact h.writeHasSlot i r exact hi
    · exact h.sendAssigned (Calm.refl τ) i r fun _ => hi.1

theorem Sound.takeSlot {s τ : State} (h : Sound s τ) (r : Request) (exact checked : Bool) :
    Sound s (τ.takeSlot r exact checked) := by
  unfold State.takeSlot
  split
  · exact h.setHead_bare _ fun _ => rfl
  · rename_i i hi
    obtain ⟨hfree, hbudget⟩ := State.passSlot_free hi
    have hassigned : Sound τ (τ.setSlot i (Slot.assigned r)) :=
      ((Rest.refl τ).setSlot i _).sound fun hs => State.slotsHold_taken hs hfree (fun _ => hbudget) nofun
    refine (h.trans hassigned).hasSlot i r exact checked ?_
    unfold State.holdsPass
    rw [State.slot_setSlot_self]
    exact ⟨rfl, rfl⟩

theorem Sound.carryOut {s τ : State} (h : Sound s τ) (r : Request) (d : Decision) : Sound s (τ.carryOut r d) := by
  cases d with
  | answer status => exact h.setHead_none.calm ((Calm.refl _).sendUp _)
  | protect => exact (h.calm ((Calm.refl τ).logRefused _ _)).setHead_none.calm ((Calm.refl _).sendUp _)
  | hold => exact h.setHead_bare _ fun _ => rfl
  | forward => exact h.takeSlot r _ _

theorem Sound.decideHeld {s τ : State} (h : Sound s τ) : Sound s τ.decideHeld := by
  unfold State.decideHeld
  split
  · exact h
  · split
    · exact h.carryOut _ _
    · exact h

theorem Sound.request {s τ : State} (h : Sound s τ) (r : Request) : Sound s (τ.request r) := by
  unfold State.request
  split
  · exact h.carryOut r _
  · exact h

theorem Sound.slotTaken {s τ : State} (h : Sound s τ) : Sound s τ.slotTaken := by
  unfold State.slotTaken
  split
  · exact h.takeSlot _ _ _
  · exact h

/-- The slot with which the head waits for its lines, or for the unit, is ASSIGNED. -/
theorem State.assigned_of_waits {s : State} {hd : Head} {i : Fin 256} (h : s.slotsHold) (hhd : s.up.head = some hd)
    (hw : hd.waitsWith i = true) : (s.slot i).life = .assigned :=
  (h.2.2 hd hhd i hw).1

theorem Sound.writeReady {s τ : State} (h : Sound s τ) : Sound s τ.writeReady := by
  unfold State.writeReady
  split
  · rename_i hhd
    split
    · exact h.writeJudged _ _ fun hs => State.assigned_of_waits hs hhd (decide_eq_true rfl)
    · exact h
  · exact h

theorem Sound.headFreed {s τ : State} (h : Sound s τ) : Sound s τ.headFreed := by
  unfold State.headFreed
  split
  · rename_i hhd
    split
    · exact h.writeJudged _ _ fun hs => State.assigned_of_waits hs hhd (decide_eq_true rfl)
    · exact h
  · exact h

theorem Sound.directiveProceeds {s τ : State} (h : Sound s τ) : Sound s τ.directiveProceeds := by
  unfold State.directiveProceeds
  split
  · rename_i r _ i hhd
    split
    · have hmarked : Calm τ (τ.setSlot i { τ.slot i with batch := true }) := (Calm.refl τ).setSlot i _ (.inl ⟨rfl, rfl⟩)
      refine (h.sendAssigned hmarked i r fun hs => ?_).calm (((Calm.refl _).setBatch _).tryEndBatch)
      exact State.assigned_of_waits hs hhd (decide_eq_true rfl)
    · exact h
  · exact h

/-! ### Ends of passthrough slots -/

theorem State.not_waits_outstanding {s : State} {i : Fin 256} (hl : (s.slot i).life = .outstanding) (h : s.slotsHold) :
    s.unwaited i :=
  State.unwaited_of_life h (by simp [hl])

/-- A slot that is OUTSTANDING ends, after what is `Calm`. -/
theorem Sound.endOutstanding {s τ u : State} (h : Sound s τ) (k : Calm τ u) (i : Fin 256) (status : UpStatus)
    (data : List Byte) (hl : (τ.slot i).life = .outstanding) : Sound s (u.endSlot i status data) :=
  (h.calm k).endSlot i status data
    (State.not_waits_outstanding (((k.slots i).of_not_held (by simp [hl])).1.trans hl))

theorem Sound.setOutstanding {s τ u : State} (h : Sound s τ) (k : Calm τ u) (i : Fin 256) (x : Slot)
    (hl : (τ.slot i).life = .outstanding) (hx : x.kind.isPass = (u.slot i).kind.isPass) : Sound s (u.setSlot i x) := by
  have hlife : (u.slot i).life = .outstanding := ((k.slots i).of_not_held (by simp [hl])).1.trans hl
  exact (h.calm k).setSlot i x (fun _ _ => ⟨by simp [hlife], hx⟩) (State.not_waits_outstanding hlife)

theorem Sound.readReturned {s τ : State} (h : Sound s τ) (i : Fin 256) (data : List Byte)
    (hl : (τ.slot i).life = .outstanding) : Sound s (τ.readReturned i data) := by
  unfold State.readReturned
  have hcommit := (Calm.refl τ).commitAll i (some data)
  have hwatch := Calm.forEach (fun p t => t.watch i p) (fun p _ hu => hu.watch i p)
    ((τ.commitAll i (some data)).slot i).watches hcommit
  dsimp only
  generalize Machine.forEach ((τ.commitAll i (some data)).slot i).watches (fun p t => t.watch i p)
    (τ.commitAll i (some data)) = u at hwatch ⊢
  split
  · exact (h.setOutstanding hwatch i _ hl (by rfl)).calm ((Calm.refl _).tryRelease i)
  · exact h.endOutstanding hwatch i .good data hl

theorem Sound.passReturned {s τ : State} (h : Sound s τ) (i : Fin 256) (e : MediaEnd)
    (hl : (τ.slot i).life = .outstanding) : Sound s (τ.passReturned i e) := by
  unfold State.passReturned
  dsimp only
  split
  · exact (h.setOutstanding (Calm.refl τ) i _ hl (by rfl)).calm (Calm.refl _).settleBatch
  · split
    · exact h.readReturned i _ hl
    · exact (h.endOutstanding ((Calm.refl τ).commitAll i none) i .good [] hl).calm (Calm.refl _).pokeWalk
    · exact (h.endOutstanding ((Calm.refl τ).failAll i) i .mediaError [] hl).calm (Calm.refl _).pokeWalk

theorem State.outstanding_of_awaitsPass {s : State} {i : Fin 256} (h : s.awaitsPass i = true) :
    (s.slot i).life = .outstanding := by
  simp only [State.awaitsPass, Bool.and_eq_true, decide_eq_true_eq] at h
  exact h.2

theorem Sound.passReturn {s τ : State} (h : Sound s τ) (tag : Fin 256) (status : MediaStatus) (data : List Byte) :
    Sound s (τ.passReturn tag status data) := by
  unfold State.passReturn
  split
  · split
    · rename_i hup
      exact h.passReturned tag _ (State.outstanding_of_awaitsPass hup.2)
    · exact h
  · exact h

theorem Sound.passTimedOut {s τ : State} (h : Sound s τ) (i : Fin 256) (hl : (τ.slot i).life = .outstanding) :
    Sound s (τ.passTimedOut i) := by
  have hcalm := ((Calm.refl τ).abandonContributions i).unpinSlot i
  unfold State.passTimedOut
  dsimp only
  generalize (τ.abandonContributions i).unpinSlot i = u at hcalm ⊢
  exact (h.setOutstanding (hcalm.sendUp _) i _ hl (by rfl)).calm ((Calm.refl _).loseBatchSlot i).pokeWalk

theorem Sound.passTimeout {s τ : State} (h : Sound s τ) (i : Fin 256) : Sound s (τ.passTimeout i) := by
  unfold State.passTimeout
  split
  · rename_i hdue
    exact h.passTimedOut i (State.outstanding_of_awaitsPass hdue.1)
  · exact h

theorem Sound.freeStale {s τ : State} (h : Sound s τ) (i : Fin 256) (hl : (τ.slot i).life = .stale) :
    Sound s (τ.setSlot i Slot.freeSlot) :=
  h.freeSlot i fun hs => State.unwaited_of_life hs (by simp [hl])

theorem Sound.staleTimeout {s τ : State} (h : Sound s τ) (i : Fin 256) : Sound s (τ.staleTimeout i) := by
  unfold State.staleTimeout
  split
  · rename_i hdue
    exact h.freeStale i hdue.1
  · exact h

theorem Sound.strayReturn {s τ : State} (h : Sound s τ) (tag : Fin 256) (status : MediaStatus) :
    Sound s (τ.strayReturn tag status) := by
  unfold State.strayReturn State.unexpected
  dsimp only
  split
  · split
    · rename_i hstale
      exact (h.freeStale tag hstale).calm ((Calm.refl _).log _ _ _ _ _ _ _)
    · exact h.calm ((Calm.refl _).log _ _ _ _ _ _ _)
  · exact h

/-! ### The media link goes down -/

theorem Sound.fillLost {s τ : State} (h : Sound s τ) (l : Fin 64) : Sound s (τ.fillLost l) := by
  have hhead : Sound s (if τ.headWaitsOn l then τ.answerHead .mediaError else τ) := by
    split
    · exact h.answerHead _
    · exact h
  unfold State.fillLost
  dsimp only
  generalize (if τ.headWaitsOn l then τ.answerHead .mediaError else τ) = u at hhead ⊢
  refine hhead.calm ?_
  have hlost := ((Calm.refl u).invalidate l).failWaiting l (τ.line l).waiting
  generalize (u.invalidate l).failWaiting l (τ.line l).waiting = v at hlost ⊢
  have hmend : Calm u (if (v.mendWaitsOn l).isSome then v.discardMend else v) := by
    split
    · exact hlost.discardMend
    · exact hlost
  generalize (if (v.mendWaitsOn l).isSome then v.discardMend else v) = w at hmend ⊢
  have hframe : Calm u (if (w.frameWaitsOn l).isSome then w.answerFrame .busy else w) := by
    split
    · exact hmend.answerFrame _
    · exact hmend
  generalize (if (w.frameWaitsOn l).isSome then w.answerFrame .busy else w) = x at hframe ⊢
  split
  · exact (hframe.auditAnswer _ _ _).walkRun
  · split
    · exact (hframe.skipBlock _).walkRun
    · exact hframe

theorem Sound.fillEnded {s τ : State} (h : Sound s τ) (l : Fin 64) (e : MediaEnd) : Sound s (τ.fillEnded l e) := by
  cases e with
  | good data => exact h.calm ((Calm.refl τ).fillGood l data)
  | mediaError => exact (h.calm ((Calm.refl τ).logLineFailure _ l)).fillLost l
  | timeout => exact (h.calm ((Calm.refl τ).logLineFailure _ l)).fillLost l

theorem Sound.lineLinkDown {s τ : State} (h : Sound s τ) (l : Fin 64) : Sound s (τ.lineLinkDown l) := by
  unfold State.lineLinkDown
  split
  · exact h.fillLost l
  · split
    · exact h.calm ((Calm.refl τ).refillLost l)
    · exact h

theorem Sound.slotLinkDown {s τ : State} (h : Sound s τ) (i : Fin 256) : Sound s (τ.slotLinkDown i) := by
  unfold State.slotLinkDown
  dsimp only
  split
  case h_1 hl => exact h.freeStale i hl
  case h_2 hl _ =>
    exact (h.endOutstanding ((Calm.refl τ).abandonContributions i) i .mediaError [] hl).calm ((Calm.refl _).loseBatchSlot i)
  case h_3 hl _ =>
    have hended : Sound s ((τ.unhold i).endSlot i .mediaError []) :=
      (h.calm ((Calm.refl τ).unhold i)).endSlot i .mediaError [] fun hs => State.unwaited_of_life hs (by
        rw [show ((τ.unhold i).slot i).life = (τ.slot i).life from rfl, hl]
        decide)
    exact hended.calm ((Calm.refl _).loseBatchSlot i)
  case h_4 hl _ => exact h.freeSlot i (State.not_waits_outstanding hl)
  case h_5 => exact h

theorem Sound.mediaLost {s τ : State} (h : Sound s τ) : Sound s τ.mediaLost := by
  have hdown : Sound s { τ with mediaUp := false } := h.calm ((Calm.refl τ).lit rfl rfl rfl rfl rfl rfl rfl rfl)
  have hslots := Sound.forEach (fun i t => t.slotLinkDown i) (fun i _ hu => hu.slotLinkDown i) (allFin 256)
    (hdown.answerHead .mediaError)
  have hlines := Sound.forEach (fun l t => t.lineLinkDown l) (fun l _ hu => hu.lineLinkDown l) τ.readingLines
    (hslots.calm ((Calm.refl _).withdraw Owner.isLineRead))
  have howners := hlines.calm (Calm.forEach (fun o t => t.ownerLinkDown o) (fun o _ hu => hu.ownerLinkDown o) τ.cutOwners
    (Calm.refl _))
  exact howners.calm (Calm.refl _).cutWalk.cutMend.feedWalk.feedMend.pokeWalk

/-! ### The entry to FAULT, and the table errors -/

theorem Sound.headAtFault {s τ : State} (h : Sound s τ) : Sound s τ.headAtFault := by
  unfold State.headAtFault
  split
  · exact h
  · split
    · exact h.decideHeld
    · exact h.answerHead _
    · exact h

theorem Sound.faultPart (s : State) (cause : FaultCause) : Sound s (s.faultPart cause) where
  index := id
  lines := id
  pool := id
  logs := fun ⟨hhead, hwritten, htail, hcfg, hcompleted, himage, _, hshot, _⟩ =>
    ⟨hhead, hwritten, htail, hcfg, hcompleted, himage, nofun, hshot, trivial⟩
  slots := id
  fault := fun _ _ => rfl
  stuck := fun _ _ => rfl

/-- In FAULT the blocks lose what they hold. -/
theorem Sound.faultBlocks {s τ : State} (h : Sound s τ) (hp : τ.ldr.part ≠ .running) : Sound s τ.faultBlocks := by
  refine h.trans ⟨⟨id, fun _ j k hj => ?_, fun _ => ⟨fun p a ha => ?_, fun p q a ha => ?_⟩, ?_, id, id⟩, fun _ => id⟩
  · exact absurd (by simp [State.faultBlocks, State.line, Line.blank]) hj
  · simp [State.faultBlocks, State.accum] at ha
  · simp [State.faultBlocks, State.accum] at ha
  · rintro ⟨hhead, hwritten, htail, hcfg, _, _, _, _, hload⟩
    exact ⟨hhead, hwritten, htail, hcfg, nofun, nofun, fun hr => absurd hr hp, trivial, hload⟩

theorem Sound.enterFault {s τ : State} (h : Sound s τ) (cause : FaultCause) : Sound s (τ.enterFault cause) := by
  refine h.trans ?_
  have hpart := Sound.faultPart τ cause
  have hfault : (τ.faultPart cause).faultHolds := fun _ => rfl
  have hreleased : Sound (τ.faultPart cause)
      (Machine.forEach (allFin 256) (fun i t => t.releaseAtFault i) (τ.faultPart cause)) :=
    (Calm.forEach _ (fun i _ hu => hu.releaseAtFault i) _ (Calm.refl _)).sound
  have hslots := hreleased.headAtFault.calm ((Calm.refl _).mapSlots Slot.atFault fun _ => .inl ⟨rfl, rfl⟩)
  have hin := hslots.stuck hfault rfl
  unfold State.enterFault
  dsimp only
  refine (hpart.trans (hslots.faultBlocks ?_)).calm ((Calm.refl _).batchAtFault.faultUnit.raise .fault)
  rw [hin]
  decide

theorem Sound.tableFault {s τ : State} (h : Sound s τ) (cause : FaultCause) : Sound s (τ.tableFault cause) := by
  unfold State.tableFault
  split
  · exact h.enterFault cause
  · exact h.calm ((Calm.refl τ).lit rfl rfl rfl rfl rfl rfl rfl rfl)
  · exact h

/-- After it no head request waits with the slot. -/
theorem Sound.loseHead {s τ : State} (h : Sound s τ) (i : Fin 256) :
    Sound s (τ.loseHead i) ∧ (τ.loseHead i).unwaited i ∧ (τ.loseHead i).slot i = τ.slot i := by
  unfold State.loseHead
  split
  · rename_i hnone
    exact ⟨h, State.unwaited_of_none hnone i, rfl⟩
  · rename_i hd hhd
    split
    · exact ⟨h.setHead_none.calm ((Calm.refl _).dropRequests .write), State.unwaited_of_none rfl i, rfl⟩
    · rename_i hw
      refine ⟨h, fun x hx => ?_, rfl⟩
      cases hhd.symm.trans hx
      exact Bool.eq_false_iff.mpr hw

theorem Sound.slotFault {s τ : State} (h : Sound s τ) (i : Fin 256) (readable : Bool) : Sound s (τ.slotFault i readable) := by
  unfold State.slotFault
  dsimp only
  obtain ⟨hlost, hunwaited, hslot⟩ := h.loseHead i
  split
  · rename_i huse
    split
    · exact hlost.setSlot i _ (fun _ _ => by rw [hslot]; exact ⟨huse.2, rfl⟩) fun _ => hunwaited
    · exact hlost.endSlot i _ _ fun _ => hunwaited
  · exact h

theorem Sound.findError {s τ : State} (h : Sound s τ) (err : Option TableError) : Sound s (τ.findError err) := by
  unfold State.findError
  split
  · exact h
  · exact h.tableFault _
  · exact h.tableFault _
  · exact h.tableFault _
  · exact (h.slotFault _ _).tableFault _

end Sys2Proof.Machine

/-!
PROOFS. The claimed-range index stays in order as ranges join and leave it, and `Sound` through the loader, the grants and the
directives that change it.
-/

namespace Sys2Proof.Machine

/-! ### The index in order -/

/-- Ascending and disjoint, with no empty range. -/
def IndexFits (ix : List Range) : Prop := (ix.Pairwise fun a b => a.stop ≤ b.first) ∧ ∀ r ∈ ix, 0 < r.len

theorem mem_insertRange {x r : Range} : ∀ {ix : List Range}, x ∈ insertRange r ix ↔ x = r ∨ x ∈ ix
  | [] => by simp [insertRange]
  | q :: qs => by
    unfold insertRange
    split
    · simp
    · simp only [List.mem_cons, mem_insertRange (ix := qs)]
      tauto

theorem Range.disjoint_iff {r q : Range} : r.disjoint q = true ↔ r.stop ≤ q.first ∨ q.stop ≤ r.first := by
  simp [Range.disjoint]

theorem IndexFits.insert {r : Range} (hr : 0 < r.len) :
    ∀ {ix : List Range}, IndexFits ix → (∀ q ∈ ix, r.disjoint q = true) → IndexFits (insertRange r ix)
  | [], _, _ => ⟨List.pairwise_singleton _ _, by simpa [insertRange] using hr⟩
  | q :: qs, ⟨hord, hpos⟩, hdis => by
    obtain ⟨hq, hqs⟩ := List.pairwise_cons.mp hord
    have hrq := Range.disjoint_iff.mp (hdis q List.mem_cons_self)
    have hqpos := hpos q List.mem_cons_self
    unfold Range.stop at hrq
    unfold insertRange
    split
    · rename_i hle
      have hfirst : r.stop ≤ q.first := by
        unfold Range.stop
        omega
      refine ⟨List.pairwise_cons.mpr ⟨fun z hz => ?_, hord⟩, List.forall_mem_cons.mpr ⟨hr, hpos⟩⟩
      obtain rfl | hz := List.mem_cons.mp hz
      · exact hfirst
      · exact Nat.le_trans hfirst (Nat.le_trans (Nat.le_add_right _ _) (hq z hz))
    · rename_i hlt
      obtain ⟨hord', hpos'⟩ := IndexFits.insert hr ⟨hqs, fun z hz => hpos z (List.mem_cons_of_mem _ hz)⟩
        fun z hz => hdis z (List.mem_cons_of_mem _ hz)
      refine ⟨List.pairwise_cons.mpr ⟨fun z hz => ?_, hord'⟩, List.forall_mem_cons.mpr ⟨hqpos, hpos'⟩⟩
      obtain rfl | hz := mem_insertRange.mp hz
      · unfold Range.stop
        omega
      · exact hq z hz

/-- Ranges that are disjoint from the index and pairwise join it in order. -/
theorem IndexFits.join : ∀ {rs ix : List Range}, IndexFits ix → pairwiseDisjoint rs = true →
    (∀ r ∈ rs, 0 < r.len ∧ ∀ q ∈ ix, r.disjoint q = true) → IndexFits (joinIndex ix rs)
  | [], _, h, _, _ => h
  | r :: rs, ix, h, hp, hr => by
    simp only [pairwiseDisjoint, Bool.and_eq_true, List.all_eq_true] at hp
    obtain ⟨hfirst, hrest⟩ := List.forall_mem_cons.mp hr
    refine IndexFits.join (rs := rs) (ix := insertRange r ix) (h.insert hfirst.1 hfirst.2) hp.2 fun x hx => ⟨(hrest x hx).1, fun q hq => ?_⟩
    obtain rfl | hq := mem_insertRange.mp hq
    · exact Range.disjoint_iff.mpr (Range.disjoint_iff.mp (hp.1 x hx)).symm
    · exact (hrest x hx).2 q hq

theorem IndexFits.filter {ix : List Range} (h : IndexFits ix) (p : Range → Bool) : IndexFits (ix.filter p) :=
  ⟨h.1.filter p, fun r hr => h.2 r (List.mem_of_mem_filter hr)⟩

theorem State.controlIndex_fits (s : State) : IndexFits s.controlIndex := by
  unfold State.controlIndex
  split
  · exact ⟨List.Pairwise.nil, nofun⟩
  · refine ⟨List.pairwise_singleton _ _, fun r hr => ?_⟩
    cases List.mem_singleton.mp hr
    exact (by decide : 0 < Config.controlBlocks)

/-- The extent has blocks. -/
def Extent.filled (e : Extent) : Prop := 0 < e.span ∧ 0 < e.frames

theorem Extent.ranges_pos {e : Extent} (h : e.filled) (n : Fin 1024) : ∀ r ∈ e.ranges n, 0 < r.len := by
  have hcopy : 0 < e.copyLen := Nat.mul_pos h.1 h.2
  have hdigest : 0 < e.digestLen := by
    unfold Extent.digestLen
    have := h.2
    omega
  unfold Extent.ranges
  cases e.replica <;> simp [hcopy, hdigest]

theorem geometry_filled {capacity cls mode policy base0 replica span frames tail mask digestBase : Nat} {e : Extent}
    (h : geometry capacity cls mode policy base0 replica span frames tail mask digestBase = some e) : e.filled := by
  unfold geometry at h
  split at h
  · simp only [Option.ite_none_right_eq_some, Option.some.injEq, Bool.and_eq_true, decide_eq_true_eq] at h
    obtain ⟨⟨⟨⟨⟨⟨⟨⟨⟨⟨hspan, _⟩, hframes⟩, _⟩, _⟩, _⟩, _⟩, _⟩, _⟩, _⟩, rfl⟩ := h
    exact ⟨hspan, hframes⟩
  · cases h

theorem decodeExtent_filled {capacity : Nat} {bytes : List Byte} {e : Extent} (h : decodeExtent capacity bytes = .ok e)
    (hs : e.state ≠ .free) : e.filled := by
  unfold decodeExtent at h
  split at h
  · cases h
  · split at h
    · cases h
    · split at h
      · cases h
        exact absurd rfl hs
      · cases h
    · split at h
      · cases h
      · rename_i hgeo
        cases h
        exact ⟨(geometry_filled hgeo).1, (geometry_filled hgeo).2⟩

theorem rangeTest_none {ix : List Range} {n : Fin 1024} {rs : List Range} (h : rangeTest ix n rs = none) :
    pairwiseDisjoint rs = true ∧ ∀ r ∈ rs, ∀ q ∈ ix, r.disjoint q = true := by
  unfold rangeTest at h
  split at h
  · rename_i hp
    refine ⟨hp, ?_⟩
    split at h
    · rename_i hfind
      intro r hr q hq
      have hall := List.find?_eq_none.mp hfind q hq
      simp only [Bool.not_eq_true', Bool.not_eq_false, List.all_eq_true] at hall
      exact hall r hr
    · cases h
  · cases h

theorem loadRecords_fits {capacity : Nat} : ∀ {bs : List (List Byte)} {n : Nat} {ix : List Range} {r : List Extent × List Range},
    loadRecords capacity bs n ix = .ok r → IndexFits ix → IndexFits r.2
  | [], n, ix, r, h, hf => by
    cases h
    exact hf
  | b :: bs, n, ix, r, h, hf => by
    unfold loadRecords at h
    split at h
    · cases h
    · rename_i e he
      split at h
      · split at h
        · rename_i hrest
          cases h
          have htail := loadRecords_fits hrest hf
          exact htail
        · cases h
      · rename_i hstate
        dsimp only at h
        split at h
        · cases h
        · rename_i htest
          obtain ⟨hpair, hdis⟩ := rangeTest_none htest
          split at h
          · rename_i hrest
            cases h
            have hjoined := hf.join hpair fun x hx => ⟨Extent.ranges_pos (decodeExtent_filled he hstate) _ x hx, hdis x hx⟩
            have htail := loadRecords_fits hrest hjoined
            exact htail
          · cases h

theorem overlapFree_iff {ix rs : List Range} :
    overlapFree ix rs = true ↔ pairwiseDisjoint rs = true ∧ ∀ r ∈ rs, ∀ q ∈ ix, r.disjoint q = true := by
  simp [overlapFree]

/-- Another extent map, whose index is in order. -/
theorem Sound.withMap {s τ : State} (h : Sound s τ) (m : ExtentMap) (hm : IndexFits τ.map.index → IndexFits m.index) :
    Sound s { τ with map := m } :=
  h.trans ⟨⟨hm, id, id, State.logHolds_congr rfl rfl rfl, id, id⟩, fun _ => id⟩

theorem Sound.emptyMap {s τ : State} (h : Sound s τ) : Sound s τ.emptyMap := h.withMap _ fun _ => τ.controlIndex_fits

/-! ### The loader -/

theorem Sound.loadFails {s τ : State} (h : Sound s τ) (cause : FaultCause) : Sound s (τ.loadFails cause) :=
  h.emptyMap.enterFault cause

theorem decodeHeader_logFits {data : List Byte} {c : Settings} (h : decodeHeader data = some c) : c.logFits := by
  unfold decodeHeader at h
  split at h
  · dsimp only at h
    split at h
    · rename_i hif
      simp only [Bool.and_eq_true, decide_eq_true_eq] at hif
      cases h
      exact ⟨Nat.lt_succ_of_le hif.1.2, Nat.lt_succ_of_le hif.2⟩
    · cases h
  · cases h

/-- A load that is under way is not in FAULT. -/
theorem State.not_fault_of_load {s : State} (h : s.faultHolds) (hl : s.ldr.load ≠ .idle) : s.ldr.part ≠ .fault :=
  fun hp => hl (h hp)

/-- The settings a load has read, if it has read them, name slots of the log. -/
def Load.fits : Load → Prop
  | .records c _ _ => c.logFits
  | _ => True

theorem Sound.setLoad {s : State} (l : Load) (hl : s.ldr.load ≠ .idle) (hf : s.logHolds → l.fits) : Sound s (s.setLoad l) where
  index := id
  lines := id
  pool := id
  logs := fun hlog => by
    have hfits := hf hlog
    obtain ⟨hhead, hwritten, htail, hcfg, hcompleted, himage, hheld, hshot, _⟩ := hlog
    refine ⟨hhead, hwritten, htail, hcfg, hcompleted, himage, hheld, hshot, ?_⟩
    cases l with
    | records => exact hfits
    | _ => trivial
  slots := id
  fault := fun hs hp => absurd hp (State.not_fault_of_load (s := s) hs hl)
  stuck := fun hs hp => absurd hp (State.not_fault_of_load (s := s) hs hl)

/-- The invariant of the finding log, but for its head image in RUNNING. -/
def State.logTables (s : State) : Prop :=
  s.rep.head < 4096 ∧ s.rep.writtenHead < 4096 ∧ s.rep.tail < 4096 ∧ s.cfg.logFits ∧
    (∀ x ∈ s.rep.completed, x.1 < 32 ∧ x.2.length = 128) ∧ (∀ x ∈ s.rep.image, x.length = s.rep.head % 128) ∧
    (match s.rep.logShot with | some (.headImage h) => h < 4096 | _ => True) ∧
    (match s.ldr.load with | .records c _ _ => c.logFits | _ => True)

theorem State.logHolds_iff (s : State) : s.logHolds ↔
    s.logTables ∧ (s.ldr.part = .running → s.rep.image = none → s.rep.head % 128 = 0 ∨ s.rep.tailAhead = true) := by
  unfold State.logHolds State.logTables
  tauto

theorem State.logTables_recordLog {s : State} (h : s.logTables) : s.recordLog.logTables := by
  obtain ⟨hhead, hwritten, htail, _, hcompleted, himage, hshot, hload⟩ := h
  unfold State.logTables State.recordLog
  simp only [State.markHeader_rep, State.markHeader_cfg, State.markHeader_ldr_load]
  exact ⟨hhead, hwritten, htail, ⟨hwritten, htail⟩, hcompleted, himage, hshot, hload⟩

/-- A head that has been settled meets the rest of the log's invariant (R184). -/
theorem State.logHolds_settleHead {s : State} (h : s.logTables) : s.settleHead.logHolds := by
  unfold State.settleHead
  split
  · rename_i hmoves
    simp only [Bool.and_eq_true, Option.isNone_iff_eq_none] at hmoves
    have himage := hmoves.1.1
    obtain ⟨_, _, htail, hcfg, hcompleted, _, hshot, hload⟩ := h
    have hnext : (s.rep.head / 128 + 1) * 128 % 4096 < 4096 := Nat.mod_lt _ (by decide)
    refine (Calm.refl _).recordLog.logs ⟨hnext, hnext, htail, hcfg, hcompleted, by simp [himage], fun _ _ => .inl ?_, hshot, hload⟩
    dsimp only
    omega
  · rename_i hsettled
    refine (State.logHolds_iff s).mpr ⟨h, fun _ himage => ?_⟩
    simp only [himage, Option.isNone_none, Bool.true_and, Bool.and_eq_true, decide_eq_true_eq, Bool.not_eq_true', not_and,
      Bool.not_eq_false] at hsettled
    by_cases hz : s.rep.head % 128 = 0
    · exact .inl hz
    · exact .inr (hsettled hz)

/-- The part enters RUNNING with the log side as the header says (R184, R188). -/
theorem Sound.loadHeader {s : State} (c : Settings) (hl : s.ldr.load ≠ .idle) (hc : s.logHolds → c.logFits) :
    Sound s (s.loadHeader c).settleHead where
  index := fun h => by
    unfold State.indexHolds State.indexOrdered at *
    rw [State.settleHead_map]
    exact h
  lines := fun h => by
    unfold State.linesApart State.line at *
    rw [State.settleHead_store]
    exact h
  pool := fun h => by
    unfold State.poolApart State.accum at *
    rw [State.settleHead_pool]
    exact h
  logs := fun h => by
    obtain ⟨hhead, htail⟩ := hc h
    obtain ⟨_, _, _, _, _, _, _, hshot, _⟩ := h
    exact State.logHolds_settleHead ⟨hhead, hhead, htail, ⟨hhead, htail⟩, nofun, nofun, hshot, trivial⟩
  slots := fun h => by
    unfold State.slotsHold State.countSlots State.slot at *
    rw [State.settleHead_slots, State.settleHead_up]
    exact h
  fault := fun _ _ => State.settleHead_ldr_load _
  stuck := fun hs hp => absurd hp (State.not_fault_of_load hs hl)

theorem Sound.decideAndRun {s τ : State} (h : Sound s τ) (repeatOn : Bool) : Sound s (τ.releaseBlocks repeatOn) :=
  h.decideHeld.calm (((Calm.refl _).takeRestart repeatOn).nextWalk.walkRun.statusDue)

theorem Sound.enterRunning {s : State} (c : Settings) (err : Option TableError) (hl : s.ldr.load ≠ .idle)
    (hc : s.logHolds → c.logFits) : Sound s (s.enterRunning c err) := by
  have hloaded := (Sound.loadHeader c hl hc).findError err
  unfold State.enterRunning
  dsimp only
  split
  · exact hloaded.decideAndRun _
  · exact hloaded

theorem Sound.takeRecords {s : State} (c : Settings) (blocks : List (List Byte)) (err : Option TableError)
    (hl : s.ldr.load ≠ .idle) (hc : s.logHolds → c.logFits) : Sound s (s.takeRecords c blocks err) := by
  unfold State.takeRecords
  split
  · exact (Sound.refl s).loadFails _
  · rename_i r hr
    have hmap : Sound s (s.loadMap r.1 r.2) := (Sound.refl s).withMap _ fun _ => loadRecords_fits hr s.controlIndex_fits
    exact hmap.trans (Sound.enterRunning c err hl fun h =>
      hc (State.logHolds_congr (s := s.loadMap r.1 r.2) rfl rfl rfl h))

theorem Sound.takeHeader {s : State} (data : List Byte) (hl : s.ldr.load ≠ .idle) : Sound s (s.takeHeader data) := by
  unfold State.takeHeader
  split
  · exact (Sound.setLoad _ hl fun _ => by exact trivial).calm ((Calm.refl _).queueBlank 1)
  · split
    · exact (Sound.refl s).loadFails _
    · rename_i hdecode
      have hset := Sound.setLoad (.records _ (Vector.replicate 16 none) (Vector.replicate 16 0)) hl fun _ =>
        decodeHeader_logFits hdecode
      exact hset.calm (Calm.forEach _ (fun b _ hu => hu.queueRead b) _ (Calm.refl _))

/-- The settings that a load has read name slots of the log. -/
theorem State.logFits_of_records {s : State} {c : Settings} {got : Vector (Option (List Byte)) 16} {attempts : Vector Nat 16}
    (h : s.logHolds) (hl : s.ldr.load = .records c got attempts) : c.logFits := by
  obtain ⟨_, _, _, _, _, _, _, _, hload⟩ := h
  rw [hl] at hload
  exact hload

theorem Sound.readFailed (s : State) (b : Fin 17) : Sound s (s.readFailed b) := by
  unfold State.readFailed
  dsimp only
  split
  · rename_i hload
    split
    · exact (Sound.refl s).loadFails _
    · exact (Sound.setLoad _ (by simp [hload]) fun _ => by exact trivial).calm ((Calm.refl _).queueRead b)
  · rename_i hload
    split
    · exact (Sound.refl s).loadFails _
    · exact (Sound.setLoad _ (by simp [hload]) fun h => by exact State.logFits_of_records h hload).calm ((Calm.refl _).queueRead b)
  · exact Sound.refl s

theorem Sound.readEnded (s : State) (b : Fin 17) (e : MediaEnd) (err : Option TableError) : Sound s (s.readEnded b e err) := by
  cases e with
  | good data =>
    unfold State.readEnded
    dsimp only
    split
    · rename_i hload
      exact Sound.takeHeader data (by simp [hload])
    · rename_i hload
      have hbusy : s.ldr.load ≠ .idle := by simp [hload]
      have hfits := fun h => State.logFits_of_records (s := s) h hload
      unfold State.takeBlock
      dsimp only
      split
      · exact Sound.takeRecords _ _ err hbusy hfits
      · exact Sound.setLoad _ hbusy hfits
    · exact Sound.refl s
  | mediaError => exact Sound.readFailed s b
  | timeout => exact Sound.readFailed s b

theorem State.blankSettings_logFits {s : State} (h : s.logHolds) : s.blankSettings.logFits := by
  unfold State.blankSettings
  split
  · exact h.2.2.2.1
  · exact ⟨Nat.zero_lt_succ _, Nat.zero_lt_succ _⟩

theorem Sound.blankEnded (s : State) (b : Fin 17) (e : MediaEnd) (err : Option TableError) : Sound s (s.blankEnded b e err) := by
  unfold State.blankEnded
  split
  · rename_i hload
    have hbusy : s.ldr.load ≠ .idle := by simp [hload]
    split
    · split
      · exact Sound.enterRunning _ err hbusy State.blankSettings_logFits
      · exact (Sound.setLoad _ hbusy fun _ => by exact trivial).calm ((Calm.refl _).queueBlank _)
    · split
      · exact (Sound.refl s).loadFails _
      · exact (Sound.setLoad _ hbusy fun _ => by exact trivial).calm ((Calm.refl _).queueBlank _)
  · exact Sound.refl s

/-! ### Injected requests -/

theorem Sound.ownerEnded {s τ : State} (h : Sound s τ) (x : Slot) (o : Owner) (e : MediaEnd) (err : Option TableError) :
    Sound s (τ.ownerEnded x o e err) := by
  have live : ∀ u, Sound τ u → Sound s (if x.dead then τ else u) := fun u hu => by
    split
    · exact h
    · exact h.trans hu
  cases o with
  | walkChunk k j => exact h.calm ((Calm.refl τ).walkChunkEnded x j e)
  | mendRead j => exact h.calm ((Calm.refl τ).mendReadEnded x j e)
  | mendWrite j => exact h.calm ((Calm.refl τ).mendWriteEnded x j e)
  | fill l => exact live _ ((Sound.refl τ).fillEnded l e)
  | refill l => exact live _ ((Calm.refl τ).refillEnded l e).sound
  | writeback l => exact live _ ((Calm.refl τ).writebackEnded l e).sound
  | status => exact live _ ((Calm.refl τ).statusEnded _).sound
  | log => exact live _ ((Calm.refl τ).logEnded _).sound
  | catalogueRead b => exact live _ (Sound.readEnded τ b e err)
  | blankWrite b => exact live _ (Sound.blankEnded τ b e err)
  | catalogueWrite b => exact live _ ((Calm.refl τ).catalogueEnded b e).sound

theorem Sound.injReturn {s τ : State} (h : Sound s τ) (tag : Fin 256) (test : Owner → Bool) (status : MediaStatus)
    (data : List Byte) (err : Option TableError) : Sound s (τ.injReturn tag test status data err) := by
  unfold State.injReturn
  dsimp only
  split
  · exact h
  · split
    · rename_i hif
      exact (h.freeSlot tag (State.not_waits_outstanding hif.2.1)).ownerEnded _ _ _ _
    · exact h

theorem Sound.injectedTimeout {s τ : State} (h : Sound s τ) (i : Fin 256) (err : Option TableError) :
    Sound s (τ.injectedTimeout i err) := by
  unfold State.injectedTimeout
  dsimp only
  split
  · exact h
  · split
    · rename_i hif
      exact (h.setOutstanding (Calm.refl τ) i (τ.slot i).stale hif.1 rfl).ownerEnded _ _ _ _
    · exact h

theorem Calm.grantStatus {s τ : State} (h : Calm s τ) : Calm s τ.grantStatus.1 := by
  unfold State.grantStatus
  exact h.lit rfl rfl rfl rfl rfl rfl rfl rfl

theorem Calm.grantOwner {s τ : State} (h : Calm s τ) (i : Fin 256) (r : InjRequest) : Calm s (τ.grantOwner i r).1 := by
  unfold State.grantOwner
  split
  · exact h
  · exact h
  · exact h
  · exact h.grantStatus
  · exact h.grantLog
  · exact h.grantWriteback _
  · exact h
  · exact h.setCat _ _
  · exact h.grantWalk _ _ _ _
  · exact h.grantMendRead _ _ _
  · exact h.grantMendWrite

theorem Sound.grantNext {s τ : State} (h : Sound s τ) : Sound s τ.grantNext := by
  unfold State.grantNext
  split
  · rename_i r i _ hi
    obtain ⟨hfree, hbudget⟩ := State.injSlot_free hi
    have htaken : Sound τ (({ τ with arb := τ.arb.erase r } : State).setSlot i (Slot.injected r τ.cfg.returnTimeout)) := by
      refine (((Rest.refl τ).lit rfl rfl rfl rfl rfl rfl).setSlot i _).sound fun hs => ?_
      exact State.slotsHold_taken (s := { τ with arb := τ.arb.erase r }) hs hfree nofun fun _ => hbudget
    exact (h.trans htaken).calm (((Calm.refl _).grantOwner i r).sendMedia _)
  · exact h

/-! ### Directives -/

theorem Sound.defineNow {s τ : State} (h : Sound s τ) (n : Fin 1024) (e : Extent) (he : e.filled)
    (hfree : overlapFree τ.map.index (e.ranges n) = true) : Sound s (τ.defineNow n e) := by
  have hchange := (Calm.refl τ).changeExtent n e
  obtain ⟨hpair, hdis⟩ := overlapFree_iff.mp hfree
  refine ((h.calm hchange).withMap _ fun hf => hf.join hpair fun r hr => ⟨Extent.ranges_pos he n r hr, ?_⟩).calm
    ((Calm.refl _).startWalk _)
  rw [hchange.index]
  exact hdis r hr

theorem Sound.defineEffect {s τ : State} (h : Sound s τ) (n : Nat) (geo : Option Extent) (hgeo : ∀ e ∈ geo, e.filled) :
    Sound s (defineEffect n geo τ).1 := by
  unfold Sys2Proof.Machine.defineEffect
  split
  · split
    · rename_i hfree
      split
      · split
        · exact h.defineNow _ _ (hgeo _ rfl) hfree
        · exact h
      · exact h
    · exact h
  · exact h

theorem Sound.retireNow {s τ : State} (h : Sound s τ) (n : Fin 1024) : Sound s (τ.retireNow n) := by
  unfold State.retireNow
  dsimp only
  have hdropped := h.calm (((Calm.refl τ).abandonAll fun a => decide (a.key.extent = n)).dropExtent n)
  generalize (τ.abandonAll fun a => decide (a.key.extent = n)).dropExtent n = u at hdropped ⊢
  have hindex := hdropped.withMap { u.map with index := u.map.index.filter fun r => !r.ofExtent n } fun hf => hf.filter _
  have hlines := fun fuel => hindex.calm (Calm.grantLines fuel ((Calm.refl _).changeExtent n Extent.freeForm))
  refine Sound.calm ?_ ((Calm.refl _).leaveSealed n)
  split
  · exact (hlines _).headFreed
  · exact hlines _

theorem Sound.retireEffect {s τ : State} (h : Sound s τ) (n : Nat) : Sound s (retireEffect n τ).1 := by
  unfold Sys2Proof.Machine.retireEffect
  split
  · exact h
  · split
    · exact h
    · exact h.retireNow _

/-- Other settings, of which the log's fields are as they were, with the header to be written. -/
theorem Calm.changeSettings {s τ : State} (h : Calm s τ) (c : Settings) (hh : c.headerHead = τ.cfg.headerHead)
    (ht : c.headerTail = τ.cfg.headerTail) : Calm s (τ.changeSettings c) := by
  have hview : logView τ.rep c = logView τ.rep τ.cfg := by simp [logView, hh, ht]
  exact Calm.markHeader (h.lit rfl rfl rfl hview rfl rfl rfl rfl)

theorem Calm.setPolicyEffect {s τ : State} (h : Calm s τ) (policy : Nat) : Calm s (setPolicyEffect policy τ).1 := by
  unfold Sys2Proof.Machine.setPolicyEffect
  split
  · exact h
  · split
    · exact h
    · exact h.changeSettings _ rfl rfl

theorem Calm.setWalkDepthEffect {s τ : State} (h : Calm s τ) (depth : Nat) : Calm s (setWalkDepthEffect depth τ).1 := by
  unfold Sys2Proof.Machine.setWalkDepthEffect
  split
  · exact h
  · exact h.changeSettings _ rfl rfl

theorem Calm.setPaceEffect {s τ : State} (h : Calm s τ) (threshold depth repeatCode rest : Nat) :
    Calm s (setPaceEffect threshold depth repeatCode rest τ).1 := by
  unfold Sys2Proof.Machine.setPaceEffect
  dsimp only
  split
  · exact h
  · split
    · exact h.changeSettings _ rfl rfl
    · exact (h.changeSettings _ (by rfl) (by rfl)).lit rfl rfl rfl rfl rfl rfl rfl rfl

theorem Calm.setTimersEffect {s τ : State} (h : Calm s τ) (timeout idle : Nat) : Calm s (setTimersEffect timeout idle τ).1 :=
  h.changeSettings _ rfl rfl

theorem Calm.setAdmissionEffect {s τ : State} (h : Calm s τ) (marks : Nat) (rights : List Nat) :
    Calm s (setAdmissionEffect marks rights τ).1 := by
  unfold Sys2Proof.Machine.setAdmissionEffect
  dsimp only
  split
  · exact h
  · split
    · exact h
    · split
      · exact h.changeSettings _ rfl rfl
      · exact h

theorem Calm.setAlertEffect {s τ : State} (h : Calm s τ) (mask : Nat) : Calm s (setAlertEffect mask τ).1 :=
  h.changeSettings _ rfl rfl

theorem Report.tailMayMove_lt {r : Report} {t : Nat} (h : r.tailMayMove t = true) : t < 4096 := by
  simp only [Report.tailMayMove, Bool.and_eq_true, decide_eq_true_eq] at h
  exact h.1

/-- The tail moves to a slot, and the head is settled (R181, R184). -/
theorem Calm.moveLogTailEffect {s τ : State} (h : Calm s τ) (slot : Nat) : Calm s (moveLogTailEffect slot τ).1 := by
  unfold Sys2Proof.Machine.moveLogTailEffect
  dsimp only
  refine (h.trans ?_).resumeLog
  generalize hn : (if τ.rep.tailMayMove slot = true then slot else τ.rep.writtenHead) = n
  have hmoved : τ.logTables → n < 4096 → ({ τ with rep := { τ.rep with tail := n } } : State).logTables :=
    fun ⟨hhead, hwritten, _, hcfg, hrest⟩ hlt => ⟨hhead, hwritten, hlt, hcfg, hrest⟩
  refine ⟨⟨by simp, by simp, by simp, ?_, ?_, fun hlog => ?_⟩, fun i => ?_, by simp⟩
  · unfold State.linesApart State.line
    simp
  · unfold State.poolApart State.accum
    simp
  · refine State.logHolds_settleHead (State.logTables_recordLog (hmoved ((State.logHolds_iff τ).mp hlog).1 ?_))
    rw [← hn]
    split
    · exact Report.tailMayMove_lt ‹_›
    · exact hlog.2.1
  · unfold State.slot
    simp only [State.settleHead_slots, State.recordLog_slots]
    exact SlotCalm.refl _

end Sys2Proof.Machine

/-!
PROOFS. The resets and the EEPROM read carry the invariants over, and with them every command does: the index, the in-flight
budgets, the lines and accumulators, the finding log, and the part states.
-/

namespace Sys2Proof.Machine

/-! ### The EEPROM read and the resets -/

/-- The part state and the load as they are while nothing is RUNNING or in FAULT. -/
theorem Safe.withLoader {s τ : State} (h : Safe s τ) (l : Loader) (hr : l.part ≠ .running) (hf : l.part ≠ .fault)
    (hl : τ.logHolds → l.load.fits) : Safe s { τ with ldr := l } := by
  refine h.trans ⟨id, id, id, fun hlog => ?_, id, fun _ hp => absurd hp hf⟩
  have hfits := hl hlog
  obtain ⟨hhead, hwritten, htail, hcfg, hcompleted, himage, _, hshot, _⟩ := hlog
  refine ⟨hhead, hwritten, htail, hcfg, hcompleted, himage, fun hp => absurd hp hr, hshot, ?_⟩
  cases l with
  | mk _ _ _ _ load =>
    cases load with
    | records => exact hfits
    | _ => trivial

theorem State.loadFits {s : State} (h : s.logHolds) : s.ldr.load.fits := by
  cases hl : s.ldr.load with
  | records => exact State.logFits_of_records h hl
  | _ => trivial

theorem Safe.startLoad {s τ : State} (h : Safe s τ) : Safe s τ.startLoad :=
  (h.withLoader { τ.ldr with part := .loading, fault := none, load := .header 0 } nofun nofun fun _ => trivial).trans
    ((Calm.refl _).queueRead 0).sound.toSafe

theorem Safe.passthrough {s τ : State} (h : Safe s τ) : Safe s τ.passthrough :=
  h.withLoader { τ.ldr with part := .passthrough } nofun nofun State.loadFits

theorem Calm.takeDefaults {s τ : State} (h : Calm s τ) (x : Setup) : Calm s (τ.eepromOver.takeDefaults x) :=
  h.lit rfl rfl rfl rfl rfl rfl rfl rfl

theorem Sound.setupRead {s : State} (image : Option Setup) (hp : s.ldr.part = .setup) : Sound s (s.setupRead image) := by
  have hover : Sound s s.eepromOver := Calm.sound (by exact (Calm.refl s).lit rfl rfl rfl rfl rfl rfl rfl rfl)
  have hdefaults := fun x => ((Calm.refl s).takeDefaults x).sound
  refine ⟨?_, fun _ hf => by rw [hp] at hf; cases hf⟩
  unfold State.setupRead
  split
  · exact hover.toSafe.passthrough
  · exact (hdefaults _).toSafe.passthrough
  · exact (hover.enterFault .setupImage).toSafe
  · have hsetup := fun x => (hdefaults x).calm (u := (s.eepromOver.takeDefaults x).takeSetup x)
      ((Calm.refl _).lit rfl rfl rfl rfl rfl rfl rfl rfl)
    exact (hsetup _).emptyMap.toSafe.startLoad

/-- With no request at the head, every slot becomes FREE and the pool is emptied. -/
theorem Sound.clearTraffic {s τ : State} (h : Sound s τ) (hh : τ.up.head = none) : Sound s τ.clearTraffic := by
  have hfree : ∀ i, (τ.clearTraffic.slot i).life = .free := fun i => by simp [State.clearTraffic, State.slot, Slot.freeSlot]
  have hslots : Rest τ { τ with slots := Vector.replicate 256 Slot.freeSlot } := (Rest.refl τ).lit rfl rfl rfl rfl rfl rfl
  have hpool := hslots.after ((Calm.refl _).withPool (Vector.replicate 32 none) fun p a ha => by simp at ha)
  refine h.trans (hpool.sound fun hs => ?_)
  refine State.slotsHold_of_fewer (t := τ.clearTraffic) hs (fun i hi => absurd (hfree i) hi) fun hd hhd => ?_
  cases hh.symm.trans hhd

theorem Sound.resetRunning {s τ : State} (h : Sound s τ) (bytes : Nat) : Sound s (τ.resetRunning bytes) := by
  have hcut := (Calm.refl (τ.setHead none)).cutBatch bytes
  have hclear := (h.setHead_none.calm hcut).clearTraffic (hcut.head.trans rfl)
  unfold State.resetRunning
  dsimp only
  generalize ((τ.setHead none).cutBatch bytes).clearTraffic = u at hclear ⊢
  have howners := Calm.forEach (fun o t => t.ownerReset o) (fun o _ hu => hu.ownerReset o) τ.cutOwners (Calm.refl u).storeReset
  exact hclear.calm ((howners.requeueCut.walkReset _).resetMend)

theorem Safe.clearFault (s : State) : Safe s s.clearFault := by
  have hfree : ∀ i, (s.clearFault.slot i).life = .free := fun i => by simp [State.clearFault, State.slot, Slot.freeSlot]
  have hrest : Rest s s.clearFault := (Rest.refl s).lit rfl rfl rfl rfl rfl rfl
  exact (hrest.sound fun hs => State.slotsHold_of_fewer hs (fun i hi => absurd (hfree i) hi) nofun).toSafe

theorem Safe.resetFault {s τ : State} (h : Safe s τ) : Safe s τ.resetFault := by
  have hmap : Safe s τ.clearFault.emptyMap := h.trans ((Safe.clearFault τ).trans (Sound.refl _).emptyMap.toSafe)
  unfold State.resetFault
  dsimp only
  split
  · exact hmap.startLoad
  · exact hmap.withLoader _ nofun nofun State.loadFits

theorem Safe.resetLink {s τ : State} (h : Safe s τ) (bytes : Nat) : Safe s (τ.resetLink bytes) := by
  have hsent := h.trans ((Calm.refl τ).sendMedia .linkReset).sound.toSafe
  unfold State.resetLink
  dsimp only
  split
  · exact hsent.resetFault
  · exact hsent.trans ((Sound.refl _).resetRunning bytes).toSafe

/-- Every invariant holds of the part right after HARDWARE_RESET. -/
theorem Safe.hardReset (s : State) (maint : Bool) : Safe s (s.hardReset maint) where
  index := fun _ => ⟨List.Pairwise.nil, nofun⟩
  lines := fun _ j k hj => absurd (congrArg Line.state (State.reset_line j)) hj
  pool := fun _ => ⟨fun p a ha => (by cases (State.reset_accum p).symm.trans ha),
    fun p q a ha => (by cases (State.reset_accum p).symm.trans ha)⟩
  logs := fun _ => State.logHolds_congr (s := State.reset) rfl rfl rfl State.reset_logHolds
  slots := fun _ => State.reset_slotsHold
  fault := fun _ => nofun

/-! ### Every command -/

theorem Sound.done {s t : State} (h : Sound s t) : Leads t.done (Sound s) := .next (h.calm (Calm.refl t).syncStatusTimer)

theorem Safe.done {s t : State} (h : Safe s t) : Leads t.done (Safe s) :=
  .next (h.trans (Calm.refl t).syncStatusTimer.sound.toSafe)

theorem Sound.directive {s t : State} {i : Instr} {effect : Effect} (h : Sound s t) (he : Sound t (effect t).1) :
    Leads (t.directive i effect) (Sound s) :=
  .ite (fun _ => ((h.trans he).calm ((Calm.refl _).addResult _)).done) (.next h)

theorem execRestTimerExpiry_sound (s : State) (err : Option TableError) : Leads (execRestTimerExpiry s err) (Sound s) :=
  .ite (fun _ => (((Sound.refl s).findError err).calm (Calm.refl _).restExpires).done) (.next ((Sound.refl s).findError err))

theorem execLineQueueGrant_sound (s : State) (err : Option TableError) : Leads (execLineQueueGrant err s) (Sound s) := by
  have herr := (Sound.refl s).findError err
  unfold execLineQueueGrant
  dsimp only
  cases hg : (s.findError err).grantLine with
  | none => exact herr.done
  | some u => exact (herr.calm ((Calm.refl _).grantLine hg)).done

theorem execMendStart_sound (s : State) (err : Option TableError) : Leads (execMendStart err s) (Sound s) :=
  .ite (fun _ => (((Sound.refl s).findError err).calm (Calm.takeMend _ (Calm.refl _))).done) ((Sound.refl s).findError err).done

theorem execMendFrame_sound (s : State) (e f t : Nat) (err : Option TableError) : Leads (execMendFrame e f t s err) (Sound s) :=
  .ite (fun _ => (((Sound.refl s).findError err).calm ((Calm.refl _).mendFrameRecord e f t)).done)
    (.next ((Sound.refl s).findError err))

theorem execIdleTimerExpiry_sound (p : Fin 32) (s : State) (err : Option TableError) :
    Leads (execIdleTimerExpiry p s err) (Sound s) :=
  .ite (fun _ => .next (((Sound.refl s).findError err).calm ((Calm.refl _).abandon p))) (.next ((Sound.refl s).findError err))

theorem execDirtyTimerExpiry_sound (l : Fin 64) (s : State) (err : Option TableError) :
    Leads (execDirtyTimerExpiry l s err) (Sound s) := by
  have herr := (Sound.refl s).findError err
  have hline := (Calm.refl (s.findError err)).setLine l { (s.findError err).line l with dirtyTimer := none } fun h => ⟨h, rfl⟩
  exact .ite (fun _ => .next (herr.calm (hline.queueWriteback l))) (.next herr)

/-- Every command but a reset carries the invariants over and leaves FAULT as it is. -/
theorem exec_sound (c : Instr) (s : State) (hr : isReset c = false) (hl : isLinkReset c = false) : Leads (exec c s) (Sound s) := by
  have herr := fun err => (Sound.refl s).findError err
  cases c with
  | hardwareReset => cases hr
  | linkReset | upstreamLinkDown => cases hl
  | eepromReadEnd image => exact .ite (fun h => (Sound.setupRead _ h.1).done) (.next (Sound.refl s))
  | eepromReadTimeout => exact .ite (fun h => (Sound.setupRead _ h.1).done) (.next (Sound.refl s))
  | upstreamLinkUp => exact .next (Calm.sound (by exact (Calm.refl s).lit rfl rfl rfl rfl rfl rfl rfl rfl))
  | mediaLinkDown err => exact (herr err).mediaLost.done
  | mediaLinkUp err => exact ((herr err).calm (Calm.refl _).mediaBack).done
  | controllerRequest req err => exact ((herr err).request req).done
  | passthroughSlotTaken err => exact (herr err).slotTaken.done
  | writeLinesReady err => exact (herr err).writeReady.done
  | directiveWriteProceeds err => exact (herr err).directiveProceeds.done
  | passthroughMediaReturn tag status data err => exact ((herr err).passReturn tag status data).done
  | unexpectedReturn tag status err => exact ((herr err).strayReturn tag status).done
  | passthroughReturnTimeout i err => exact ((herr err).passTimeout i).done
  | staleTimeout i err => exact ((herr err).staleTimeout i).done
  | injectedReturnTimeout i err => exact ((herr err).injectedTimeout i err).done
  | injectionGrant err => exact (herr err).grantNext.done
  | digestFillReturn tag status data err => exact ((herr err).injReturn tag _ status data err).done
  | digestRefillReturn tag status data err => exact ((herr err).injReturn tag _ status data err).done
  | digestWritebackReturn tag status err => exact ((herr err).injReturn tag _ status [] err).done
  | walkChunkReturn tag status data err => exact ((herr err).injReturn tag _ status data err).done
  | mendReadReturn tag status data err => exact ((herr err).injReturn tag _ status data err).done
  | mendWriteReturn tag status err => exact ((herr err).injReturn tag _ status [] err).done
  | statusWriteReturn tag status err => exact ((herr err).injReturn tag _ status [] err).done
  | logWriteReturn tag status err => exact ((herr err).injReturn tag _ status [] err).done
  | catalogueReadReturn tag status data err => exact ((herr err).injReturn tag _ status data err).done
  | blankCatalogueWriteReturn tag status err => exact ((herr err).injReturn tag _ status [] err).done
  | catalogueWriteReturn tag status err => exact ((herr err).injReturn tag _ status [] err).done
  | catalogueRetryExpiry b =>
    exact .ite (fun _ => .next (((Calm.refl s).setCat b _).queueCat b).sound) (.next (Sound.refl s))
  | idleTimerExpiry p err => exact execIdleTimerExpiry_sound p s err
  | dirtyTimerExpiry l err => exact execDirtyTimerExpiry_sound l s err
  | statusTimerExpiry =>
    exact .ite (fun _ => .next (Calm.statusDue (by exact (Calm.refl s).lit rfl rfl rfl rfl rfl rfl rfl rfl)).sound)
      (.next (Sound.refl s))
  | restTimerExpiry err => exact execRestTimerExpiry_sound s err
  | lineQueueGrant err => exact execLineQueueGrant_sound s err
  | mendStart err => exact execMendStart_sound s err
  | defineExtent e _ _ _ _ _ _ _ _ _ _ err =>
    exact (herr err).directive ((Sound.refl _).defineEffect e _ fun _ h => geometry_filled h)
  | sealExtent e err => exact (herr err).directive ((Calm.refl _).sealEffect e).sound
  | openExtent e err => exact (herr err).directive ((Calm.refl _).openEffect e).sound
  | retireExtent e err => exact (herr err).directive ((Sound.refl _).retireEffect e)
  | resealFrame e f c err => exact (herr err).directive ((Calm.refl _).resealEffect e f c).sound
  | checkExtent e a b d err => exact (herr err).directive ((Calm.refl _).checkEffect e a b d).sound
  | startPass d err => exact (herr err).directive ((Calm.refl _).startPassEffect d).sound
  | suspendWalk err => exact (herr err).directive (Calm.refl _).suspendEffect.sound
  | resumeWalk err => exact (herr err).directive (Calm.refl _).resumeEffect.sound
  | mendFrame e f t err => exact execMendFrame_sound s e f t err
  | setPolicy p => exact (Sound.refl s).directive ((Calm.refl s).setPolicyEffect p).sound
  | setWalkDepth d => exact (Sound.refl s).directive ((Calm.refl s).setWalkDepthEffect d).sound
  | setPace a b c d => exact (Sound.refl s).directive ((Calm.refl s).setPaceEffect a b c d).sound
  | setTimers a b => exact (Sound.refl s).directive ((Calm.refl s).setTimersEffect a b).sound
  | setAdmission m r => exact (Sound.refl s).directive ((Calm.refl s).setAdmissionEffect m r).sound
  | setAlert m => exact (Sound.refl s).directive ((Calm.refl s).setAlertEffect m).sound
  | setClock n => exact (Sound.refl s).directive (effect := setClockEffect n) (Calm.sound (by exact (Calm.refl s).lit rfl rfl rfl rfl rfl rfl rfl rfl))
  | ackEvents m n => exact (Sound.refl s).directive (effect := ackEventsEffect m n) (Calm.sound (by exact (Calm.refl s).lit rfl rfl rfl rfl rfl rfl rfl rfl))
  | moveLogTail i => exact (Sound.refl s).directive ((Calm.refl s).moveLogTailEffect i).sound
  | selectWindow w e => exact (Sound.refl s).directive ((Calm.refl s).selectWindowEffect w e).sound
  | flush err => exact (herr err).directive (Calm.refl _).flushEffect.sound
  | freeze => exact (Sound.refl s).directive (effect := freezeEffect) (Calm.sound (by exact (Calm.refl s).lit rfl rfl rfl rfl rfl rfl rfl rfl))
  | unknownKind k => exact (Sound.refl s).directive (Sound.refl s)
  | partClockTick => exact .next (Calm.sound (by exact (Calm.refl s).tickTimers.lit rfl rfl rfl rfl rfl rfl rfl rfl))

/-- Every command carries the invariants over. -/
theorem exec_safe (c : Instr) (s : State) : Leads (exec c s) (Safe s) := by
  have herr := fun (t : State) err (h : Safe s t) => h.trans ((Sound.refl t).findError err).toSafe
  cases c with
  | hardwareReset maint => exact .next (Safe.hardReset s maint)
  | linkReset n err => exact (herr _ err ((Sound.refl s).toSafe.resetLink n)).done
  | upstreamLinkDown n err =>
    have hdown : Safe s { s with up := { s.up with linkUp := false } } :=
      (Calm.sound (by exact (Calm.refl s).lit rfl rfl rfl rfl rfl rfl rfl rfl)).toSafe
    exact (herr _ err (hdown.resetLink n)).done
  | _ => exact (exec_sound _ s rfl rfl).mono fun _ h => h.toSafe

theorem step_safe {s t : State} (h : step s = .next t) : Safe s t := by
  obtain rfl | ⟨c, cs, hexec⟩ := step_cases h
  · exact (Sound.refl _).toSafe
  · have hqueue : Safe s (s.withPending cs) := ⟨id, id, id, id, id, id⟩
    exact hqueue.trans ((exec_safe c (s.withPending cs)).of_next hexec)

/-! ### The part states -/

/-- A link reset of a part that is RUNNING leaves it RUNNING, or in FAULT where a table error is found. -/
theorem State.started_resetLink (s : State) (n : Nat) (err : Option TableError) (h : s.ldr.part = .running) :
    ((s.resetLink n).findError err).ldr.part.started = true := by
  have hkeeps : Keeps s ((s.resetLink n).findError err) := by
    refine Keeps.trans ?_ (State.findError_keeps _ err)
    unfold State.resetLink
    dsimp only
    rw [if_neg (by rw [show (s.sendMedia .linkReset).ldr = s.ldr from rfl, h]; decide)]
    exact ((Keeps.refl s).sendMedia .linkReset).resetRunning n
  exact hkeeps.started (by rw [h]; rfl)

/-- Every command but HARDWARE_RESET leaves a part that is RUNNING either RUNNING or in FAULT. -/
theorem exec_started (c : Instr) (s : State) (hr : isReset c = false) (h : s.ldr.part = .running) :
    Leads (exec c s) fun t => t.ldr.part.started = true := by
  have hs : s.ldr.part.started = true := by rw [h]; rfl
  have lives : ∀ {o}, Leads o (Lives s) → Leads o fun t => t.ldr.part.started = true := fun ho => ho.mono fun _ k => k.started hs
  cases c with
  | hardwareReset => cases hr
  | eepromReadEnd image =>
    exact .ite (fun hsetup => by rw [h] at hsetup; cases hsetup.1) (.next hs)
  | eepromReadTimeout =>
    exact .ite (fun hsetup => by rw [h] at hsetup; cases hsetup.1) (.next hs)
  | linkReset n err =>
    exact .next ((Keeps.refl _).syncStatusTimer.started (s.started_resetLink n err h))
  | upstreamLinkDown n err =>
    exact .next ((Keeps.refl _).syncStatusTimer.started
      (State.started_resetLink { s with up := { s.up with linkUp := false } } n err h))
  | catalogueReadReturn tag status data err =>
    exact lives ((s.findError_keeps err).toLives.injReturn tag _ status data err).done
  | blankCatalogueWriteReturn tag status err =>
    exact lives ((s.findError_keeps err).toLives.injReturn tag _ status [] err).done
  | injectionGrant err => exact lives (s.findError_keeps err).toLives.grantNext.done
  | partClockTick =>
    exact lives (.next ((Keeps.refl s).tickTimers.toLives.lit rfl rfl rfl rfl rfl rfl))
  | setPolicy p => exact lives (Lives.directive ((Lives.refl s).setPolicyEffect p))
  | setWalkDepth d => exact lives (Lives.directive ((Lives.refl s).setWalkDepthEffect d))
  | setPace a b c d => exact lives (Lives.directive ((Lives.refl s).setPaceEffect a b c d))
  | setTimers a b => exact lives (Lives.directive ((Lives.refl s).setTimersEffect a b))
  | setAdmission m r => exact lives (Lives.directive ((Lives.refl s).setAdmissionEffect m r))
  | setClock n => exact lives (Lives.directive ((Lives.refl s).setClockEffect n))
  | ackEvents m n =>
    exact .ite (fun _ => .next (((Keeps.refl _).addResult .done).syncStatusTimer.started hs)) (.next hs)
  | freeze => exact .ite (fun _ => .next (((Keeps.refl _).addResult .done).syncStatusTimer.started hs)) (.next hs)
  | _ => exact (exec_keeps _ s rfl rfl).mono fun _ k => k.started hs

theorem PartState.started_iff {p : PartState} : p.started = true ↔ p = .running ∨ p = .fault := by
  cases p <;> simp [PartState.started]

/-! ### The finding log's room -/

/-- The distance from one slot of the log to another, as the head moves on by a slot. -/
theorem slotsFrom_succ {head tail : Nat} (hh : head < 4096) (ht : tail < 4096) (hd : (head + 4096 - tail) % 4096 ≠ 4095) :
    ((head + 1) % 4096 + 4096 - tail) % 4096 = (head + 4096 - tail) % 4096 + 1 := by
  omega

theorem Report.place_head (r : Report) (f : Finding) : (r.place f).head = (r.head + 1) % 4096 := by
  unfold Report.place
  dsimp only
  split <;> rfl

theorem Report.place_tail (r : Report) (f : Finding) : (r.place f).tail = r.tail := by
  unfold Report.place
  dsimp only
  split <;> rfl

theorem Report.unread_place {r : Report} (f : Finding) (hh : r.head < 4096) (ht : r.tail < 4096) (hfull : r.full = false) :
    (r.place f).unread = r.unread + 1 ∧ (r.place f).unread ≤ 4095 := by
  have hroom : r.unread ≠ 4095 := by
    simp only [Report.full, Bool.or_eq_false_iff, decide_eq_false_iff_not] at hfull
    exact hfull.1.1.1
  unfold Report.unread at *
  rw [Report.place_head, Report.place_tail, slotsFrom_succ hh ht hroom]
  exact ⟨rfl, by omega⟩

/-! ### The statements -/

/-- Settles O5: every command is `Safe`. -/
theorem indexKept : Obligations.IndexKept := by
  unfold Obligations.IndexKept
  intro s t hs hstep
  exact (step_safe hstep).index hs

/-- Settles O6: every command is `Safe`. -/
theorem slotBudgetsKept : Obligations.SlotBudgetsKept := by
  unfold Obligations.SlotBudgetsKept
  intro s t hs hstep
  exact (step_safe hstep).slots hs

/-- Settles O8: every command is `Safe`. -/
theorem linesAndAccumulatorsKept : Obligations.LinesAndAccumulatorsKept := by
  unfold Obligations.LinesAndAccumulatorsKept
  exact ⟨fun s t hs hstep => (step_safe hstep).lines hs, fun s t hs hstep => (step_safe hstep).pool hs⟩

/-- Settles O9: every command is `Safe`, and a finding placed takes one slot more of the log. -/
theorem logKept : Obligations.LogKept := by
  unfold Obligations.LogKept
  exact ⟨fun s t _ hs hstep => (step_safe hstep).logs hs, fun r f hh ht hfull => r.unread_place f hh ht hfull⟩

/-- Settles O12: every command but a reset is `Sound`, and no command but HARDWARE_RESET leaves RUNNING and FAULT from RUNNING. -/
theorem runningLeftOnlyToFault : Obligations.RunningLeftOnlyToFault := by
  unfold Obligations.RunningLeftOnlyToFault
  intro s t c hsteps hfault
  refine ⟨(step_safe hsteps.2).fault hfault, fun hr hrun => ?_, fun hr hl hp => ?_⟩
  · obtain ⟨⟨cs, hcs⟩, hstep⟩ := hsteps
    rw [step_of_pending hcs] at hstep
    exact PartState.started_iff.mp ((exec_started c (s.withPending cs) hr hrun).of_next hstep)
  · obtain ⟨cs, hsound⟩ := hsteps.leads fun cs => exec_sound c (s.withPending cs) hr hl
    exact hsound.stuck hfault hp

end Sys2Proof.Machine

/-!
PROOFS. What a finding that is handed over leaves (R179, R180), and the commands that answer at once: HARDWARE_RESET, the
requests that are not forwarded, stray returns, the timers that free a slot or an accumulator, the table of matches and
mismatches.
-/

namespace Sys2Proof.Machine

/-! ### The report of a finding -/

theorem State.statusDue_rep (s : State) : s.statusDue.rep = { s.rep with statusDue := true } := State.pumpStatus_rep _

theorem State.raise_rep (s : State) (f : EventFlag) :
    (s.raise f).rep =
      { s.rep with flags := s.rep.flags.set f.idx ⟨true, none⟩,
                   statusShot := s.rep.statusShot.map fun x : StatusShot => x.unshow f, statusDue := true } :=
  State.statusDue_rep _

theorem State.flag_raise_self (s : State) (f : EventFlag) : ((s.raise f).flag f).isSet = true := by
  rw [State.flag, State.raise_rep]
  exact congrArg Flag.isSet (Vector.getElem_set_self f.idx.isLt)

/-- The finding log and the flags are alike. -/
def SameLog (s t : State) : Prop :=
  t.rep.head = s.rep.head ∧ t.rep.image = s.rep.image ∧ t.rep.completed = s.rep.completed ∧
    t.rep.withheld = s.rep.withheld ∧ t.rep.flags = s.rep.flags

theorem SameLog.of_rep {s t : State} (h : t.rep = s.rep) : SameLog s t := by simp [SameLog, h]

theorem SameLog.trans {s t u : State} (h : SameLog s t) (k : SameLog t u) : SameLog s u := by
  obtain ⟨h1, h2, h3, h4, h5⟩ := h
  obtain ⟨k1, k2, k3, k4, k5⟩ := k
  exact ⟨k1.trans h1, k2.trans h2, k3.trans h3, k4.trans h4, k5.trans h5⟩

theorem SameLog.unlogged {s t : State} (h : SameLog s t) : Unlogged s t := by
  obtain ⟨hhead, -, -, hwithheld, hflags⟩ := h
  exact ⟨hhead, hwithheld, hflags⟩

theorem SameLog.statusDue {s t : State} (h : SameLog s t) : SameLog s t.statusDue :=
  h.trans (by simp [SameLog, State.statusDue_rep])

theorem State.syncStatusTimer_rep (s : State) :
    s.syncStatusTimer.rep = { s.rep with statusTimer := s.syncStatusTimer.rep.statusTimer } := by
  unfold State.syncStatusTimer
  split_ifs <;> rfl

theorem SameLog.sync {s t : State} (h : SameLog s t) : SameLog s t.syncStatusTimer :=
  h.trans (by rw [SameLog, t.syncStatusTimer_rep]; simp)

theorem Logged.sameLog {s t u : State} {f : Finding} (h : Logged s t f) (k : SameLog t u) : Logged s u f := by
  obtain ⟨hroom, hfull⟩ := h
  obtain ⟨k1, k2, k3, k4, k5⟩ := k
  unfold Logged
  rw [k1, k2, k3, k4, State.flag_congr k5, State.flag_congr k5]
  exact ⟨hroom, hfull⟩

theorem Logged.of_rep {s t u : State} {f : Finding} (h : Logged t u f) (k : t.rep = s.rep) : Logged s u f := by
  unfold Logged at h ⊢
  rwa [k] at h

theorem Logged.sync {s t : State} {f : Finding} (h : Logged s t f) : Logged s t.syncStatusTimer f :=
  h.sameLog (SameLog.of_rep rfl).sync

/-- Of a finding handed over in RUNNING the log says what R179 and R180 say. -/
theorem State.logged_handFinding {s : State} (h : s.running = true) (f : Finding) : Logged s (s.handFinding f) f := by
  unfold State.handFinding
  rw [if_pos h]
  refine ⟨fun hroom => ?_, fun hfull => ?_⟩
  · rw [if_neg (by simp [hroom]), State.placeFinding, State.flag_congr (congrArg Report.flags (State.pumpLog_rep _)),
      State.pumpLog_rep]
    exact ⟨by simp [State.raise_rep], by simp [State.raise_rep], by simp [State.raise_rep], State.flag_raise_self _ _⟩
  · rw [if_pos hfull]
    exact ⟨by simp, by simp [bump, Config.maxCount], State.flag_raise_self _ _⟩

theorem State.logged_log {s : State} (h : s.running = true) (k : FindingKind) (e f c : Option Nat) (d1 d2 d3 : Nat) :
    Logged s (s.log k e f c d1 d2 d3) (s.findingNow k e f c d1 d2 d3) := State.logged_handFinding h _

theorem State.handFinding_of_not_running {s : State} (h : s.running = false) (f : Finding) : s.handFinding f = s := by
  simp [State.handFinding, h]

theorem State.running_iff (s : State) : s.running = true ↔ s.ldr.part = .running := by simp [State.running]

theorem State.running_eq_false_iff (s : State) : s.running = false ↔ s.ldr.part ≠ .running := by simp [State.running]

/-! ### HARDWARE_RESET -/

/-- Settles O13: the state after reset with the ports' past and the sample of MAINT. -/
theorem hardwareReset : Obligations.HardwareReset := by
  unfold Obligations.HardwareReset
  intro maint s
  refine ⟨s.hardReset maint, rfl, ?_⟩
  have hslot (i : Fin 256) : ((s.hardReset maint).slot i).life = .free := by
    rw [State.slot_congr (t := s.hardReset maint) (s := State.reset) rfl, State.reset_slot]
    rfl
  have haccum (p : Fin 32) : (s.hardReset maint).accum p = none := State.reset_accum p
  have hline (l : Fin 64) : ((s.hardReset maint).line l).state = .invalid ∧ ((s.hardReset maint).line l).pins = 0 := by
    rw [State.line_congr (t := s.hardReset maint) (s := State.reset) rfl, State.reset_line]
    exact ⟨rfl, rfl⟩
  have hextent (e : Fin 1024) : (s.hardReset maint).extent e = Extent.freeForm := by
    simp [State.hardReset, State.extent, State.reset, ExtentMap.reset]
  have hflag (f : EventFlag) : (s.hardReset maint).flag f = ⟨false, none⟩ := by
    simp [State.hardReset, State.flag, State.reset, Report.reset, Flag.clear]
  have hadm (i : Fin 16) : (s.hardReset maint).cfg.admission[i] = ⟨false, false, false⟩ := by
    simp [State.hardReset, State.reset, Settings.reset, Rights.withheld]
  have hmask (i : Fin 6) : (s.hardReset maint).cfg.alertMask[i] = false := by
    simp [State.hardReset, State.reset, Settings.reset, Rights.withheld]
  exact ⟨rfl, rfl, rfl, rfl, hslot, rfl, rfl, rfl, hextent, rfl, rfl, haccum, hline, rfl, rfl, rfl, rfl, rfl, rfl, rfl, rfl, rfl,
    rfl, rfl, rfl, hflag, rfl, rfl, rfl, rfl, rfl, rfl, rfl, rfl, rfl, rfl, rfl, rfl, rfl, rfl, rfl, rfl, rfl, rfl, rfl, hadm,
    hmask⟩

/-! ### Requests answered as they are decided (R86) -/

/-- The port takes a header only with nothing at the head, so emptying the head leaves it as it was. -/
theorem State.up_of_takesHeader {s : State} (h : s.takesHeader = true) : { s.up with head := none } = s.up := by
  have hhead : s.up.head = none := by simp_all [State.takesHeader]
  rw [← hhead]

/-- A decision that answers the request is carried out as one return upstream. -/
theorem exec_controllerRequest_answered {s : State} {r : Request} {status : UpStatus} (h : s.takesHeader = true)
    (hd : s.decideRequest r = .answer status) :
    ∃ t, exec (.controllerRequest r none) s = .next t ∧
      t.ports = { s.ports with upstream := s.ports.upstream ++ [⟨r.requester, r.tag, status, []⟩] } ∧ t.up = s.up ∧
      t.slots = s.slots ∧ t.arb = s.arb ∧ SameShelf s t ∧ t.dir = s.dir ∧ t.ldr = s.ldr ∧ t.cfg = s.cfg ∧ SameLog s t := by
  have hstep := exec_controllerRequest_taken r h
  rw [hd] at hstep
  refine ⟨_, hstep, by simp, by simp [State.up_of_takesHeader h], by simp, by simp [State.carryOut, State.setHead, State.sendUp],
    ?_, by simp [State.carryOut, State.setHead, State.sendUp], by simp [State.carryOut, State.setHead, State.sendUp],
    by simp [State.carryOut, State.setHead, State.sendUp], SameLog.sync (SameLog.of_rep rfl)⟩
  exact ⟨by simp [State.carryOut, State.setHead, State.sendUp], by simp [State.carryOut, State.setHead, State.sendUp],
    by simp [State.carryOut, State.setHead, State.sendUp], by simp [State.carryOut, State.setHead, State.sendUp],
    by simp [State.carryOut, State.setHead, State.sendUp]⟩

theorem State.decideRequest_of_form {s : State} {r : Request} (h : s.formFails r = false) :
    s.decideRequest r = s.decideRest r := if_neg (by simp [h])

/-- Settles O20: each of the four requests is decided as an answer. -/
theorem requestsAnsweredAtOnce : Obligations.RequestsAnsweredAtOnce := by
  unfold Obligations.RequestsAnsweredAtOnce
  intro s r status htakes hcase
  have hd : s.decideRequest r = .answer status := by
    rcases hcase with ⟨hf, rfl⟩ | ⟨hf, hm, rfl⟩ | ⟨hf, hm, hp, hr, rfl⟩ | ⟨hf, hm, hp, hw, rfl⟩
    · exact State.decideRequest_of_formFails hf
    · simp [State.decideRequest_of_form hf, State.decideRest, hm]
    · simp [State.decideRequest_of_form hf, State.decideRest, hm, hp, hr]
    · simp [State.decideRequest_of_form hf, State.decideRest, hm, hp, hw]
  obtain ⟨t, hstep, hports, hup, hslots, harb, hshelf, hdir, hldr, hcfg, hlog⟩ := exec_controllerRequest_answered htakes hd
  obtain ⟨hhead, -, hflags⟩ := hlog.unlogged
  exact ⟨t, hstep, hports, hup, hslots, harb, hshelf, hdir, hldr, hcfg, hhead, hflags⟩

/-! ### A request goes to the media (R93) -/

section
variable (s : State) (h : Option Head) (i : Fin 256) (r : Request)

@[simp] theorem State.setHead_slot (j : Fin 256) : (s.setHead h).slot j = s.slot j := rfl
@[simp] theorem State.setHead_running : (s.setHead h).running = s.running := rfl
@[simp] theorem State.setHead_ports : (s.setHead h).ports = s.ports := rfl
@[simp] theorem State.setHead_up : (s.setHead h).up = { s.up with head := h } := rfl
@[simp] theorem State.setHead_arb : (s.setHead h).arb = s.arb := rfl
@[simp] theorem State.setHead_slots : (s.setHead h).slots = s.slots := rfl
@[simp] theorem State.setHead_cfg : (s.setHead h).cfg = s.cfg := rfl
@[simp] theorem State.setHead_map : (s.setHead h).map = s.map := rfl
@[simp] theorem State.setHead_pool : (s.setHead h).pool = s.pool := rfl
@[simp] theorem State.setHead_store : (s.setHead h).store = s.store := rfl
@[simp] theorem State.setHead_walk : (s.setHead h).walk = s.walk := rfl
@[simp] theorem State.setHead_mend : (s.setHead h).mend = s.mend := rfl
@[simp] theorem State.setHead_dir : (s.setHead h).dir = s.dir := rfl
@[simp] theorem State.setHead_rep : (s.setHead h).rep = s.rep := rfl
@[simp] theorem State.setHead_ldr : (s.setHead h).ldr = s.ldr := rfl
@[simp] theorem State.setHead_mediaUp : (s.setHead h).mediaUp = s.mediaUp := rfl

@[simp] theorem State.sendSlot_up : (s.sendSlot i r).up = s.up := rfl
@[simp] theorem State.sendSlot_arb : (s.sendSlot i r).arb = s.arb := rfl
@[simp] theorem State.sendSlot_cfg : (s.sendSlot i r).cfg = s.cfg := rfl
@[simp] theorem State.sendSlot_map : (s.sendSlot i r).map = s.map := rfl
@[simp] theorem State.sendSlot_pool : (s.sendSlot i r).pool = s.pool := rfl
@[simp] theorem State.sendSlot_store : (s.sendSlot i r).store = s.store := rfl
@[simp] theorem State.sendSlot_walk : (s.sendSlot i r).walk = s.walk := rfl
@[simp] theorem State.sendSlot_mend : (s.sendSlot i r).mend = s.mend := rfl
@[simp] theorem State.sendSlot_dir : (s.sendSlot i r).dir = s.dir := rfl
@[simp] theorem State.sendSlot_rep : (s.sendSlot i r).rep = s.rep := rfl
@[simp] theorem State.sendSlot_ldr : (s.sendSlot i r).ldr = s.ldr := rfl
@[simp] theorem State.sendSlot_ports : (s.sendSlot i r).ports =
    { s.ports with media := s.ports.media ++ [.request r.kind r.requester i r.addr r.count r.data] } := rfl

theorem State.sendSlot_slot (j : Fin 256) : (s.sendSlot i r).slot j =
    if j = i then { s.slot i with life := .outstanding, timer := some (Timer.start s.cfg.returnTimeout) } else s.slot j :=
  State.slot_setSlot s i j _

end

/-- The slot is the request's. -/
def Slot.isFor (x : Slot) (r : Request) : Prop :=
  x.kind = .passthrough r.kind ∧ x.requester = r.requester ∧ x.tag = r.tag ∧ x.addr = r.addr ∧ x.count = r.count

theorem Slot.assigned_isFor (r : Request) : (Slot.assigned r).isFor r := ⟨rfl, rfl, rfl, rfl, rfl⟩

theorem State.sentWith_sendSlot {s u : State} {r : Request} {i : Fin 256} (hup : u.up = { s.up with head := none })
    (hports : u.ports = s.ports) (hcfg : u.cfg = s.cfg) (hslot : (u.slot i).isFor r) : SentWith s (u.sendSlot i r) r i := by
  obtain ⟨hk, hq, htag, ha, hc⟩ := hslot
  have hslot := u.sendSlot_slot i r i
  rw [if_pos rfl, hcfg] at hslot
  unfold SentWith
  rw [hslot]
  exact ⟨hup, by rw [State.sendSlot_ports, hports], rfl, hk, hq, htag, ha, hc, rfl⟩

theorem SentWith.sync {s t : State} {r : Request} {i : Fin 256} (h : SentWith s t r i) : SentWith s t.syncStatusTimer r i := by
  unfold SentWith at h ⊢
  rwa [State.syncStatusTimer_up, State.syncStatusTimer_ports, State.slot_congr t.syncStatusTimer_slots]

theorem State.otherSlots_sendSlot {s u : State} {r : Request} {i : Fin 256} (h : OtherSlots s u i) :
    OtherSlots s (u.sendSlot i r) i := by
  intro j hj
  rw [State.sendSlot_slot, if_neg hj, h j hj]

theorem OtherSlots.sync {s t : State} {i : Fin 256} (h : OtherSlots s t i) : OtherSlots s t.syncStatusTimer i := by
  intro j hj
  rw [State.slot_congr t.syncStatusTimer_slots, h j hj]

theorem SameShelf.sync {s t : State} (h : SameShelf s t) : SameShelf s t.syncStatusTimer := by
  unfold SameShelf at h ⊢
  simpa using h

theorem State.otherSlots_setSlot (s : State) (i : Fin 256) (x : Slot) : OtherSlots s (s.setSlot i x) i := by
  intro j hj
  rw [State.slot_setSlot, if_neg hj]

/-- Where the part is not RUNNING a request that has a slot is sent with nothing checked and no line asked for. -/
theorem State.hasSlot_of_not_running {s : State} (h : s.running = false) (i : Fin 256) (r : Request) (exact checked : Bool) :
    s.hasSlot i r exact checked = (s.setHead none).sendSlot i r := by
  unfold State.hasSlot State.readProceeds
  cases r.kind <;> simp [h]

/-- A slot taken outside RUNNING: the request goes to the media with it, and nothing else changes. -/
theorem State.takeSlot_of_not_running {s : State} (h : s.running = false) {i : Fin 256} (hslot : s.passSlot? = some i)
    (r : Request) (exact checked : Bool) :
    s.takeSlot r exact checked = ((s.setSlot i (Slot.assigned r)).setHead none).sendSlot i r := by
  unfold State.takeSlot
  rw [hslot]
  exact State.hasSlot_of_not_running (s := s.setSlot i (Slot.assigned r)) h i r exact checked

theorem State.sent_assigned (s : State) (i : Fin 256) (r : Request) :
    let t := (((s.setSlot i (Slot.assigned r)).setHead none).sendSlot i r).syncStatusTimer
    SentWith s t r i ∧ OtherSlots s t i ∧ t.arb = s.arb ∧ SameShelf s t ∧ t.dir = s.dir ∧ t.cfg = s.cfg ∧ t.ldr = s.ldr := by
  have hslot : ((s.setSlot i (Slot.assigned r)).setHead none).slot i = Slot.assigned r := by simp
  have hsent : SentWith s (((s.setSlot i (Slot.assigned r)).setHead none).sendSlot i r) r i :=
    State.sentWith_sendSlot rfl rfl rfl (by rw [hslot]; exact Slot.assigned_isFor r)
  have hothers : OtherSlots s (((s.setSlot i (Slot.assigned r)).setHead none).sendSlot i r) i :=
    State.otherSlots_sendSlot (s.otherSlots_setSlot i _)
  exact ⟨hsent.sync, hothers.sync, by simp, SameShelf.sync ⟨rfl, rfl, rfl, rfl, rfl⟩, by simp, by simp, by simp⟩

/-- Settles O22: outside RUNNING a request that is decided forward goes with the slot it takes, or waits for one. -/
theorem plainRequestForwarded : Obligations.PlainRequestForwarded := by
  unfold Obligations.PlainRequestForwarded
  constructor
  · intro s r htakes hform hm hpart
    have hrun : s.running = false := by
      rw [State.running_eq_false_iff]
      rcases hpart with hp | ⟨hp, -⟩ | ⟨hp, -⟩ <;> simp [hp]
    have hd : s.decideRequest r = .forward := by
      rw [State.decideRequest_of_form hform]
      rcases hpart with hp | ⟨hp, hk⟩ | ⟨hp, hk, hr⟩
      · simp [State.decideRest, hm, hp]
      · simp [State.decideRest, hm, hp, hk]
      · simp [State.decideRest, hm, hp, hk, hr]
    have hcarry : s.carryOut r .forward = s.takeSlot r false false := by simp [State.carryOut, hrun]
    have hstep := exec_controllerRequest_taken r htakes
    rw [hd, hcarry] at hstep
    refine ⟨_, hstep, ?_⟩
    cases hslot : s.passSlot? with
    | none =>
      have htake : s.takeSlot r false false = s.setHead (some ⟨r, false, .slot false⟩) := by simp [State.takeSlot, hslot]
      rw [htake]
      exact ⟨by simp, SameShelf.sync ⟨rfl, rfl, rfl, rfl, rfl⟩, by simp, by simp, by simp, by simp, by simp⟩
    | some i =>
      rw [State.takeSlot_of_not_running hrun hslot]
      obtain ⟨hsent, hothers, harb, hshelf, -, hcfg, hldr⟩ := s.sent_assigned i r
      exact ⟨harb, hshelf, hcfg, hldr, hsent, hothers⟩
  · intro s r i checked hhead hpart hslot
    have htaken : s.slotTaken = ((s.setSlot i (Slot.assigned r)).setHead none).sendSlot i r := by
      rw [State.slotTaken, hhead]
      exact State.takeSlot_of_not_running ((s.running_eq_false_iff).mpr hpart) hslot r false checked
    have hstep : exec (.passthroughSlotTaken none) s = .next s.slotTaken.syncStatusTimer := rfl
    rw [htaken] at hstep
    obtain ⟨hsent, hothers, harb, hshelf, hdir, -, -⟩ := s.sent_assigned i r
    exact ⟨_, hstep, hsent, hothers, harb, hshelf, hdir⟩

/-! ### A write that protection stops (R18) -/

/-- Settles O25: in RUNNING the judgment decides, and REFUSED hands over its finding before the answer goes. -/
theorem protectedWriteStopped : Obligations.ProtectedWriteStopped := by
  unfold Obligations.ProtectedWriteStopped
  intro s r htakes hform hm hpart hk hr
  have hd : s.decideRequest r = s.decideProtection r := by
    simp [State.decideRequest_of_form hform, State.decideRest, hm, hpart, hr]
  refine ⟨fun hj => ?_, fun hj => ?_⟩
  · have hprotect : s.decideRequest r = .protect := by simp [hd, State.decideProtection, hk, hj]
    have hstep := exec_controllerRequest_taken r htakes
    rw [hprotect] at hstep
    have hlogged : Logged s (s.carryOut r .protect) (s.findingNow .writeRefused none none none r.requester.val
        (s.firstRefused (s.isExact r) r.addr r.count % 2 ^ 32) (s.firstRefused (s.isExact r) r.addr r.count / 2 ^ 32)) :=
      (State.logged_log (s.running_iff.mpr hpart) ..).sameLog (.of_rep rfl)
    refine ⟨_, hstep, by simp [State.carryOut, State.logRefused, State.sendUp], ?_, ?_, ?_, hlogged.sync⟩
    · exact SameShelf.sync ⟨by simp [State.carryOut, State.logRefused, State.sendUp], by simp [State.carryOut, State.logRefused,
        State.sendUp], by simp [State.carryOut, State.logRefused, State.sendUp], by simp [State.carryOut, State.logRefused,
        State.sendUp], by simp [State.carryOut, State.logRefused, State.sendUp]⟩
    · simp [State.carryOut, State.logRefused, State.sendUp, State.up_of_takesHeader htakes]
    · simp [Returned, State.carryOut, State.logRefused, State.sendUp]
  · have hbusy : s.decideRequest r = .answer .busy := by simp [hd, State.decideProtection, hk, hj]
    obtain ⟨t, hstep, hports, hup, hslots, -, hshelf, -, -, -, hlog⟩ := exec_controllerRequest_answered htakes hbusy
    exact ⟨t, hstep, hslots, hshelf, hup, hports, hlog.unlogged⟩

/-! ### The ends of passthrough slots (R84, R94 to R97) -/

theorem State.pokeWalk_of_noSealWait {s : State} (h : s.noSealWait) : s.pokeWalk = s := by
  unfold State.pokeWalk
  cases hw : s.walk.cur with
  | none => rfl
  | some w => simp [h w hw]

theorem State.slot_endSlot (s : State) (i j : Fin 256) (status : UpStatus) (data : List Byte) :
    (s.endSlot i status data).slot j = if j = i then Slot.freeSlot else s.slot j := by
  simp [State.endSlot, State.slot_setSlot, State.slot_congr (State.unpinSlot_slots (s.sendUp _) i)]
  rfl

theorem State.endSlot_upstream (s : State) (i : Fin 256) (status : UpStatus) (data : List Byte) :
    (s.endSlot i status data).ports =
      { s.ports with upstream := s.ports.upstream ++ [⟨(s.slot i).requester, (s.slot i).tag, status, data⟩] } := by
  simp [State.endSlot, State.sendUp]

theorem State.otherSlots_endSlot (s : State) (i : Fin 256) (status : UpStatus) (data : List Byte) :
    OtherSlots s (s.endSlot i status data) i := by
  intro j hj
  rw [State.slot_endSlot, if_neg hj]

/-- A slot owes nothing to an accumulator, and is not the batch's. -/
def Slot.unattached (x : Slot) : Prop := x.batch = false ∧ x.contribs = [] ∧ x.watches = [] ∧ x.held = false

/-- The return of such a slot ends it, with the status and data that the return gives. -/
theorem State.passReturned_of_unattached {s : State} {i : Fin 256} {k : ReqKind} (hk : (s.slot i).kind = .passthrough k)
    (h : (s.slot i).unattached) (hw : s.noSealWait) (status : MediaStatus) (data : List Byte) :
    s.passReturned i (normalise k (s.slot i).count status data) =
      s.endSlot i (if status = .good ∧ (k = .read → data.length = (s.slot i).count * 4096) then .good else .mediaError)
        (if status = .good ∧ k = .read ∧ data.length = (s.slot i).count * 4096 then data else []) := by
  obtain ⟨hb, hc, hwatch, hheld⟩ := h
  have hpoke (u : UpStatus) (d : List Byte) : (s.endSlot i u d).pokeWalk = s.endSlot i u d :=
    State.pokeWalk_of_noSealWait (by simpa [State.noSealWait] using hw)
  have hcommit (d : Option (List Byte)) : s.commitAll i d = s := by simp [State.commitAll, hc, forEach]
  have hfail : s.failAll i = s := by simp [State.failAll, hc, forEach]
  have hread : s.readReturned i data = s.endSlot i .good data := by
    simp [State.readReturned, hcommit, hwatch, hheld, forEach]
  cases status with
  | good =>
    cases k with
    | read =>
      by_cases hlen : data.length = (s.slot i).count * 4096
      · simp [State.passReturned, hb, normalise, Config.blockBytes, hlen, hk, hread]
      · simp [State.passReturned, hb, normalise, Config.blockBytes, hlen, hfail, hpoke]
    | write => simp [State.passReturned, hb, normalise, hk, hcommit, hpoke]
  | mediaError => simp [State.passReturned, hb, normalise, hfail, hpoke]
  | other n => simp [State.passReturned, hb, normalise, hfail, hpoke]

/-- Settles O29: the slot ends, with the return's status and data. -/
theorem passthroughReturnGoesUp : Obligations.PassthroughReturnGoesUp := by
  unfold Obligations.PassthroughReturnGoesUp
  intro s i k status data hm hlife hk hb hc hwatch hheld hwait
  have hret : s.passReturn i status data = s.passReturned i (normalise k (s.slot i).count status data) := by
    simp [State.passReturn, hk, hm, State.awaitsPass, hlife, SlotKind.isPass]
  rw [State.passReturned_of_unattached hk ⟨hb, hc, hwatch, hheld⟩ hwait] at hret
  have hstep : exec (.passthroughMediaReturn i status data none) s = .next (s.passReturn i status data).syncStatusTimer := rfl
  rw [hret] at hstep
  refine ⟨_, hstep, ?_, (s.otherSlots_endSlot i _ _).sync, by simp, by simp, by simp, by simp, by simp, ?_⟩
  · rw [State.slot_congr (State.syncStatusTimer_slots _), State.slot_endSlot, if_pos rfl]
    rfl
  · rw [State.syncStatusTimer_ports, State.endSlot_upstream]

/-- Settles O31: a stray return frees a STALE slot, and is logged in RUNNING with the slot's life state as it was. -/
theorem unexpectedReturnDropped : Obligations.UnexpectedReturnDropped := by
  unfold Obligations.UnexpectedReturnDropped
  intro s i status hm hlife
  let u := if (s.slot i).life = .stale then s.setSlot i Slot.freeSlot else s
  have hrep : u.rep = s.rep ∧ u.ports = s.ports ∧ SameShelf s u ∧ u.dir = s.dir ∧ u.cfg = s.cfg ∧ u.ldr = s.ldr := by
    simp only [u]
    split <;> exact ⟨rfl, rfl, ⟨rfl, rfl, rfl, rfl, rfl⟩, rfl, rfl, rfl⟩
  obtain ⟨hrep, hports, ⟨hmap, hpool, hstore, hwalk, hmend⟩, hdir, hcfg, hldr⟩ := hrep
  have hothers : OtherSlots s u i := by
    simp only [u]
    split
    · exact s.otherSlots_setSlot i _
    · exact fun j _ => rfl
  have hown : (u.slot i).life = if (s.slot i).life = .stale then .free else (s.slot i).life := by
    simp only [u]
    split
    · simp [Slot.freeSlot]
    · rfl
  let f := u.findingNow .unexpectedReturn none none none i.val (statusCode status) (s.slot i).life.code
  have hstep : exec (.unexpectedReturn i status none) s = .next (u.handFinding f).syncStatusTimer := by
    have hstray : s.strayReturn i status = u.handFinding f := by simp [State.strayReturn, hm, hlife]; rfl
    exact congrArg State.done hstray
  refine ⟨_, hstep, by simp [hports], ?_, ?_, by simp [hdir], ?_, fun hp => ⟨f, rfl, rfl, rfl, rfl, ?_, ?_, ?_, ?_⟩, fun hp => ?_⟩
  · intro j hj
    rw [State.slot_congr (State.syncStatusTimer_slots _), State.slot_congr (State.handFinding_slots u f), hothers j hj]
  · exact SameShelf.sync ⟨by simp [hmap], by simp [hpool], by simp [hstore], by simp [hwalk], by simp [hmend]⟩
  · rw [State.slot_congr (State.syncStatusTimer_slots _), State.slot_congr (State.handFinding_slots u f), hown]
  · exact congrArg Settings.passNumber hcfg
  · exact congrArg Report.clock hrep
  · rintro n rfl
    rfl
  · have hrun : u.running = true := by rw [State.running_iff, hldr]; exact hp
    exact ((State.logged_handFinding hrun f).of_rep hrep).sync
  · have hrun : u.running = false := by rw [State.running_eq_false_iff, hldr]; exact hp
    rw [State.handFinding_of_not_running hrun]
    exact (SameLog.of_rep hrep).sync.unlogged

end Sys2Proof.Machine

/-!
PROOFS. Timers that end a slot or an accumulator (R79, R96, R97), the table of matches and mismatches (R43, R44), the bytes
of a digest entry (R38, R41), and the arithmetic of partial digests (R25, R30).
-/

namespace Sys2Proof.Machine

/-! ### Return timers (R96, R97) -/

theorem State.loseBatchSlot_of_ne {s : State} {i : Fin 256} (h : ∀ b ∈ s.dir.batch, b.slot ≠ some i) : s.loseBatchSlot i = s := by
  unfold State.loseBatchSlot
  cases hb : s.dir.batch with
  | none => rfl
  | some b => exact if_neg (h b hb)

theorem State.abandonContributions_of_nil {s : State} {i : Fin 256} (h : (s.slot i).contribs = []) :
    s.abandonContributions i = s := by simp [State.abandonContributions, h, forEach]

/-- The expiry of a timer of a slot that contributes to nothing and is not the batch's. -/
theorem State.passTimedOut_of_unattached {s : State} {i : Fin 256} (hc : (s.slot i).contribs = [])
    (hb : ∀ b ∈ s.dir.batch, b.slot ≠ some i) (hw : s.noSealWait) :
    s.passTimedOut i =
      ((s.unpinSlot i).sendUp ⟨(s.slot i).requester, (s.slot i).tag, .timeout, []⟩).setSlot i (s.slot i).stale := by
  let u := ((s.unpinSlot i).sendUp ⟨(s.slot i).requester, (s.slot i).tag, .timeout, []⟩).setSlot i (s.slot i).stale
  have hslot : (s.unpinSlot i).slot i = s.slot i := State.slot_congr (State.unpinSlot_slots s i) i
  have hlose : u.loseBatchSlot i = u := State.loseBatchSlot_of_ne (by simpa [u, State.setSlot, State.sendUp] using hb)
  have hpoke : u.pokeWalk = u :=
    State.pokeWalk_of_noSealWait (by simpa [u, State.noSealWait, State.setSlot, State.sendUp] using hw)
  unfold State.passTimedOut
  rw [State.abandonContributions_of_nil hc]
  dsimp only
  rw [hslot]
  exact (congrArg State.pokeWalk hlose).trans hpoke

/-- Settles O32: TIMEOUT goes up and the slot is STALE; a STALE slot's timer frees it. -/
theorem returnTimeout : Obligations.ReturnTimeout := by
  unfold Obligations.ReturnTimeout
  constructor
  · intro s i k x hlife hk htimer hdue hc hb hw
    have hexpires : s.passTimeout i = s.passTimedOut i := by
      simp [State.passTimeout, State.awaitsPass, hk, hlife, SlotKind.isPass, htimer, timerDue, Timer.due, hdue]
    rw [State.passTimedOut_of_unattached hc hb hw] at hexpires
    have hstep : exec (.passthroughReturnTimeout i none) s = .next (s.passTimeout i).syncStatusTimer := rfl
    rw [hexpires] at hstep
    refine ⟨_, hstep, ?_, ?_, ?_, ?_, by simp [Returned, State.setSlot, State.sendUp], by simp [State.setSlot, State.sendUp],
      by simp [State.setSlot, State.sendUp], by simp [State.setSlot, State.sendUp], ?_⟩
    · simp [State.slot_congr (State.syncStatusTimer_slots _), Slot.stale]
    · simp [State.slot_congr (State.syncStatusTimer_slots _), Slot.stale, htimer, Timer.start]
    · simp [State.slot_congr (State.syncStatusTimer_slots _), Slot.stale]
    · refine OtherSlots.sync fun j hj => ?_
      rw [State.slot_setSlot, if_neg hj]
      exact State.slot_congr (State.unpinSlot_slots s i) j
    · exact (SameLog.of_rep (by simp [State.setSlot, State.sendUp])).sync.unlogged
  · intro s i
    have hstep : exec (.staleTimeout i none) s = .next (s.staleTimeout i).syncStatusTimer := rfl
    by_cases hdue : (s.slot i).life = .stale ∧ timerDue (s.slot i).timer = true
    · rw [State.staleTimeout, if_pos hdue] at hstep
      refine ⟨_, hstep, by simp [State.setSlot], by simp [State.setSlot], by simp [State.setSlot],
        SameShelf.sync ⟨rfl, rfl, rfl, rfl, rfl⟩, by simp [State.setSlot], by simp [State.setSlot], by simp [State.setSlot],
        by simp [State.setSlot], (SameLog.of_rep rfl).sync.unlogged, (s.otherSlots_setSlot i _).sync, ?_⟩
      simp [State.slot_congr (State.syncStatusTimer_slots _), hdue]
    · rw [State.staleTimeout, if_neg hdue] at hstep
      refine ⟨_, hstep, by simp, by simp, by simp, SameShelf.sync ⟨rfl, rfl, rfl, rfl, rfl⟩, by simp, by simp, by simp, by simp,
        (SameLog.of_rep rfl).sync.unlogged, OtherSlots.sync fun _ _ => rfl, ?_⟩
      rw [if_neg hdue, State.slot_congr (State.syncStatusTimer_slots _)]

/-! ### Abandoning an accumulator (R80) -/

theorem State.dropWaiting_line (s : State) (who : Submitter) (l : Fin 64) :
    (s.dropWaiting who).line l =
      { s.line l with waiting := (s.line l).waiting.filter fun w => decide (w.who ≠ who) } := by
  simp [State.dropWaiting, State.line]

theorem Slot.dropWatch_dropAccum (x : Slot) (p : Fin 32) : (x.dropAccum p).dropWatch p = x.dropAccum p := by
  simp [Slot.dropWatch, Slot.dropAccum, List.filter_filter]

theorem State.unpin?_line (s : State) (o : Option (Fin 64)) (l : Fin 64) :
    (s.unpin? o).line l = { s.line l with pins := (s.line l).pins - if o = some l then 1 else 0 } := by
  cases o with
  | none => simp [State.unpin?]
  | some k =>
    by_cases h : l = k
    · simp [State.unpin?, State.unpin, h]
    · simp [State.unpin?, State.unpin, State.line_setLine, h, Ne.symm h]

/-- An accumulator that holds no return is abandoned with nothing sent. -/
theorem State.abandon_of_unheld {s : State} {p : Fin 32} {a : Accum} (ha : s.accum p = some a) (hh : a.holding = []) :
    s.abandon p =
      ((((s.mapSlots fun x => x.dropAccum p).dropWaiting (.accum p)).mapSlots fun x => x.dropWatch p).setAccum p none).unpin?
        a.line := by
  have hkept : ((s.mapSlots fun x => x.dropAccum p).dropWaiting (.accum p)).accum p = some a := ha
  rw [State.abandon, ha]
  dsimp only
  rw [State.endAccum, hkept]
  dsimp only
  rw [hh]
  rfl

/-- Settles O44: the accumulator is abandoned when its timer is due. -/
theorem idleTimerAbandons : Obligations.IdleTimerAbandons := by
  unfold Obligations.IdleTimerAbandons
  intro s p a ha hh
  have hdue : s.idleDue p = timerDue a.idle := by simp [State.idleDue, ha]
  have hstep : exec (.idleTimerExpiry p none) s = if s.idleDue p then .next (s.abandon p) else .next s := rfl
  rw [hdue] at hstep
  refine ⟨fun hnot => by rw [hstep, hnot]; rfl, fun hexpired => ?_⟩
  rw [hexpired, if_pos rfl, State.abandon_of_unheld ha hh] at hstep
  refine ⟨_, hstep, ?_, fun q hq => ?_, fun i => ?_, fun l => ?_, ?_⟩
  · rw [State.accum_congr (State.unpin?_pool _ _), State.accum_setAccum_self]
  · rw [State.accum_congr (State.unpin?_pool _ _), State.accum_setAccum, if_neg hq]
    rfl
  · rw [State.slot_congr (State.unpin?_slots _ _), State.slot_congr (State.setAccum_slots _ _ _), State.slot_mapSlots]
    exact (congrArg (Slot.dropWatch · p) (State.slot_mapSlots s _ i)).trans (Slot.dropWatch_dropAccum _ _)
  · rw [State.unpin?_line, State.line_congr (State.setAccum_store _ _ _), State.line_congr (State.mapSlots_store _ _),
      State.dropWaiting_line]
    exact ⟨rfl, rfl, rfl⟩
  · simp [State.dropWaiting, State.mapSlots, State.setAccum]

/-! ### Matches and mismatches (R43, R44) -/

theorem Entry.mismatch_of_sealed {e : Entry} {c : CopyId} (h : e.copyState c = .sealed)
    (h1 : e.copyState c.other ≠ .suspect) (h2 : e.copyState c.other ≠ .lost) :
    e.mismatch c = (e.setCopy c .suspect, .failedSuspect) := by
  unfold Entry.mismatch
  rw [h]
  cases ho : e.copyState c.other with
  | suspect => exact absurd ho h1
  | lost => exact absurd ho h2
  | _ => rfl

theorem Entry.mismatch_of_suspect {e : Entry} {c : CopyId} (h : e.copyState c = .suspect)
    (h1 : e.copyState c.other ≠ .suspect) (h2 : e.copyState c.other ≠ .lost) :
    e.mismatch c = (e, .failedUnchanged) := by
  unfold Entry.mismatch
  rw [h]
  cases ho : e.copyState c.other with
  | suspect => exact absurd ho h1
  | lost => exact absurd ho h2
  | _ => rfl

/-- With the other copy SUSPECT or LOST a mismatch loses the frame. -/
theorem Entry.mismatch_loses {e : Entry} {c : CopyId} (h : e.copyState c = .sealed ∨ e.copyState c = .suspect)
    (ho : e.copyState c.other = .suspect ∨ e.copyState c.other = .lost) :
    e.mismatch c = (e.bothLost, .failedLost (e.copyState c.other)) := by
  unfold Entry.mismatch
  rcases h with h | h <;> rcases ho with ho | ho <;> rw [h, ho]

theorem Entry.unjudged {e : Entry} {c : CopyId} (h1 : e.copyState c ≠ .sealed) (h2 : e.copyState c ≠ .suspect) :
    e.mismatch c = (e, .notApplied) ∧ e.matched c = (e, .notApplied) := by
  unfold Entry.mismatch Entry.matched
  cases h : e.copyState c with
  | sealed => exact absurd h h1
  | suspect => exact absurd h h2
  | _ => exact ⟨rfl, rfl⟩

theorem Entry.setCopy_copyState_other (e : Entry) (c : CopyId) (st : CopyState) :
    (e.setCopy c st).copyState c.other = e.copyState c.other := by cases c <;> rfl

@[simp] theorem Entry.setCopy_copyState (e : Entry) (c : CopyId) (st : CopyState) : (e.setCopy c st).copyState c = st := by
  cases c <;> rfl

/-- Settles O40: the rows of the table, one lemma each. -/
theorem matchAndMismatch : Obligations.MatchAndMismatch := by
  unfold Obligations.MatchAndMismatch
  intro e c
  exact ⟨Entry.mismatch_of_sealed, Entry.mismatch_loses, Entry.mismatch_of_suspect, Entry.unjudged,
    fun h => by simp [Entry.matched, h], fun h => by simp [Entry.matched, h], e.setCopy_copyState_other c _,
    e.setCopy_copyState_other c _⟩

/-! ### Fields of bytes -/

theorem leNat_leBytes (n x : Nat) : leNat (leBytes n x) = x % 256 ^ n := by
  induction n generalizing x with
  | zero => simp [leBytes, leNat, Nat.mod_one]
  | succ n ih =>
    have hbyte : (BitVec.ofNat 8 (x % 256)).toNat = x % 256 := by simp
    calc leNat (leBytes (n + 1) x) = (BitVec.ofNat 8 (x % 256)).toNat + 256 * leNat (leBytes n (x / 256)) := rfl
      _ = x % 256 + 256 * (x / 256 % 256 ^ n) := by rw [hbyte, ih]
      _ = x % 256 ^ (n + 1) := by rw [pow_succ', Nat.mod_mul]

/-- The first `n` bytes of a record, where they spell a number below 256 ^ n. -/
theorem field_leBytes {n x : Nat} (h : x < 256 ^ n) (bs : List Byte) : field (leBytes n x ++ bs) 0 n = x := by
  have htake : ((leBytes n x ++ bs).drop 0).take n = leBytes n x := by simp
  rw [field, htake, leNat_leBytes, Nat.mod_eq_of_lt h]

/-- A field after the first `n` bytes. -/
theorem field_leBytes_append (n x : Nat) (bs : List Byte) (off len : Nat) :
    field (leBytes n x ++ bs) (n + off) len = field bs off len := by
  have hdrop : (leBytes n x ++ bs).drop (n + off) = bs.drop off := by
    rw [List.drop_append, leBytes_length, List.drop_of_length_le (by simp), Nat.add_sub_cancel_left, List.nil_append]
  rw [field, hdrop, field]

theorem CopyState.code_lt (c : CopyState) : c.code < 256 := by cases c <;> decide

@[simp] theorem CopyState.ofCode_code (c : CopyState) : CopyState.ofCode c.code = some c := by cases c <;> rfl

theorem Entry.guarded_length (e : Entry) : e.guarded.length = 14 := by simp [Entry.guarded]

/-- The check of a record's guarded bytes passes where it stands after them (R34). -/
theorem checkPasses_withCheck {bytes : List Byte} {n : Nat} (h : bytes.length = n) : checkPasses n (withCheck bytes) = true := by
  have hfield : field (withCheck bytes) n 2 = leNat (leBytes 2 (weightedCheck bytes)) := by
    rw [field, withCheck, ← h, List.drop_left, List.take_of_length_le (by simp)]
  have hcheck : weightedCheck bytes < 256 ^ 2 := Nat.mod_lt _ (by norm_num)
  rw [checkPasses_iff, hfield, leNat_leBytes, Nat.mod_eq_of_lt hcheck, withCheck, ← h, List.take_left]

/-- The five fields of an entry's bytes (section 12.1). -/
theorem Entry.encode_fields {e : Entry} (ha : e.a < 2147483647) (hb : e.b < 2147483647) (hp : e.lastPass < 2 ^ 32) :
    field e.encode 0 4 = e.a ∧ field e.encode 4 4 = e.b ∧ field e.encode 8 4 = e.lastPass ∧
      field e.encode 12 1 = e.copy0.code ∧ field e.encode 13 1 = e.copy1.code := by
  have h0 := e.copy0.code_lt
  have h1 := e.copy1.code_lt
  unfold Entry.encode withCheck Entry.guarded
  simp only [List.append_assoc]
  refine ⟨field_leBytes (by omega) _, ?_, ?_, ?_, ?_⟩
  · exact (field_leBytes_append 4 _ _ 0 4).trans (field_leBytes (by omega) _)
  · exact (field_leBytes_append 4 _ _ 4 4).trans ((field_leBytes_append 4 _ _ 0 4).trans (field_leBytes (by omega) _))
  · exact (field_leBytes_append 4 _ _ 8 1).trans ((field_leBytes_append 4 _ _ 4 1).trans
      ((field_leBytes_append 4 _ _ 0 1).trans (field_leBytes (by omega) _)))
  · exact (field_leBytes_append 4 _ _ 9 1).trans ((field_leBytes_append 4 _ _ 5 1).trans
      ((field_leBytes_append 4 _ _ 1 1).trans ((field_leBytes_append 1 _ _ 0 1).trans (field_leBytes (by omega) _))))

/-- Settles O41: the check passes, the fields read back, and the copy states are ones the extent may have. -/
theorem entryRoundTrip : Obligations.EntryRoundTrip := by
  unfold Obligations.EntryRoundTrip
  intro hasReplica e ha hb hp h0 h1
  obtain ⟨fa, fb, fp, f0, f1⟩ := Entry.encode_fields ha hb hp
  have hcheck : checkPasses 14 e.encode = true := checkPasses_withCheck e.guarded_length
  have habsent : (decide (e.copy1 = .absent) == hasReplica) = false := by
    cases hasReplica <;> simp_all
  refine ⟨by simp [Entry.encode, withCheck, e.guarded_length], ?_⟩
  simp [decodeEntry, hcheck, fa, fb, fp, f0, f1, Config.digestModulus, ha, hb, h0, habsent]

/-! ### Partial digests (R25, R30) -/

theorem addMod_comm (x y : Nat) : addMod x y = addMod y x := by rw [addMod, Nat.add_comm, addMod]

theorem addMod_assoc (x y z : Nat) : addMod (addMod x y) z = addMod x (addMod y z) := by
  simp [addMod, Nat.add_assoc]

theorem combine_comm (x y : Nat × Nat) : combine x y = combine y x := by
  simp [combine, addMod_comm x.1, addMod_comm x.2]

theorem combine_assoc (x y z : Nat × Nat) : combine (combine x y) z = combine x (combine y z) := by
  simp [combine, addMod_assoc]

/-- Both sums of a run are reduced (R27). -/
theorem combine_zero_runDigest (e : Extent) (data : List Byte) (n k i : Nat) :
    combine (0, 0) (runDigest e data n k i) = runDigest e data n k i := by
  cases n <;> simp [runDigest, combine, addMod]

theorem runDigest_add (e : Extent) (data : List Byte) (n m k i : Nat) :
    runDigest e data (n + m) k i = combine (runDigest e data n k i) (runDigest e data m (k + n) (i + n)) := by
  induction n generalizing k i with
  | zero => rw [Nat.zero_add]; exact (combine_zero_runDigest e data m k i).symm
  | succ n ih =>
    rw [Nat.add_right_comm, runDigest, ih, runDigest, combine_assoc, Nat.add_right_comm k 1 n, Nat.add_right_comm i 1 n]
    rfl

/-- In a frame's last block the bytes from the tail on are read as zero, whatever they are. -/
theorem applyTail_take {span tail : Nat} {block rest : List Byte} (h1 : 1 ≤ span) (ht : tail ≤ 4096)
    (hblock : block.length = 4096) (hrest : rest.length = 4096 - tail) :
    applyTail span tail (span - 1) (block.take tail ++ rest) = applyTail span tail (span - 1) block := by
  have hlast : span - 1 + 1 = span := Nat.sub_add_cancel h1
  have htake : (block.take tail).length = tail := by rw [List.length_take, hblock, Nat.min_eq_left ht]
  have hlen : (block.take tail ++ rest).length = block.length := by rw [List.length_append, htake, hrest, hblock]; omega
  rw [applyTail, if_pos hlast, applyTail, if_pos hlast, hlen, List.take_left' htake]

/-- Settles O43: the sums are additions modulo p, which are commutative and associative. -/
theorem digestOfParts : Obligations.DigestOfParts := by
  unfold Obligations.DigestOfParts
  refine ⟨runDigest_add, fun x y z => ⟨combine_comm x y, combine_assoc x y z⟩, fun e block rest h1 ht hblock hrest => ?_⟩
  rw [blockDigest, applyTail_take h1 ht hblock hrest, blockDigest]

end Sys2Proof.Machine

/-!
PROOFS. What a directive's record leaves (R158 to R160), and the directives that set the part, select the window, flush and
move the log's tail (R166 to R170, R174, R181).
-/

namespace Sys2Proof.Machine

/-! ### The arbiter's queue only grows (R99) -/

/-- What was queued stays queued, in the same order, with the new requests after it. -/
def QueueGrows (s t : State) : Prop := ∃ rs, t.arb = s.arb ++ rs

theorem QueueGrows.of_arb {s t : State} (h : t.arb = s.arb) : QueueGrows s t := ⟨[], by simp [h]⟩

theorem QueueGrows.refl (s : State) : QueueGrows s s := .of_arb rfl

theorem QueueGrows.trans {s t u : State} (h : QueueGrows s t) (k : QueueGrows t u) : QueueGrows s u := by
  obtain ⟨rs, hrs⟩ := h
  obtain ⟨qs, hqs⟩ := k
  exact ⟨rs ++ qs, by rw [hqs, hrs, List.append_assoc]⟩

theorem QueueGrows.mem {s t : State} (h : QueueGrows s t) {r : InjRequest} (hr : r ∈ s.arb) : r ∈ t.arb := by
  obtain ⟨rs, hrs⟩ := h
  rw [hrs]
  exact List.mem_append_left _ hr

theorem State.queued_iff (s : State) (o : Owner) : s.queued o = true ↔ ∃ r ∈ s.arb, r.owner = o := by
  simp [State.queued, List.any_eq_true]

theorem QueueGrows.queued {s t : State} (h : QueueGrows s t) {o : Owner} (ho : s.queued o = true) : t.queued o = true := by
  obtain ⟨r, hr, rfl⟩ := (s.queued_iff o).mp ho
  exact (t.queued_iff _).mpr ⟨r, h.mem hr, rfl⟩

theorem State.enqueue_grows (s : State) (r : InjRequest) : QueueGrows s (s.enqueue r) := ⟨[r], rfl⟩

theorem State.pumpStatus_grows (s : State) : QueueGrows s s.pumpStatus := by
  unfold State.pumpStatus
  split
  · exact .refl s
  · split
    · exact s.enqueue_grows _
    · exact .refl s

theorem State.pumpLog_grows (s : State) : QueueGrows s s.pumpLog := by
  unfold State.pumpLog
  split
  · exact .refl s
  · split
    · exact s.enqueue_grows _
    · exact .refl s

theorem State.statusDue_grows (s : State) : QueueGrows s s.statusDue := State.pumpStatus_grows _

theorem State.raise_grows (s : State) (f : EventFlag) : QueueGrows s (s.raise f) := State.statusDue_grows _

theorem State.placeFinding_grows (s : State) (f : Finding) : QueueGrows s (s.placeFinding f) :=
  QueueGrows.trans (t := { s with rep := s.rep.place f }) (.of_arb rfl)
    ((State.raise_grows _ _).trans (State.pumpLog_grows _))

theorem State.handFinding_grows (s : State) (f : Finding) : QueueGrows s (s.handFinding f) := by
  unfold State.handFinding
  split
  · split
    · exact State.raise_grows _ _
    · exact s.placeFinding_grows f
  · exact .refl s

theorem State.log_grows (s : State) (k : FindingKind) (e f c : Option Nat) (d1 d2 d3 : Nat) :
    QueueGrows s (s.log k e f c d1 d2 d3) := s.handFinding_grows _

theorem State.tryEndFlush_grows (s : State) : QueueGrows s s.tryEndFlush := by
  unfold State.tryEndFlush
  split
  · exact .refl s
  · split
    · refine QueueGrows.trans (t := { s with dir := { s.dir with flush := none } }) (.of_arb rfl) ?_
      exact (State.log_grows _ ..).trans (State.raise_grows _ _)
    · exact .refl s

theorem State.handBatch_grows (s : State) (b : Batch) : QueueGrows s (s.handBatch b) := State.statusDue_grows _

theorem State.tryEndBatch_grows (s : State) : QueueGrows s s.tryEndBatch := by
  unfold State.tryEndBatch
  split
  · exact .refl s
  · split
    · exact State.handBatch_grows _ _
    · exact .refl s

theorem State.addResult_grows (s : State) (r : Result) : QueueGrows s (s.addResult r) := by
  unfold State.addResult
  split
  · exact .refl s
  · exact State.tryEndBatch_grows _

theorem State.queueWriteback_grows (s : State) (l : Fin 64) : QueueGrows s (s.queueWriteback l) := by
  unfold State.queueWriteback
  split
  · exact .refl s
  · exact s.enqueue_grows _

theorem State.queueCat_grows (s : State) (b : Fin 17) : QueueGrows s (s.queueCat b) := by
  unfold State.queueCat
  split
  · exact .refl s
  · exact s.enqueue_grows _

theorem State.queueWriteback_queued (s : State) (l : Fin 64) : (s.queueWriteback l).queued (.writeback l) = true := by
  unfold State.queueWriteback
  split
  case isTrue h => exact h
  case isFalse => exact (State.queued_iff _ _).mpr ⟨_, List.mem_append_right _ List.mem_cons_self, rfl⟩

theorem State.queueCat_queued (s : State) (b : Fin 17) : (s.queueCat b).queued (.catalogueWrite b) = true := by
  unfold State.queueCat
  split
  case isTrue h => exact h
  case isFalse => exact (State.queued_iff _ _).mpr ⟨_, List.mem_append_right _ List.mem_cons_self, rfl⟩

/-! ### A record's result (R158, R159) -/

theorem State.handBatch_sameLog (s : State) (b : Batch) : SameLog s (s.handBatch b) := by
  simp [SameLog, State.handBatch, State.statusDue_rep]

theorem State.tryEndBatch_sameLog (s : State) : SameLog s s.tryEndBatch := by
  unfold State.tryEndBatch
  split
  · exact .of_rep rfl
  · split
    · exact (SameLog.of_rep rfl).trans (State.handBatch_sameLog _ _)
    · exact .of_rep rfl

theorem State.addResult_sameLog (s : State) (r : Result) : SameLog s (s.addResult r) := by
  unfold State.addResult
  split
  · exact .of_rep rfl
  · exact (SameLog.of_rep rfl).trans (State.tryEndBatch_sameLog _)

/-- The result of a record has been added, and with the last one the batch handed over: all else is alike. -/
structure Recorded (s t : State) : Prop where
  ports : SamePorts s t
  shelf : SameShelf s t
  cfg : t.cfg = s.cfg
  ldr : t.ldr = s.ldr
  log : SameLog s t
  tail : t.rep.tail = s.rep.tail
  writtenHead : t.rep.writtenHead = s.rep.writtenHead
  clock : t.rep.clock = s.rep.clock
  selection : t.rep.selection = s.rep.selection
  flush : t.dir.flush = s.dir.flush
  freeze : t.dir.freeze = s.dir.freeze
  mendFrame : t.dir.mendFrame = s.dir.mendFrame
  queue : QueueGrows s t

theorem State.recorded_addResult (s : State) (r : Result) : Recorded s (s.addResult r).syncStatusTimer where
  ports := by simp [SamePorts]
  shelf := by simp [SameShelf]
  cfg := by simp
  ldr := by simp
  log := (s.addResult_sameLog r).sync
  tail := by simp
  writtenHead := by simp
  clock := by simp
  selection := by simp
  flush := by simp
  freeze := by simp
  mendFrame := by simp
  queue := (s.addResult_grows r).trans (.of_arb (by simp))

theorem SamePorts.trans {s t u : State} (h : SamePorts s t) (k : SamePorts t u) : SamePorts s u := by
  obtain ⟨h1, h2, h3, h4, h5⟩ := h
  obtain ⟨k1, k2, k3, k4, k5⟩ := k
  exact ⟨k1.trans h1, k2.trans h2, k3.trans h3, k4.trans h4, k5.trans h5⟩

theorem SameShelf.trans {s t u : State} (h : SameShelf s t) (k : SameShelf t u) : SameShelf s u := by
  obtain ⟨h1, h2, h3, h4, h5⟩ := h
  obtain ⟨k1, k2, k3, k4, k5⟩ := k
  exact ⟨k1.trans h1, k2.trans h2, k3.trans h3, k4.trans h4, k5.trans h5⟩

/-- A record that is next in turn is executed: its effect, then its result. -/
theorem State.directive_records {s : State} {i : Instr} {effect : Effect} (h : s.executes i) {u : State} {r : Result}
    (he : effect s = (u, r)) (hb : u.dir.batch = s.dir.batch) :
    ∃ t, s.directive i effect = .next t ∧ Gained s t r ∧ Recorded u t := by
  refine ⟨_, State.directive_of_executes effect h, ?_, ?_⟩
  · obtain ⟨b, hbatch⟩ := State.executes_batch h
    have hgain : Gained u (u.addResult r) r := State.gained_addResult (hb.trans hbatch) r
    rw [he]
    unfold Gained at hgain ⊢
    rw [hb] at hgain
    simpa using hgain
  · rw [he]
    exact u.recorded_addResult r

/-- A record whose effect is nothing but its result. -/
theorem State.directive_refuses {s : State} {i : Instr} {effect : Effect} (h : s.executes i) {r : Result}
    (he : effect s = (s, r)) : ∃ t, s.directive i effect = .next t ∧ Gained s t r ∧ Recorded s t :=
  State.directive_records h he rfl

/-! ### New settings (R166 to R168, R189) -/

theorem State.changeSettings_shelf (s : State) (c : Settings) : SameShelf s (s.changeSettings c) := by
  simp [SameShelf, State.changeSettings]

theorem State.changeSettings_samePorts (s : State) (c : Settings) : SamePorts s (s.changeSettings c) := by
  simp [SamePorts, State.changeSettings]

@[simp] theorem State.changeSettings_cfg (s : State) (c : Settings) : (s.changeSettings c).cfg = c := by
  simp [State.changeSettings]

@[simp] theorem State.changeSettings_dir (s : State) (c : Settings) : (s.changeSettings c).dir = s.dir := by
  simp [State.changeSettings]

@[simp] theorem State.changeSettings_walk (s : State) (c : Settings) : (s.changeSettings c).walk = s.walk := by
  simp [State.changeSettings]

/-- A record that gives the part new settings. -/
theorem State.directive_sets {s : State} {i : Instr} {effect : Effect} (h : s.executes i) {c : Settings} {r : Result}
    (he : effect s = (s.changeSettings c, r)) :
    ∃ t, s.directive i effect = .next t ∧ SamePorts s t ∧ SameShelf s t ∧ Gained s t r ∧ t.cfg = c := by
  obtain ⟨t, hstep, hgain, hrec⟩ := State.directive_records h he (by simp)
  exact ⟨t, hstep, (s.changeSettings_samePorts c).trans hrec.ports, (s.changeSettings_shelf c).trans hrec.shelf, hgain,
    hrec.cfg.trans (s.changeSettings_cfg c)⟩

theorem clamp_eq {lo hi : Nat} (h : lo ≤ hi) (x : Nat) : clamp lo hi x = max lo (min x hi) := by
  unfold clamp
  split_ifs <;> omega

theorem clampResult_eq (p : Prop) [Decidable p] : clampResult (decide p) = if p then .done else .clamped := by
  by_cases h : p <;> simp [clampResult, h]

theorem setPolicy_taken {s : State} {code : Nat} (h : s.executes (.setPolicy code)) :
    ∃ t, exec (.setPolicy code) s = .next t ∧ SamePorts s t ∧ SameShelf s t ∧
      match Policy.ofCode code, s.dir.freeze with
      | none, _ => Gained s t .refusedRange ∧ t.cfg = s.cfg
      | some _, true => Gained s t .refusedFrozen ∧ t.cfg = s.cfg
      | some p, false => Gained s t .done ∧ t.cfg = { s.cfg with policy := p } := by
  change ∃ t, s.directive _ (setPolicyEffect code) = .next t ∧ _
  cases hc : Policy.ofCode code with
  | none =>
    have he : setPolicyEffect code s = (s, .refusedRange) := by simp [setPolicyEffect, hc]
    obtain ⟨t, hstep, hgain, hrec⟩ := State.directive_refuses h he
    exact ⟨t, hstep, hrec.ports, hrec.shelf, hgain, hrec.cfg⟩
  | some p =>
    cases hf : s.dir.freeze with
    | true =>
      have he : setPolicyEffect code s = (s, .refusedFrozen) := by simp [setPolicyEffect, hc, hf]
      obtain ⟨t, hstep, hgain, hrec⟩ := State.directive_refuses h he
      exact ⟨t, hstep, hrec.ports, hrec.shelf, hgain, hrec.cfg⟩
    | false => exact State.directive_sets h (by simp [setPolicyEffect, hc, hf])

theorem setWalkDepth_taken {s : State} {code : Nat} (h : s.executes (.setWalkDepth code)) :
    ∃ t, exec (.setWalkDepth code) s = .next t ∧ SamePorts s t ∧ SameShelf s t ∧
      match Depth.ofCode code with
      | none => Gained s t .refusedRange ∧ t.cfg = s.cfg
      | some d => Gained s t .done ∧ t.cfg = { s.cfg with depth := d } := by
  change ∃ t, s.directive _ (setWalkDepthEffect code) = .next t ∧ _
  cases hc : Depth.ofCode code with
  | none =>
    have he : setWalkDepthEffect code s = (s, .refusedRange) := by simp [setWalkDepthEffect, hc]
    obtain ⟨t, hstep, hgain, hrec⟩ := State.directive_refuses h he
    exact ⟨t, hstep, hrec.ports, hrec.shelf, hgain, hrec.cfg⟩
  | some d => exact State.directive_sets h (by simp [setWalkDepthEffect, hc])

/-- The settings that SET_PACE gives. -/
def Settings.paced (c : Settings) (threshold depth code rest : Nat) : Settings :=
  { c with paceThreshold := min threshold 240, paceDepth := max 1 (min depth 16), repeatOn := decide (code = 1),
           restInterval := min rest 604800 }

theorem setPaceEffect_of_le {s : State} {threshold depth code rest : Nat} (h : code ≤ 1) :
    setPaceEffect threshold depth code rest s =
      (if code = 1 then s.changeSettings (s.cfg.paced threshold depth code rest)
       else { s.changeSettings (s.cfg.paced threshold depth code rest) with
              walk := { s.walk with restTimer := none, passDue := false } },
       if threshold ≤ 240 ∧ 1 ≤ depth ∧ depth ≤ 16 ∧ rest ≤ 604800 then .done else .clamped) := by
  have hresult : clampResult (threshold ≤ 240 && 1 ≤ depth && depth ≤ 16 && rest ≤ 604800) =
      if threshold ≤ 240 ∧ 1 ≤ depth ∧ depth ≤ 16 ∧ rest ≤ 604800 then .done else .clamped := by
    rw [← clampResult_eq]
    simp [Bool.and_assoc]
  have hpaced : ({ s.cfg with paceThreshold := clamp 0 240 threshold, paceDepth := clamp 1 16 depth, repeatOn := code == 1,
                              restInterval := clamp 0 604800 rest } : Settings) = s.cfg.paced threshold depth code rest := by
    simp only [Settings.paced, clamp_eq (Nat.zero_le _), clamp_eq (show 1 ≤ 16 by norm_num), Nat.zero_max, beq_eq_decide]
  unfold setPaceEffect
  rw [if_neg (Nat.not_lt.mpr h)]
  dsimp only
  rw [hpaced, hresult]
  congr 1
  by_cases h1 : code = 1 <;> simp [h1]

theorem setPace_taken {s : State} {threshold depth code rest : Nat} (h : s.executes (.setPace threshold depth code rest)) :
    ∃ t, exec (.setPace threshold depth code rest) s = .next t ∧ SamePorts s t ∧ t.map = s.map ∧ t.pool = s.pool ∧
      t.store = s.store ∧ t.mend = s.mend ∧ t.walk.cur = s.walk.cur ∧
      (1 < code → Gained s t .refusedRange ∧ t.cfg = s.cfg ∧ t.walk = s.walk) ∧
      (code ≤ 1 → t.cfg = s.cfg.paced threshold depth code rest ∧
        Gained s t (if threshold ≤ 240 ∧ 1 ≤ depth ∧ depth ≤ 16 ∧ rest ≤ 604800 then .done else .clamped)) ∧
      (code = 0 → t.walk = { s.walk with restTimer := none, passDue := false }) ∧ (code = 1 → t.walk = s.walk) := by
  change ∃ t, s.directive _ (setPaceEffect threshold depth code rest) = .next t ∧ _
  by_cases hcode : 1 < code
  · have he : setPaceEffect threshold depth code rest s = (s, .refusedRange) := if_pos hcode
    obtain ⟨t, hstep, hgain, hrec⟩ := State.directive_refuses h he
    obtain ⟨hmap, hpool, hstore, hwalk, hmend⟩ := hrec.shelf
    exact ⟨t, hstep, hrec.ports, hmap, hpool, hstore, hmend, by rw [hwalk], fun _ => ⟨hgain, hrec.cfg, hwalk⟩,
      fun hle => absurd hcode (by omega), fun h0 => absurd hcode (by omega), fun h1 => absurd hcode (by omega)⟩
  · have hle : code ≤ 1 := by omega
    have he := setPaceEffect_of_le (s := s) (threshold := threshold) (depth := depth) (rest := rest) hle
    by_cases h1 : code = 1
    · rw [if_pos h1] at he
      obtain ⟨t, hstep, hports, ⟨hmap, hpool, hstore, hwalk, hmend⟩, hgain, hcfg⟩ := State.directive_sets h he
      exact ⟨t, hstep, hports, hmap, hpool, hstore, hmend, by rw [hwalk], fun hlt => absurd hlt hcode, fun _ => ⟨hcfg, hgain⟩,
        fun h0 => absurd h0 (by omega), fun _ => hwalk⟩
    · rw [if_neg h1] at he
      obtain ⟨t, hstep, hgain, hrec⟩ := State.directive_records h he (by simp)
      obtain ⟨hmap, hpool, hstore, hwalk, hmend⟩ := hrec.shelf
      have hports : SamePorts s t := SamePorts.trans (by simpa [SamePorts] using s.changeSettings_samePorts _) hrec.ports
      obtain ⟨smap, spool, sstore, -, smend⟩ := s.changeSettings_shelf (s.cfg.paced threshold depth code rest)
      exact ⟨t, hstep, hports, hmap.trans smap, hpool.trans spool, hstore.trans sstore, hmend.trans smend, by rw [hwalk],
        fun hlt => absurd hlt hcode, fun _ => ⟨hrec.cfg.trans (by simp), hgain⟩, fun _ => hwalk, fun hone => absurd hone h1⟩

theorem setTimers_taken {s : State} {timeout idle : Nat} (h : s.executes (.setTimers timeout idle)) :
    ∃ t, exec (.setTimers timeout idle) s = .next t ∧ SamePorts s t ∧ SameShelf s t ∧
      t.cfg = { s.cfg with returnTimeout := max 100 (min timeout 10000), idleTime := max 50 (min idle 5000) } ∧
      Gained s t (if 100 ≤ timeout ∧ timeout ≤ 10000 ∧ 50 ≤ idle ∧ idle ≤ 5000 then .done else .clamped) := by
  have he : setTimersEffect timeout idle s =
      (s.changeSettings { s.cfg with returnTimeout := max 100 (min timeout 10000), idleTime := max 50 (min idle 5000) },
        if 100 ≤ timeout ∧ timeout ≤ 10000 ∧ 50 ≤ idle ∧ idle ≤ 5000 then .done else .clamped) := by
    rw [← clampResult_eq]
    simp [setTimersEffect, clamp_eq, Bool.and_assoc]
  obtain ⟨t, hstep, hports, hshelf, hgain, hcfg⟩ := State.directive_sets h he
  exact ⟨t, hstep, hports, hshelf, hcfg, hgain⟩

/-- Every position of the alert mask is a flag's. -/
theorem EventFlag.exists_idx (i : Fin 6) : ∃ f : EventFlag, f.idx = i := by
  match i with
  | 0 => exact ⟨.finding, rfl⟩
  | 1 => exact ⟨.walkEnd, rfl⟩
  | 2 => exact ⟨.mendEnd, rfl⟩
  | 3 => exact ⟨.flushEnd, rfl⟩
  | 4 => exact ⟨.logFull, rfl⟩
  | 5 => exact ⟨.fault, rfl⟩

theorem State.unmaskedFlag_iff (s : State) :
    s.unmaskedFlag = true ↔ ∃ f : EventFlag, (s.flag f).isSet = true ∧ s.cfg.alertMask[f.idx] = false := by
  simp only [State.unmaskedFlag, List.any_eq_true, Bool.and_eq_true, Bool.not_eq_true']
  constructor
  · rintro ⟨i, -, hset, hmask⟩
    obtain ⟨f, rfl⟩ := EventFlag.exists_idx i
    exact ⟨f, hset, hmask⟩
  · rintro ⟨f, hset, hmask⟩
    exact ⟨f.idx, List.mem_finRange _, hset, hmask⟩

theorem maskOf_get (mask : Nat) (i : Fin 6) : (maskOf mask)[i] = decide (mask / 2 ^ i.val % 2 = 1) := by
  simp [maskOf, bitOf, beq_eq_decide]

theorem setAlert_taken {s : State} {mask : Nat} (h : s.executes (.setAlert mask)) :
    ∃ t, exec (.setAlert mask) s = .next t ∧ SamePorts s t ∧ SameShelf s t ∧
      Gained s t .done ∧ t.cfg = { s.cfg with alertMask := t.cfg.alertMask } ∧
      (∀ f : Fin 6, t.cfg.alertMask[f] = decide (mask / 2 ^ f.val % 2 = 1)) ∧
      (s.ldr.part ≠ .passthrough → (t.alertLow = true ↔
        ∃ f : EventFlag, (t.flag f).isSet = true ∧ mask / 2 ^ f.idx.val % 2 = 0)) := by
  have he : setAlertEffect mask s = (s.changeSettings { s.cfg with alertMask := maskOf mask }, .done) := rfl
  obtain ⟨t, hstep, hgain, hrec⟩ := State.directive_records h he (by simp)
  have hcfg : t.cfg = { s.cfg with alertMask := maskOf mask } := hrec.cfg.trans (s.changeSettings_cfg _)
  have hmask (f : Fin 6) : t.cfg.alertMask[f] = decide (mask / 2 ^ f.val % 2 = 1) := by
    rw [hcfg]
    exact maskOf_get mask f
  refine ⟨t, hstep, (s.changeSettings_samePorts _).trans hrec.ports, (s.changeSettings_shelf _).trans hrec.shelf, hgain, ?_,
    hmask, fun hp => ?_⟩
  · rw [hcfg]
  · have hpart : t.ldr.part ≠ .passthrough := by
      rw [hrec.ldr]
      simpa [State.changeSettings] using hp
    have hlow : t.alertLow = t.unmaskedFlag := by simp [State.alertLow, hpart]
    rw [hlow, State.unmaskedFlag_iff]
    refine exists_congr fun f => and_congr_right fun _ => ?_
    rw [hmask]
    simp

/-- The table that SET_ADMISSION asks for. -/
def State.askedAdmission (s : State) (marks : Nat) (rights : List Nat) (i : Fin 16) : Rights :=
  if marks / 2 ^ i.val % 2 = 1 then Rights.ofCode (rights.getD i.val 0) else s.cfg.admission[i]

theorem State.newAdmission_get (s : State) (marks : Nat) (rights : List Nat) (i : Fin 16) :
    (newAdmission s.cfg.admission marks rights)[i] = s.askedAdmission marks rights i := by
  simp [newAdmission, State.askedAdmission, bitOf]

theorem someDirector_iff (t : Vector Rights 16) :
    someDirector t = true ↔ ∃ i : Fin 16, t[i].write = true ∧ t[i].direct = true := by
  unfold someDirector
  rw [List.any_eq_true]
  constructor
  · rintro ⟨x, hx, hp⟩
    obtain ⟨i, hi, rfl⟩ := Vector.mem_iff_getElem.mp (Vector.mem_toList_iff.mp hx)
    exact ⟨⟨i, hi⟩, by simpa using hp⟩
  · rintro ⟨i, hw, hd⟩
    exact ⟨t[i], Vector.mem_toList_iff.mpr (Vector.getElem_mem i.isLt), (Bool.and_eq_true _ _).mpr ⟨hw, hd⟩⟩

/-- With no change mark set the table asked for is the one in force. -/
theorem State.askedAdmission_of_unmarked {s : State} {marks : Nat} (h : someMark marks = false) (rights : List Nat)
    (i : Fin 16) : s.askedAdmission marks rights i = s.cfg.admission[i] := by
  unfold someMark at h
  rw [List.any_eq_false] at h
  have hi := h i (List.mem_finRange i)
  exact if_neg fun hbit => hi ((bitOf_iff _ _).mpr hbit)

theorem setAdmission_taken {s : State} {marks : Nat} {rights : List Nat} (h : s.executes (.setAdmission marks rights)) :
    ∃ t, exec (.setAdmission marks rights) s = .next t ∧ SamePorts s t ∧ SameShelf s t ∧
      ((∀ i, ((s.askedAdmission marks rights i).write && (s.askedAdmission marks rights i).direct) = false) →
        Gained s t .refusedRange ∧ t.cfg = s.cfg) ∧
      (∀ i, (s.askedAdmission marks rights i).write = true → (s.askedAdmission marks rights i).direct = true →
        s.dir.freeze = true → Gained s t .refusedFrozen ∧ t.cfg = s.cfg) ∧
      (∀ i, (s.askedAdmission marks rights i).write = true → (s.askedAdmission marks rights i).direct = true →
        s.dir.freeze = false → Gained s t .done ∧ t.cfg = { s.cfg with admission := t.cfg.admission } ∧
          ∀ j : Fin 16, t.cfg.admission[j] = s.askedAdmission marks rights j) := by
  change ∃ t, s.directive _ (setAdmissionEffect marks rights) = .next t ∧ _
  have hiff := someDirector_iff (newAdmission s.cfg.admission marks rights)
  simp only [State.newAdmission_get] at hiff
  cases hdir : someDirector (newAdmission s.cfg.admission marks rights) with
  | false =>
    have hnone (i : Fin 16) (hw : (s.askedAdmission marks rights i).write = true)
        (hd : (s.askedAdmission marks rights i).direct = true) : False := by
      rw [hiff.mpr ⟨i, hw, hd⟩] at hdir
      cases hdir
    have he : setAdmissionEffect marks rights s = (s, .refusedRange) := if_pos hdir
    obtain ⟨t, hstep, hgain, hrec⟩ := State.directive_refuses h he
    exact ⟨t, hstep, hrec.ports, hrec.shelf, fun _ => ⟨hgain, hrec.cfg⟩, fun i hw hd => (hnone i hw hd).elim,
      fun i hw hd => (hnone i hw hd).elim⟩
  | true =>
    have hsome : ¬ ∀ i, ((s.askedAdmission marks rights i).write && (s.askedAdmission marks rights i).direct) = false := by
      obtain ⟨i, hw, hd⟩ := hiff.mp hdir
      intro hall
      simpa [hw, hd] using hall i
    cases hf : s.dir.freeze with
    | true =>
      have he : setAdmissionEffect marks rights s = (s, .refusedFrozen) := by simp [setAdmissionEffect, hdir, hf]
      obtain ⟨t, hstep, hgain, hrec⟩ := State.directive_refuses h he
      exact ⟨t, hstep, hrec.ports, hrec.shelf, fun hall => absurd hall hsome, fun _ _ _ _ => ⟨hgain, hrec.cfg⟩,
        fun _ _ _ hno => absurd hno (by simp)⟩
    | false =>
      cases hmark : someMark marks with
      | false =>
        have he : setAdmissionEffect marks rights s = (s, .done) := by simp [setAdmissionEffect, hdir, hf, hmark]
        obtain ⟨t, hstep, hgain, hrec⟩ := State.directive_refuses h he
        refine ⟨t, hstep, hrec.ports, hrec.shelf, fun hall => absurd hall hsome, fun _ _ _ hno => absurd hno Bool.false_ne_true,
          fun _ _ _ _ => ⟨hgain, by rw [hrec.cfg], fun j => ?_⟩⟩
        rw [hrec.cfg, State.askedAdmission_of_unmarked hmark]
      | true =>
        have he : setAdmissionEffect marks rights s =
            (s.changeSettings { s.cfg with admission := newAdmission s.cfg.admission marks rights }, .done) := by
          simp [setAdmissionEffect, hdir, hf, hmark]
        obtain ⟨t, hstep, hports, hshelf, hgain, hcfg⟩ := State.directive_sets h he
        refine ⟨t, hstep, hports, hshelf, fun hall => absurd hall hsome, fun _ _ _ hno => absurd hno Bool.false_ne_true,
          fun _ _ _ _ => ⟨hgain, by rw [hcfg], fun j => ?_⟩⟩
        rw [hcfg]
        exact s.newAdmission_get marks rights j

/-- Settles O57: one lemma for each directive. -/
theorem settingsTaken : Obligations.SettingsTaken := by
  unfold Obligations.SettingsTaken
  intro s
  exact ⟨fun _ => setPolicy_taken, fun _ => setWalkDepth_taken, fun _ _ _ _ => setPace_taken, fun _ _ => setTimers_taken,
    fun _ => setAlert_taken, fun _ _ => setAdmission_taken⟩

end Sys2Proof.Machine

/-!
PROOFS. The directives of the unit itself and of the log's tail (R159, R168 to R170, R174, R181), and the directive block on
its way (R156, R157, R160).
-/

namespace Sys2Proof.Machine

/-! ### SET_CLOCK, SELECT_WINDOW, FREEZE, unknown kinds -/

theorem setClock_taken {s : State} {clock : Nat} (h : s.executes (.setClock clock)) :
    ∃ t, exec (.setClock clock) s = .next t ∧ SamePorts s t ∧ SameShelf s t ∧ t.cfg = s.cfg ∧ t.ldr = s.ldr ∧
      Gained s t .done ∧ t.rep.clock = BitVec.ofNat 64 clock := by
  obtain ⟨t, hstep, hgain, hrec⟩ := State.directive_records (effect := setClockEffect clock) h rfl rfl
  exact ⟨t, hstep, hrec.ports, hrec.shelf, hrec.cfg, hrec.ldr, hgain, hrec.clock⟩

theorem selectWindow_taken {s : State} {selection extent : Nat} (h : s.executes (.selectWindow selection extent)) :
    ∃ t, exec (.selectWindow selection extent) s = .next t ∧ SamePorts s t ∧ SameShelf s t ∧ t.cfg = s.cfg ∧ t.ldr = s.ldr ∧
      match windowOf selection extent with
      | none => Gained s t .refusedRange ∧ t.rep.selection = s.rep.selection
      | some x => Gained s t .done ∧ t.rep.selection = x := by
  change ∃ t, s.directive _ (selectWindowEffect selection extent) = .next t ∧ _
  cases hw : windowOf selection extent with
  | none =>
    have he : selectWindowEffect selection extent s = (s, .refusedRange) := by simp [selectWindowEffect, hw]
    obtain ⟨t, hstep, hgain, hrec⟩ := State.directive_refuses h he
    exact ⟨t, hstep, hrec.ports, hrec.shelf, hrec.cfg, hrec.ldr, hgain, hrec.selection⟩
  | some x =>
    have he : selectWindowEffect selection extent s =
        ({ s with rep := { s.rep with selection := x, selectedSince := true } }, .done) := by simp [selectWindowEffect, hw]
    obtain ⟨t, hstep, hgain, hrec⟩ := State.directive_records h he rfl
    exact ⟨t, hstep, hrec.ports, hrec.shelf, hrec.cfg, hrec.ldr, hgain, hrec.selection⟩

theorem freeze_taken {s : State} (h : s.executes .freeze) :
    ∃ t, exec .freeze s = .next t ∧ SamePorts s t ∧ SameShelf s t ∧ t.cfg = s.cfg ∧ t.ldr = s.ldr ∧
      Gained s t .done ∧ t.dir.freeze = true := by
  obtain ⟨t, hstep, hgain, hrec⟩ := State.directive_records (effect := freezeEffect) h rfl rfl
  exact ⟨t, hstep, hrec.ports, hrec.shelf, hrec.cfg, hrec.ldr, hgain, hrec.freeze⟩

theorem unknownKind_taken {s : State} {kind : Nat} (h : s.executes (.unknownKind kind)) :
    ∃ t, exec (.unknownKind kind) s = .next t ∧ SamePorts s t ∧ SameShelf s t ∧ t.cfg = s.cfg ∧ t.ldr = s.ldr ∧
      Gained s t .unknownKind := by
  obtain ⟨t, hstep, hgain, hrec⟩ := State.directive_refuses (effect := unknownEffect) h rfl
  exact ⟨t, hstep, hrec.ports, hrec.shelf, hrec.cfg, hrec.ldr, hgain⟩

/-! ### FLUSH (R169) -/

/-- A list of items taken in order keeps what taking one keeps. -/
theorem gather_induct {α β : Type} {f : State → α → State × List β} {P : State → State → Prop} (hrefl : ∀ s, P s s)
    (htrans : ∀ s t u, P s t → P t u → P s u) (hstep : ∀ s x, P s (f s x).1) (xs : List α) (s : State) :
    P s (gather f xs s).1 := by
  induction xs generalizing s with
  | nil => exact hrefl s
  | cons x xs ih => exact htrans _ _ _ (hstep s x) (ih _)

/-- Each item taken finds what it finds at the start, and what it brings about stays. -/
theorem gather_each {α β : Type} {f : State → α → State × List β} {P : State → State → Prop} {Q : State → α → Prop}
    {R : State → α → Prop} (hrefl : ∀ s, P s s) (htrans : ∀ s t u, P s t → P t u → P s u) (hstep : ∀ s x, P s (f s x).1)
    (hkeepQ : ∀ s t x, P s t → Q s x → Q t x) (hkeepR : ∀ s t x, P s t → R s x → R t x)
    (hmake : ∀ s x, Q s x → R (f s x).1 x) {x : α} (xs : List α) (hx : x ∈ xs) (s : State) (hq : Q s x) :
    R (gather f xs s).1 x := by
  induction xs generalizing s with
  | nil => cases hx
  | cons y ys ih =>
    rcases List.mem_cons.mp hx with rfl | hmem
    · exact hkeepR _ _ _ (gather_induct hrefl htrans hstep ys _) (hmake s x hq)
    · exact ih hmem _ (hkeepQ _ _ _ (hstep s y) hq)

/-- Where no item of the list adds or changes anything, none is gathered. -/
theorem gather_none {α β : Type} {f : State → α → State × List β} {s : State} {xs : List α}
    (h : ∀ x ∈ xs, f s x = (s, [])) : gather f xs s = (s, []) := by
  induction xs with
  | nil => rfl
  | cons x xs ih =>
    have hx := h x List.mem_cons_self
    rw [gather, hx]
    dsimp only
    rw [ih fun y hy => h y (List.mem_cons_of_mem _ hy)]
    rfl

/-- What gathering a flush's items keeps: all but the queue of writebacks, which grows, and the lines' and blocks' marks. -/
structure Flushing (s t : State) : Prop where
  ports : SamePorts s t
  map : t.map = s.map
  pool : t.pool = s.pool
  walk : t.walk = s.walk
  mend : t.mend = s.mend
  cfg : t.cfg = s.cfg
  dir : t.dir = s.dir
  rep : t.rep = s.rep
  lines : ∀ l, (t.line l).entries = (s.line l).entries ∧ (t.line l).state = (s.line l).state
  cats : ∀ b, (t.cat b).state = (s.cat b).state
  queue : QueueGrows s t

theorem Flushing.refl (s : State) : Flushing s s :=
  ⟨⟨rfl, rfl, rfl, rfl, rfl⟩, rfl, rfl, rfl, rfl, rfl, rfl, rfl, fun _ => ⟨rfl, rfl⟩, fun _ => rfl, .refl s⟩

theorem Flushing.trans (s t u : State) (h : Flushing s t) (k : Flushing t u) : Flushing s u where
  ports := h.ports.trans k.ports
  map := k.map.trans h.map
  pool := k.pool.trans h.pool
  walk := k.walk.trans h.walk
  mend := k.mend.trans h.mend
  cfg := k.cfg.trans h.cfg
  dir := k.dir.trans h.dir
  rep := k.rep.trans h.rep
  lines l := ⟨(k.lines l).1.trans (h.lines l).1, (k.lines l).2.trans (h.lines l).2⟩
  cats b := (k.cats b).trans (h.cats b)
  queue := h.queue.trans k.queue

theorem State.queueWriteback_flushing (s : State) (l : Fin 64) : Flushing s (s.queueWriteback l) where
  ports := by simp [SamePorts]
  map := by simp
  pool := by simp
  walk := by simp
  mend := by simp
  cfg := by simp
  dir := by simp
  rep := by simp
  lines k := by simp [State.line_congr (State.queueWriteback_store s l)]
  cats b := by simp [State.cat_congr (State.queueWriteback_ldr s l)]
  queue := s.queueWriteback_grows l

theorem State.setRetrigger_flushing (s : State) (l : Fin 64) : Flushing s (s.setLine l { s.line l with retrigger := true }) where
  ports := ⟨rfl, rfl, rfl, rfl, rfl⟩
  map := rfl
  pool := rfl
  walk := rfl
  mend := rfl
  cfg := rfl
  dir := rfl
  rep := rfl
  lines k := by by_cases h : k = l <;> simp [State.line_setLine, h]
  cats _ := rfl
  queue := .of_arb rfl

theorem State.clearRetry_flushing (s : State) (b : Fin 17) : Flushing s (s.setCat b { s.cat b with retry := none }) where
  ports := ⟨rfl, rfl, rfl, rfl, rfl⟩
  map := rfl
  pool := rfl
  walk := rfl
  mend := rfl
  cfg := rfl
  dir := rfl
  rep := rfl
  lines _ := ⟨rfl, rfl⟩
  cats k := by by_cases h : k = b <;> simp [State.cat_setCat, h]
  queue := .of_arb rfl

theorem State.queueCat_flushing (s : State) (b : Fin 17) : Flushing s (s.queueCat b) where
  ports := by simp [SamePorts]
  map := by simp
  pool := by simp
  walk := by simp
  mend := by simp
  cfg := by simp
  dir := by simp
  rep := by simp
  lines k := by simp [State.line_congr (State.queueCat_store s b)]
  cats k := by simp [State.cat_congr (State.queueCat_ldr s b)]
  queue := s.queueCat_grows b

theorem State.flushTakeLine_flushing (s : State) (l : Fin 64) : Flushing s (s.flushTakeLine l).1 := by
  unfold State.flushTakeLine
  split
  · exact s.queueWriteback_flushing l
  · exact .refl s
  · exact s.setRetrigger_flushing l
  · exact .refl s

theorem State.flushTakeBlock_flushing (s : State) (b : Fin 17) : Flushing s (s.flushTakeBlock b).1 := by
  unfold State.flushTakeBlock
  split
  · exact (s.clearRetry_flushing b).trans _ _ _ (State.queueCat_flushing _ b)
  · exact .refl s
  · exact .refl s
  · exact .refl s

/-- The state and the items of a flush that begins. -/
def State.flushLines (s : State) : State × List (FlushItem (Fin 64)) := gather State.flushTakeLine (allFin 64) s

/-- The state and the catalogue blocks of a flush that begins, its lines being taken. -/
def State.flushBlocks (s : State) : State × List (FlushItem (Fin 17)) := gather State.flushTakeBlock (allFin 17) s.flushLines.1

theorem State.flushLines_flushing (s : State) : Flushing s s.flushLines.1 :=
  gather_induct Flushing.refl Flushing.trans State.flushTakeLine_flushing _ s

theorem State.flushBlocks_flushing (s : State) : Flushing s s.flushBlocks.1 :=
  Flushing.trans _ _ _ s.flushLines_flushing
    (gather_induct Flushing.refl Flushing.trans State.flushTakeBlock_flushing _ s.flushLines.1)

theorem State.flushBlocks_queues_line {s : State} {l : Fin 64} (h : (s.line l).state = .dirty) :
    s.flushBlocks.1.queued (.writeback l) = true := by
  have hlines : s.flushLines.1.queued (.writeback l) = true :=
    gather_each (Q := fun s l => (s.line l).state = .dirty) (R := fun s l => s.queued (.writeback l) = true) Flushing.refl
      Flushing.trans State.flushTakeLine_flushing (fun _ _ x k hq => ((k.lines x).2.trans hq)) (fun _ _ _ k hr => k.queue.queued hr)
      (fun s l hq => by simp only [State.flushTakeLine, hq]; exact s.queueWriteback_queued l) _ (List.mem_finRange l) s h
  exact (gather_induct Flushing.refl Flushing.trans State.flushTakeBlock_flushing _ s.flushLines.1).queue.queued hlines

theorem State.flushBlocks_queues_block {s : State} {b : Fin 17} (h : (s.cat b).state = .changed) :
    s.flushBlocks.1.queued (.catalogueWrite b) = true :=
  gather_each (Q := fun s b => (s.cat b).state = .changed) (R := fun s b => s.queued (.catalogueWrite b) = true) Flushing.refl
    Flushing.trans State.flushTakeBlock_flushing (fun _ _ x k hq => ((k.cats x).trans hq)) (fun _ _ _ k hr => k.queue.queued hr)
    (fun s b hq => by simp only [State.flushTakeBlock, hq]; exact State.queueCat_queued _ b) _ (List.mem_finRange b) s.flushLines.1
    ((s.flushLines_flushing.cats b).trans h)

/-- The state with a flush in progress. -/
def State.withFlush (s : State) (f : Flush) : State := { s with dir := { s.dir with flush := some f } }

/-- What a flush that begins keeps, ending at once or not. -/
structure FlushBegun (s t : State) : Prop where
  ports : SamePorts s t
  map : t.map = s.map
  pool : t.pool = s.pool
  store : t.store = s.store
  walk : t.walk = s.walk
  mend : t.mend = s.mend
  cfg : t.cfg = s.cfg
  batch : t.dir.batch = s.dir.batch
  queue : QueueGrows s t

theorem State.flushBegun_keeps (s : State) (f : Flush) : FlushBegun s (s.withFlush f).tryEndFlush where
  ports := by simp [SamePorts, State.withFlush]
  map := by simp [State.withFlush]
  pool := by simp [State.withFlush]
  store := by simp [State.withFlush]
  walk := by simp [State.withFlush]
  mend := by simp [State.withFlush]
  cfg := by simp [State.withFlush]
  batch := by simp [State.withFlush]
  queue := QueueGrows.trans (t := s.withFlush f) (.of_arb rfl) (State.tryEndFlush_grows _)

theorem flushEffect_of_idle {s : State} (h : s.dir.flush = none) :
    flushEffect s =
      ((s.flushBlocks.1.withFlush ⟨s.flushLines.2, s.flushBlocks.2, 0, 0, 0⟩).tryEndFlush, .started) := by
  unfold flushEffect State.flushBlocks State.flushLines State.withFlush
  rw [if_neg (by simp [h])]

theorem State.flush_empty {s : State} (hl : ∀ l, (s.line l).state = .clean ∨ (s.line l).state = .invalid)
    (hb : ∀ b, (s.cat b).state = .current) : s.flushLines = (s, []) ∧ s.flushBlocks = (s, []) := by
  have hlines : s.flushLines = (s, []) :=
    gather_none fun l _ => by rcases hl l with h | h <;> simp [State.flushTakeLine, h]
  refine ⟨hlines, ?_⟩
  rw [State.flushBlocks, hlines]
  exact gather_none fun b _ => by simp [State.flushTakeBlock, hb b]

theorem State.tryEndFlush_of_empty {s : State} {g f b : Nat} (h : s.dir.flush = some ⟨[], [], g, f, b⟩) :
    s.tryEndFlush.dir.flush = none ∧ (s.tryEndFlush.flag .flushEnd).isSet = true := by
  have heq : s.tryEndFlush =
      ({ s with dir := { s.dir with flush := none } }.log .flushDone none none none g f b).raise .flushEnd := by
    simp [State.tryEndFlush, h]
  rw [heq]
  exact ⟨by simp, State.flag_raise_self _ _⟩

theorem flush_taken {s : State} (h : s.executes (.flush none)) :
    ∃ t, exec (.flush none) s = .next t ∧ SamePorts s t ∧ t.map = s.map ∧ t.pool = s.pool ∧
      t.walk = s.walk ∧ t.mend = s.mend ∧ t.cfg = s.cfg ∧ (∀ l, (t.line l).entries = (s.line l).entries) ∧
      (s.dir.flush.isSome = true → Gained s t .busy ∧ t.dir.flush = s.dir.flush ∧ t.store = s.store) ∧
      (s.dir.flush = none → Gained s t .started ∧
        (∀ l, (s.line l).state = .dirty → t.queued (.writeback l) = true) ∧
        (∀ b, (s.cat b).state = .changed → t.queued (.catalogueWrite b) = true) ∧
        ((∀ l, (s.line l).state = .clean ∨ (s.line l).state = .invalid) → (∀ b, (s.cat b).state = .current) →
          t.dir.flush = none ∧ (t.flag .flushEnd).isSet = true)) := by
  change ∃ t, s.directive _ flushEffect = .next t ∧ _
  cases hf : s.dir.flush with
  | some x =>
    have he : flushEffect s = (s, .busy) := by simp [flushEffect, hf]
    obtain ⟨t, hstep, hgain, hrec⟩ := State.directive_refuses h he
    obtain ⟨hmap, hpool, hstore, hwalk, hmend⟩ := hrec.shelf
    exact ⟨t, hstep, hrec.ports, hmap, hpool, hwalk, hmend, hrec.cfg, fun l => by rw [State.line_congr hstore],
      fun _ => ⟨hgain, hrec.flush.trans hf, hstore⟩, fun hno => by cases hno⟩
  | none =>
    have hflushing := s.flushBlocks_flushing
    have hbegun := s.flushBlocks.1.flushBegun_keeps ⟨s.flushLines.2, s.flushBlocks.2, 0, 0, 0⟩
    obtain ⟨t, hstep, hgain, hrec⟩ := State.directive_records h (flushEffect_of_idle hf)
      (hbegun.batch.trans (by rw [hflushing.dir]))
    obtain ⟨hmap, hpool, hstore, hwalk, hmend⟩ := hrec.shelf
    have hqueue : QueueGrows s.flushBlocks.1 t := hbegun.queue.trans hrec.queue
    refine ⟨t, hstep, hflushing.ports.trans (hbegun.ports.trans hrec.ports), (hmap.trans hbegun.map).trans hflushing.map,
      (hpool.trans hbegun.pool).trans hflushing.pool, (hwalk.trans hbegun.walk).trans hflushing.walk,
      (hmend.trans hbegun.mend).trans hflushing.mend, (hrec.cfg.trans hbegun.cfg).trans hflushing.cfg, fun l => ?_,
      fun hsome => absurd hsome (by simp), fun _ => ⟨hgain, fun l hl => ?_, fun b hb => ?_, fun hl hb => ?_⟩⟩
    · rw [State.line_congr (hstore.trans hbegun.store)]
      exact (hflushing.lines l).1
    · exact hqueue.queued (State.flushBlocks_queues_line hl)
    · exact hqueue.queued (State.flushBlocks_queues_block hb)
    · obtain ⟨hlines, hblocks⟩ := State.flush_empty hl hb
      obtain ⟨-, -, -, -, hflags⟩ := hrec.log
      rw [hrec.flush, State.flag_congr hflags, hlines, hblocks]
      exact State.tryEndFlush_of_empty rfl

/-- Settles O58: one lemma for each directive. -/
theorem unitDirectives : Obligations.UnitDirectives := by
  unfold Obligations.UnitDirectives
  intro s
  exact ⟨fun _ => setClock_taken, fun _ _ => selectWindow_taken, freeze_taken, fun _ => unknownKind_taken, flush_taken⟩

/-! ### The directive block (R156, R157, R160) -/

theorem State.tryEndBatch_start (s : State) (image : List Byte) (i : Fin 256) :
    ((s.setBatch (some (Batch.start image i))).tryEndBatch).dir.batch =
      some { Batch.start image i with ended := decide (batchCount image = 0) } := by
  by_cases h : batchCount image = 0
  · have hend : (Batch.start image i).ended = false ∧ (Batch.start image i).results.length = (Batch.start image i).records := by
      simp [Batch.start, h]
    rw [State.tryEndBatch_of_complete rfl hend]
    simp [h, Batch.start]
  · have hend : ¬((Batch.start image i).ended = false ∧
        (Batch.start image i).results.length = (Batch.start image i).records) := by
      simp [Batch.start]
      omega
    rw [State.tryEndBatch_of_incomplete rfl hend]
    simp [h, Batch.start]

/-- Settles O28: the block becomes the batch as it is sent, and its return is HELD till the batch is reported. -/
theorem directiveBlock : Obligations.DirectiveBlock := by
  unfold Obligations.DirectiveBlock
  constructor
  · intro s r exact i hhead hidle
    let u := ((s.setSlot i { s.slot i with batch := true }).setHead none).sendSlot i r
    have hproceeds : s.directiveProceeds = (u.setBatch (some (Batch.start r.data i))).tryEndBatch := by
      simp only [State.directiveProceeds, hhead, hidle, Option.isNone_none, if_true]
      rfl
    have hstep : exec (.directiveWriteProceeds none) s = .next s.directiveProceeds.syncStatusTimer := rfl
    rw [hproceeds] at hstep
    have hslots : ((u.setBatch (some (Batch.start r.data i))).tryEndBatch).syncStatusTimer.slots = u.slots := by
      simp [State.setBatch]
    have hown := u.sendSlot_slot i r i
    refine ⟨_, hstep, by simp [State.setBatch, u], by simp [State.setBatch, u], ?_, ?_, ?_, ?_, by simp [State.setBatch, u],
      { Batch.start r.data i with ended := decide (batchCount r.data = 0) }, ?_, rfl, rfl, rfl, rfl, rfl, rfl, rfl⟩
    · simp [State.slot_congr hslots, u, State.sendSlot_slot]
    · simp [State.slot_congr hslots, u, State.sendSlot_slot]
    · intro j hj
      simp [State.slot_congr hslots, u, State.sendSlot_slot, hj, State.slot_setSlot]
    · exact SameShelf.sync (by simp [SameShelf, State.setBatch, u])
    · rw [State.syncStatusTimer_dir, State.tryEndBatch_start]
  · intro s i status b hm hlife hk hbatch hb hopen
    let good : Bool := (normalise .write (s.slot i).count status []).isGood
    let u := s.setSlot i { s.slot i with life := .held, timer := none, status := if good then .good else .mediaError }
    have hsettle : u.settleBatch = u := by
      have hub : u.dir.batch = some b := hb
      simp only [State.settleBatch, hub]
      exact if_neg hopen
    have hret : s.passReturn i status [] = u := by
      have hpass : s.passReturn i status [] = s.passReturned i (normalise .write (s.slot i).count status []) := by
        simp [State.passReturn, hk, hm, State.awaitsPass, hlife, SlotKind.isPass]
      rw [hpass]
      exact (if_pos hbatch).trans hsettle
    have hstep : exec (.passthroughMediaReturn i status [] none) s = .next (s.passReturn i status []).syncStatusTimer := rfl
    rw [hret] at hstep
    have hgood : good = decide (status = .good) := by cases status <;> rfl
    refine ⟨_, hstep, by simp [u], by simp [u], ?_, (s.otherSlots_setSlot i _).sync⟩
    rw [State.slot_congr (State.syncStatusTimer_slots u)]
    simp [u, hgood]

end Sys2Proof.Machine

/-!
PROOFS. The finding log's tail and its writes (R179 to R181, R184), the status write (R160, R173 to R175), and the timers that
expire, with the millisecond (R56, R123, R173, R183, R189).
-/

namespace Sys2Proof.Machine

/-! ### The header image (R189) -/

/-- A change in RUNNING leaves its catalogue block other than CURRENT (R189). -/
theorem State.markCat_not_current {s : State} (h : s.running = true) (b : Fin 17) : ((s.markCat b).cat b).state ≠ .current := by
  unfold State.markCat
  rw [if_pos h]
  split
  case h_1 => rw [State.cat_congr (State.queueCat_ldr _ b)]; simp
  case h_2 hc => rw [State.cat_congr (State.queueCat_ldr _ b)]; simp [hc]
  case h_3 => simp
  case h_4 hc => simp [hc]

/-- A block other than CURRENT stays so as it, or another block, is marked. -/
theorem State.markHeader_not_current {s : State} (h : (s.cat 0).state ≠ .current) : (s.markHeader.cat 0).state ≠ .current := by
  by_cases hrun : s.running = true
  · exact State.markCat_not_current hrun 0
  · rw [State.markHeader, State.markCat, if_neg hrun]
    exact h

theorem State.recordLog_cat {s : State} (h : s.running = true) : (s.recordLog.cat 0).state ≠ .current :=
  State.markCat_not_current (by exact h) 0

theorem State.recordLog_cfg (s : State) :
    s.recordLog.cfg = { s.cfg with headerHead := s.rep.writtenHead, headerTail := s.rep.tail } := State.markHeader_cfg _

/-! ### MOVE_LOG_TAIL (R180, R181, R184) -/

/-- The head is to be settled: no head image is held, the head stands within a block, the tail is not ahead (R184). -/
def Report.unsettled (r : Report) : Bool := r.image.isNone && decide (r.head % 128 ≠ 0) && !r.tailAhead

/-- The report writer with its head settled (R184). -/
def Report.settled (r : Report) : Report :=
  if r.unsettled then { r with head := (r.head / 128 + 1) * 128 % 4096, writtenHead := (r.head / 128 + 1) * 128 % 4096 } else r

theorem State.settleHead_of_settled {s : State} (h : s.rep.unsettled = false) : s.settleHead = s :=
  if_neg (by rw [← Bool.not_eq_true] at h; exact h)

theorem State.settleHead_of_unsettled {s : State} (h : s.rep.unsettled = true) :
    s.settleHead = ({ s with rep := s.rep.settled } : State).recordLog := by
  rw [Report.settled, if_pos h]
  exact if_pos h

theorem State.settleHead_rep (s : State) : s.settleHead.rep = s.rep.settled := by
  cases h : s.rep.unsettled with
  | false => rw [State.settleHead_of_settled h, Report.settled, h]; rfl
  | true => rw [State.settleHead_of_unsettled h, State.recordLog_rep]

theorem Report.settled_tail (r : Report) : r.settled.tail = r.tail := by
  unfold Report.settled
  split <;> rfl

theorem Report.settled_withheld (r : Report) : r.settled.withheld = r.withheld := by
  unfold Report.settled
  split <;> rfl

theorem Report.settled_flags (r : Report) : r.settled.flags = r.flags := by
  unfold Report.settled
  split <;> rfl

theorem Report.settled_clock (r : Report) : r.settled.clock = r.clock := by
  unfold Report.settled
  split <;> rfl

/-- What MOVE_LOG_TAIL leaves before the resumption: the tail moved and recorded, the head settled. -/
def State.tailMoved (s : State) (x : Nat) : State := ({ s with rep := { s.rep with tail := x } } : State).recordLog.settleHead

theorem State.tailMoved_rep (s : State) (x : Nat) :
    (s.tailMoved x).rep = ({ s with rep := { s.rep with tail := x } } : State).settleHead.rep := by
  rw [State.tailMoved, State.settleHead_rep, State.settleHead_rep, State.recordLog_rep]

theorem State.tailMoved_cfg (s : State) (x : Nat) :
    (s.tailMoved x).cfg = { s.cfg with headerHead := (s.tailMoved x).rep.writtenHead, headerTail := x } := by
  let u := ({ s with rep := { s.rep with tail := x } } : State)
  have hrep : u.recordLog.rep = { s.rep with tail := x } := State.recordLog_rep u
  cases h : u.recordLog.rep.unsettled with
  | false =>
    have hmoved : s.tailMoved x = u.recordLog := State.settleHead_of_settled h
    rw [hmoved, State.recordLog_cfg, hrep]
  | true =>
    have hmoved : s.tailMoved x = ({ u.recordLog with rep := u.recordLog.rep.settled } : State).recordLog :=
      State.settleHead_of_unsettled h
    rw [hmoved, State.recordLog_cfg, State.recordLog_rep, State.recordLog_cfg]
    simp [Report.settled_tail, u]

theorem State.tailMoved_cat {s : State} (h : s.running = true) (x : Nat) : ((s.tailMoved x).cat 0).state ≠ .current := by
  let u := ({ s with rep := { s.rep with tail := x } } : State)
  have hcat : (u.recordLog.cat 0).state ≠ .current := State.recordLog_cat (s := u) h
  cases hu : u.recordLog.rep.unsettled with
  | false =>
    have hmoved : s.tailMoved x = u.recordLog := State.settleHead_of_settled hu
    rwa [hmoved]
  | true =>
    have hmoved : s.tailMoved x = ({ u.recordLog with rep := u.recordLog.rep.settled } : State).recordLog :=
      State.settleHead_of_unsettled hu
    rw [hmoved]
    refine State.recordLog_cat ?_
    have hpart : u.recordLog.ldr.part = s.ldr.part := State.recordLog_ldr_part u
    simpa [State.running, hpart] using h

theorem State.tailMoved_samePorts (s : State) (x : Nat) : SamePorts s (s.tailMoved x) := by
  simp [SamePorts, State.tailMoved]

theorem State.tailMoved_shelf (s : State) (x : Nat) : SameShelf s (s.tailMoved x) := by
  simp [SameShelf, State.tailMoved]

theorem State.tailMoved_running (s : State) (x : Nat) : (s.tailMoved x).running = s.running := by
  simp [State.tailMoved, State.running]

theorem State.resumeLog_of_quiet {s : State} (h : s.rep.withheld = 0 ∨ s.rep.full = true) : s.resumeLog = s := by
  unfold State.resumeLog
  rcases h with h | h <;> simp [h]

/-- The log resumes: LOG_RESUMED is placed with the count of the withheld findings, which is then 0 (R180). -/
theorem State.resumeLog_of_withheld {s : State} (hrun : s.running = true) (hw : 0 < s.rep.withheld) (hf : s.rep.full = false) :
    let f := s.findingNow .logResumed none none none s.rep.withheld 0 0
    s.resumeLog.rep.withheld = 0 ∧ (s.resumeLog.flag .finding).isSet = true ∧ s.resumeLog.rep.head = (s.rep.place f).head ∧
      s.resumeLog.rep.image = (s.rep.place f).image ∧ s.resumeLog.rep.completed = (s.rep.place f).completed := by
  intro f
  have heq : s.resumeLog = { s.placeFinding f with rep := { (s.placeFinding f).rep with withheld := 0 } } := by
    simp [State.resumeLog, hrun, hw, hf, f]
  have hplaced : (s.placeFinding f).rep = (({ s with rep := s.rep.place f } : State).raise .finding).rep :=
    State.pumpLog_rep _
  rw [heq]
  refine ⟨rfl, ?_, ?_, ?_, ?_⟩
  · refine Eq.trans ?_ (State.flag_raise_self ({ s with rep := s.rep.place f } : State) .finding)
    exact congrArg Flag.isSet (State.flag_congr (s := (({ s with rep := s.rep.place f } : State).raise .finding))
      (congrArg Report.flags hplaced) .finding)
  · simp [hplaced, State.raise_rep]
  · simp [hplaced, State.raise_rep]
  · simp [hplaced, State.raise_rep]

theorem Report.tailMayMove_iff (r : Report) (x : Nat) :
    r.tailMayMove x = true ↔ x ≤ 4095 ∧ (x + 4096 - r.tail) % 4096 ≤ (r.writtenHead + 4096 - r.tail) % 4096 := by
  simp only [Report.tailMayMove, Bool.and_eq_true, decide_eq_true_eq]
  omega

/-- Settles O56: the tail moves and is recorded, the head is settled, then the log resumes. -/
theorem logTailMoves : Obligations.LogTailMoves := by
  unfold Obligations.LogTailMoves
  intro s slot h
  obtain ⟨hrun, -⟩ := id h
  dsimp only
  let x := if s.rep.tailMayMove slot = true then slot else s.rep.writtenHead
  have heffect : moveLogTailEffect slot s = ((s.tailMoved x).resumeLog, clampResult (s.rep.tailMayMove slot)) := rfl
  obtain ⟨t, hstep, hgain, hrec⟩ := State.directive_records h heffect (by simp [State.tailMoved])
  obtain ⟨hhead, himage, hcompleted, hwithheld, hflags⟩ := hrec.log
  have hmoved : (s.tailMoved x).rep = ({ s with rep := { s.rep with tail := x } } : State).settleHead.rep := s.tailMoved_rep x
  have hsettled : (s.tailMoved x).rep = ({ s.rep with tail := x } : Report).settled := by
    rw [hmoved, State.settleHead_rep]
  have htail : t.rep.tail = x := by rw [hrec.tail, State.resumeLog_rep_tail, hsettled, Report.settled_tail]
  have hwritten : t.rep.writtenHead = (s.tailMoved x).rep.writtenHead := by
    rw [hrec.writtenHead, State.resumeLog_rep_writtenHead]
  have hcount : (s.tailMoved x).rep.withheld = s.rep.withheld := by rw [hsettled, Report.settled_withheld]
  have hnow : (s.tailMoved x).findingNow .logResumed none none none s.rep.withheld 0 0 =
      s.findingNow .logResumed none none none s.rep.withheld 0 0 := by
    simp only [State.findingNow, hsettled, Report.settled_clock, State.tailMoved_cfg]
  refine ⟨t, hstep, (s.tailMoved_samePorts x).trans (SamePorts.trans (by simp [SamePorts]) hrec.ports),
    (s.tailMoved_shelf x).trans (SameShelf.trans (by simp [SameShelf]) hrec.shelf), fun hfits => ?_, fun hnot => ?_, ?_, ?_, ?_,
    ?_, ?_⟩
  · have hok := (Report.tailMayMove_iff _ _).mpr hfits
    rw [hok] at hgain
    exact ⟨by rw [htail]; exact if_pos hok, hgain⟩
  · have hok : s.rep.tailMayMove slot = false := by
      rw [← Bool.not_eq_true, Report.tailMayMove_iff]
      exact hnot
    rw [hok] at hgain
    exact ⟨by rw [htail]; exact if_neg (by simp [hok]), hgain⟩
  · rw [hrec.cfg, State.resumeLog_cfg, State.tailMoved_cfg, hwritten, htail]
  · rw [State.cat_congr hrec.ldr, State.cat_congr (State.resumeLog_ldr _)]
    exact State.tailMoved_cat hrun x
  · rw [hwritten, htail, hmoved]
  · intro hw hf
    rw [htail, ← hmoved] at hf ⊢
    have hres := State.resumeLog_of_withheld (s := s.tailMoved x) (by rw [State.tailMoved_running, hrun]) (by rwa [hcount]) hf
    rw [hcount, hnow] at hres
    obtain ⟨hzero, hset, hh, hi, hc⟩ := hres
    exact ⟨hwithheld.trans hzero, by rw [State.flag_congr hflags]; exact hset, hhead.trans hh, himage.trans hi, hcompleted.trans hc⟩
  · intro hquiet
    rw [htail, ← hmoved] at hquiet ⊢
    rw [State.resumeLog_of_quiet (s := s.tailMoved x) (by rwa [hcount])] at hhead himage hcompleted hwithheld hflags
    exact ⟨hwithheld.trans hcount, hhead, himage, hcompleted, by rw [hflags, hsettled, Report.settled_flags]⟩

/-! ### The end of an injected request (R94) -/

/-- An injected request that is OUTSTANDING has its return: the slot is freed, and its owner has the result. -/
theorem State.injReturn_of_outstanding {s : State} {i : Fin 256} {o : Owner} {test : Owner → Bool} (hm : s.mediaUp = true)
    (hlife : (s.slot i).life = .outstanding) (hk : (s.slot i).kind = .injected o) (ht : test o = true) (status : MediaStatus)
    (data : List Byte) (err : Option TableError) :
    s.injReturn i test status data err =
      (s.setSlot i Slot.freeSlot).ownerEnded (s.slot i) o (normalise o.kind (s.slot i).count status data) err := by
  unfold State.injReturn
  simp only [hk]
  exact if_pos ⟨hm, hlife, ht⟩

theorem normalise_write_isGood (count : Nat) (status : MediaStatus) (data : List Byte) :
    (normalise .write count status data).isGood = decide (status = .good) := by
  cases status <;> rfl

/-- The state with another report writer. -/
def State.withRep (s : State) (r : Report) : State := { s with rep := r }

/-! ### LOG_WRITE_RETURN (R179) -/

theorem State.logGood_withheld (s : State) (shot : LogShot) : (s.logGood shot).rep.withheld = s.rep.withheld := by
  cases shot with
  | completed =>
    simp only [State.logGood]
    split <;> simp
  | headImage h =>
    simp only [State.logGood]
    split <;> simp

theorem State.logEnded_good {s : State} {shot : LogShot} (hshot : s.rep.logShot = some shot) (hw : s.rep.withheld = 0) :
    s.logEnded true = ((s.withRep { s.rep with logShot := none }).logGood shot).pumpLog := by
  have hquiet : ((s.withRep { s.rep with logShot := none }).logGood shot).resumeLog =
      (s.withRep { s.rep with logShot := none }).logGood shot :=
    State.resumeLog_of_quiet (.inl ((State.logGood_withheld _ _).trans hw))
  rw [State.logEnded, hshot]
  exact congrArg State.pumpLog hquiet

theorem State.logEnded_bad {s : State} {shot : LogShot} (hshot : s.rep.logShot = some shot) :
    s.logEnded false = (s.withRep s.rep.logLost).pumpLog := by
  rw [State.logEnded, hshot]
  rfl

theorem exec_logWriteReturn {s : State} {i : Fin 256} (status : MediaStatus) (hm : s.mediaUp = true)
    (hlife : (s.slot i).life = .outstanding) (hk : (s.slot i).kind = .injected .log) (hd : (s.slot i).dead = false) :
    exec (.logWriteReturn i status none) s =
      .next ((s.setSlot i Slot.freeSlot).logEnded (decide (status = .good))).syncStatusTimer := by
  have hreturn := State.injReturn_of_outstanding (test := Owner.isLog) hm hlife hk rfl status [] none
  have hended : (s.setSlot i Slot.freeSlot).ownerEnded (s.slot i) .log (normalise .write (s.slot i).count status []) none =
      (s.setSlot i Slot.freeSlot).logEnded (decide (status = .good)) := by
    rw [← normalise_write_isGood (s.slot i).count status []]
    simp [State.ownerEnded, hd]
  exact congrArg State.done (hreturn.trans hended)

/-- What every log write's end keeps. -/
structure LogWritten (s t : State) : Prop where
  slots : t.slots = s.slots
  ports : t.ports = s.ports
  up : t.up = s.up
  shelf : SameShelf s t
  dir : t.dir = s.dir
  shot : t.rep.logShot = none
  head : t.rep.head = s.rep.head
  tail : t.rep.tail = s.rep.tail
  image : t.rep.image = s.rep.image
  flags : t.rep.flags = s.rep.flags
  withheld : t.rep.withheld = s.rep.withheld

theorem State.logWritten_good (s : State) (shot : LogShot) :
    LogWritten s (((s.withRep { s.rep with logShot := none }).logGood shot).pumpLog).syncStatusTimer := by
  have hrep (u : State) : u.syncStatusTimer.rep = { u.rep with statusTimer := u.syncStatusTimer.rep.statusTimer } :=
    u.syncStatusTimer_rep
  cases shot with
  | completed =>
    simp only [State.logGood]
    split
    · constructor <;> (try rw [hrep]) <;> simp [SameShelf, State.withRep]
    · constructor <;> (try rw [hrep]) <;> simp [SameShelf, State.withRep]
  | headImage h =>
    simp only [State.logGood]
    split
    · constructor <;> (try rw [hrep]) <;> simp [SameShelf, State.withRep]
    · constructor <;> (try rw [hrep]) <;> simp [SameShelf, State.withRep]

theorem Report.logLost_keeps (r : Report) : r.logLost =
    { r with logShot := none, imageChanged := r.logLost.imageChanged } := by
  unfold Report.logLost
  split
  · split <;> rfl
  · rfl

theorem State.logWritten_bad (s : State) : LogWritten s ((s.withRep s.rep.logLost).pumpLog).syncStatusTimer := by
  have hlost := s.rep.logLost_keeps
  constructor <;> (try rw [State.syncStatusTimer_rep]) <;> simp [SameShelf, State.withRep] <;> rw [hlost]

/-- Settles O54: the image that was written is discarded, or the written head moves to the head it carried; a write that was
not made leaves all images. -/
theorem logWriteReturns : Obligations.LogWriteReturns := by
  unfold Obligations.LogWriteReturns
  intro s i status shot hm hlife hk hd hshot hw
  have hstep := exec_logWriteReturn status hm hlife hk hd
  let u := s.setSlot i Slot.freeSlot
  have hothers : OtherSlots s u i := s.otherSlots_setSlot i _
  have hfree : u.slot i = Slot.freeSlot := State.slot_setSlot_self ..
  have hkept {t : State} (h : LogWritten u t) :
      t.slot i = Slot.freeSlot ∧ OtherSlots s t i ∧ t.ports = s.ports ∧ t.up = s.up ∧ SameShelf s t ∧ t.dir = s.dir ∧
        t.rep.logShot = none ∧ t.rep.head = s.rep.head ∧ t.rep.tail = s.rep.tail ∧ t.rep.image = s.rep.image ∧
        t.rep.flags = s.rep.flags ∧ t.rep.withheld = 0 :=
    ⟨by rw [State.slot_congr h.slots, hfree], fun j hj => by rw [State.slot_congr h.slots, hothers j hj], h.ports, h.up, h.shelf,
      h.dir, h.shot, h.head, h.tail, h.image, h.flags, h.withheld.trans hw⟩
  by_cases hg : status = .good
  · have hended := State.logEnded_good (s := u) hshot hw
    rw [decide_eq_true hg, hended] at hstep
    obtain ⟨h1, h2, h3, h4, h5, h6, h7, h8, h9, h10, h11, h12⟩ := hkept (u.logWritten_good shot)
    refine ⟨_, hstep, h1, h2, h3, h4, h5, h6, h7, h8, h9, h10, h11, h12, ?_, ?_, fun hno => absurd hg hno⟩
    · rintro b fs rest - rfl hcompleted
      let v : State := u.withRep
        { s.rep with logShot := none, completed := rest, writtenHead := (b + 1) * 128 % 4096 }
      have hgood : (u.withRep { u.rep with logShot := none }).logGood .completed = v.recordLog := by
        have hc : (u.withRep { u.rep with logShot := none }).rep.completed = (b, fs) :: rest := hcompleted
        simp only [State.logGood, hc]
        rfl
      rw [hgood]
      refine ⟨by simp [v, State.withRep], by simp [v, State.withRep], ?_, fun hrun => ?_⟩
      · rw [State.syncStatusTimer_cfg, State.pumpLog_cfg, State.recordLog_cfg]
        rfl
      · rw [State.cat_congr (State.syncStatusTimer_ldr _), State.cat_congr (State.pumpLog_ldr _)]
        exact State.recordLog_cat (s := v) ((State.running_iff _).mpr hrun)
    · rintro h - rfl
      let v : State := u.withRep { s.rep with logShot := none, writtenHead := h }
      have hgood : (u.withRep { u.rep with logShot := none }).logGood (.headImage h) =
          if h % 128 = 0 then v.recordLog else v := rfl
      rw [hgood]
      split
      case isTrue h0 =>
        exact ⟨by simp [v, State.withRep], by simp [v, State.withRep], fun hne => absurd h0 hne⟩
      case isFalse => exact ⟨by simp [v, State.withRep], by simp [v, State.withRep], fun _ => by simp [v, State.withRep, u]⟩
  · have hended := State.logEnded_bad (s := u) hshot
    rw [decide_eq_false hg, hended] at hstep
    obtain ⟨h1, h2, h3, h4, h5, h6, h7, h8, h9, h10, h11, h12⟩ := hkept u.logWritten_bad
    refine ⟨_, hstep, h1, h2, h3, h4, h5, h6, h7, h8, h9, h10, h11, h12, fun _ _ _ hgood => absurd hgood hg,
      fun _ hgood => absurd hgood hg, fun _ => ⟨?_, ?_, by simp [State.withRep, u], ?_⟩⟩
    · rw [State.syncStatusTimer_rep, State.pumpLog_rep]
      simp only [State.withRep]
      rw [Report.logLost_keeps]
      rfl
    · rw [State.syncStatusTimer_rep, State.pumpLog_rep]
      simp only [State.withRep]
      rw [Report.logLost_keeps]
      rfl
    · rintro h rfl hblock
      rw [State.syncStatusTimer_rep, State.pumpLog_rep]
      simp only [State.withRep, Report.logLost]
      have hshot' : u.rep.logShot = some (.headImage h) := hshot
      have hblock' : h / 128 = u.rep.head / 128 := hblock
      rw [hshot']
      dsimp only
      rw [if_pos hblock']
      rfl

end Sys2Proof.Machine

/-!
PROOFS. The end of a status write (R160, R173 to R175), the timers that expire, and the millisecond (R56, R123, R173, R183,
R189).
-/

namespace Sys2Proof.Machine

/-! ### STATUS_WRITE_RETURN -/

theorem exec_statusWriteReturn {s : State} {i : Fin 256} (status : MediaStatus) (hm : s.mediaUp = true)
    (hlife : (s.slot i).life = .outstanding) (hk : (s.slot i).kind = .injected .status) (hd : (s.slot i).dead = false) :
    exec (.statusWriteReturn i status none) s =
      .next ((s.setSlot i Slot.freeSlot).statusEnded (decide (status = .good))).syncStatusTimer := by
  have hreturn := State.injReturn_of_outstanding (test := Owner.isStatus) hm hlife hk rfl status [] none
  have hended : (s.setSlot i Slot.freeSlot).ownerEnded (s.slot i) .status (normalise .write (s.slot i).count status []) none =
      (s.setSlot i Slot.freeSlot).statusEnded (decide (status = .good)) := by
    rw [← normalise_write_isGood (s.slot i).count status []]
    simp [State.ownerEnded, hd]
  exact congrArg State.done (hreturn.trans hended)

theorem Flag.remember_eq (f : Flag) (shown : Bool) (count : BitVec 32) :
    f.remember shown count = if f.isSet = true ∧ shown = true ∧ f.seen = none then ⟨true, some count⟩ else f := by
  unfold Flag.remember
  rcases f with ⟨isSet, seen⟩
  cases isSet <;> cases shown <;> cases seen <;> rfl

/-- The report writer as a status write that returned GOOD leaves it, but for the batch (R174, R175). -/
def Report.statusTaken (r : Report) (shot : StatusShot) : Report :=
  { r with flags := Vector.ofFn fun i : Fin 6 => (r.flags[i]).remember shot.shown[i] shot.count,
           selection := if r.selectedSince then r.selection else .summary, statusShot := none }

theorem State.statusEnded_good {s : State} {shot : StatusShot} (h : s.rep.statusShot = some shot) :
    s.statusEnded true =
      (if shot.batch then (s.withRep (s.rep.statusTaken shot)).reportBatch else s.withRep (s.rep.statusTaken shot)).pumpStatus := by
  rw [State.statusEnded, h]
  rfl

theorem State.statusEnded_bad {s : State} {shot : StatusShot} (h : s.rep.statusShot = some shot) :
    s.statusEnded false = (s.withRep { s.rep with statusShot := none }).statusDue := by
  rw [State.statusEnded, h]
  rfl

/-- What the end of a batch, where there is one, leaves alone as it is reported (R160). -/
structure BatchReported (s t : State) : Prop where
  rep : t.rep = s.rep
  map : t.map = s.map
  pool : t.pool = s.pool
  walk : t.walk = s.walk
  mend : t.mend = s.mend
  ldr : t.ldr = s.ldr
  cfg : t.cfg = s.cfg
  freed : ∀ i, (s.slot i).life ≠ .held → t.slot i = s.slot i

theorem BatchReported.refl (s : State) : BatchReported s s := ⟨rfl, rfl, rfl, rfl, rfl, rfl, rfl, fun _ _ => rfl⟩

theorem State.endSlot_batchReported {s : State} {j : Fin 256} (h : (s.slot j).life = .held) (status : UpStatus) (b : Option Batch) :
    BatchReported s ((s.endSlot j status []).setBatch b) where
  rep := by simp [State.setBatch]
  map := by simp [State.setBatch]
  pool := by simp [State.setBatch]
  walk := by simp [State.setBatch]
  mend := by simp [State.setBatch]
  ldr := by simp [State.setBatch]
  cfg := by simp [State.setBatch]
  freed i hi := (s.slot_endSlot j i status []).trans (if_neg fun hij => hi (by rw [hij, h]))

theorem State.settleBatch_batchReported (s : State) : BatchReported s s.settleBatch := by
  unfold State.settleBatch
  split
  · exact .refl s
  · split
    · split
      · exact ⟨rfl, rfl, rfl, rfl, rfl, rfl, rfl, fun _ _ => rfl⟩
      · split
        · exact State.endSlot_batchReported ‹_› _ none
        · exact .refl s
    · exact .refl s

theorem State.reportBatch_batchReported (s : State) : BatchReported s s.reportBatch := by
  unfold State.reportBatch
  split
  · exact .refl s
  · obtain ⟨h1, h2, h3, h4, h5, h6, h7, h8⟩ := State.settleBatch_batchReported (s.setBatch _)
    exact ⟨h1, h2, h3, h4, h5, h6, h7, h8⟩

theorem State.settleBatch_of_held {s : State} {b : Batch} {j : Fin 256} (hb : s.dir.batch = some b)
    (hend : b.ended = true ∧ b.reported = true) (hj : b.slot = some j) (hheld : (s.slot j).life = .held) :
    s.settleBatch = (s.endSlot j (s.slot j).status []).setBatch none := by
  simp [State.settleBatch, hb, hend, hj, hheld]

/-- An ended batch whose return is HELD is over as it is reported. -/
theorem State.reportBatch_of_held {s : State} {b : Batch} {j : Fin 256} (hb : s.dir.batch = some b) (hend : b.ended = true)
    (hj : b.slot = some j) (hheld : (s.slot j).life = .held) :
    s.reportBatch = ((s.setBatch (some { b with reported := true })).endSlot j (s.slot j).status []).setBatch none := by
  simp only [State.reportBatch, hb]
  exact State.settleBatch_of_held rfl ⟨hend, rfl⟩ hj hheld

/-- Settles O53: the flags and the selection follow the image that was written, and the batch it carried is over. -/
theorem statusWriteReturns : Obligations.StatusWriteReturns := by
  unfold Obligations.StatusWriteReturns
  intro s i status shot hm hlife hk hd hshot
  have hstep := exec_statusWriteReturn status hm hlife hk hd
  let u := s.setSlot i Slot.freeSlot
  have hothers : OtherSlots s u i := s.otherSlots_setSlot i _
  have hfree : u.slot i = Slot.freeSlot := State.slot_setSlot_self ..
  by_cases hg : status = .good
  · have hended := State.statusEnded_good (s := u) hshot
    rw [decide_eq_true hg, hended] at hstep
    let v := u.withRep (s.rep.statusTaken shot)
    let w := if shot.batch then v.reportBatch else v
    have hw : BatchReported v w := by
      simp only [w]
      split
      · exact v.reportBatch_batchReported
      · exact .refl v
    have hslots (j : Fin 256) : w.pumpStatus.syncStatusTimer.slot j = w.slot j := State.slot_congr (by simp) j
    have hown : w.slot i = Slot.freeSlot := by
      have hv : v.slot i = Slot.freeSlot := hfree
      rw [hw.freed i (by rw [hv]; decide), hv]
    have hrep : w.pumpStatus.syncStatusTimer.rep =
        { s.rep.statusTaken shot with statusTimer := w.pumpStatus.syncStatusTimer.rep.statusTimer } := by
      rw [State.syncStatusTimer_rep, State.pumpStatus_rep, hw.rep]
      rfl
    refine ⟨w.pumpStatus.syncStatusTimer, hstep, (hslots i).trans hown, by rw [hrep]; rfl, by rw [hrep]; rfl, by rw [hrep]; rfl,
      by simp [hw.map]; rfl, by simp [hw.pool]; rfl, by simp [hw.walk]; rfl, by simp [hw.mend]; rfl, by simp [hw.ldr]; rfl,
      by simp [hw.cfg]; rfl, fun hno => absurd hg hno, fun _ => ⟨by rw [hrep]; rfl, fun f => ?_, fun hnone => ?_, ?_⟩⟩
    · rw [State.flag, hrep, ← Flag.remember_eq]
      simp [Report.statusTaken, State.flag]
    · have hwv : w = v := by simp [w, hnone]
      rw [hwv]
      exact ⟨by simp [v, u, State.withRep], by simp [v, u, State.withRep],
        fun j hj => (State.slot_congr (by simp [v, State.withRep]) j).trans (hothers j hj), by simp [v, u, State.withRep]⟩
    · intro b j hbatch hb hend hj hji hheld
      have hvj : v.slot j = s.slot j := hothers j hji
      have hwr : w = ((v.setBatch (some { b with reported := true })).endSlot j (v.slot j).status []).setBatch none := by
        have hreport := State.reportBatch_of_held (s := v) hb hend hj (by rw [hvj]; exact hheld)
        simp only [w, hbatch, if_true, hreport]
      refine ⟨?_, ?_, ?_⟩
      · simp [hwr, State.setBatch, v, u, State.withRep]
      · rw [hslots, hwr]
        refine (congrArg Slot.life (State.slot_endSlot (v.setBatch _) j j _ [])).trans ?_
        rw [if_pos rfl]
        rfl
      · have hports := (v.setBatch (some { b with reported := true })).endSlot_upstream j (v.slot j).status []
        have hvs : (v.setBatch (some { b with reported := true })).slot j = s.slot j := hvj
        rw [hvs, hvj] at hports
        rw [State.syncStatusTimer_ports, State.pumpStatus_ports, hwr, hvj]
        exact hports
  · have hended := State.statusEnded_bad (s := u) hshot
    rw [decide_eq_false hg, hended] at hstep
    have hslots (j : Fin 256) : (u.withRep { u.rep with statusShot := none }).statusDue.syncStatusTimer.slot j = u.slot j :=
      State.slot_congr (by simp [State.withRep]) j
    have hrep : (u.withRep { u.rep with statusShot := none }).statusDue.syncStatusTimer.rep =
        { s.rep with statusShot := none, statusDue := true,
                     statusTimer := (u.withRep { u.rep with statusShot := none }).statusDue.syncStatusTimer.rep.statusTimer } := by
      rw [State.syncStatusTimer_rep, State.statusDue_rep]
      rfl
    exact ⟨_, hstep, (hslots i).trans hfree, (congrArg Report.statusShot hrep).trans rfl, (congrArg Report.updateCount hrep).trans rfl,
      (congrArg Report.head hrep).trans rfl, by simp [State.withRep, u], by simp [State.withRep, u], by simp [State.withRep, u],
      by simp [State.withRep, u], by simp [State.withRep, u], by simp [State.withRep, u],
      fun _ => ⟨(congrArg Report.statusDue hrep).trans rfl, (congrArg Report.flags hrep).trans rfl, (congrArg Report.selection hrep).trans rfl,
        by simp [State.withRep, u], by simp [State.withRep, u], fun j hj => (hslots j).trans (hothers j hj),
        by simp [State.withRep, u]⟩, fun hgood => absurd hgood hg⟩

/-! ### Timers that expire (R56, R123, R173, R189) -/

theorem State.queueWriteback_arb (s : State) (l : Fin 64) :
    (s.queueWriteback l).arb = if s.queued (.writeback l) = true then s.arb else s.arb ++ [writeOf (.writeback l) (s.line l).tag] := by
  unfold State.queueWriteback
  split <;> rfl

theorem State.queueCat_arb {s : State} {c : Nat} (hc : s.controlBase = some c) (b : Fin 17) :
    (s.queueCat b).arb =
      if s.queued (.catalogueWrite b) = true then s.arb else s.arb ++ [writeOf (.catalogueWrite b) (c + 34 + b.val)] := by
  unfold State.queueCat
  rw [hc]
  split <;> rfl

theorem dirtyTimer_expires (s : State) (l : Fin 64) :
    (timerDue (s.line l).dirtyTimer = false → exec (.dirtyTimerExpiry l none) s = .next s) ∧
    (timerDue (s.line l).dirtyTimer = true → ∃ t, exec (.dirtyTimerExpiry l none) s = .next t ∧ SamePorts s t ∧
      t.line l = { s.line l with dirtyTimer := none } ∧ (∀ k, k ≠ l → t.line k = s.line k) ∧ t.map = s.map ∧
      t.pool = s.pool ∧ t.walk = s.walk ∧ t.mend = s.mend ∧ t.dir = s.dir ∧ t.rep = s.rep ∧ t.ldr = s.ldr ∧
      t.cfg = s.cfg ∧
      t.arb = if s.queued (.writeback l) = true then s.arb else s.arb ++ [writeOf (.writeback l) (s.line l).tag]) := by
  refine ⟨fun h => if_neg (by simp [State.findError, h]), fun h => ?_⟩
  let u := s.setLine l { s.line l with dirtyTimer := none }
  have hstep : exec (.dirtyTimerExpiry l none) s = .next (u.queueWriteback l) := if_pos h
  have hline (k : Fin 64) : (u.queueWriteback l).line k = u.line k := State.line_congr (u.queueWriteback_store l) k
  refine ⟨_, hstep, by simp [SamePorts, u], ?_, fun k hk => ?_, by simp [u], by simp [u], by simp [u], by simp [u], by simp [u],
    by simp [u], by simp [u], by simp [u], ?_⟩
  · rw [hline, State.line_setLine_self]
  · rw [hline, State.line_setLine, if_neg hk]
  · have htag : (u.line l).tag = (s.line l).tag := by simp [u]
    rw [State.queueWriteback_arb, htag]
    rfl

theorem catalogueRetry_expires (s : State) (b : Fin 17) {c : Nat} (hc : s.controlBase = some c) :
    (timerDue (s.cat b).retry = false → exec (.catalogueRetryExpiry b) s = .next s) ∧
    (timerDue (s.cat b).retry = true → ∃ t, exec (.catalogueRetryExpiry b) s = .next t ∧ SamePorts s t ∧
      SameShelf s t ∧ t.cat b = { s.cat b with retry := none } ∧ (∀ k, k ≠ b → t.cat k = s.cat k) ∧ t.dir = s.dir ∧
      t.rep = s.rep ∧ t.cfg = s.cfg ∧ t.ldr.part = s.ldr.part ∧
      t.arb = if s.queued (.catalogueWrite b) = true then s.arb
        else s.arb ++ [writeOf (.catalogueWrite b) (c + 34 + b.val)]) := by
  refine ⟨fun h => if_neg (by simp [h]), fun h => ?_⟩
  let u := s.setCat b { s.cat b with retry := none }
  have hstep : exec (.catalogueRetryExpiry b) s = .next (u.queueCat b) := if_pos h
  have hcat (k : Fin 17) : (u.queueCat b).cat k = u.cat k := State.cat_congr (u.queueCat_ldr b) k
  refine ⟨_, hstep, by simp [SamePorts, u], by simp [SameShelf, u], ?_, fun k hk => ?_, by simp [u], by simp [u], by simp [u],
    by simp [u, State.setCat], ?_⟩
  · rw [hcat, State.cat_setCat_self]
  · rw [hcat, State.cat_setCat, if_neg hk]
  · exact State.queueCat_arb (s := u) hc b

/-- With the mark set and no status write queued or in flight, one is queued in RUNNING and in FAULT (R173). -/
theorem State.pumpStatus_enqueues {s : State} {c : Nat} (hc : s.controlBase = some c) (hdue : s.rep.statusDue = true)
    (hshot : s.rep.statusShot = none) (hq : s.queued .status = false) (hp : s.ldr.part = .running ∨ s.ldr.part = .fault) :
    s.pumpStatus = s.enqueue (writeOf .status (c + 1)) := by
  have hrun : (s.running || decide (s.ldr.part = .fault)) = true := by
    rcases hp with h | h <;> simp [State.running, h]
  simp only [State.pumpStatus, hc, hdue, hshot, hq, hrun, Option.isNone_none, Bool.not_false, Bool.and_self, if_true]
  rfl

/-- The status-due mark, once set in RUNNING with no status write in flight, leaves one queued (R173). -/
theorem State.statusDue_queued {s : State} (hp : s.ldr.part = .running) (hc : s.controlBase.isSome = true)
    (hshot : s.rep.statusShot = none) : s.statusDue.queued .status = true := by
  obtain ⟨c, hbase⟩ := Option.isSome_iff_exists.mp hc
  have hrun : s.running = true := s.running_iff.mpr hp
  by_cases hq : s.queued .status = true
  · exact s.statusDue_grows.queued hq
  · have hpump := State.pumpStatus_enqueues (s := s.withRep { s.rep with statusDue := true }) hbase rfl hshot
      (Bool.eq_false_iff.mpr hq) (by exact .inl hp)
    have hdue : s.statusDue = (s.withRep { s.rep with statusDue := true }).pumpStatus := rfl
    rw [hdue, hpump]
    exact (State.queued_iff _ _).mpr ⟨_, List.mem_append_right _ List.mem_cons_self, rfl⟩

theorem statusTimer_expires (s : State) :
    (timerDue s.rep.statusTimer = false → exec .statusTimerExpiry s = .next s) ∧
    (timerDue s.rep.statusTimer = true → ∃ t, exec .statusTimerExpiry s = .next t ∧ SamePorts s t ∧ SameShelf s t ∧
      t.dir = s.dir ∧ t.ldr = s.ldr ∧ t.cfg = s.cfg ∧ t.rep.statusTimer = some ⟨1000, 0⟩ ∧ t.rep.statusDue = true ∧
      t.rep.flags = s.rep.flags ∧ t.rep.head = s.rep.head ∧ t.rep.updateCount = s.rep.updateCount ∧
      (s.ldr.part = .running → s.controlBase.isSome = true → s.rep.statusShot = none → t.queued .status = true)) := by
  refine ⟨fun h => if_neg (by simp [h]), fun h => ?_⟩
  let u := s.withRep { s.rep with statusTimer := some (Timer.start Config.statusMs) }
  have hstep : exec .statusTimerExpiry s = .next u.statusDue := if_pos h
  exact ⟨_, hstep, by simp [SamePorts, u, State.withRep], by simp [SameShelf, u, State.withRep], by simp [u, State.withRep],
    by simp [u, State.withRep], by simp [u, State.withRep], by simp [u, State.withRep, Timer.start, Config.statusMs],
    by simp [State.statusDue_rep], by simp [u, State.withRep], by simp [u, State.withRep], by simp [u, State.withRep],
    fun hp hc hshot => State.statusDue_queued (s := u) hp hc hshot⟩

theorem restTimer_expires (s : State) :
    (timerDue s.walk.restTimer = false → exec (.restTimerExpiry none) s = .next s) ∧
    (timerDue s.walk.restTimer = true → s.walk.cur.isSome = true → ∃ t, exec (.restTimerExpiry none) s = .next t ∧
      SamePorts s t ∧ t.arb = s.arb ∧ t.map = s.map ∧ t.pool = s.pool ∧ t.store = s.store ∧ t.mend = s.mend ∧
      t.dir = s.dir ∧ t.ldr = s.ldr ∧ t.cfg = s.cfg ∧
      t.walk = { s.walk with restTimer := none, passDue := true }) := by
  refine ⟨fun h => if_neg (by simp [State.findError, h]), fun h hcur => ?_⟩
  let u : State := { s with walk := { s.walk with restTimer := none, passDue := true } }
  have hexpires : s.restExpires = u := if_neg (by cases hw : s.walk.cur <;> simp_all)
  have hstep : exec (.restTimerExpiry none) s = s.restExpires.done := if_pos h
  rw [hexpires] at hstep
  exact ⟨_, hstep, by simp [SamePorts, u], by simp [u], by simp [u], by simp [u], by simp [u], by simp [u], by simp [u],
    by simp [u], by simp [u], by simp [u]⟩

/-- Settles O38: each expiry acts on its own timer; the tick moves every timer and the clock. -/
theorem timersExpire : Obligations.TimersExpire := by
  unfold Obligations.TimersExpire
  intro s
  refine ⟨dirtyTimer_expires s, fun b _ hc => catalogueRetry_expires s b hc, statusTimer_expires s, restTimer_expires s, _, rfl,
    rfl, fun i => ?_, fun p => ?_, fun l => ?_, fun b => ?_, rfl, rfl, rfl, rfl, rfl, rfl, rfl, rfl, rfl, rfl, rfl, rfl, rfl⟩
  · simp [State.slot, State.tickTimers, tick?]; rfl
  · simp [State.accum, State.tickTimers, tick?]; rfl
  · simp [State.line, State.tickTimers, tick?]; rfl
  · simp [State.cat, State.tickTimers, tick?]; rfl

end Sys2Proof.Machine

/-!
PROOFS. The entry to FAULT (R107, R161, R184, R190): what it leaves, whatever stood at the head and in the slots; the end of
the EEPROM read, and table errors.
-/

namespace Sys2Proof.Machine

/-! ### The head and the slots at the entry -/

/-- All but the ports, the head, the slots and the digest store is alike. -/
structure BeyondTraffic (s t : State) : Prop where
  pending : t.pending = s.pending
  mediaUp : t.mediaUp = s.mediaUp
  arb : t.arb = s.arb
  cfg : t.cfg = s.cfg
  map : t.map = s.map
  pool : t.pool = s.pool
  walk : t.walk = s.walk
  mend : t.mend = s.mend
  dir : t.dir = s.dir
  rep : t.rep = s.rep
  ldr : t.ldr = s.ldr

theorem BeyondTraffic.refl (s : State) : BeyondTraffic s s := ⟨rfl, rfl, rfl, rfl, rfl, rfl, rfl, rfl, rfl, rfl, rfl⟩

theorem BeyondTraffic.trans {s t u : State} (h : BeyondTraffic s t) (k : BeyondTraffic t u) : BeyondTraffic s u :=
  ⟨k.pending.trans h.pending, k.mediaUp.trans h.mediaUp, k.arb.trans h.arb, k.cfg.trans h.cfg, k.map.trans h.map,
    k.pool.trans h.pool, k.walk.trans h.walk, k.mend.trans h.mend, k.dir.trans h.dir, k.rep.trans h.rep, k.ldr.trans h.ldr⟩

theorem State.endSlot_beyond (s : State) (i : Fin 256) (status : UpStatus) (data : List Byte) :
    BeyondTraffic s (s.endSlot i status data) := by
  constructor <;> simp

theorem State.releaseAtFault_beyond (s : State) (i : Fin 256) : BeyondTraffic s (s.releaseAtFault i) := by
  unfold State.releaseAtFault
  dsimp only
  split
  · exact s.endSlot_beyond i _ _
  · exact .refl s

/-- A loop keeps what each of its turns keeps. -/
theorem forEach_induct {α : Type} {P : State → State → Prop} {f : α → State → State} (hrefl : ∀ s, P s s)
    (htrans : ∀ {s t u}, P s t → P t u → P s u) (hstep : ∀ x s, P s (f x s)) (xs : List α) (s : State) :
    P s (forEach xs f s) := by
  induction xs generalizing s with
  | nil => exact hrefl s
  | cons x xs ih => exact htrans (hstep x s) (ih _)

/-- The state with the HELD returns released (R107). -/
def State.released (s : State) : State := forEach (allFin 256) (fun i t => t.releaseAtFault i) s

theorem State.released_beyond (s : State) : BeyondTraffic s s.released :=
  forEach_induct BeyondTraffic.refl BeyondTraffic.trans (fun i s => s.releaseAtFault_beyond i) _ s

theorem State.answerHead_beyond (s : State) (status : UpStatus) : BeyondTraffic s (s.answerHead status) := by
  unfold State.answerHead
  split
  · exact .refl s
  · have hdropped : BeyondTraffic s (({ s with up := { s.up with head := none } } : State).dropRequests .write) :=
      ⟨rfl, rfl, rfl, rfl, rfl, rfl, rfl, rfl, rfl, rfl, rfl⟩
    dsimp only
    split
    · exact hdropped.trans (State.endSlot_beyond _ _ _ _)
    · exact hdropped.trans (State.endSlot_beyond _ _ _ _)
    · exact ⟨rfl, rfl, rfl, rfl, rfl, rfl, rfl, rfl, rfl, rfl, rfl⟩
    · exact ⟨rfl, rfl, rfl, rfl, rfl, rfl, rfl, rfl, rfl, rfl, rfl⟩

/-- A request decided in FAULT is answered, or goes to the media with a slot, or waits for one. -/
theorem State.decideHeld_beyond {s : State} (hp : s.ldr.part = .fault) : BeyondTraffic s s.decideHeld := by
  have hrun : s.running = false := by simp [State.running, hp]
  unfold State.decideHeld
  split
  · exact .refl s
  · split
    · cases hd : s.decideRest ‹Head›.req with
      | answer status => exact ⟨rfl, rfl, rfl, rfl, rfl, rfl, rfl, rfl, rfl, rfl, rfl⟩
      | protect =>
        unfold State.decideRest at hd
        rw [hp] at hd
        split at hd <;> simp at hd
        split at hd <;> simp at hd
      | hold => exact ⟨rfl, rfl, rfl, rfl, rfl, rfl, rfl, rfl, rfl, rfl, rfl⟩
      | forward =>
        simp only [State.carryOut]
        cases hslot : s.passSlot? with
        | none =>
          simp only [State.takeSlot, hslot]
          exact ⟨rfl, rfl, rfl, rfl, rfl, rfl, rfl, rfl, rfl, rfl, rfl⟩
        | some i =>
          rw [State.takeSlot_of_not_running hrun hslot]
          exact ⟨rfl, rfl, rfl, rfl, rfl, rfl, rfl, rfl, rfl, rfl, rfl⟩
    · exact .refl s

theorem State.headAtFault_beyond {s : State} (hp : s.ldr.part = .fault) : BeyondTraffic s s.headAtFault := by
  unfold State.headAtFault
  split
  · exact .refl s
  · split
    · exact State.decideHeld_beyond hp
    · exact s.answerHead_beyond _
    · exact .refl s

/-! ### What the entry leaves -/

/-- The state as the part is in FAULT with the traffic dealt with, and nothing else done yet. -/
def State.faultTraffic (s : State) (cause : FaultCause) : State := (s.faultPart cause).released.headAtFault

theorem State.faultTraffic_beyond (s : State) (cause : FaultCause) : BeyondTraffic (s.faultPart cause) (s.faultTraffic cause) := by
  have hreleased := (s.faultPart cause).released_beyond
  exact hreleased.trans (State.headAtFault_beyond (by rw [hreleased.ldr]; rfl))

/-- The last-batch group as FAULT is entered: the batch in progress is cut off and handed over (R161). -/
def State.lastBatchAtFault (s : State) : Option LastBatch :=
  match s.dir.batch with
  | none => s.rep.lastBatch
  | some b => some ⟨b.label, b.count, b.clamped, b.results⟩

/-- The arbiter's queue as FAULT is entered: the status write of the entry, where the control area is known (R173). -/
def State.arbAtFault (s : State) : List InjRequest :=
  match s.controlBase with
  | none => []
  | some c => [writeOf .status (c + 1)]

/-- The part has entered FAULT from `s`, by way of the state `x` in which the traffic was dealt with (R190). -/
structure FaultEntered (s : State) (cause : FaultCause) (x t : State) : Prop where
  ldr : t.ldr = { s.ldr with part := .fault, fault := some cause, load := .idle, eeprom := none,
                             cats := Vector.replicate 17 ⟨.current, none, false⟩ }
  map : t.map = s.map
  cfg : t.cfg = s.cfg.unmaskFault
  pool : t.pool = Vector.replicate 32 none
  lines : t.store.lines = Vector.replicate 64 Line.blank
  queue : t.store.queue = []
  walk : t.walk = WalkEngine.reset
  mend : t.mend = MendEngine.reset
  dir : t.dir = ⟨none, none, s.dir.freeze, none⟩
  rep : t.rep = { s.rep.atFault with flags := s.rep.flags.set EventFlag.fault.idx ⟨true, none⟩, statusDue := true,
                                     lastBatch := s.lastBatchAtFault }
  arb : t.arb = s.arbAtFault
  slots : t.slots = vmap Slot.atFault x.slots
  ports : t.ports = x.ports
  up : t.up = x.up

/-- A status write that is queued already is not queued twice. -/
theorem State.pumpStatus_of_queued {s : State} (h : s.queued .status = true) : s.pumpStatus = s := by
  unfold State.pumpStatus
  split
  · rfl
  · exact if_neg (by simp [h])

/-- In FAULT, with nothing queued, the report writer asks for its write once, however often the mark is set. -/
theorem State.statusDue_arb_fault {s : State} (hp : s.ldr.part = .fault) (hshot : s.rep.statusShot = none)
    (ha : s.arb = [] ∨ s.arb = s.arbAtFault) : s.statusDue.arb = s.arbAtFault := by
  let u := s.withRep { s.rep with statusDue := true }
  have hdue : s.statusDue = u.pumpStatus := rfl
  have hbase : u.controlBase = s.controlBase := rfl
  rw [hdue]
  cases hc : s.controlBase with
  | none =>
    have hnone : s.arbAtFault = [] := by simp [State.arbAtFault, hc]
    have hpump : u.pumpStatus = u := by
      rw [State.pumpStatus, hbase, hc]
    rw [hpump, hnone]
    exact ha.elim id (·.trans hnone)
  | some c =>
    have hsome : s.arbAtFault = [writeOf .status (c + 1)] := by simp [State.arbAtFault, hc]
    rcases ha with ha | ha
    · have hua : u.arb = [] := ha
      rw [State.pumpStatus_enqueues (s := u) (hbase.trans hc) rfl hshot (by simp [State.queued, hua]) (.inr hp), hsome]
      simp [State.enqueue, hua]
    · have hua : u.arb = [writeOf .status (c + 1)] := ha.trans hsome
      rw [State.pumpStatus_of_queued (s := u) (by simp [State.queued, hua]), hsome]
      exact hua

/-- What each block holds as FAULT is entered, before the batch is handed over and FAULT rises. -/
def State.faultEmptied (s : State) : State := (s.mapSlots Slot.atFault).faultBlocks

theorem State.enterFault_eq (s : State) (cause : FaultCause) :
    s.enterFault cause = ((s.faultTraffic cause).faultEmptied.batchAtFault.faultUnit).raise .fault := by
  unfold State.enterFault State.faultEmptied State.faultTraffic State.released
  rfl

theorem State.batchAtFault_arb {s : State} (hp : s.ldr.part = .fault) (hshot : s.rep.statusShot = none) (ha : s.arb = []) :
    s.batchAtFault.arb = [] ∨ s.batchAtFault.arb = s.arbAtFault := by
  unfold State.batchAtFault
  split
  · exact .inl ha
  · exact .inr (State.statusDue_arb_fault (s := s.withRep { s.rep with lastBatch := some _ }) hp hshot (.inl ha))

theorem State.batchAtFault_rep (s : State) :
    s.batchAtFault.rep =
      { s.rep with lastBatch := s.lastBatchAtFault, statusDue := s.dir.batch.isSome || s.rep.statusDue } := by
  unfold State.batchAtFault State.lastBatchAtFault
  cases s.dir.batch with
  | none => rfl
  | some b => exact (State.statusDue_rep _).trans rfl

theorem State.batchAtFault_shelf (s : State) : SamePorts s s.batchAtFault ∧ SameShelf s s.batchAtFault ∧
    s.batchAtFault.dir = s.dir ∧ s.batchAtFault.ldr = s.ldr ∧ s.batchAtFault.cfg = s.cfg := by
  unfold State.batchAtFault
  split
  · exact ⟨⟨rfl, rfl, rfl, rfl, rfl⟩, ⟨rfl, rfl, rfl, rfl, rfl⟩, rfl, rfl, rfl⟩
  · simp [SamePorts, SameShelf]

theorem State.raise_frame (s : State) (f : EventFlag) : SamePorts s (s.raise f) ∧ SameShelf s (s.raise f) ∧
    (s.raise f).dir = s.dir ∧ (s.raise f).ldr = s.ldr ∧ (s.raise f).cfg = s.cfg := by
  simp [SamePorts, SameShelf]

theorem BeyondTraffic.entered {s x : State} {cause : FaultCause} (hb : BeyondTraffic (s.faultPart cause) x) :
    FaultEntered s cause x ((x.faultEmptied.batchAtFault.faultUnit).raise .fault) := by
  let v := x.faultEmptied
  let w := v.batchAtFault.faultUnit
  obtain ⟨⟨-, wports, wup, wmedia, wslots⟩, ⟨wmap, wpool, wstore, wwalk, wmend⟩, wdir, wldr, wcfg⟩ := v.batchAtFault_shelf
  obtain ⟨⟨-, tports, tup, tmedia, tslots⟩, ⟨tmap, tpool, tstore, twalk, tmend⟩, tdir, tldr, tcfg⟩ := w.raise_frame .fault
  have hvldr : v.ldr = (s.faultPart cause).ldr := hb.ldr
  have hvdir : v.dir = s.dir := hb.dir
  have hvrep : v.rep = s.rep.atFault := congrArg Report.atFault hb.rep
  have hvarb : v.arb = [] := hb.arb
  have hvbase : v.controlBase = s.controlBase := by rw [State.controlBase, hvldr]; rfl
  have hvlast : v.lastBatchAtFault = s.lastBatchAtFault := by
    unfold State.lastBatchAtFault
    rw [hvdir, hvrep]
    rfl
  have hwarb : w.arb = [] ∨ w.arb = w.arbAtFault := by
    have hwa : w.arbAtFault = v.arbAtFault := by
      unfold State.arbAtFault
      have hbase : w.controlBase = v.controlBase := by rw [State.controlBase, State.controlBase]; exact congrArg _ (congrArg _ wldr)
      rw [hbase]
    rw [hwa]
    exact State.batchAtFault_arb (by rw [hvldr]; rfl) (by rw [hvrep]; rfl) hvarb
  have hwrep : w.rep = { s.rep.atFault with lastBatch := s.lastBatchAtFault, statusDue := s.dir.batch.isSome } := by
    have hrep := v.batchAtFault_rep
    rw [hvlast, hvdir, hvrep] at hrep
    refine hrep.trans ?_
    simp [Report.atFault]
  refine ⟨tldr.trans (wldr.trans hvldr), tmap.trans (wmap.trans hb.map), tcfg.trans (wcfg.trans (congrArg Settings.unmaskFault hb.cfg)),
    tpool.trans wpool, congrArg Store.lines (tstore.trans wstore), congrArg Store.queue (tstore.trans wstore),
    twalk.trans wwalk, tmend.trans wmend, ?_, ?_, ?_, tslots.trans wslots, tports.trans wports, tup.trans wup⟩
  · rw [tdir]
    exact congrArg (fun d : DirectiveUnit => DirectiveUnit.mk none none d.freeze none) (wdir.trans hvdir)
  · rw [State.raise_rep, hwrep]
    rfl
  · have harb : (w.raise .fault).arb = w.arbAtFault :=
      State.statusDue_arb_fault (s := w.withRep _) (by exact (congrArg Loader.part (wldr.trans hvldr)))
        (by simp [State.withRep, hwrep, Report.atFault]) hwarb
    rw [harb]
    unfold State.arbAtFault
    have hbase : w.controlBase = s.controlBase :=
      (congrArg (fun l : Loader => l.setup.map Setup.base) wldr).trans hvbase
    rw [hbase]

theorem State.enterFault_entered (s : State) (cause : FaultCause) :
    FaultEntered s cause (s.faultTraffic cause) (s.enterFault cause) := by
  rw [s.enterFault_eq cause]
  exact (s.faultTraffic_beyond cause).entered

/-! ### What follows for the statements -/

section
variable {s x t : State} {cause : FaultCause} (h : FaultEntered s cause x t)
include h

theorem FaultEntered.part : t.ldr.part = .fault := (congrArg Loader.part h.ldr).trans rfl

theorem FaultEntered.fault : t.ldr.fault = some cause := (congrArg Loader.fault h.ldr).trans rfl

theorem FaultEntered.eeprom : t.ldr.eeprom = none := (congrArg Loader.eeprom h.ldr).trans rfl

theorem FaultEntered.load : t.ldr.load = .idle := (congrArg Loader.load h.ldr).trans rfl

theorem FaultEntered.flag : (t.flag .fault).isSet = true := by
  rw [State.flag, h.rep]
  exact congrArg Flag.isSet (Vector.getElem_set_self EventFlag.fault.idx.isLt)

theorem FaultEntered.accum (p : Fin 32) : t.accum p = none := by
  rw [State.accum, h.pool]
  exact Vector.getElem_replicate p.isLt

theorem FaultEntered.line (l : Fin 64) : t.line l = Line.blank := by
  rw [State.line, h.lines]
  exact Vector.getElem_replicate l.isLt

theorem FaultEntered.slot (i : Fin 256) : t.slot i = (x.slot i).atFault := by
  rw [State.slot, h.slots]
  exact getElem_vmap Slot.atFault x.slots i i.isLt

/-- No walk and no mend is active in FAULT, and the status timer is stopped already. -/
theorem FaultEntered.sync : t.syncStatusTimer = t := by
  have hwalk : t.walkActive = false := by rw [State.walkActive, h.walk]; rfl
  have hmend : t.mendActive = false := by rw [State.mendActive, h.mend]; rfl
  have htimer : t.rep.statusTimer = none := by rw [h.rep]; rfl
  simp [State.syncStatusTimer, hwalk, hmend, htimer]

theorem FaultEntered.done : t.done = .next t := congrArg Host.Outcome.next h.sync

end

/-! ### The EEPROM read ends (R185) -/

/-- Settles O16: the four ends of the read, by the maintenance mark and the image. -/
theorem eepromReadEnds : Obligations.EepromReadEnds := by
  unfold Obligations.EepromReadEnds
  intro s image c hpart hcase
  have hstep : exec c s = (s.setupRead (image.bind decodeSetup)).done := by
    rcases hcase with ⟨hread, rfl⟩ | ⟨hdue, rfl, rfl⟩
    · exact if_pos ⟨hpart, hread⟩
    · exact if_pos ⟨hpart, hdue⟩
  rw [hstep]
  refine ⟨_, rfl, ?_⟩
  cases hm : s.ldr.maint with
  | true =>
    cases hi : image.bind decodeSetup with
    | none =>
      have hread : s.setupRead none = s.eepromOver.passthrough := by unfold State.setupRead; simp only [hm]
      rw [hread]
      exact ⟨by simp [State.passthrough, State.eepromOver], by simp [State.passthrough], by simp [State.passthrough,
        State.eepromOver]⟩
    | some x =>
      have hread : s.setupRead (some x) = (s.eepromOver.takeDefaults x).passthrough := by unfold State.setupRead; simp only [hm]
      rw [hread]
      exact ⟨by simp [State.passthrough, State.eepromOver, State.takeDefaults], by simp [State.passthrough],
        by simp [State.passthrough, State.takeDefaults], by simp [State.passthrough, State.takeDefaults]⟩
  | false =>
    cases hi : image.bind decodeSetup with
    | none =>
      have hread : s.setupRead none = s.eepromOver.enterFault .setupImage := by unfold State.setupRead; simp only [hm]
      have hentered := s.eepromOver.enterFault_entered .setupImage
      rw [hread, hentered.sync]
      exact ⟨hentered.eeprom, hentered.part, hentered.fault, hentered.flag⟩
    | some x =>
      have hread : s.setupRead (some x) = (((s.eepromOver.takeDefaults x).takeSetup x).emptyMap).startLoad := by
        unfold State.setupRead; simp only [hm]
      rw [hread]
      refine ⟨?_, ?_, ?_, ?_, ?_, ?_, ?_⟩
      · rw [State.syncStatusTimer_ldr]; rfl
      · rw [State.syncStatusTimer_ldr]; rfl
      · rw [State.syncStatusTimer_ldr]; rfl
      · rw [State.syncStatusTimer_cfg]; rfl
      · rw [State.syncStatusTimer_cfg]; rfl
      · rw [State.syncStatusTimer_map]; rfl
      · rw [State.syncStatusTimer_arb]; rfl

end Sys2Proof.Machine

/-!
PROOFS. Table errors (R107, R190): the entry to FAULT from RUNNING, the recorded cause in FAULT, and the slot rule in any part
state.
-/

namespace Sys2Proof.Machine

/-! ### The HELD returns leave (R107) -/

theorem State.releaseAtFault_of_not_held {s : State} {i : Fin 256} (h : (s.slot i).life ≠ .held) : s.releaseAtFault i = s :=
  if_neg h

theorem State.releaseAtFault_of_held {s : State} {i : Fin 256} (h : (s.slot i).life = .held) :
    s.releaseAtFault i = s.endSlot i (s.slot i).status (s.slot i).data := if_pos h

theorem State.releaseAtFault_slot (s : State) (i j : Fin 256) :
    (s.releaseAtFault i).slot j = if j = i ∧ (s.slot i).life = .held then Slot.freeSlot else s.slot j := by
  by_cases h : (s.slot i).life = .held
  · simp only [State.releaseAtFault_of_held h, State.slot_endSlot, h, and_true]
  · simp only [State.releaseAtFault_of_not_held h, h, and_false, if_false]

theorem State.releaseEach_slot (xs : List (Fin 256)) (s : State) (j : Fin 256) :
    (forEach xs (fun i t => t.releaseAtFault i) s).slot j =
      if j ∈ xs ∧ (s.slot j).life = .held then Slot.freeSlot else s.slot j := by
  induction xs generalizing s with
  | nil => simp [forEach]
  | cons x xs ih =>
    have hcons : forEach (x :: xs) (fun i t => t.releaseAtFault i) s =
        forEach xs (fun i t => t.releaseAtFault i) (s.releaseAtFault x) := rfl
    rw [hcons, ih, State.releaseAtFault_slot]
    by_cases hx : j = x
    · subst hx
      by_cases hh : (s.slot j).life = .held
      · simp [hh]
      · simp [hh]
    · simp [hx]

theorem State.released_slot (s : State) (j : Fin 256) :
    s.released.slot j = if (s.slot j).life = .held then Slot.freeSlot else s.slot j := by
  rw [State.released, State.releaseEach_slot]
  simp [allFin]

theorem releaseEach_of_none {xs : List (Fin 256)} {s : State} (h : ∀ i ∈ xs, (s.slot i).life ≠ .held) :
    forEach xs (fun i t => t.releaseAtFault i) s = s := by
  induction xs with
  | nil => rfl
  | cons x xs ih =>
    have hx : s.releaseAtFault x = s := State.releaseAtFault_of_not_held (h x List.mem_cons_self)
    have hcons : forEach (x :: xs) (fun i t => t.releaseAtFault i) s =
        forEach xs (fun i t => t.releaseAtFault i) (s.releaseAtFault x) := rfl
    rw [hcons, hx]
    exact ih fun i hi => h i (List.mem_cons_of_mem _ hi)

theorem State.released_of_none {s : State} (h : ∀ i, (s.slot i).life ≠ .held) : s.released = s :=
  releaseEach_of_none fun i _ => h i

/-- Where one slot alone is HELD its return alone leaves. -/
theorem State.released_of_one {s : State} {i : Fin 256} (hi : (s.slot i).life = .held)
    (h : ∀ j, j ≠ i → (s.slot j).life ≠ .held) : s.released = s.endSlot i (s.slot i).status (s.slot i).data := by
  obtain ⟨before, after, hsplit⟩ := List.append_of_mem (List.mem_finRange i)
  have hnodup := List.nodup_finRange 256
  rw [hsplit, List.nodup_middle, List.nodup_cons] at hnodup
  have hbefore : forEach before (fun i t => t.releaseAtFault i) s = s :=
    releaseEach_of_none fun j hj => h j fun hji => hnodup.1 (List.mem_append_left _ (hji ▸ hj))
  have hafter : forEach after (fun i t => t.releaseAtFault i) (s.releaseAtFault i) = s.releaseAtFault i := by
    refine releaseEach_of_none fun j _ => ?_
    rw [State.releaseAtFault_slot]
    by_cases hj : j = i
    · simp [hj, hi, Slot.freeSlot]
    · simpa [hj] using h j hj
  have hfold : s.released = forEach after (fun i t => t.releaseAtFault i)
      ((forEach before (fun i t => t.releaseAtFault i) s).releaseAtFault i) := by
    rw [State.released, allFin, hsplit, forEach, List.foldl_append]
    rfl
  rw [hfold, hbefore, hafter, State.releaseAtFault_of_held hi]

/-! ### The head at the entry (R90, R107) -/

theorem State.headAtFault_of_none {s : State} (h : s.up.head = none) : s.headAtFault = s := by
  rw [State.headAtFault, h]

/-- A write that waits for a slot is answered FAULT. -/
theorem State.headAtFault_of_write {s : State} {r : Request} {x b : Bool} (h : s.up.head = some ⟨r, x, .slot b⟩)
    (hk : r.kind = .write) :
    s.headAtFault = (({ s with up := { s.up with head := none } } : State).dropRequests .write).sendUp
      ⟨r.requester, r.tag, .fault, []⟩ := by
  simp only [State.headAtFault, h, hk, State.answerHead]

/-- What the traffic leaves at the entry, the head request, if there is one, being a write that waits for a slot. -/
theorem State.faultTraffic_of_head {s : State} (cause : FaultCause)
    (h : s.up.head = none ∨ ∃ r x b, s.up.head = some ⟨r, x, .slot b⟩ ∧ r.kind = .write) :
    (s.faultTraffic cause).up.head = none ∧
      (∀ i, (s.faultTraffic cause).slot i = if (s.slot i).life = .held then Slot.freeSlot else s.slot i) ∧
      (s.up.head = none → (s.faultTraffic cause).ports = (s.faultPart cause).released.ports) ∧
      (∀ r x b, s.up.head = some ⟨r, x, .slot b⟩ → (s.faultTraffic cause).ports =
        { (s.faultPart cause).released.ports with
          upstream := (s.faultPart cause).released.ports.upstream ++ [⟨r.requester, r.tag, .fault, []⟩] }) := by
  have hup : (s.faultPart cause).released.up = s.up :=
    forEach_eq State.up (fun i t => by
      unfold State.releaseAtFault
      dsimp only
      split <;> simp) _ rfl
  have hslot (i : Fin 256) : (s.faultPart cause).released.slot i = if (s.slot i).life = .held then Slot.freeSlot else s.slot i :=
    State.released_slot _ i
  rcases h with hnone | ⟨r, x, b, hsome, hk⟩
  · have hhead : s.faultTraffic cause = (s.faultPart cause).released := State.headAtFault_of_none (by rw [hup, hnone])
    rw [hhead]
    exact ⟨by rw [hup, hnone], hslot, fun _ => rfl, fun r x b hsome => absurd (hsome.symm.trans hnone) (Option.some_ne_none _)⟩
  · have hhead := State.headAtFault_of_write (s := (s.faultPart cause).released) (by rw [hup, hsome]) hk
    rw [State.faultTraffic, hhead]
    generalize (s.faultPart cause).released = y at hslot
    refine ⟨rfl, hslot, fun hno => absurd (hsome.symm.trans hno) (Option.some_ne_none _), fun r' x' b' hr => ?_⟩
    rw [hsome] at hr
    cases hr
    rfl

/-! ### The error found (R190) -/

theorem State.slotFault_of_injected {s : State} {i : Fin 256} (h : (s.slot i).kind.isPass = false) (b : Bool) :
    s.slotFault i b = s := if_neg (by simp [h])

/-- Errors that name no passthrough slot act by the part state alone. -/
theorem State.findError_of_cause {s : State} {e : TableError} {cause : FaultCause}
    (h : (e = .extentMap ∧ cause = .extentMap) ∨ (e = .digestCache ∧ cause = .digestCache) ∨
      (e = .accumulators ∧ cause = .accumulators) ∨
      ∃ i b, e = .inFlight i b ∧ cause = .inFlight ∧ (s.slot i).kind.isPass = false) :
    s.findError (some e) = s.tableFault cause := by
  rcases h with ⟨rfl, rfl⟩ | ⟨rfl, rfl⟩ | ⟨rfl, rfl⟩ | ⟨i, b, rfl, rfl, hi⟩
  · rfl
  · rfl
  · rfl
  · exact congrArg (State.tableFault · .inFlight) (State.slotFault_of_injected hi b)

theorem State.tableFault_of_running {s : State} (h : s.ldr.part = .running) (cause : FaultCause) :
    s.tableFault cause = s.enterFault cause := by
  rw [State.tableFault, h]

theorem State.tableFault_of_fault {s : State} (h : s.ldr.part = .fault) (cause : FaultCause) :
    s.tableFault cause = { s with ldr := { s.ldr with fault := some cause } } := by
  rw [State.tableFault, h]

theorem State.tableFault_of_other {s : State} (h1 : s.ldr.part ≠ .running) (h2 : s.ldr.part ≠ .fault) (cause : FaultCause) :
    s.tableFault cause = s := by
  unfold State.tableFault
  cases hp : s.ldr.part with
  | running => exact absurd hp h1
  | fault => exact absurd hp h2
  | _ => rfl

/-- A command that uses a table and has nothing else to do: a grant with an empty queue, the expiry of a timer that does not
run. -/
def onlyFinds (s : State) (c : Instr) (e : TableError) : Prop :=
  c = .lineQueueGrant (some e) ∨ (∃ p, c = .idleTimerExpiry p (some e) ∧ s.accum p = none) ∨
    ∃ l, c = .dirtyTimerExpiry l (some e) ∧ (s.line l).dirtyTimer = none

theorem exec_lineQueueGrant_of_empty {s u : State} {e : TableError} (hu : s.findError (some e) = u) (hq : u.store.queue = []) :
    exec (.lineQueueGrant (some e)) s = .next u.syncStatusTimer := by
  have hgrant : u.grantLine = none := by simp [State.grantLine, hq]
  have hstep : exec (.lineQueueGrant (some e)) s = ((s.findError (some e)).grantLine.getD (s.findError (some e))).done := rfl
  rw [hstep, hu, hgrant]
  rfl

theorem exec_of_onlyFinds {s u : State} {c : Instr} {e : TableError} (h : onlyFinds s c e) (hu : s.findError (some e) = u)
    (hq : u.store.queue = []) (haccum : ∀ p, s.accum p = none → u.accum p = none)
    (hline : ∀ l, (s.line l).dirtyTimer = none → (u.line l).dirtyTimer = none) :
    exec c s = .next u ∨ exec c s = .next u.syncStatusTimer := by
  rcases h with rfl | ⟨p, rfl, hp⟩ | ⟨l, rfl, hl⟩
  · exact .inr (exec_lineQueueGrant_of_empty hu hq)
  · left
    have hstep : exec (.idleTimerExpiry p (some e)) s =
        if (s.findError (some e)).idleDue p then .next ((s.findError (some e)).abandon p) else .next (s.findError (some e)) := rfl
    rw [hstep, hu]
    simp [State.idleDue, haccum p hp]
  · left
    have hstep : exec (.dirtyTimerExpiry l (some e)) s =
        if timerDue ((s.findError (some e)).line l).dirtyTimer then
          .next (((s.findError (some e)).setLine l { (s.findError (some e)).line l with dirtyTimer := none }).queueWriteback l)
        else .next (s.findError (some e)) := rfl
    rw [hstep, hu]
    simp [hline l hl, timerDue]

theorem exec_of_onlyFinds_running {s : State} {c : Instr} {e : TableError} {cause : FaultCause} (h : onlyFinds s c e)
    (hu : s.findError (some e) = s.enterFault cause) : exec c s = .next (s.enterFault cause) := by
  have hentered := s.enterFault_entered cause
  have hexec := exec_of_onlyFinds h hu hentered.queue (fun p _ => hentered.accum p)
    (fun l _ => by rw [hentered.line]; rfl)
  rw [hentered.sync] at hexec
  exact hexec.elim id id

/-- An error that changes at most the recorded cause. -/
theorem exec_of_onlyFinds_kept {s : State} {c : Instr} {e : TableError} {l : Loader} (h : onlyFinds s c e)
    (hu : s.findError (some e) = { s with ldr := l }) (hq : s.store.queue = []) :
    ∃ t, exec c s = .next t ∧ t.ldr = l ∧ SamePorts s t ∧ t.arb = s.arb ∧ SameShelf s t ∧ t.dir = s.dir ∧ t.cfg = s.cfg ∧
      Unlogged s t := by
  rcases exec_of_onlyFinds h hu hq (fun _ hp => hp) (fun _ hl => hl) with hexec | hexec
  · exact ⟨_, hexec, rfl, ⟨rfl, rfl, rfl, rfl, rfl⟩, rfl, ⟨rfl, rfl, rfl, rfl, rfl⟩, rfl, rfl, ⟨rfl, rfl, rfl⟩⟩
  · exact ⟨_, hexec, by simp, by simp [SamePorts], by simp, by simp [SameShelf], by simp, by simp,
      (SameLog.of_rep rfl).sync.unlogged⟩

/-! ### The statement's clauses -/

theorem tableError_running {s : State} {c : Instr} {e : TableError} {cause : FaultCause} (h : onlyFinds s c e)
    (hu : s.findError (some e) = s.enterFault cause)
    (hhead : s.up.head = none ∨ ∃ r x b, s.up.head = some ⟨r, x, .slot b⟩ ∧ r.kind = .write) :
    ∃ t, exec c s = .next t ∧ t.ldr.part = .fault ∧ t.ldr.fault = some cause ∧ t.ldr.load = .idle ∧
      (t.flag .fault).isSet = true ∧ t.cfg = { s.cfg with alertMask := s.cfg.alertMask.set 5 false } ∧
      (∀ p, t.accum p = none) ∧ (∀ l, t.line l = Line.blank) ∧ t.walk = WalkEngine.reset ∧ t.mend = MendEngine.reset ∧
      t.dir = ⟨none, none, s.dir.freeze, none⟩ ∧ t.map = s.map ∧ t.up.head = none ∧ t.rep.head = s.rep.head ∧
      t.rep.clock = s.rep.clock ∧ t.rep.updateCount = s.rep.updateCount ∧ t.rep.selection = s.rep.selection ∧
      t.rep.image = none ∧ t.rep.completed = [] ∧ t.rep.statusTimer = none ∧
      (∀ base, s.controlBase = some base → t.arb = [writeOf .status (base + 1)]) ∧
      (∀ i, (t.slot i).life = if (s.slot i).life = .held then .free else (s.slot i).life) ∧
      (∀ i, (t.slot i).contribs = [] ∧ (t.slot i).watches = []) ∧
      (∀ b, s.dir.batch = some b → t.rep.lastBatch = some ⟨b.label, b.count, b.clamped, b.results⟩) ∧
      ((∀ i, (s.slot i).life ≠ .held) → s.up.head = none → t.ports = s.ports) ∧
      (∀ r x b, (∀ i, (s.slot i).life ≠ .held) → s.up.head = some ⟨r, x, .slot b⟩ → Returned s t r.requester r.tag .fault []) ∧
      (∀ i, (s.slot i).life = .held → (∀ j, j ≠ i → (s.slot j).life ≠ .held) → s.up.head = none →
        Returned s t (s.slot i).requester (s.slot i).tag (s.slot i).status (s.slot i).data) := by
  have hE := s.enterFault_entered cause
  obtain ⟨hup, hslot, hportsNone, hportsWrite⟩ := State.faultTraffic_of_head cause hhead
  have hnoneHeld (hn : ∀ i, (s.slot i).life ≠ .held) : (s.faultPart cause).released.ports = s.ports :=
    (congrArg State.ports (State.released_of_none (s := s.faultPart cause) hn)).trans rfl
  refine ⟨_, exec_of_onlyFinds_running h hu, hE.part, hE.fault, hE.load, hE.flag, hE.cfg, hE.accum, hE.line, hE.walk, hE.mend,
    hE.dir, hE.map, by rw [hE.up, hup], by rw [hE.rep]; rfl, by rw [hE.rep]; rfl, by rw [hE.rep]; rfl, by rw [hE.rep]; rfl,
    by rw [hE.rep]; rfl, by rw [hE.rep]; rfl, by rw [hE.rep]; rfl, fun base hbase => ?_, fun i => ?_, fun i => ?_, fun b hb => ?_,
    fun hn hno => ?_, fun r x b hn hr => ?_, fun i hi hn hno => ?_⟩
  · rw [hE.arb, State.arbAtFault, hbase]
  · rw [hE.slot, hslot]
    by_cases hh : (s.slot i).life = .held <;> simp [hh, Slot.atFault, Slot.freeSlot]
  · rw [hE.slot]
    exact ⟨rfl, rfl⟩
  · rw [hE.rep, State.lastBatchAtFault, hb]
  · rw [hE.ports, hportsNone hno, hnoneHeld hn]
  · rw [Returned, hE.ports, hportsWrite r x b hr, hnoneHeld hn]
  · have hone := State.released_of_one (s := s.faultPart cause) hi hn
    rw [Returned, hE.ports, hportsNone hno, hone, State.endSlot_upstream]
    rfl

theorem Slot.inError_atFault (x : Slot) (n : Nat) :
    (x.inError n).atFault.life = .outstanding ∧ (x.inError n).atFault.kind = x.kind ∧
      (x.inError n).atFault.requester = x.requester ∧ (x.inError n).atFault.tag = x.tag ∧
      (x.inError n).atFault.timer.isSome = true ∧ (x.inError n).atFault.contribs = [] ∧
      (x.inError n).atFault.watches = [] ∧ (x.inError n).atFault.held = false := ⟨rfl, rfl, rfl, rfl, rfl, rfl, rfl, rfl⟩

theorem State.loseHead_of_none {s : State} (h : s.up.head = none) (i : Fin 256) : s.loseHead i = s := by
  rw [State.loseHead, h]

theorem State.slotFault_of_pass {s : State} {i : Fin 256} (hhead : s.up.head = none) (hp : (s.slot i).kind.isPass = true)
    (hl : (s.slot i).life ≠ .free) :
    s.slotFault i true = s.setSlot i ((s.slot i).inError s.cfg.returnTimeout) ∧
      s.slotFault i false = s.endSlot i .mediaError [] := by
  unfold State.slotFault
  simp [hp, hl, State.loseHead_of_none hhead]

/-- A passthrough slot in error in RUNNING: the part enters FAULT from the state in which the slot rule has acted. -/
theorem slotError_running {s u : State} {i : Fin 256} (b : Bool) (hp : s.ldr.part = .running) (hu : s.slotFault i b = u)
    (hpart : u.ldr = s.ldr) (hup : u.up.head = none) (hmap : u.map = s.map)
    (hothers : OtherSlots s u i) (hheld : ∀ j, (u.slot j).life ≠ .held) :
    exec (.lineQueueGrant (some (.inFlight i b))) s = .next (u.enterFault .inFlight) ∧
      (u.enterFault .inFlight).ldr.part = .fault ∧ (u.enterFault .inFlight).ldr.fault = some .inFlight ∧
      ((u.enterFault .inFlight).flag .fault).isSet = true ∧
      (∀ j, j ≠ i → ((u.enterFault .inFlight).slot j).life = (s.slot j).life ∧ ((u.enterFault .inFlight).slot j).contribs = []) ∧
      (∀ p, (u.enterFault .inFlight).accum p = none) ∧ (∀ l, (u.enterFault .inFlight).line l = Line.blank) ∧
      (u.enterFault .inFlight).map = s.map ∧ (u.enterFault .inFlight).up.head = none ∧
      (u.enterFault .inFlight).ports = u.ports ∧ (u.enterFault .inFlight).slot i = (u.slot i).atFault := by
  have hE := u.enterFault_entered .inFlight
  obtain ⟨htup, hslot, hports, -⟩ := State.faultTraffic_of_head (s := u) .inFlight (.inl hup)
  have hfound : s.findError (some (.inFlight i b)) = u.enterFault .inFlight :=
    (congrArg (State.tableFault · .inFlight) hu).trans (State.tableFault_of_running (by rw [hpart, hp]) _)
  have hexec := exec_lineQueueGrant_of_empty hfound hE.queue
  rw [hE.sync] at hexec
  refine ⟨hexec, hE.part, hE.fault, hE.flag, fun j hj => ?_, hE.accum, hE.line, hE.map.trans hmap, by rw [hE.up, htup], ?_, ?_⟩
  · rw [hE.slot, hslot, if_neg (hheld j), hothers j hj]
    exact ⟨rfl, rfl⟩
  · rw [hE.ports, hports hup]
    exact (congrArg State.ports (State.released_of_none (s := u.faultPart .inFlight) hheld)).trans rfl
  · rw [hE.slot, hslot, if_neg (hheld i)]

/-- The same outside RUNNING: nothing but the slot and, in FAULT, the recorded cause changes. -/
theorem slotError_elsewhere {s u : State} {i : Fin 256} (b : Bool) (hp : s.ldr.part ≠ .running) (hu : s.slotFault i b = u)
    (hpart : u.ldr = s.ldr) (hq : u.store.queue = []) :
    ∃ t, exec (.lineQueueGrant (some (.inFlight i b))) s = .next t ∧ t.ports = u.ports ∧ t.slots = u.slots ∧
      t.ldr.part = s.ldr.part := by
  have hfound : s.findError (some (.inFlight i b)) = u.tableFault .inFlight := congrArg (State.tableFault · .inFlight) hu
  by_cases hf : s.ldr.part = .fault
  · rw [State.tableFault_of_fault (by rw [hpart, hf])] at hfound
    refine ⟨_, exec_lineQueueGrant_of_empty hfound hq, by simp, by simp, ?_⟩
    have hkept : u.ldr.part = s.ldr.part := by rw [hpart]
    rw [State.syncStatusTimer_ldr]
    exact hkept
  · rw [State.tableFault_of_other (by rw [hpart]; exact hp) (by rw [hpart]; exact hf)] at hfound
    exact ⟨_, exec_lineQueueGrant_of_empty hfound hq, by simp, by simp, by rw [State.syncStatusTimer_ldr, hpart]⟩

/-- Settles O19: the error acts by the part state, and the slot rule before it. -/
theorem tableErrorEntersFault : Obligations.TableErrorEntersFault := by
  unfold Obligations.TableErrorEntersFault
  intro s c e cause hq hc hcause
  have hfound := State.findError_of_cause (s := s) hcause
  refine ⟨fun hp hhead => ?_, fun hp => ?_, fun h1 h2 => ?_, fun i k hp hhead hl hk hheld => ?_, fun i k hp hhead hl hk => ?_⟩
  · exact tableError_running hc (hfound.trans (State.tableFault_of_running hp cause)) hhead
  · exact exec_of_onlyFinds_kept hc (hfound.trans (State.tableFault_of_fault hp cause)) hq
  · exact exec_of_onlyFinds_kept hc (hfound.trans (State.tableFault_of_other h1 h2 cause)) hq
  · have hpass : (s.slot i).kind.isPass = true := by rw [hk]; rfl
    obtain ⟨htrue, hfalse⟩ := State.slotFault_of_pass hhead hpass hl
    let u := s.setSlot i ((s.slot i).inError s.cfg.returnTimeout)
    let v := s.endSlot i .mediaError []
    have hui : u.slot i = (s.slot i).inError s.cfg.returnTimeout := State.slot_setSlot_self ..
    have hvi : v.slot i = Slot.freeSlot := (s.slot_endSlot i i _ _).trans (if_pos rfl)
    have huo : OtherSlots s u i := s.otherSlots_setSlot i _
    have hvo : OtherSlots s v i := s.otherSlots_endSlot i _ _
    have huheld (j : Fin 256) : (u.slot j).life ≠ .held := by
      by_cases hj : j = i
      · rw [hj, hui]; simp [Slot.inError]
      · rw [huo j hj]; exact hheld j hj
    have hvheld (j : Fin 256) : (v.slot j).life ≠ .held := by
      by_cases hj : j = i
      · rw [hj, hvi]; simp [Slot.freeSlot]
      · rw [hvo j hj]; exact hheld j hj
    obtain ⟨uexec, u1, u2, u3, u4, u5, u6, u7, u8, uports, uslot⟩ :=
      slotError_running true hp htrue rfl hhead rfl huo huheld
    obtain ⟨vexec, v1, v2, v3, v4, v5, v6, v7, v8, vports, vslot⟩ :=
      slotError_running false hp hfalse (by simp) (by simp [hhead]) (by simp) hvo hvheld
    obtain ⟨e1, e2, e3, e4, e5, e6, e7, e8⟩ := Slot.inError_atFault (s.slot i) s.cfg.returnTimeout
    refine ⟨⟨_, uexec, ⟨u1, u2, u3, u4, u5, u6, u7, u8⟩, uports, ?_⟩, ⟨_, vexec, ⟨v1, v2, v3, v4, v5, v6, v7, v8⟩, ?_, ?_⟩⟩
    · rw [uslot, hui]
      exact ⟨e1, e2.trans hk, e3, e4, e5, e6, e7, e8⟩
    · rw [vslot, hvi]
      rfl
    · rw [Returned, vports, State.endSlot_upstream]
  · have hpass : (s.slot i).kind.isPass = true := by rw [hk]; rfl
    obtain ⟨htrue, hfalse⟩ := State.slotFault_of_pass hhead hpass hl
    obtain ⟨t, texec, tports, tslots, tpart⟩ := slotError_elsewhere true hp htrue rfl hq
    obtain ⟨w, wexec, wports, wslots, wpart⟩ := slotError_elsewhere false hp hfalse (by simp) (by simp [hq])
    refine ⟨⟨t, texec, tports, fun j hj => ?_, ?_⟩, ⟨w, wexec, fun j hj => ?_, ?_, ?_, wpart⟩⟩
    · rw [State.slot_congr tslots, State.slot_setSlot, if_neg hj]
    · rw [State.slot_congr tslots, State.slot_setSlot_self]
      exact ⟨rfl, hk, rfl, rfl, rfl, rfl, rfl, rfl, tpart⟩
    · rw [State.slot_congr wslots, State.slot_endSlot, if_neg hj]
    · rw [State.slot_congr wslots, State.slot_endSlot, if_pos rfl]
    · rw [Returned, wports, State.endSlot_upstream]

end Sys2Proof.Machine

/-!
PROOFS. Link resets, and the links going down and up, with no walk and no mend at work (R53, R55, R58, R60, R103 to R106, R161,
R189, R191).
-/

namespace Sys2Proof.Machine

/-! ### A link reset in FAULT (R191) -/

/-- What a link reset in FAULT leaves, whatever the upstream link. -/
theorem State.resetLink_fault {s : State} (hp : s.ldr.part = .fault) (n : Nat) :
    let x := (s.resetLink n).syncStatusTimer
    x.ports = { s.ports with media := s.ports.media ++ [.linkReset] } ∧ (∀ i, (x.slot i).life = .free) ∧
      x.up.head = none ∧ (∀ e, x.extent e = Extent.freeForm) ∧ x.ldr.fault = none ∧
      (match s.ldr.setup with
        | some m => x.ldr.part = .loading ∧ x.arb = [readOf (.catalogueRead 0) (m.base + 34)] ∧
            x.map.index = [⟨.control, m.base, 51⟩]
        | none => x.ldr.part = .setup ∧ x.arb = [] ∧ x.map.index = [] ∧ x.ldr.eeprom = some ⟨100, 0⟩) ∧
      x.rep.statusDue = false ∧ x.rep.statusShot = none ∧ x.rep.withheld = 0 ∧ x.rep.flags = s.rep.flags ∧
      x.rep.updateCount = s.rep.updateCount ∧ x.rep.clock = s.rep.clock ∧ x.rep.selection = s.rep.selection ∧
      x.dir.freeze = s.dir.freeze := by
  intro x
  let v := (s.sendMedia .linkReset).clearFault.emptyMap
  have hreset : s.resetLink n = if s.ldr.setup.isSome then v.startLoad else v.setupAgain := if_pos hp
  have hslot (u : State) (hu : u.slots = Vector.replicate 256 Slot.freeSlot) (i : Fin 256) : (u.slot i).life = .free := by
    rw [State.slot, hu]
    simp [Slot.freeSlot]
  have hextent (u : State) (hu : u.map.extents = Vector.replicate 1024 Extent.freeForm) (e : Fin 1024) :
      u.extent e = Extent.freeForm := by
    rw [State.extent, hu]
    simp
  have hrep (u : State) : u.syncStatusTimer.rep = { u.rep with statusTimer := u.syncStatusTimer.rep.statusTimer } :=
    u.syncStatusTimer_rep
  cases hs : s.ldr.setup with
  | none =>
    have hx : x = v.setupAgain.syncStatusTimer := by simp only [x, hreset, hs]; rfl
    have hindex : v.map.index = [] := by
      have hbase : (s.sendMedia .linkReset).clearFault.controlBase = none := congrArg (Option.map Setup.base) hs
      show (s.sendMedia .linkReset).clearFault.controlIndex = []
      rw [State.controlIndex, hbase]
    rw [hx]
    exact ⟨by simp [State.setupAgain, v]; rfl, hslot _ (by simp [State.setupAgain, v]; rfl), by simp [State.setupAgain, v]; rfl,
      hextent _ (by simp [State.setupAgain, v]; rfl), by simp [State.setupAgain],
      ⟨by simp [State.setupAgain], by simp [State.setupAgain, v]; rfl, by simpa [State.setupAgain] using hindex,
        by simp [State.setupAgain]; rfl⟩,
      by rw [hrep]; rfl, by rw [hrep]; rfl, by rw [hrep]; rfl, by rw [hrep]; rfl, by rw [hrep]; rfl, by rw [hrep]; rfl,
      by rw [hrep]; rfl, by simp [State.setupAgain, v]; rfl⟩
  | some m =>
    have hx : x = v.startLoad.syncStatusTimer := by simp only [x, hreset, hs]; rfl
    have hbase : (s.sendMedia .linkReset).clearFault.controlBase = some m.base := congrArg (Option.map Setup.base) hs
    have hindex : v.map.index = [⟨.control, m.base, 51⟩] := by
      show (s.sendMedia .linkReset).clearFault.controlIndex = [⟨.control, m.base, 51⟩]
      rw [State.controlIndex, hbase]
      rfl
    have harb : v.startLoad.arb = [readOf (.catalogueRead 0) (m.base + 34)] := by
      show [oneBlock (.catalogueRead 0) .read (catalogueAddr (v.controlBase.getD 0) 0)] = _
      have hv : v.controlBase = some m.base := hbase
      rw [hv]
      rfl
    rw [hx]
    exact ⟨by rw [State.syncStatusTimer_ports]; rfl, hslot _ (by rw [State.syncStatusTimer_slots]; rfl),
      by rw [State.syncStatusTimer_up]; rfl, hextent _ (by rw [State.syncStatusTimer_map]; rfl),
      by rw [State.syncStatusTimer_ldr]; rfl,
      ⟨by rw [State.syncStatusTimer_ldr]; rfl, by rw [State.syncStatusTimer_arb, harb],
        by rw [State.syncStatusTimer_map]; exact hindex⟩,
      by rw [hrep]; rfl, by rw [hrep]; rfl, by rw [hrep]; rfl, by rw [hrep]; rfl, by rw [hrep]; rfl, by rw [hrep]; rfl,
      by rw [hrep]; rfl, by rw [State.syncStatusTimer_dir]; rfl⟩

/-- Settles O15: the two commands reset alike, and the upstream link's state is not among what is stated. -/
theorem linkResetLeavesFault : Obligations.LinkResetLeavesFault := by
  unfold Obligations.LinkResetLeavesFault
  intro s n hp
  refine ⟨_, _, rfl, rfl, ?_⟩
  rintro x (rfl | rfl)
  · exact State.resetLink_fault hp n
  · exact State.resetLink_fault (s := { s with up := { s.up with linkUp := false } }) hp n

/-! ### Loops over a table -/

/-- A loop each turn of which changes its own place of a table through a function. -/
theorem forEach_pointwise {ι β : Type} [DecidableEq ι] (get : State → ι → β) (g : β → β) {f : ι → State → State}
    (h : ∀ i t k, get (f i t) k = if k = i then g (get t i) else get t k) {xs : List ι} (hnodup : xs.Nodup) (s : State) (k : ι) :
    get (forEach xs f s) k = if k ∈ xs then g (get s k) else get s k := by
  induction xs generalizing s with
  | nil => simp [forEach]
  | cons x xs ih =>
    obtain ⟨hx, hxs⟩ := List.nodup_cons.mp hnodup
    have hcons : forEach (x :: xs) f s = forEach xs f (f x s) := rfl
    rw [hcons, ih hxs, h]
    by_cases hk : k = x
    · subst hk
      simp [hx]
    · simp [hk]

/-- What a turn brings about for its own item, and every turn keeps, holds at the loop's end. -/
theorem forEach_reaches {ι : Type} {Q : State → Prop} {f : ι → State → State} {x : ι} {xs : List ι} (hx : x ∈ xs)
    (hmake : ∀ t, Q (f x t)) (hkeep : ∀ y t, Q t → Q (f y t)) (s : State) : Q (forEach xs f s) := by
  have hall : ∀ (ys : List ι) (t : State), Q t → Q (forEach ys f t) := by
    intro ys
    induction ys with
    | nil => exact fun t ht => ht
    | cons y ys ih => exact fun t ht => ih _ (hkeep y t ht)
  obtain ⟨before, after, rfl⟩ := List.append_of_mem hx
  have hsplit : forEach (before ++ x :: after) f s = forEach after f (f x (forEach before f s)) := by
    simp [forEach, List.foldl_append]
  rw [hsplit]
  exact hall after _ (hmake _)

/-! ### What the engines' rest leaves alone as links fall and rise -/

/-- The ports, the slots, the map, the pool, the engines, the settings and the log are alike; so are the batch, and of the
loader all but the catalogue's marks. -/
structure Settled (s t : State) : Prop where
  ports : t.ports = s.ports
  up : t.up = s.up
  mediaUp : t.mediaUp = s.mediaUp
  slots : t.slots = s.slots
  cfg : t.cfg = s.cfg
  map : t.map = s.map
  pool : t.pool = s.pool
  walk : t.walk = s.walk
  mend : t.mend = s.mend
  batch : t.dir.batch = s.dir.batch
  frame : t.dir.mendFrame = s.dir.mendFrame
  freeze : t.dir.freeze = s.dir.freeze
  flags : t.rep.flags = s.rep.flags
  clock : t.rep.clock = s.rep.clock
  lastBatch : t.rep.lastBatch = s.rep.lastBatch
  head : t.rep.head = s.rep.head
  withheld : t.rep.withheld = s.rep.withheld
  part : t.ldr.part = s.ldr.part
  setup : t.ldr.setup = s.ldr.setup

theorem Settled.refl (s : State) : Settled s s :=
  ⟨rfl, rfl, rfl, rfl, rfl, rfl, rfl, rfl, rfl, rfl, rfl, rfl, rfl, rfl, rfl, rfl, rfl, rfl, rfl⟩

theorem Settled.trans {s t u : State} (h : Settled s t) (k : Settled t u) : Settled s u where
  ports := k.ports.trans h.ports
  up := k.up.trans h.up
  mediaUp := k.mediaUp.trans h.mediaUp
  slots := k.slots.trans h.slots
  cfg := k.cfg.trans h.cfg
  map := k.map.trans h.map
  pool := k.pool.trans h.pool
  walk := k.walk.trans h.walk
  mend := k.mend.trans h.mend
  batch := k.batch.trans h.batch
  frame := k.frame.trans h.frame
  freeze := k.freeze.trans h.freeze
  flags := k.flags.trans h.flags
  clock := k.clock.trans h.clock
  lastBatch := k.lastBatch.trans h.lastBatch
  head := k.head.trans h.head
  withheld := k.withheld.trans h.withheld
  part := k.part.trans h.part
  setup := k.setup.trans h.setup

theorem Settled.unlogged {s t : State} (h : Settled s t) : Unlogged s t := ⟨h.head, h.withheld, h.flags⟩

theorem Settled.base {s t : State} (h : Settled s t) : t.controlBase = s.controlBase := by
  rw [State.controlBase, h.setup, State.controlBase]

theorem State.syncStatusTimer_settled (s : State) : Settled s s.syncStatusTimer := by
  constructor <;> simp

theorem State.cutWriteback_settled (s : State) (l : Fin 64) : Settled s (s.cutWriteback l) := by
  unfold State.cutWriteback
  dsimp only
  split
  · constructor <;> simp
  · exact .refl s

theorem State.queueWriteback_settled (s : State) (l : Fin 64) : Settled s (s.queueWriteback l) := by
  constructor <;> simp

theorem State.queueCat_settled (s : State) (b : Fin 17) : Settled s (s.queueCat b) := by
  constructor <;> simp

theorem State.cutCatalogue_settled (s : State) (b : Fin 17) : Settled s (s.cutCatalogue b) := by
  unfold State.cutCatalogue
  constructor <;> simp [State.setCat]

theorem State.cutStatus_settled (s : State) : Settled s s.cutStatus :=
  ⟨rfl, rfl, rfl, rfl, rfl, rfl, rfl, rfl, rfl, rfl, rfl, rfl, rfl, rfl, rfl, rfl, rfl, rfl, rfl⟩

theorem State.cutLog_settled (s : State) : Settled s s.cutLog := by
  have hlost := s.rep.logLost_keeps
  unfold State.cutLog
  constructor <;> first | rfl | (simp only []; rw [hlost])

theorem State.pumpStatus_settled (s : State) : Settled s s.pumpStatus := by
  constructor <;> simp

theorem State.pumpLog_settled (s : State) : Settled s s.pumpLog := by
  constructor <;> simp

/-! ### What was cut off is queued again (R60, R104, R189) -/

/-- One line's turn. -/
def State.requeueLine (s : State) (l : Fin 64) : State :=
  if (s.line l).cut then (s.setLine l { s.line l with cut := false }).queueWriteback l else s

/-- One catalogue block's turn. -/
def State.requeueBlock (s : State) (b : Fin 17) : State :=
  if (s.cat b).cut then (s.setCat b { s.cat b with cut := false }).queueCat b else s

/-- The lines' turns. -/
def State.requeueLines (s : State) : State := forEach (allFin 64) (fun l t => t.requeueLine l) s

/-- The catalogue blocks' turns. -/
def State.requeueBlocks (s : State) : State := forEach (allFin 17) (fun b t => t.requeueBlock b) s

theorem State.requeueCut_eq (s : State) : s.requeueCut = s.requeueLines.requeueBlocks.pumpStatus.pumpLog := by
  unfold State.requeueCut State.requeueBlocks State.requeueLines State.requeueBlock State.requeueLine
  rfl

theorem State.requeueLine_settled (s : State) (l : Fin 64) : Settled s (s.requeueLine l) := by
  unfold State.requeueLine
  split
  · constructor <;> simp
  · exact .refl s

theorem State.requeueBlock_settled (s : State) (b : Fin 17) : Settled s (s.requeueBlock b) := by
  unfold State.requeueBlock
  split
  · constructor <;> simp [State.setCat]
  · exact .refl s

theorem State.requeueLines_settled (s : State) : Settled s s.requeueLines :=
  forEach_induct Settled.refl Settled.trans (fun l s => s.requeueLine_settled l) _ s

theorem State.requeueBlocks_settled (s : State) : Settled s s.requeueBlocks :=
  forEach_induct Settled.refl Settled.trans (fun b s => s.requeueBlock_settled b) _ s

theorem State.requeueCut_settled (s : State) : Settled s s.requeueCut := by
  rw [State.requeueCut_eq]
  exact (s.requeueLines_settled.trans (State.requeueBlocks_settled _)).trans
    ((State.pumpStatus_settled _).trans (State.pumpLog_settled _))

theorem State.requeueLine_grows (s : State) (l : Fin 64) : QueueGrows s (s.requeueLine l) := by
  unfold State.requeueLine
  split
  · exact (QueueGrows.of_arb rfl).trans (State.queueWriteback_grows (s.setLine l { s.line l with cut := false }) l)
  · exact .refl s

theorem State.requeueBlock_grows (s : State) (b : Fin 17) : QueueGrows s (s.requeueBlock b) := by
  unfold State.requeueBlock
  split
  · exact (QueueGrows.of_arb rfl).trans (State.queueCat_grows (s.setCat b { s.cat b with cut := false }) b)
  · exact .refl s

theorem State.requeueLines_grows (s : State) : QueueGrows s s.requeueLines :=
  forEach_induct QueueGrows.refl QueueGrows.trans (fun l s => s.requeueLine_grows l) _ s

theorem State.requeueBlocks_grows (s : State) : QueueGrows s s.requeueBlocks :=
  forEach_induct QueueGrows.refl QueueGrows.trans (fun b s => s.requeueBlock_grows b) _ s

theorem State.requeueCut_grows (s : State) : QueueGrows s s.requeueCut := by
  rw [State.requeueCut_eq]
  exact (s.requeueLines_grows.trans (State.requeueBlocks_grows _)).trans
    ((State.pumpStatus_grows _).trans (State.pumpLog_grows _))

/-- A line as its turn leaves it. -/
def Line.uncut (x : Line) : Line := { x with cut := false }

/-- A catalogue block as its turn leaves it. -/
def CatBlock.uncut (x : CatBlock) : CatBlock := { x with cut := false }

theorem State.requeueLine_line (s : State) (l k : Fin 64) :
    (s.requeueLine l).line k = if k = l then (s.line l).uncut else s.line k := by
  unfold State.requeueLine
  split
  case isTrue => rw [State.line_congr (State.queueWriteback_store _ l), State.line_setLine]; rfl
  case isFalse h =>
    by_cases hk : k = l
    · have huncut : (s.line l).uncut = s.line l := by
        rw [Bool.not_eq_true] at h
        rw [Line.uncut, ← h]
      rw [if_pos hk, huncut, hk]
    · rw [if_neg hk]

theorem State.requeueBlock_cat (s : State) (b k : Fin 17) :
    (s.requeueBlock b).cat k = if k = b then (s.cat b).uncut else s.cat k := by
  unfold State.requeueBlock
  split
  case isTrue => rw [State.cat_congr (State.queueCat_ldr _ b), State.cat_setCat]; rfl
  case isFalse h =>
    by_cases hk : k = b
    · have huncut : (s.cat b).uncut = s.cat b := by
        rw [Bool.not_eq_true] at h
        rw [CatBlock.uncut, ← h]
      rw [if_pos hk, huncut, hk]
    · rw [if_neg hk]

theorem State.requeueLines_line (s : State) (k : Fin 64) : s.requeueLines.line k = (s.line k).uncut := by
  have hpoint := forEach_pointwise State.line Line.uncut (f := fun l t => t.requeueLine l)
    (fun l t k => t.requeueLine_line l k) (List.nodup_finRange 64) s k
  exact hpoint.trans (if_pos (List.mem_finRange k))

theorem State.requeueBlocks_cat (s : State) (k : Fin 17) : s.requeueBlocks.cat k = (s.cat k).uncut := by
  have hpoint := forEach_pointwise State.cat CatBlock.uncut (f := fun b t => t.requeueBlock b)
    (fun b t k => t.requeueBlock_cat b k) (List.nodup_finRange 17) s k
  exact hpoint.trans (if_pos (List.mem_finRange k))

theorem State.requeueBlock_store (s : State) (b : Fin 17) : (s.requeueBlock b).store = s.store := by
  unfold State.requeueBlock
  split <;> simp

theorem State.requeueLine_ldr (s : State) (l : Fin 64) : (s.requeueLine l).ldr = s.ldr := by
  unfold State.requeueLine
  split <;> simp

theorem State.requeueCut_line (s : State) (k : Fin 64) : s.requeueCut.line k = (s.line k).uncut := by
  have hblocks : s.requeueLines.requeueBlocks.store = s.requeueLines.store :=
    forEach_eq State.store (fun b t => t.requeueBlock_store b) _ rfl
  rw [State.requeueCut_eq, State.line_congr (State.pumpLog_store _), State.line_congr (State.pumpStatus_store _),
    State.line_congr hblocks, State.requeueLines_line]

theorem State.requeueCut_cat (s : State) (k : Fin 17) : s.requeueCut.cat k = (s.cat k).uncut := by
  have hlines : s.requeueLines.ldr = s.ldr := forEach_eq State.ldr (fun l t => t.requeueLine_ldr l) _ rfl
  rw [State.requeueCut_eq, State.cat_congr (State.pumpLog_ldr _), State.cat_congr (State.pumpStatus_ldr _),
    State.requeueBlocks_cat, State.cat_congr hlines]

/-- While turns are left a line that was cut off is so still, or its writeback is queued. -/
theorem State.requeueLines_queued {s : State} {l : Fin 64} (h : (s.line l).cut = true) :
    s.requeueLines.queued (.writeback l) = true := by
  have hinv : (s.requeueLines.line l).cut = true ∨ s.requeueLines.queued (.writeback l) = true := by
    refine forEach_induct (P := fun s t => (s.line l).cut = true ∨ s.queued (.writeback l) = true →
      (t.line l).cut = true ∨ t.queued (.writeback l) = true) (fun _ h => h) (fun h k hs => k (h hs)) (fun k t ht => ?_)
      (allFin 64) s (.inl h)
    rcases ht with hcut | hq
    · by_cases hk : l = k
      · subst hk
        right
        rw [State.requeueLine, if_pos hcut]
        exact State.queueWriteback_queued _ l
      · left
        rw [State.requeueLine_line, if_neg hk]
        exact hcut
    · exact .inr ((t.requeueLine_grows k).queued hq)
  rcases hinv with hcut | hq
  · rw [State.requeueLines_line] at hcut
    cases hcut
  · exact hq

theorem State.requeueBlocks_queued {s : State} {b : Fin 17} (h : (s.cat b).cut = true) :
    s.requeueBlocks.queued (.catalogueWrite b) = true := by
  have hinv : (s.requeueBlocks.cat b).cut = true ∨ s.requeueBlocks.queued (.catalogueWrite b) = true := by
    refine forEach_induct (P := fun s t => (s.cat b).cut = true ∨ s.queued (.catalogueWrite b) = true →
      (t.cat b).cut = true ∨ t.queued (.catalogueWrite b) = true) (fun _ h => h) (fun h k hs => k (h hs)) (fun k t ht => ?_)
      (allFin 17) s (.inl h)
    rcases ht with hcut | hq
    · by_cases hk : b = k
      · subst hk
        right
        rw [State.requeueBlock, if_pos hcut]
        exact State.queueCat_queued _ b
      · left
        rw [State.requeueBlock_cat, if_neg hk]
        exact hcut
    · exact .inr ((t.requeueBlock_grows k).queued hq)
  rcases hinv with hcut | hq
  · rw [State.requeueBlocks_cat] at hcut
    cases hcut
  · exact hq

theorem State.requeueCut_queued_line {s : State} {l : Fin 64} (h : (s.line l).cut = true) :
    s.requeueCut.queued (.writeback l) = true := by
  rw [State.requeueCut_eq]
  exact ((State.requeueBlocks_grows _).trans ((State.pumpStatus_grows _).trans (State.pumpLog_grows _))).queued
    (State.requeueLines_queued h)

theorem State.requeueCut_queued_block {s : State} {b : Fin 17} (h : (s.cat b).cut = true) :
    s.requeueCut.queued (.catalogueWrite b) = true := by
  have hlines : s.requeueLines.ldr = s.ldr := forEach_eq State.ldr (fun l t => t.requeueLine_ldr l) _ rfl
  rw [State.requeueCut_eq]
  exact ((State.pumpStatus_grows _).trans (State.pumpLog_grows _)).queued
    (State.requeueBlocks_queued (by rw [State.cat_congr hlines]; exact h))

end Sys2Proof.Machine

/-!
PROOFS. Which slot a request takes, and which queued request the arbiter grants (R91, R92, R99 to R102).
-/

namespace Sys2Proof.Machine

/-- In an ascending list what is less than an element stands before it. -/
theorem mem_before_of_lt {α : Type} [Preorder α] {xs as bs : List α} {i j : α} (hs : xs.Pairwise (· < ·))
    (hx : xs = as ++ i :: bs) (hj : j ∈ xs) (hlt : j < i) : j ∈ as := by
  subst hx
  obtain ⟨-, hb, -⟩ := List.pairwise_append.mp hs
  rcases List.mem_append.mp hj with h | h
  · exact h
  · rcases List.mem_cons.mp h with rfl | h
    · exact absurd hlt (lt_irrefl j)
    · exact absurd (hlt.trans ((List.pairwise_cons.mp hb).1 j h)) (lt_irrefl j)

/-! ### The lowest-numbered FREE slot -/

theorem State.freeSlot_lowest {s : State} {i : Fin 256} (h : s.freeSlot? = some i) {j : Fin 256} (hj : j < i) :
    (s.slot j).life ≠ .free := by
  obtain ⟨-, as, bs, hx, has⟩ := List.find?_eq_some_iff_append.mp h
  have hmem := mem_before_of_lt (List.pairwise_lt_finRange 256) hx (List.mem_finRange j) hj
  simpa using has j hmem

theorem State.freeSlot_none {s : State} (h : s.freeSlot? = none) (i : Fin 256) : (s.slot i).life ≠ .free := by
  have := List.find?_eq_none.mp h i (List.mem_finRange i)
  simpa using this

theorem State.passSlot_none {s : State} (h : s.passSlot? = none) :
    (∀ i, (s.slot i).life ≠ .free) ∨ 240 ≤ s.countSlots Slot.countsPass := by
  unfold State.passSlot? at h
  split at h
  · exact .inl (State.freeSlot_none h)
  next hlt => exact .inr (Nat.le_of_not_lt hlt)

theorem State.passSlot_freeSlot {s : State} {i : Fin 256} (h : s.passSlot? = some i) : s.freeSlot? = some i := by
  unfold State.passSlot? at h
  split at h
  · exact h
  · cases h

theorem State.injSlot_freeSlot {s : State} {i : Fin 256} (h : s.injSlot? = some i) : s.freeSlot? = some i := by
  unfold State.injSlot? at h
  split at h
  · exact h
  · cases h

theorem State.injSlot_none {s : State} (h : s.injSlot? = none) :
    (∀ i, (s.slot i).life ≠ .free) ∨ 64 ≤ s.countSlots Slot.countsInjected ∨
      256 ≤ s.countSlots Slot.countsInjected + s.countSlots Slot.countsPass := by
  unfold State.injSlot? at h
  split at h
  · exact .inl (State.freeSlot_none h)
  next hlt =>
    simp only [Config.injectedBudget] at hlt
    omega

/-! ### Eligibility -/

theorem Owner.cls_mem (o : Owner) : o.cls ∈ [1, 2, 3, 4, 5] := by cases o <;> simp [Owner.cls]

theorem Owner.isMend_iff (o : Owner) : o.isMend = true ↔ o.cls = 4 := by cases o <;> simp [Owner.cls, Owner.isMend]

theorem Owner.isWalk_iff (o : Owner) : o.isWalk = true ↔ o.cls = 5 := by cases o <;> simp [Owner.cls, Owner.isWalk]

theorem State.eligible_grantsIn {s : State} {q : InjRequest} (h : s.eligible q = true) : s.grantsIn q = true := by
  unfold State.eligible at h
  exact (Bool.and_eq_true_iff.mp h).1

theorem State.grantsIn_mediaUp {s : State} {q : InjRequest} (h : s.grantsIn q = true) : s.mediaUp = true := by
  unfold State.grantsIn at h
  exact (Bool.and_eq_true_iff.mp h).1

theorem State.grantsIn_of_running_or_loading {s : State} (hup : s.mediaUp = true)
    (hp : s.ldr.part = .running ∨ s.ldr.part = .loading) (q : InjRequest) : s.grantsIn q = true := by
  rcases hp with hp | hp <;> simp [State.grantsIn, hup, hp]

/-- A mend request is eligible in its part state exactly within the pace settings (R100). -/
theorem State.eligible_mend {s : State} {q : InjRequest} (hq : q.owner.cls = 4) :
    s.eligible q = true ↔ s.grantsIn q = true ∧ s.countSlots Slot.livePass ≤ s.cfg.paceThreshold ∧
      s.outstanding Owner.isMend < s.cfg.paceDepth := by
  simp [State.eligible, (Owner.isMend_iff _).mpr hq]

/-- A walk request is eligible in its part state exactly within the pace settings (R100). -/
theorem State.eligible_walk {s : State} {q : InjRequest} (hq : q.owner.cls = 5) :
    s.eligible q = true ↔ s.grantsIn q = true ∧ s.countSlots Slot.livePass ≤ s.cfg.paceThreshold ∧
      s.outstanding Owner.isWalk < s.cfg.paceDepth := by
  have hm : q.owner.isMend = false := Bool.eq_false_iff.mpr fun h => by
    have := (Owner.isMend_iff _).mp h
    omega
  simp [State.eligible, (Owner.isWalk_iff _).mpr hq, hm]

/-- A request of classes 1 to 3 is eligible wherever its part state grants it (R100). -/
theorem State.eligible_unpaced {s : State} {q : InjRequest} (hq : q.owner.cls ≤ 3) : s.eligible q = s.grantsIn q := by
  have hm : q.owner.isMend = false := Bool.eq_false_iff.mpr fun h => by
    have := (Owner.isMend_iff _).mp h
    omega
  have hw : q.owner.isWalk = false := Bool.eq_false_iff.mpr fun h => by
    have := (Owner.isWalk_iff _).mp h
    omega
  simp [State.eligible, hm, hw]

/-! ### The grant -/

theorem State.nextGrant_none {s : State} (h : s.nextGrant = none) (q : InjRequest) (hq : q ∈ s.arb) : s.eligible q = false := by
  have hc := List.findSome?_eq_none_iff.mp h q.owner.cls (Owner.cls_mem _)
  simpa using List.find?_eq_none.mp hc q hq

/-- What is granted is queued and eligible, the oldest of its class among those, and no lower class has one (R100). -/
theorem State.nextGrant_first {s : State} {r : InjRequest} (h : s.nextGrant = some r) :
    s.eligible r = true ∧ (∀ q ∈ s.arb, s.eligible q = true → r.owner.cls ≤ q.owner.cls) ∧
      ∃ before after, s.arb = before ++ r :: after ∧
        ∀ q ∈ before, s.eligible q = true → q.owner.cls ≠ r.owner.cls := by
  obtain ⟨lower, c, higher, hcs, hc, hlower⟩ := List.findSome?_eq_some_iff.mp h
  obtain ⟨hr, before, after, harb, hbefore⟩ := List.find?_eq_some_iff_append.mp hc
  obtain ⟨hcls, helig⟩ : r.owner.cls = c ∧ s.eligible r = true := by simpa using hr
  refine ⟨helig, fun q hq hel => ?_, before, after, harb, fun q hq hel heq => ?_⟩
  · rw [hcls]
    by_contra hlt
    have hmem := mem_before_of_lt (by simp) hcs (Owner.cls_mem q.owner) (Nat.lt_of_not_le hlt)
    have := List.find?_eq_none.mp (hlower _ hmem) q hq
    simp [hel] at this
  · have := hbefore q hq
    simp [hel, heq, hcls] at this

/-- Settles O35: the slot and the grant are the first that `List.find?` meets, in ascending order. -/
theorem slotAndGrantChoice : Obligations.SlotAndGrantChoice := by
  intro s passes injected
  refine ⟨fun i h => ?_, State.passSlot_none, fun i h => ?_, State.injSlot_none, fun r h => ?_, State.nextGrant_none,
    fun q hup hp => ?_, fun _ hp q h => ?_, fun hshut => ?_⟩
  · obtain ⟨hfree, hbudget⟩ := State.passSlot_free h
    exact ⟨hfree, fun j hj => State.freeSlot_lowest (State.passSlot_freeSlot h) hj, hbudget⟩
  · obtain ⟨hfree, hbudget⟩ := State.injSlot_free h
    exact ⟨hfree, fun j hj => State.freeSlot_lowest (State.injSlot_freeSlot h) hj, hbudget⟩
  · obtain ⟨helig, hlower, before, after, harb, hbefore⟩ := State.nextGrant_first h
    exact ⟨harb ▸ by simp, helig, State.grantsIn_mediaUp (State.eligible_grantsIn helig), hlower,
      ⟨before, after, harb, hbefore⟩,
      fun hw => ((State.eligible_walk ((Owner.isWalk_iff _).mp hw)).mp helig).2,
      fun hm => ((State.eligible_mend ((Owner.isMend_iff _).mp hm)).mp helig).2⟩
  · have hg := State.grantsIn_of_running_or_loading hup hp q
    refine ⟨fun hq => ?_, fun hq => by simp [State.eligible_mend hq, hg], fun hq => by simp [State.eligible_walk hq, hg]⟩
    have helig : s.eligible q = true := (State.eligible_unpaced hq).trans hg
    refine ⟨helig, fun hmem => ?_⟩
    cases hn : s.nextGrant with
    | none =>
      have hno := State.nextGrant_none hn q hmem
      rw [helig] at hno
      cases hno
    | some r => exact ⟨r, rfl, (State.nextGrant_first hn).2.1 q hmem helig⟩
  · have hg := State.eligible_grantsIn h
    simp only [State.grantsIn, hp, Bool.and_eq_true, decide_eq_true_eq] at hg
    exact hg.2
  · have hno : ∀ q : InjRequest, s.eligible q = false := fun q => Bool.eq_false_iff.mpr fun hel => by
      have hg := State.eligible_grantsIn hel
      rcases hshut with h | h | h <;> simp [State.grantsIn, h] at hg
    refine ⟨hno, ?_⟩
    cases hn : s.nextGrant with
    | none => rfl
    | some r => exact absurd (State.nextGrant_first hn).1 (by simp [hno r])

end Sys2Proof.Machine

/-!
PROOFS. The pieces of a request and the protection judgment (R4, R18).
-/

namespace Sys2Proof.Machine

/-- The blocks of a piece, in order. -/
def Piece.blocks (p : Piece) : List Nat := List.range' p.first p.len

theorem range'_append_upTo {a b c : Nat} (hab : a ≤ b) (hbc : b ≤ c) :
    List.range' a (b - a) ++ List.range' b (c - b) = List.range' a (c - a) := by
  obtain ⟨m, rfl⟩ := Nat.exists_eq_add_of_le hab
  obtain ⟨n, rfl⟩ := Nat.exists_eq_add_of_le hbc
  simp only [Nat.add_sub_cancel_left, List.range'_append_1]
  congr 1
  omega

/-- The pieces of a run of blocks are its blocks, in order: each piece begins where the one before it stops. -/
theorem cutPieces_blocks (index : List Range) (x stop : Nat) :
    (cutPieces index x stop).flatMap Piece.blocks = List.range' x (stop - x) := by
  induction index generalizing x with
  | nil =>
    by_cases h : x < stop
    · simp [cutPieces, h, unclaimed, Piece.blocks]
    · simp [cutPieces, h, Nat.sub_eq_zero_of_le (Nat.le_of_not_lt h)]
  | cons r rs ih =>
    have hlen : r.stop = r.first + r.len := rfl
    unfold cutPieces
    split
    next hle => simp [Nat.sub_eq_zero_of_le hle]
    next hlt =>
    split
    · exact ih x
    next hr =>
    split
    · simp [unclaimed, Piece.blocks]
    next hfirst =>
      have hshared : ∀ y, y = max x r.first →
          List.range' y (min stop r.stop - y) ++ List.range' r.stop (stop - r.stop) = List.range' y (stop - y) := by
        intro y hy
        by_cases hs : stop ≤ r.stop
        · simp [Nat.min_eq_left hs, Nat.sub_eq_zero_of_le hs]
        · rw [Nat.min_eq_right (by omega)]
          exact range'_append_upTo (by omega) (by omega)
      rw [List.flatMap_append, List.flatMap_cons, ih r.stop]
      change _ ++ (List.range' (max x r.first) _ ++ _) = _
      rw [hshared _ rfl]
      by_cases hx : x < r.first
      · rw [if_pos hx, Nat.max_eq_right (Nat.le_of_lt hx)]
        simpa [unclaimed, Piece.blocks] using range'_append_upTo (Nat.le_of_lt hx) (Nat.le_of_not_le hfirst)
      · simp [hx, Nat.max_eq_left (Nat.le_of_not_lt hx)]

/-- A range of an ascending index that shares a block with a run is the range of one of the run's pieces. -/
theorem exists_piece_of_mem {index : List Range} (hix : index.Pairwise fun a b => a.stop ≤ b.first) {q : Range} (hq : q ∈ index)
    {x stop block : Nat} (hfirst : q.first ≤ block) (hlast : block < q.stop) (hx : x ≤ block) (hstop : block < stop) :
    ∃ p ∈ cutPieces index x stop, p.kind = some q.kind := by
  induction index generalizing x with
  | nil => simp at hq
  | cons r rs ih =>
    obtain ⟨hr, hrs⟩ := List.pairwise_cons.mp hix
    have hrq : q ∈ rs → r.stop ≤ block := fun h => Nat.le_trans (hr q h) hfirst
    have hlen : r.stop = r.first + r.len := rfl
    unfold cutPieces
    rcases List.mem_cons.mp hq with rfl | hmem
    · rw [if_neg (by omega), if_neg (by omega), if_neg (by omega)]
      exact ⟨_, List.mem_append_right _ (List.mem_cons_self ..), rfl⟩
    · have hcur := hrq hmem
      rw [if_neg (by omega)]
      split
      · exact ih hrs hmem hx
      · rw [if_neg (by omega)]
        obtain ⟨p, hp, hk⟩ := ih hrs hmem (x := r.stop) hcur
        exact ⟨p, List.mem_append_right _ (List.mem_cons_of_mem _ hp), hk⟩

/-- A write with a refusing piece is judged REFUSED whatever else it touches (R18). -/
theorem State.judge_of_refusing {s : State} {exact : Bool} {addr count : Nat} {p : Piece} (hp : p ∈ s.pieces addr count)
    (h : s.judgePiece exact p = .refused) : s.judge exact addr count = .refused := by
  unfold State.judge judgeAll
  rw [if_pos (List.any_eq_true.mpr ⟨_, List.mem_map_of_mem hp, by simp [h]⟩)]

/-- Settles O26: a run's pieces follow each other without a gap, and a protected block lies in a refusing piece. -/
theorem piecesAndProtection : Obligations.PiecesAndProtection := by
  refine ⟨fun s addr count _ => ?_, fun s exact addr count block q hix hq hfirst hlast haddr hcount hprot => ?_⟩
  · have := cutPieces_blocks s.map.index addr (addr + count)
    rwa [Nat.add_sub_cancel_left] at this
  · obtain ⟨p, hp, hkind⟩ := exists_piece_of_mem hix hq hfirst hlast haddr hcount
    refine State.judge_of_refusing hp ?_
    rcases hprot with ⟨e, hd⟩ | ⟨e, c, hc, hsealed⟩ | ⟨hc, hexact⟩
    · simp [State.judgePiece, hkind, hd]
    · simp [State.judgePiece, hkind, hc, hsealed]
    · simp [State.judgePiece, hkind, hc, hexact]

end Sys2Proof.Machine

/-!
PROOFS. The ends of a digest line's requests: fills and refills (R52, R53, R55), writebacks (R57, R58).
-/

namespace Sys2Proof.Machine

/-! ### Steps that act on one line alone -/

/-- But for line `l`, the recency and dirty orders, the arbiter's queue and the report writer, nothing changes. -/
structure OnLine (l : Fin 64) (s t : State) : Prop where
  pending : t.pending = s.pending
  ports : t.ports = s.ports
  up : t.up = s.up
  mediaUp : t.mediaUp = s.mediaUp
  slots : t.slots = s.slots
  map : t.map = s.map
  pool : t.pool = s.pool
  walk : t.walk = s.walk
  mend : t.mend = s.mend
  dir : t.dir = s.dir
  cfg : t.cfg = s.cfg
  ldr : t.ldr = s.ldr
  queue : t.store.queue = s.store.queue
  lines : OtherLines s t l

theorem OnLine.refl (l : Fin 64) (s : State) : OnLine l s s :=
  ⟨rfl, rfl, rfl, rfl, rfl, rfl, rfl, rfl, rfl, rfl, rfl, rfl, rfl, fun _ _ => rfl⟩

theorem OnLine.trans {l : Fin 64} {s t u : State} (h : OnLine l s t) (k : OnLine l t u) : OnLine l s u :=
  ⟨k.pending.trans h.pending, k.ports.trans h.ports, k.up.trans h.up, k.mediaUp.trans h.mediaUp, k.slots.trans h.slots, k.map.trans h.map,
    k.pool.trans h.pool, k.walk.trans h.walk, k.mend.trans h.mend, k.dir.trans h.dir, k.cfg.trans h.cfg, k.ldr.trans h.ldr,
    k.queue.trans h.queue, fun i hi => (k.lines i hi).trans (h.lines i hi)⟩

theorem OnLine.running {l : Fin 64} {s t : State} (h : OnLine l s t) : t.running = s.running := by
  unfold State.running
  rw [h.ldr]

theorem OnLine.mendWaitsOn {l : Fin 64} {s t : State} (h : OnLine l s t) (hm : s.mend.active = none) (k : Fin 64) :
    t.mendWaitsOn k = none := by simp [State.mendWaitsOn, h.mend, hm]

theorem OnLine.frameWaitsOn {l : Fin 64} {s t : State} (h : OnLine l s t) (hf : s.dir.mendFrame = none) (k : Fin 64) :
    t.frameWaitsOn k = none := by simp [State.frameWaitsOn, h.dir, hf]

theorem OnLine.walkWaitsOn {l : Fin 64} {s t : State} (h : OnLine l s t) (hw : s.walk.cur = none) (k : Fin 64) (g : WalkStage) :
    t.walkWaitsOn k g = none := by simp [State.walkWaitsOn, h.walk, hw]

theorem OnLine.lineFilled {l : Fin 64} {s t : State} (h : OnLine l s t) (hm : s.mend.active = none)
    (hf : s.dir.mendFrame = none) (k : Fin 64) : t.lineFilled k = t := by
  simp [State.lineFilled, h.mendWaitsOn hm, h.frameWaitsOn hf]

theorem OnLine.walkLineRead {l : Fin 64} {s t : State} (h : OnLine l s t) (hw : s.walk.cur = none) (k : Fin 64) (b : Bool)
    (fs : List Nat) : t.walkLineRead k b fs = t := by
  simp [State.walkLineRead, h.walkWaitsOn hw]

theorem State.setLine_onLine (s : State) (l : Fin 64) (x : Line) : OnLine l s (s.setLine l x) :=
  ⟨rfl, rfl, rfl, rfl, rfl, rfl, rfl, rfl, rfl, rfl, rfl, rfl, rfl, fun k hk => by rw [State.line_setLine, if_neg hk]⟩

theorem State.becomeDirty_onLine (s : State) (l : Fin 64) : OnLine l s (s.becomeDirty l) :=
  ⟨by simp, by simp, by simp, by simp, by simp, by simp, by simp, by simp, by simp, by simp, by simp, by simp, by simp,
    (s.setLine_onLine l _).lines⟩

theorem State.invalidate_onLine (s : State) (l : Fin 64) : OnLine l s (s.invalidate l) :=
  ⟨by simp, by simp, by simp, by simp, by simp, by simp, by simp, by simp, by simp, by simp, by simp, by simp, rfl,
    (s.setLine_onLine l _).lines⟩

theorem State.log_onLine (s : State) (l : Fin 64) (k : FindingKind) (e f c : Option Nat) (d1 d2 d3 : Nat) :
    OnLine l s (s.log k e f c d1 d2 d3) :=
  ⟨by simp, by simp, by simp, by simp, by simp, by simp, by simp, by simp, by simp, by simp, by simp, by simp, by simp,
    fun k _ => State.line_congr (by simp) k⟩

theorem State.queueWriteback_onLine (s : State) (l k : Fin 64) : OnLine k s (s.queueWriteback l) :=
  ⟨by simp, by simp, by simp, by simp, by simp, by simp, by simp, by simp, by simp, by simp, by simp, by simp, by simp,
    fun k _ => State.line_congr (by simp) k⟩

theorem State.becomeDirty_line (s : State) (l : Fin 64) :
    (s.becomeDirty l).line l = { s.line l with state := .dirty, dirtyTimer := some (Timer.start Config.dirtyMs) } :=
  State.line_setLine_self s l _

theorem State.invalidate_line (s : State) (l : Fin 64) :
    (s.invalidate l).line l = { Line.blank with pins := (s.line l).pins } :=
  State.line_setLine_self s l _

theorem State.log_line (s : State) (k : FindingKind) (e f c : Option Nat) (d1 d2 d3 : Nat) (l : Fin 64) :
    (s.log k e f c d1 d2 d3).line l = s.line l := State.line_congr (by simp) l

theorem State.queueWriteback_line (s : State) (l k : Fin 64) : (s.queueWriteback l).line k = s.line k :=
  State.line_congr (by simp) k

/-! ### What the read of a line finds -/

theorem readEntries_length (hasReplica : Bool) (n f : Nat) (bytes : List Byte) :
    (readEntries hasReplica n f bytes).1.length = n := by
  induction n generalizing f bytes with
  | zero => rfl
  | succ n ih =>
    simp only [readEntries]
    split <;> simp [ih]

/-- The entry taken at a slot is the one its 16 bytes decode to, or DIGEST_LOST where they are damaged (R52). -/
theorem readEntries_getD (hasReplica : Bool) (n f j : Nat) (bytes : List Byte) (rest : List Entry) (hj : j < n) :
    ((readEntries hasReplica n f bytes).1 ++ rest).getD j Entry.zero =
      match decodeEntry hasReplica ((bytes.drop (16 * j)).take 16) with
      | .ok e => e
      | .error _ => Entry.digestLost hasReplica := by
  induction n generalizing f bytes j with
  | zero => omega
  | succ n ih =>
    cases j with
    | zero =>
      cases hd : decodeEntry hasReplica (bytes.take 16) <;> simp [readEntries, hd]
    | succ j =>
      have hrest := ih (f + 1) j (bytes.drop 16) (by omega)
      rw [List.drop_drop, show 16 + 16 * j = 16 * (j + 1) by omega] at hrest
      rw [← hrest]
      cases hd : decodeEntry hasReplica (bytes.take 16) <;> simp [readEntries, hd]

/-- Damage is found exactly where the bytes of some slot do not decode. -/
theorem readEntries_damage_nil (hasReplica : Bool) (n f : Nat) (bytes : List Byte) :
    (readEntries hasReplica n f bytes).2 = [] ↔
      ∀ j, j < n → (decodeEntry hasReplica ((bytes.drop (16 * j)).take 16)).isOk = true := by
  induction n generalizing f bytes with
  | zero => simp [readEntries]
  | succ n ih =>
    have hshift : ∀ j, (bytes.drop 16).drop (16 * j) = bytes.drop (16 * (j + 1)) := fun j => by
      rw [List.drop_drop, show 16 + 16 * j = 16 * (j + 1) by omega]
    have hrest := ih (f + 1) (bytes.drop 16)
    simp only [hshift] at hrest
    rw [Nat.forall_lt_succ_left', ← hrest]
    cases hd : decodeEntry hasReplica (bytes.take 16) <;> simp [readEntries, hd, Except.isOk, Except.toBool]

/-! ### The findings of damaged entries -/

theorem State.logDamage_eq {s : State} (hm : s.mend.active = none) (e : Fin 1024) (d : Damage) :
    s.logDamage e d = s.log .digestDamaged (some e.val) (some d.frame) none d.stored d.computed d.reason := by
  simp [State.logDamage, State.reportMend, hm]

/-- The finding flag, or that of a full log, is set. -/
def State.flagsFinding (s : State) : Prop := (s.flag .finding).isSet = true ∨ (s.flag .logFull).isSet = true

theorem State.log_flagsFinding {s : State} (h : s.running = true) (k : FindingKind) (e f c : Option Nat) (d1 d2 d3 : Nat) :
    (s.log k e f c d1 d2 d3).flagsFinding := by
  obtain ⟨hroom, hfull⟩ := State.logged_log h k e f c d1 d2 d3
  cases hs : s.rep.full with
  | false => exact .inl (hroom hs).2.2.2
  | true => exact .inr (hfull hs).2.2

/-- The findings of a block's damaged entries act on the report writer alone; one sets a flag (R52). -/
theorem State.logDamages_onLine (ds : List Damage) (e : Fin 1024) (l : Fin 64) :
    ∀ s : State, s.mend.active = none → OnLine l s (forEach ds (fun d t => t.logDamage e d) s) ∧
      (forEach ds (fun d t => t.logDamage e d) s).line l = s.line l ∧
      (ds ≠ [] → s.running = true → (forEach ds (fun d t => t.logDamage e d) s).flagsFinding) := by
  induction ds with
  | nil => exact fun s _ => ⟨OnLine.refl l s, rfl, fun h => absurd rfl h⟩
  | cons d ds ih =>
    intro s hm
    let u := s.log .digestDamaged (some e.val) (some d.frame) none d.stored d.computed d.reason
    have hu : s.logDamage e d = u := State.logDamage_eq hm e d
    have hon : OnLine l s u := s.log_onLine l ..
    obtain ⟨hrest, hline, hflag⟩ := ih u (by rw [hon.mend, hm])
    change OnLine l s (forEach ds _ (s.logDamage e d)) ∧ (forEach ds _ (s.logDamage e d)).line l = s.line l ∧
      (_ → _ → (forEach ds _ (s.logDamage e d)).flagsFinding)
    rw [hu]
    refine ⟨hon.trans hrest, hline.trans (State.log_line ..), fun _ hr => ?_⟩
    by_cases hd : ds = []
    · subst hd
      exact State.log_flagsFinding hr ..
    · exact hflag hd (by rw [hon.running, hr])

/-! ### A line takes its bytes, or its read fails (R52, R53, R55) -/

/-- What the bytes read for line `l` hold (R41, R52). -/
def State.readOf (s : State) (l : Fin 64) (data : List Byte) : List Entry × List Damage :=
  let x := s.line l
  let ext := s.extent x.extent
  readEntries ext.hasReplica (ext.slotsOf x.tag) (ext.firstFrame x.tag) data

/-- A line as it takes its bytes, before a damaged entry dirties it. -/
def State.lineRead (s : State) (l : Fin 64) (data : List Byte) : Line :=
  { s.line l with
    entries := (s.readOf l data).1 ++ List.replicate (256 - (s.extent (s.line l).extent).slotsOf (s.line l).tag) Entry.zero,
    state := .clean, refilling := false }

theorem State.takeEntries_sound {s : State} (l : Fin 64) {data : List Byte}
    (hd : (s.readOf l data).2 = []) : (s.takeEntries l data).1 = s.setLine l (s.lineRead l data) := by
  have hr : (readEntries (s.extent (s.line l).extent).hasReplica ((s.extent (s.line l).extent).slotsOf (s.line l).tag)
      ((s.extent (s.line l).extent).firstFrame (s.line l).tag) data).2 = [] := hd
  unfold State.takeEntries
  simp only [hr]
  rfl

theorem State.takeEntries_damaged {s : State} (l : Fin 64) {data : List Byte} (hd : (s.readOf l data).2 ≠ []) :
    (s.takeEntries l data).1 = forEach (s.readOf l data).2 (fun d t => t.logDamage (s.line l).extent d)
      ((s.setLine l (s.lineRead l data)).becomeDirty l) := by
  have hr : (readEntries (s.extent (s.line l).extent).hasReplica ((s.extent (s.line l).extent).slotsOf (s.line l).tag)
      ((s.extent (s.line l).extent).firstFrame (s.line l).tag) data).2.isEmpty = false :=
    List.isEmpty_eq_false_iff.mpr hd
  unfold State.takeEntries
  simp only [hr]
  rfl

theorem State.drain_of_nil {s : State} {l : Fin 64} (h : (s.line l).waiting = []) (fuel : Nat) : State.drain fuel l s = s := by
  cases fuel with
  | zero => rfl
  | succ n =>
    unfold State.drain
    split
    · rfl
    · simp [h]

theorem State.fillGood_idle {s : State} (hidle : s.enginesIdle) (hf : s.dir.mendFrame = none) {l : Fin 64}
    (hst : (s.line l).state ≠ .invalid) {data : List Byte} (hon : OnLine l s (s.takeEntries l data).1)
    (hw : ((s.takeEntries l data).1.line l).waiting = []) : s.fillGood l data = (s.takeEntries l data).1 := by
  obtain ⟨hwalk, hmend⟩ := hidle
  unfold State.fillGood
  simp only [if_neg hst, State.drain_of_nil hw, hon.lineFilled hmend hf, hon.walkLineRead hwalk]

/-- A fill that is lost leaves its line INVALID, and nobody waited for it (R53). -/
theorem State.fillLost_idle {s : State} (hidle : s.enginesIdle) (hf : s.dir.mendFrame = none) (hh : s.headWaitsOn l = false)
    (hw : (s.line l).waiting = []) : s.fillLost l = s.invalidate l := by
  obtain ⟨hwalk, hmend⟩ := hidle
  have hon := s.invalidate_onLine l
  unfold State.fillLost
  simp [hh, hw, State.failWaiting, forEach, hon.mendWaitsOn hmend, hon.frameWaitsOn hf, hon.walkWaitsOn hwalk]

/-- A refill that is lost leaves its line the entries held, and nobody waited for it (R55). -/
theorem State.refillLost_idle {s : State} (hidle : s.enginesIdle) (hf : s.dir.mendFrame = none)
    (hw : (s.line l).waiting = []) : s.refillLost l = s.setLine l { s.line l with refilling := false } := by
  obtain ⟨hwalk, hmend⟩ := hidle
  have hon := s.setLine_onLine l { s.line l with refilling := false }
  have hw' : ((s.setLine l { s.line l with refilling := false }).line l).waiting = [] := by rw [State.line_setLine_self, hw]
  unfold State.refillLost
  simp only [State.drain_of_nil hw', hon.lineFilled hmend hf, hon.walkLineRead hwalk]

/-! ### DIGEST_FILL_RETURN and DIGEST_REFILL_RETURN -/

/-- What a digest line's request that has returned leaves but for its line: its slot is free. -/
structure LineReturned (i : Fin 256) (l : Fin 64) (s t : State) : Prop where
  ports : t.ports = s.ports
  up : t.up = s.up
  slot : t.slot i = Slot.freeSlot
  others : OtherSlots s t i
  map : t.map = s.map
  pool : t.pool = s.pool
  walk : t.walk = s.walk
  mend : t.mend = s.mend
  dir : t.dir = s.dir
  cfg : t.cfg = s.cfg
  ldr : t.ldr = s.ldr
  lines : OtherLines s t l

theorem OnLine.returned {i : Fin 256} {l : Fin 64} {s t : State} (h : OnLine l (s.setSlot i Slot.freeSlot) t) :
    LineReturned i l s t.syncStatusTimer where
  ports := by simp [h.ports]
  up := by simp [h.up]
  slot := by rw [State.slot_congr (by simp : t.syncStatusTimer.slots = t.slots), State.slot_congr h.slots]; simp
  others j hj := by
    rw [State.slot_congr (by simp : t.syncStatusTimer.slots = t.slots), State.slot_congr h.slots]
    exact s.otherSlots_setSlot i _ j hj
  map := by simp [h.map]
  pool := by simp [h.pool]
  walk := by simp [h.walk]
  mend := by simp [h.mend]
  dir := by simp [h.dir]
  cfg := by simp [h.cfg]
  ldr := by simp [h.ldr]
  lines k hk := by
    rw [State.line_congr (by simp : t.syncStatusTimer.store = t.store)]
    exact h.lines k hk

theorem State.syncStatusTimer_line (s : State) (l : Fin 64) : s.syncStatusTimer.line l = s.line l :=
  State.line_congr (by simp) l

theorem normalise_read_good {status : MediaStatus} {data : List Byte} (hs : status = .good) (hd : data.length = 4096) :
    normalise .read 1 status data = .good data := by
  subst hs
  simp [normalise, hd, Config.blockBytes]

theorem normalise_read_bad {status : MediaStatus} {data : List Byte} (h : status ≠ .good ∨ data.length ≠ 4096) :
    normalise .read 1 status data = .mediaError := by
  cases status with
  | good =>
    have hd : data.length ≠ 4096 := h.resolve_left (fun c => c rfl)
    simp [normalise, hd, Config.blockBytes]
  | mediaError => rfl
  | other n => rfl

/-- The step of either read that returns, by the line's end (R94). -/
theorem exec_digestRead {s : State} {i : Fin 256} {l : Fin 64} {status : MediaStatus} {data : List Byte} {c : Instr}
    (hm : s.mediaUp = true) (hlife : (s.slot i).life = .outstanding) (hcount : (s.slot i).count = 1)
    (hd : (s.slot i).dead = false)
    (hc : ((s.slot i).kind = .injected (.fill l) ∧ c = Instr.digestFillReturn i status data none) ∨
      ((s.slot i).kind = .injected (.refill l) ∧ c = Instr.digestRefillReturn i status data none)) :
    let u := s.setSlot i Slot.freeSlot
    let e := normalise .read 1 status data
    ((s.slot i).kind = .injected (.fill l) ∧ exec c s = .next (u.fillEnded l e).syncStatusTimer) ∨
      ((s.slot i).kind = .injected (.refill l) ∧ exec c s = .next (u.refillEnded l e).syncStatusTimer) := by
  rcases hc with ⟨hk, rfl⟩ | ⟨hk, rfl⟩
  · have hreturn := State.injReturn_of_outstanding (test := Owner.isFill) hm hlife hk rfl status data none
    rw [hcount] at hreturn
    refine .inl ⟨hk, congrArg State.done (hreturn.trans ?_)⟩
    simp [State.ownerEnded, hd, Owner.kind]
  · have hreturn := State.injReturn_of_outstanding (test := Owner.isRefill) hm hlife hk rfl status data none
    rw [hcount] at hreturn
    refine .inr ⟨hk, congrArg State.done (hreturn.trans ?_)⟩
    simp [State.ownerEnded, hd, Owner.kind]

/-- A line as a read that found damage leaves it (R52). -/
def State.lineDamaged (s : State) (l : Fin 64) (data : List Byte) : Line :=
  { s.lineRead l data with state := .dirty, dirtyTimer := some (Timer.start Config.dirtyMs) }

/-- A read that ends GOOD gives its line the entries read, and acts on nothing else but by the findings of damage (R52). -/
theorem State.fillGood_reads {s : State} (hidle : s.enginesIdle) (hf : s.dir.mendFrame = none) {l : Fin 64}
    (hst : (s.line l).state ≠ .invalid) (hw : (s.line l).waiting = []) (data : List Byte) :
    OnLine l s (s.fillGood l data) ∧
      ((s.readOf l data).2 = [] → s.fillGood l data = s.setLine l (s.lineRead l data)) ∧
      ((s.readOf l data).2 ≠ [] → (s.fillGood l data).line l = s.lineDamaged l data ∧
        (s.running = true → (s.fillGood l data).flagsFinding)) := by
  by_cases hd : (s.readOf l data).2 = []
  · have htake := State.takeEntries_sound l hd
    have hon := s.setLine_onLine l (s.lineRead l data)
    have hgood := State.fillGood_idle hidle hf hst (htake ▸ hon) (by rw [htake, State.line_setLine_self]; exact hw)
    rw [hgood, htake]
    exact ⟨hon, fun _ => rfl, fun h => absurd hd h⟩
  · have htake := State.takeEntries_damaged l hd
    let u := (s.setLine l (s.lineRead l data)).becomeDirty l
    have hon : OnLine l s u := (s.setLine_onLine l _).trans (State.becomeDirty_onLine _ l)
    have huline : u.line l = s.lineDamaged l data := by
      simp only [u, State.becomeDirty_line, State.line_setLine_self]
      rfl
    obtain ⟨hlogs, hline, hflag⟩ := State.logDamages_onLine (s.readOf l data).2 (s.line l).extent l u
      (by rw [hon.mend]; exact hidle.2)
    rw [← htake] at hlogs hline hflag
    have hgood := State.fillGood_idle hidle hf hst (hon.trans hlogs) (by rw [hline, huline]; exact hw)
    rw [hgood]
    exact ⟨hon.trans hlogs, fun h => absurd h hd, fun _ => ⟨hline.trans huline, fun hr => hflag hd (by rw [hon.running, hr])⟩⟩

/-- The entries of a line that was read: each that belongs to a frame as its bytes say, the rest zeros. -/
theorem State.lineRead_entry (s : State) (l : Fin 64) (data : List Byte) {j : Nat} (hj : j < 256) :
    let ext := s.extent (s.line l).extent
    let n := ext.slotsOf (s.line l).tag
    (n ≤ j → (s.lineRead l data).entry j = Entry.zero) ∧
      (j < n → (s.lineRead l data).entry j =
        match decodeEntry ext.hasReplica ((data.drop (16 * j)).take 16) with
        | .ok e => e
        | .error _ => Entry.digestLost ext.hasReplica) := by
  intro ext n
  have hmod : j % 256 = j := Nat.mod_eq_of_lt hj
  have hlen : (s.readOf l data).1.length = n := readEntries_length ..
  unfold Line.entry
  rw [hmod]
  refine ⟨fun hle => ?_, fun hlt => readEntries_getD _ _ _ _ _ _ hlt⟩
  change ((s.readOf l data).1 ++ List.replicate (256 - n) Entry.zero).getD j Entry.zero = Entry.zero
  rw [List.getD_append_right _ _ _ _ (hlen ▸ hle)]
  simp only [List.getD_eq_getElem?_getD, List.getElem?_replicate]
  split <;> rfl

theorem State.lineRead_length (s : State) (l : Fin 64) (data : List Byte) : (s.lineRead l data).entries.length = 256 := by
  have hlen : (s.readOf l data).1.length = (s.extent (s.line l).extent).slotsOf (s.line l).tag := readEntries_length ..
  have hle : (s.extent (s.line l).extent).slotsOf (s.line l).tag ≤ 256 := Nat.min_le_left _ _
  simp only [State.lineRead, List.length_append, List.length_replicate, hlen]
  omega

theorem State.flagsFinding.sync {s : State} (h : s.flagsFinding) : s.syncStatusTimer.flagsFinding := by
  unfold State.flagsFinding at h ⊢
  rwa [State.flag_congr (State.syncStatusTimer_rep_flags s), State.flag_congr (State.syncStatusTimer_rep_flags s)]

/-- Settles O36: either read ends in the same way where it returns GOOD, and as R53 and R55 say where it fails. -/
theorem digestReadEnds : Obligations.DigestReadEnds := by
  intro s i l status data hidle hf hm hlife hcount hd hw ext n read c hc
  let u := s.setSlot i Slot.freeSlot
  have hstep := exec_digestRead (data := data) hm hlife hcount hd hc
  refine ⟨fun hs hlen hst => ?_, fun hhead hbad => ?_⟩
  · rw [normalise_read_good hs hlen] at hstep
    have hnext : exec c s = .next (u.fillGood l data).syncStatusTimer := by
      rcases hstep with ⟨-, h⟩ | ⟨-, h⟩ <;> exact h
    obtain ⟨hon, hsound, hdamaged⟩ := State.fillGood_reads (s := u) hidle hf hst hw data
    have hret := hon.returned
    have hnil := readEntries_damage_nil ext.hasReplica n (ext.firstFrame (s.line l).tag) data
    have hline : ∃ x : Line, (u.fillGood l data).syncStatusTimer.line l = x ∧ x.entries = (u.lineRead l data).entries ∧
        x.tag = (s.line l).tag ∧ x.pins = (s.line l).pins ∧ x.refilling = false := by
      refine ⟨_, rfl, ?_⟩
      rw [State.syncStatusTimer_line]
      by_cases hnone : (u.readOf l data).2 = []
      · rw [hsound hnone, State.line_setLine_self]
        exact ⟨rfl, rfl, rfl, rfl⟩
      · rw [(hdamaged hnone).1]
        exact ⟨rfl, rfl, rfl, rfl⟩
    obtain ⟨x, hx, hentries, htag, hpins, hrefill⟩ := hline
    have hentry : ∀ j, x.entry j = (u.lineRead l data).entry j := fun j => by rw [Line.entry, hentries]; rfl
    refine ⟨_, hnext, hret.ports, hret.up, hret.slot, hret.others, hret.map, hret.pool, hret.walk, hret.mend, hret.dir, hret.cfg,
      hret.ldr, hret.lines, ?_⟩
    refine ⟨hx ▸ htag, hx ▸ hpins, hx ▸ hrefill, hx ▸ hentries ▸ u.lineRead_length l data, fun j hle hj => ?_, fun j hj => ?_,
      fun hok => ?_, fun j hj hbad => ?_⟩
    · rw [hx, hentry]
      exact (u.lineRead_entry l data hj).1 hle
    · rw [hx, hentry]
      exact (u.lineRead_entry l data (Nat.lt_of_lt_of_le hj (Nat.min_le_left _ _))).2 hj
    · have hgood := hsound (hnil.mpr hok)
      rw [hgood, State.syncStatusTimer_line, State.line_setLine_self]
      exact ⟨rfl, by simp [u], (SameLog.of_rep rfl).sync.unlogged⟩
    · have hsome : (u.readOf l data).2 ≠ [] := fun hnone => by
        have := hnil.mp hnone j hj
        rw [show _ = false from hbad] at this
        cases this
      obtain ⟨hdirty, hflag⟩ := hdamaged hsome
      rw [State.syncStatusTimer_line, hdirty]
      exact ⟨rfl, rfl, fun hp => (hflag (u.running_iff.mpr hp)).sync⟩
  · rw [normalise_read_bad hbad] at hstep
    let v := u.logLineFailure .mediaError l
    have hv : OnLine l u v := u.log_onLine l ..
    have hvline : v.line l = s.line l := State.log_line ..
    have hidle' : v.enginesIdle := by
      unfold State.enginesIdle
      rw [hv.walk, hv.mend]
      exact hidle
    have hf' : v.dir.mendFrame = none := by rw [hv.dir]; exact hf
    have hlogged : s.ldr.part = .running → ∀ t : State, t.rep = v.rep → Logged s t.syncStatusTimer
        (s.findingNow .mediaError (some (s.line l).extent.val) (some (ext.firstFrame (s.line l).tag)) none
          ((s.line l).tag % 2 ^ 32) ((s.line l).tag / 2 ^ 32) 0) := fun hp t ht =>
      ((State.logged_log (s := u) (u.running_iff.mpr hp) ..).sameLog (SameLog.of_rep ht)).sync.of_rep rfl
    rcases hstep with ⟨hk, h⟩ | ⟨hk, h⟩
    · have hlost := State.fillLost_idle hidle' hf' (by simp [State.headWaitsOn, hv.up, u, hhead]) (hvline ▸ hw)
      have hnext : exec c s = .next (v.invalidate l).syncStatusTimer := h.trans (by rw [← hlost]; rfl)
      have hret := (hv.trans (v.invalidate_onLine l)).returned
      refine ⟨_, hnext, hret.ports, hret.up, hret.slot, hret.others, hret.map, hret.pool, hret.walk, hret.mend, hret.dir, hret.cfg,
        hret.ldr, hret.lines, fun _ => ?_, fun hk' => ?_, fun hp => hlogged hp _ (by simp)⟩
      · rw [State.syncStatusTimer_line, State.invalidate_line, hvline]
        exact ⟨rfl, rfl⟩
      · rw [hk] at hk'
        simp at hk'
    · have hlost := State.refillLost_idle hidle' hf' (hvline ▸ hw)
      have hnext : exec c s = .next (v.setLine l { v.line l with refilling := false }).syncStatusTimer :=
        h.trans (by rw [← hlost]; rfl)
      have hret := (hv.trans (v.setLine_onLine l { v.line l with refilling := false })).returned
      refine ⟨_, hnext, hret.ports, hret.up, hret.slot, hret.others, hret.map, hret.pool, hret.walk, hret.mend, hret.dir, hret.cfg,
        hret.ldr, hret.lines, fun hk' => ?_, fun _ => ?_, fun hp => hlogged hp _ (by simp)⟩
      · rw [hk] at hk'
        simp at hk'
      · rw [State.syncStatusTimer_line, State.line_setLine_self, hvline]

end Sys2Proof.Machine

/-!
PROOFS. The end of a digest writeback (R57, R58).
-/

namespace Sys2Proof.Machine

theorem State.nextVictim_of_quiet {s : State} (h : s.store.queue = []) (l : Fin 64) : s.nextVictim l = s := by
  simp [State.nextVictim, h]

/-- A writeback that was triggered again is queued again at once (R57, R58). -/
def State.triggered (s : State) (l : Fin 64) (again : Bool) : State := if again then s.queueWriteback l else s

theorem State.triggered_onLine (s : State) (l : Fin 64) (again : Bool) : OnLine l s (s.triggered l again) := by
  cases again with
  | false => exact OnLine.refl l s
  | true => exact s.queueWriteback_onLine l l

theorem State.triggered_line (s : State) (l : Fin 64) (again : Bool) : (s.triggered l again).line l = s.line l := by
  cases again with
  | false => rfl
  | true => exact s.queueWriteback_line l l

theorem State.triggered_rep (s : State) (l : Fin 64) (again : Bool) : (s.triggered l again).rep = s.rep := by
  cases again with
  | false => rfl
  | true => simp [State.triggered]

theorem State.triggered_queued (s : State) (l : Fin 64) {again : Bool} (h : again = true) :
    (s.triggered l again).queued (.writeback l) = true := by
  subst h
  exact s.queueWriteback_queued l

theorem State.queued_sync (s : State) (o : Owner) : s.syncStatusTimer.queued o = s.queued o := by
  simp [State.queued]

/-- A WRITING line whose write has ended GOOD. -/
def Line.written (x : Line) : Line := { x.writeEnded with state := .clean, dirtyTimer := none }

/-- A line whose write has ended and which is DIRTY again. -/
def Line.redirtied (x : Line) : Line := { x with state := .dirty, dirtyTimer := some (Timer.start Config.dirtyMs) }

theorem State.writebackGood_writing {s : State} (hq : s.store.queue = []) {l : Fin 64} (h : (s.line l).state = .writing) :
    s.writebackGood l = s.setLine l (s.line l).written := by
  have hquiet := State.nextVictim_of_quiet (s := s.setLine l (s.line l).written) hq l
  unfold State.writebackGood
  simp only [h]
  split
  · exact hquiet
  · rfl

theorem State.writebackGood_redirtied {s : State} {l : Fin 64} (h : (s.line l).state = .writingRedirtied) :
    s.writebackGood l = ((s.setLine l (s.line l).written).becomeDirty l).triggered l (s.line l).retrigger := by
  unfold State.writebackGood
  simp only [h]
  rfl

theorem State.writebackGood_other {s : State} {l : Fin 64} (h : (s.line l).state.writes = false) : s.writebackGood l = s := by
  unfold State.writebackGood
  cases hs : (s.line l).state <;> simp_all [LineState.writes]

theorem State.writebackFailed_writes {s : State} (hq : s.store.queue = []) {l : Fin 64} (h : (s.line l).state.writes = true)
    (kind : FindingKind) :
    s.writebackFailed l kind =
      (((s.setLine l (s.line l).writeEnded).becomeDirty l).logLineFailure kind l).triggered l (s.line l).retrigger := by
  have hon : OnLine l s ((((s.setLine l (s.line l).writeEnded).becomeDirty l).logLineFailure kind l).triggered l
      (s.line l).retrigger) :=
    (((s.setLine_onLine l _).trans (State.becomeDirty_onLine _ l)).trans (State.log_onLine _ l ..)).trans
      (State.triggered_onLine _ l _)
  have hquiet := State.nextVictim_of_quiet (hon.queue.trans hq) l
  unfold State.writebackFailed
  rw [if_pos h]
  simp only
  split
  · exact hquiet
  · rfl

theorem State.writebackFailed_other {s : State} {l : Fin 64} (h : (s.line l).state.writes = false) (kind : FindingKind) :
    s.writebackFailed l kind = s := by simp [State.writebackFailed, h]

/-- A line's write ends, with no flush in progress and no walk: the line alone acts (R56, R131). -/
theorem State.writebackEnded_idle {s : State} (hw : s.walk.cur = none) (hf : s.dir.flush = none) (l : Fin 64) {e : MediaEnd}
    {t : State} (ht : (if e.isGood then s.writebackGood l else s.writebackFailed l e.findingKind) = t) (hon : OnLine l s t) :
    s.writebackEnded l e = t := by
  unfold State.writebackEnded
  rw [ht]
  have hflush : t.flushLine l e.isGood = t := by simp [State.flushLine, hon.dir, hf]
  simp only [hflush, hon.walkWaitsOn hw]

theorem normalise_write_bad {status : MediaStatus} (h : status ≠ .good) (count : Nat) (data : List Byte) :
    normalise .write count status data = .mediaError := by
  cases status with
  | good => exact absurd rfl h
  | mediaError => rfl
  | other n => rfl

theorem exec_digestWriteback {s : State} {i : Fin 256} {l : Fin 64} (status : MediaStatus) (hm : s.mediaUp = true)
    (hlife : (s.slot i).life = .outstanding) (hk : (s.slot i).kind = .injected (.writeback l)) (hd : (s.slot i).dead = false) :
    exec (.digestWritebackReturn i status none) s =
      .next ((s.setSlot i Slot.freeSlot).writebackEnded l (normalise .write (s.slot i).count status [])).syncStatusTimer := by
  have hreturn := State.injReturn_of_outstanding (test := Owner.isWriteback) hm hlife hk rfl status [] none
  refine congrArg State.done (hreturn.trans ?_)
  simp [State.ownerEnded, hd, Owner.kind]

/-- Settles O37: by the status returned and by whether the line was being written. -/
theorem writebackReturns : Obligations.WritebackReturns := by
  intro s i l status hwalk hflush hq hm hlife hk hd
  have hstep := exec_digestWriteback status hm hlife hk hd
  let u := s.setSlot i Slot.freeSlot
  have hline : u.line l = s.line l := rfl
  have hfinish : ∀ t, (if (normalise .write (s.slot i).count status []).isGood then u.writebackGood l
      else u.writebackFailed l (normalise .write (s.slot i).count status []).findingKind) = t → OnLine l u t →
      exec (.digestWritebackReturn i status none) s = .next t.syncStatusTimer ∧ LineReturned i l s t.syncStatusTimer :=
    fun t ht hon => ⟨hstep.trans (by rw [State.writebackEnded_idle (s := u) hwalk hflush l ht hon]), hon.returned⟩
  have hnowhere : ∀ {x : LineState}, x.writes = false → x ≠ .writing ∧ x ≠ .writingRedirtied := fun {x} hx =>
    ⟨fun c => by simp [c, LineState.writes] at hx, fun c => by simp [c, LineState.writes] at hx⟩
  by_cases hg : status = .good
  · subst hg
    cases hwr : (s.line l).state.writes with
    | false =>
      obtain ⟨h, hret⟩ := hfinish u (State.writebackGood_other (hline ▸ hwr)) (OnLine.refl l u)
      obtain ⟨hno, hno'⟩ := hnowhere hwr
      refine ⟨_, h, hret.ports, hret.up, hret.slot, hret.others, hret.map, hret.pool, hret.walk, hret.mend, hret.dir, hret.cfg,
        hret.ldr, hret.lines, ?_⟩
      rw [State.syncStatusTimer_line]
      exact ⟨rfl, rfl, rfl, fun _ c => absurd c hno, fun _ c => absurd c hno', fun c => absurd rfl c⟩
    | true =>
      by_cases hst : (s.line l).state = .writing
      · obtain ⟨h, hret⟩ := hfinish _ (State.writebackGood_writing (s := u) hq hst) (u.setLine_onLine l _)
        refine ⟨_, h, hret.ports, hret.up, hret.slot, hret.others, hret.map, hret.pool, hret.walk, hret.mend, hret.dir, hret.cfg,
          hret.ldr, hret.lines, ?_⟩
        rw [State.syncStatusTimer_line, State.line_setLine_self]
        exact ⟨rfl, rfl, rfl, fun _ _ => ⟨rfl, rfl, by simp [u], by simp [u]⟩,
          fun _ c => by simp [hst] at c, fun c => absurd rfl c⟩
      · have hst' : (s.line l).state = .writingRedirtied := by
          cases hs : (s.line l).state <;> simp_all [LineState.writes]
        let v := (u.setLine l (s.line l).written).becomeDirty l
        have hv : OnLine l u v := (u.setLine_onLine l _).trans (State.becomeDirty_onLine _ l)
        obtain ⟨h, hret⟩ := hfinish (v.triggered l (s.line l).retrigger) (State.writebackGood_redirtied (s := u) hst')
          (hv.trans (v.triggered_onLine l _))
        refine ⟨_, h, hret.ports, hret.up, hret.slot, hret.others, hret.map, hret.pool, hret.walk, hret.mend, hret.dir, hret.cfg,
          hret.ldr, hret.lines, ?_⟩
        have hxline : (v.triggered l (s.line l).retrigger).syncStatusTimer.line l = (s.line l).written.redirtied := by
          simp only [State.syncStatusTimer_line, State.triggered_line, v, State.becomeDirty_line, State.line_setLine_self]
          rfl
        rw [hxline]
        refine ⟨rfl, rfl, rfl, fun _ c => absurd c hst, fun _ _ => ⟨rfl, rfl, ?_, fun hr => ?_, fun hr => ?_⟩,
          fun c => absurd rfl c⟩
        · rw [State.syncStatusTimer_rep_flags]
          exact congrArg Report.flags ((v.triggered_rep l _).trans (by simp [v, u]))
        · exact (State.queued_sync ..).trans (v.triggered_queued l hr)
        · simp [State.triggered, hr, v, u]
  · have hbad := normalise_write_bad hg (s.slot i).count []
    cases hwr : (s.line l).state.writes with
    | false =>
      obtain ⟨h, hret⟩ := hfinish u (by rw [hbad]; exact State.writebackFailed_other (hline ▸ hwr) _) (OnLine.refl l u)
      refine ⟨_, h, hret.ports, hret.up, hret.slot, hret.others, hret.map, hret.pool, hret.walk, hret.mend, hret.dir, hret.cfg,
        hret.ldr, hret.lines, ?_⟩
      rw [State.syncStatusTimer_line]
      exact ⟨rfl, rfl, rfl, fun c => absurd c hg, fun c => absurd c hg, fun _ c => by simp at c⟩
    | true =>
      let v := (u.setLine l (s.line l).writeEnded).becomeDirty l
      let w := v.logLineFailure .mediaError l
      have hv : OnLine l u v := (u.setLine_onLine l _).trans (State.becomeDirty_onLine _ l)
      have hvline : v.line l = (s.line l).writeEnded.redirtied := by
        simp only [v, State.becomeDirty_line, State.line_setLine_self]
        rfl
      have hw : OnLine l v w := v.log_onLine l ..
      obtain ⟨h, hret⟩ := hfinish (w.triggered l (s.line l).retrigger)
        (by rw [hbad]; exact State.writebackFailed_writes (s := u) hq hwr .mediaError)
        ((hv.trans hw).trans (w.triggered_onLine l _))
      refine ⟨_, h, hret.ports, hret.up, hret.slot, hret.others, hret.map, hret.pool, hret.walk, hret.mend, hret.dir, hret.cfg,
        hret.ldr, hret.lines, ?_⟩
      have hxline : (w.triggered l (s.line l).retrigger).syncStatusTimer.line l = (s.line l).writeEnded.redirtied := by
        rw [State.syncStatusTimer_line, State.triggered_line, ← hvline]
        exact State.log_line ..
      rw [hxline]
      refine ⟨rfl, rfl, rfl, fun c => absurd c hg, fun c => absurd c hg, fun _ _ => ⟨rfl, rfl, fun hr => ?_, fun hp => ?_⟩⟩
      · exact (State.queued_sync ..).trans (w.triggered_queued l hr)
      · have hlog := State.logged_log (s := v) (by rw [hv.running]; exact u.running_iff.mpr hp) .mediaError
          (some (v.line l).extent.val) (some ((v.extent (v.line l).extent).firstFrame (v.line l).tag)) none
          (lowBits (v.line l).tag) (highBits (v.line l).tag) 0
        have hnamed := ((hlog.sameLog (SameLog.of_rep (w.triggered_rep l (s.line l).retrigger))).sync).of_rep
          (s := s) (by simp [v, u])
        rw [hvline] at hnamed
        exact hnamed

end Sys2Proof.Machine

/-!
PROOFS. One change of one entry as the store takes it (R42, R45), and the start of a mend (R144).
-/

namespace Sys2Proof.Machine

/-! ### A line takes an entry -/

/-- The line's entry of a frame is `e` now, in a state that holds its entries; its tag, extent, pins and waiting changes stay. -/
def Line.given (x : Line) (frame : Nat) (e : Entry) (st : LineState) (timer : Option Timer) : Line :=
  { x with entries := x.entries.set (frame % 256) e, state := st, dirtyTimer := timer }

theorem Line.given_entry {x : Line} (h : x.entries.length = 256) (frame : Nat) (e : Entry) (st : LineState)
    (timer : Option Timer) : (x.given frame e st timer).entry frame = e := by
  have hlt : frame % 256 < x.entries.length := by omega
  simp [Line.given, Line.entry, hlt]

/-- Line `l` has taken entry `e` of the frame, and nothing else happened but to the recency and dirty orders. -/
structure EntryGiven (l : Fin 64) (frame : Nat) (e : Entry) (s t : State) : Prop where
  on : OnLine l s t
  arb : t.arb = s.arb
  rep : t.rep = s.rep
  line : ∃ st timer, t.line l = (s.line l).given frame e st timer ∧ st.holds = true

theorem EntryGiven.entryIn {l : Fin 64} {frame : Nat} {e : Entry} {s t : State} (h : EntryGiven l frame e s t)
    (hlen : (s.line l).entries.length = 256) : t.entryIn l frame = e := by
  obtain ⟨st, timer, hline, -⟩ := h.line
  unfold State.entryIn
  rw [hline]
  exact Line.given_entry hlen ..

theorem State.dirtyLine_given {s : State} {l : Fin 64} (hst : (s.line l).state.holds = true) (frame : Nat) (e : Entry) :
    EntryGiven l frame e s
      ((s.setLine l { s.line l with entries := (s.line l).entries.set (frame % 256) e }).dirtyLine l) := by
  let u := s.setLine l { s.line l with entries := (s.line l).entries.set (frame % 256) e }
  have hu : OnLine l s u := s.setLine_onLine l _
  have huline : u.line l = { s.line l with entries := (s.line l).entries.set (frame % 256) e } := State.line_setLine_self ..
  change EntryGiven l frame e s (u.dirtyLine l)
  unfold State.dirtyLine
  rw [huline]
  cases hs : (s.line l).state with
  | invalid => simp [hs, LineState.holds] at hst
  | filling => simp [hs, LineState.holds] at hst
  | clean =>
    refine ⟨hu.trans (u.becomeDirty_onLine l), by simp [u], by simp [u], .dirty, some (Timer.start Config.dirtyMs), ?_, rfl⟩
    rw [State.becomeDirty_line, huline]
    rfl
  | writing =>
    refine ⟨hu.trans (u.setLine_onLine l _), rfl, rfl, .writingRedirtied, (s.line l).dirtyTimer, ?_, rfl⟩
    rw [State.line_setLine_self]
    rfl
  | dirty => exact ⟨hu, rfl, rfl, .dirty, (s.line l).dirtyTimer, by rw [huline, Line.given, ← hs], rfl⟩
  | writingRedirtied =>
    exact ⟨hu, rfl, rfl, .writingRedirtied, (s.line l).dirtyTimer, by rw [huline, Line.given, ← hs], rfl⟩

theorem Line.given_same {x : Line} (h : x.entries.length = 256) (frame : Nat) :
    x.given frame (x.entry frame) x.state x.dirtyTimer = x := by
  have hlt : frame % 256 < x.entries.length := by omega
  have hset : x.entries.set (frame % 256) (x.entry frame) = x.entries := by
    unfold Line.entry
    rw [List.getD_eq_getElem _ _ hlt]
    exact List.set_getElem_self hlt
  unfold Line.given
  rw [hset]

/-- The store's own part of a change on a line that holds its entries: entry and answer are `Entry.apply`'s, and the store's
finding follows (R42). -/
theorem State.applyCore_takes {s : State} {l : Fin 64} (hst : (s.line l).state.holds = true)
    (hlen : (s.line l).entries.length = 256) (hext : (s.extent (s.line l).extent).state ≠ .preparing) {frame : Nat}
    (hframe : frame < (s.extent (s.line l).extent).frames) (ch : Change) {e : Entry} {ans : Answer}
    (happ : (s.entryIn l frame).apply (s.extent (s.line l).extent).hasReplica ch = (e, ans)) :
    ∃ t, EntryGiven l frame e s t ∧
      s.applyCore l frame ch = (t.logChange (s.line l).extent frame ch ans, ans, s.entryIn l frame, e) := by
  have happ' : ((s.line l).entry frame).apply (s.extent (s.line l).extent).hasReplica ch = (e, ans) := happ
  have hcore : ∀ u, EntryGiven l frame e s u →
      EntryGiven l frame e s (if ans.isApplied then { u with store := u.store.touch l } else u) := by
    intro u hu
    split
    · obtain ⟨st, timer, hline, hs⟩ := hu.line
      exact ⟨⟨hu.on.pending, hu.on.ports, hu.on.up, hu.on.mediaUp, hu.on.slots, hu.on.map, hu.on.pool, hu.on.walk, hu.on.mend, hu.on.dir,
        hu.on.cfg, hu.on.ldr, hu.on.queue, hu.on.lines⟩, hu.arb, hu.rep, st, timer, hline, hs⟩
    · exact hu
  have hset : EntryGiven l frame e s (if e = (s.line l).entry frame then s
      else (s.setLine l { s.line l with entries := (s.line l).entries.set (frame % 256) e }).dirtyLine l) := by
    split
    next heq =>
      exact ⟨OnLine.refl l s, rfl, rfl, _, _, by rw [heq, Line.given_same hlen], hst⟩
    next => exact State.dirtyLine_given hst frame e
  refine ⟨_, hcore _ hset, ?_⟩
  unfold State.applyCore
  simp only [hst, happ', Bool.not_true, Bool.false_eq_true, if_false, hext, false_or, Nat.not_le.mpr hframe]
  rfl

/-! ### Reports (R45) -/

theorem State.reportCopy_of_quiet {s : State} {k : FrameKey} {before after : Entry}
    (hwanted : after.copyState k.copy = .suspect → after.copyState k.copy.other ≠ .sealed)
    (hfound : before.copyState k.copy = .suspect → after.copyState k.copy ≠ .sealed) :
    s.reportCopy k before after = s := by
  unfold State.reportCopy
  rw [if_neg fun h => hwanted h.1 h.2, if_neg fun h => hfound h.1 h.2]

/-- No mend is wanted or given up for an entry neither copy of which becomes or stops being SUSPECT (R45). -/
theorem State.reportEntry_of_quiet {s : State} {e : Fin 1024} {frame : Nat} {before after : Entry}
    (hwanted : ∀ c, after.copyState c = .suspect → after.copyState c.other ≠ .sealed)
    (hfound : ∀ c, before.copyState c = .suspect → after.copyState c ≠ .sealed) :
    s.reportEntry e frame before after = s := by
  unfold State.reportEntry
  rw [State.reportCopy_of_quiet (hwanted _) (hfound _), State.reportCopy_of_quiet (hwanted _) (hfound _)]

theorem CopyId.eq_or_other (c d : CopyId) : c = d ∨ c = d.other := by cases c <;> cases d <;> simp [CopyId.other]

theorem CopyId.other_other (c : CopyId) : c.other.other = c := by cases c <;> rfl

/-! ### Submissions (R42) -/

theorem State.lineOf_of_found {s : State} {e : Fin 1024} {frame : Nat} {l : Fin 64}
    (hfind : s.findLine ((s.extent e).digestBlock frame) = some l) (hl : (s.line l).extent = e) :
    s.lineOf e frame = some l := by
  simp [State.lineOf, hfind, hl]

theorem State.submit_of_ready {s : State} {e : Fin 1024} {frame : Nat} {l : Fin 64} (hline : s.lineOf e frame = some l)
    (hwaits : (s.line l).waits = false) (who : Submitter) (ch : Change) :
    s.submit e frame who ch = ((s.applyNow l frame who ch).1, some (s.applyNow l frame who ch).2) := by
  simp [State.submit, hline, hwaits]

theorem State.findLine_congr {s t : State} (h : ∀ k, (t.line k).tag = (s.line k).tag)
    (hst : ∀ k, (t.line k).state = .invalid ↔ (s.line k).state = .invalid) (tag : Nat) : t.findLine tag = s.findLine tag := by
  unfold State.findLine
  refine congrArg (fun p => (allFin 64).find? p) (funext fun k => ?_)
  rw [h k]
  simp [hst k]

/-! ### The requests of a mend in a verify phase (R146) -/

/-- A loop that queues a request for each item, each formed from what the queue is no part of. -/
theorem State.forEach_enqueue {α : Type} (f : α → State → InjRequest) (hf : ∀ j (s : State) arb, f j { s with arb := arb } = f j s)
    (js : List α) (s : State) : forEach js (fun j t => t.enqueue (f j t)) s = { s with arb := s.arb ++ js.map fun j => f j s } := by
  induction js generalizing s with
  | nil => simp [forEach]
  | cons j js ih =>
    change forEach js _ (s.enqueue (f j s)) = _
    rw [ih]
    simp only [State.enqueue, List.map_cons, List.append_assoc, List.singleton_append, hf]

/-- The chunks a mend in a verify phase queues now (R145, R146). -/
def State.verifyChunks (s : State) (m : Mend) : Nat :=
  min (s.cfg.paceDepth - s.inHand Owner.isMend) ((s.extent m.extent).chunks - m.next)

theorem State.feedMend_verify {s : State} {m : Mend} (hm : s.mend.active = some m) (hst : m.stage = .working)
    (hph : m.phase ≠ .copy) :
    s.feedMend =
      { s with arb := s.arb ++ (List.range' m.next (s.verifyChunks m)).map fun j => s.mendRead m j,
               mend := { s.mend with active := some { m with next := m.next + s.verifyChunks m } } } := by
  have hloop := State.forEach_enqueue (fun j t => t.mendRead m j)
    (fun _ _ _ => rfl) (List.range' m.next (s.verifyChunks m)) s
  unfold State.feedMend
  simp only [hm, hst]
  cases hp : m.phase with
  | copy => exact absurd hp hph
  | verifySource => exact congrArg (fun t : State => t.setMend _) hloop
  | verifyTarget => exact congrArg (fun t : State => t.setMend _) hloop

/-- The mend as its phase begins, before its requests (R146). -/
def Mend.atPhase (m : Mend) (phase : MendPhase) : Mend :=
  { m with stage := .working, phase := phase, next := 0, buffer := none }

/-- A verify phase begins: its first chunks are queued, as many as the pace depth leaves. -/
theorem State.startPhase_verify (s : State) (m : Mend) {phase : MendPhase} (hph : phase ≠ .copy) :
    ∃ k, s.startPhase m phase =
      { s with arb := s.arb ++ (List.range' 0 k).map fun j => s.mendRead (m.atPhase phase) j,
               mend := { s.mend with active := some { m.atPhase phase with next := k } } } ∧
      k = min (s.cfg.paceDepth - s.inHand Owner.isMend) (s.extent m.extent).chunks := by
  have hfeed := State.feedMend_verify (s := s.setMend (some (m.atPhase phase))) rfl rfl hph
  have hk : State.verifyChunks (s.setMend (some (m.atPhase phase))) (m.atPhase phase) =
      min (s.cfg.paceDepth - s.inHand Owner.isMend) (s.extent m.extent).chunks := rfl
  refine ⟨_, ?_, rfl⟩
  rw [← hk]
  refine hfeed.trans ?_
  simp only [show (m.atPhase phase).next = 0 from rfl, Nat.zero_add]
  rfl

end Sys2Proof.Machine

/-!
PROOFS. The start of a mend (R144).
-/

namespace Sys2Proof.Machine

theorem State.pin_onLine (s : State) (l : Fin 64) : OnLine l s (s.pin l) :=
  ⟨rfl, rfl, rfl, rfl, rfl, rfl, rfl, rfl, rfl, rfl, rfl, rfl, rfl, (s.setLine_onLine l _).lines⟩

theorem State.pin_line (s : State) (l : Fin 64) : (s.pin l).line l = { s.line l with pins := (s.line l).pins + 1 } :=
  State.line_setLine_self s l _

theorem State.requestLine_of_found {s : State} {tag : Nat} {l : Fin 64} (h : s.findLine tag = some l) (user : LineUser)
    (e : Fin 1024) (fresh : Bool) : s.requestLine user tag e fresh = (s.pin l, some l) := by
  simp [State.requestLine, h]

/-- A loop each round of which leaves the state as it is does nothing. -/
theorem forEach_fixed {α : Type} {xs : List α} {f : α → State → State} {s : State} (h : ∀ x ∈ xs, f x s = s) :
    forEach xs f s = s := by
  induction xs with
  | nil => rfl
  | cons x xs ih =>
    change forEach xs f (f x s) = s
    rw [h x (List.mem_cons_self ..), ih fun y hy => h y (List.mem_cons_of_mem _ hy)]

/-- A test that no accumulator meets, none standing, abandons none. -/
theorem State.abandonAll_of_empty {s : State} (h : ∀ p, s.accum p = none) (test : Accum → Bool) : s.abandonAll test = s := by
  unfold State.abandonAll
  exact forEach_fixed fun p _ => by rw [h p]

/-- With no accumulator in use, a marked mend begins attempt 1 and nothing else (R144). -/
theorem State.beginMend_of_empty {s : State} {m : Mend} (hm : s.mend.active = some m) (hpool : ∀ p, s.accum p = none) :
    s.beginMend = s.startPhase m .verifySource := by
  obtain ⟨k, hphase, -⟩ := s.startPhase_verify m (phase := .verifySource) (by simp)
  have hnone : ∀ p, (s.startPhase m .verifySource).accum p = none := fun p => by rw [hphase]; exact hpool p
  unfold State.beginMend
  simp only [hm, State.abandonAll_of_empty hnone, hnone scrubPos]

/-- The entry of a mend whose line holds it, its target SUSPECT and its source SEALED, is marked MENDING (R144 step 4). -/
theorem State.mendHeld_marks {s : State} {m : Mend} {l : Fin 64} (hm : m.restarted = false)
    (hext : (s.extent m.extent).state = .sealed) (hrep : (s.extent m.extent).hasReplica = true)
    (hframe : m.frame < (s.extent m.extent).frames)
    (hfind : s.findLine ((s.extent m.extent).digestBlock m.frame) = some l) (hl : (s.line l).extent = m.extent)
    (hst : (s.line l).state.holds = true) (hwaits : (s.line l).waits = false) (hlen : (s.line l).entries.length = 256)
    (htarget : (s.entryIn l m.frame).copyState m.target = .suspect)
    (hsource : (s.entryIn l m.frame).copyState m.target.other = .sealed) :
    ∃ v, EntryGiven l m.frame ((s.entryIn l m.frame).setCopy m.target .mending)
        (s.setMend (some { m with stage := .marking })) v ∧ s.mendHeld m l = v.beginMend := by
  let u := s.setMend (some { m with stage := .marking })
  let e := (s.entryIn l m.frame).setCopy m.target .mending
  have happ : (u.entryIn l m.frame).apply (u.extent (u.line l).extent).hasReplica (.state m.target [.suspect] .mending) =
      (e, .applied) := by
    have hrep' : (u.extent (u.line l).extent).hasReplica = true := by rw [show (u.line l).extent = m.extent from hl]; exact hrep
    have hchange : (s.entryIn l m.frame).change true m.target [.suspect] .mending = (e, .applied) := by
      simp [Entry.change, htarget, e]
    rw [hrep']
    exact hchange
  obtain ⟨v, hv, hcore⟩ := State.applyCore_takes (s := u) (frame := m.frame) hst hlen
    (by rw [show (u.line l).extent = m.extent from hl]; exact fun c => by cases hext.symm.trans c)
    (by rw [show (u.line l).extent = m.extent from hl]; exact hframe) _ happ
  have hafter : ∀ c, e.copyState c = .mending ∨ e.copyState c = .sealed ∧ (s.entryIn l m.frame).copyState c = .sealed := fun c => by
    rcases CopyId.eq_or_other c m.target with rfl | rfl
    · exact .inl (Entry.setCopy_copyState ..)
    · have hkept : e.copyState m.target.other = .sealed := (Entry.setCopy_copyState_other ..).trans hsource
      exact .inr ⟨hkept, hsource⟩
  have hquiet : ∀ t : State, t.reportEntry (u.line l).extent m.frame (u.entryIn l m.frame) e = t := fun t => by
    refine State.reportEntry_of_quiet (fun c hc => ?_) (fun c hc hc' => ?_)
    · rcases hafter c with h | h <;> simp [h] at hc
    · rcases hafter c with h | ⟨-, h⟩
      · simp [h] at hc'
      · rw [show (u.entryIn l m.frame).copyState c = .sealed from h] at hc
        cases hc
  have hreport : v.reportMend (u.line l).extent m.frame .mendMarking e = v := by
    unfold State.reportMend
    rw [hv.on.mend]
    exact if_neg fun h => h.2.2.2.2.2 ((Entry.setCopy_copyState_other ..).trans hsource)
  have happly : u.applyNow l m.frame .mendMarking (.state m.target [.suspect] .mending) = (v, .applied) := by
    unfold State.applyNow
    rw [hcore]
    simp only [Answer.isApplied, if_true, State.logChange, hquiet, hreport]
  have hline : u.lineOf m.extent m.frame = some l := State.lineOf_of_found (s := u) hfind hl
  have hsubmit := State.submit_of_ready hline hwaits .mendMarking (.state m.target [.suspect] .mending)
  rw [happly] at hsubmit
  refine ⟨v, hv, ?_⟩
  unfold State.mendHeld
  rw [if_neg (by simp [hm])]
  simp only [htarget, hsource, true_or, and_self, if_true]
  change (match (u.submit m.extent m.frame .mendMarking (.state m.target [.suspect] .mending)).2 with
    | none => (u.submit m.extent m.frame .mendMarking (.state m.target [.suspect] .mending)).1
    | some ans => (u.submit m.extent m.frame .mendMarking (.state m.target [.suspect] .mending)).1.marked ans) = _
  rw [hsubmit]
  simp [State.marked]

/-- The mend as it asks for its line (R144 step 2). -/
def Mend.asking (m : Mend) : Mend := { m with line := none, stage := .lineQueue }

theorem State.mendAsk_of_found {s : State} {m : Mend} {l : Fin 64}
    (h : s.findLine ((s.extent m.extent).digestBlock m.frame) = some l) :
    s.mendAsk m = ((s.setMend (some m.asking)).pin l).mendGotLine m.asking l := by
  have hreq := State.requestLine_of_found (s := s.setMend (some m.asking)) h .mend m.extent false
  unfold State.mendAsk
  simp only [show ({ m with line := none, stage := .lineQueue } : Mend) = m.asking from rfl, hreq]

/-- The mend of frame copy `k`, with its line, as it waits to be marked (R144). -/
def Mend.toMark (k : FrameKey) (l : Fin 64) : Mend := { Mend.create k with line := some l, stage := .marking }

/-- The head of the mend queue, whose line holds a SUSPECT target with a SEALED source, is marked (R144 steps 1 to 4). -/
theorem State.takeMend_marks {s : State} {k : FrameKey} {rest : List FrameKey} {l : Fin 64} (hq : s.mend.queue = k :: rest)
    (hext : (s.extent k.extent).state = .sealed) (hrep : (s.extent k.extent).hasReplica = true)
    (hframe : k.frame < (s.extent k.extent).frames)
    (hfind : s.findLine ((s.extent k.extent).digestBlock k.frame) = some l) (hl : (s.line l).extent = k.extent)
    (hst : (s.line l).state.holds = true) (hwaits : (s.line l).waits = false) (hlen : (s.line l).entries.length = 256)
    (htarget : (s.entryIn l k.frame).copyState k.copy = .suspect)
    (hsource : (s.entryIn l k.frame).copyState k.copy.other = .sealed) (fuel : Nat) :
    ∃ v, OnLine l { s with mend := ⟨rest, some (Mend.toMark k l)⟩ } v ∧ v.arb = s.arb ∧ v.rep = s.rep ∧
      (v.line l).pins = (s.line l).pins + 1 ∧ v.entryIn l k.frame = (s.entryIn l k.frame).setCopy k.copy .mending ∧
      (v.beginMend.mend.active ≠ none → State.takeMend (fuel + 1) s = v.beginMend) := by
  let w : State := { s with mend := ⟨rest, some (Mend.create k)⟩ }
  let m : Mend := { Mend.create k with line := some l, stage := .lineFill }
  let u := (w.pin l).setMend (some m)
  have huline : u.line l = { s.line l with pins := (s.line l).pins + 1 } := State.pin_line w l
  have huothers : ∀ j, j ≠ l → u.line j = s.line j := (w.pin_onLine l).lines
  have hentry : u.entryIn l m.frame = s.entryIn l k.frame :=
    (congrArg (fun x : Line => x.entry k.frame) huline).trans rfl
  have hufind : u.findLine ((u.extent m.extent).digestBlock m.frame) = some l := by
    refine (State.findLine_congr (fun j => ?_) (fun j => ?_) _).trans hfind
    all_goals
      by_cases hj : j = l
      · rw [hj, huline]
      · rw [huothers j hj]
  obtain ⟨v, hv, hheld⟩ := State.mendHeld_marks (s := u) (m := m) (l := l) rfl hext hrep hframe hufind (huline ▸ hl) (huline ▸ hst)
    (huline ▸ hwaits) (huline ▸ hlen) (hentry ▸ htarget) (hentry ▸ hsource)
  have hgot : (w.pin l).mendGotLine (Mend.create k) l = v.beginMend := by
    rw [← hheld]
    unfold State.mendGotLine
    refine if_neg fun c => ?_
    have hfill : (u.line l).state = .filling := c
    rw [huline] at hfill
    rw [show (s.line l).state = .filling from hfill] at hst
    cases hst
  have hask : State.mendAsk { s with mend := { s.mend with queue := rest } } (Mend.create k) = v.beginMend := by
    exact (State.mendAsk_of_found (s := { s with mend := { s.mend with queue := rest } }) (m := Mend.create k) (l := l) hfind).trans hgot
  obtain ⟨st, timer, hline, -⟩ := hv.line
  refine ⟨v, (State.pin_onLine { s with mend := ⟨rest, some (Mend.toMark k l)⟩ } l).trans hv.on, hv.arb, hv.rep, ?_, ?_, fun hactive => ?_⟩
  · rw [hline]
    exact congrArg Line.pins huline
  · exact (hv.entryIn (huline ▸ hlen)).trans (congrArg (fun e : Entry => e.setCopy k.copy .mending) hentry)
  · have hsome : v.beginMend.mend.active.isNone = false := by
      cases hb : v.beginMend.mend.active with
      | none => exact absurd hb hactive
      | some _ => rfl
    unfold State.takeMend
    simp only [hq]
    refine (if_pos ?_).trans ?_
    · change (s.extent k.extent).state.mendable = true
      rw [hext]
      rfl
    · rw [hask, hsome]
      rfl

theorem Extent.chunks_pos {e : Extent} (h : 0 < e.span) : 0 < e.chunks := by
  unfold Extent.chunks
  omega

/-- The status timer runs while a mend is active (R173). -/
theorem State.syncStatusTimer_of_mend {s : State} {m : Mend} (h : s.mend.active = some m) (hm : m.begun = true) :
    s.syncStatusTimer.rep.statusTimer.isSome = true := by
  have hactive : (s.walkActive || s.mendActive) = true := by simp [State.mendActive, h, hm]
  unfold State.syncStatusTimer
  rw [if_pos hactive]
  cases ht : s.rep.statusTimer <;> simp [ht]

/-- Settles O49: the head of the queue holds its line at once, marks its target and begins VERIFY_SOURCE. -/
theorem mendStarts : Obligations.MendStarts := by
  refine fun s => ⟨fun k rest l hready hq hext hrep hframe hspan hfind hl hst hwaits hlen htarget hsource hpool hdepth => ?_,
    fun h => ?_⟩
  · obtain ⟨v, hv, harb, hrepv, hpins, hentry, htake⟩ :=
      State.takeMend_marks hq hext hrep hframe hfind hl hst hwaits hlen htarget hsource rest.length
    have hvpool : ∀ p, v.accum p = none := fun p => (State.accum_congr hv.pool p).trans (hpool p)
    have hbegin := State.beginMend_of_empty (m := Mend.toMark k l) (by rw [hv.mend]) hvpool
    obtain ⟨n, hphase, hn⟩ := v.startPhase_verify (Mend.toMark k l) (phase := .verifySource) (by simp)
    let m : Mend := (Mend.toMark k l).atPhase .verifySource
    let t : State := { v with arb := v.arb ++ (List.range' 0 n).map fun j => v.mendRead m j,
                              mend := ⟨rest, some { m with next := n }⟩ }
    have ht : v.beginMend = t := by
      rw [hbegin, hphase, hv.mend]
    have hstep : exec (.mendStart none) s = .next t.syncStatusTimer := by
      have htaken : State.takeMend s.mend.queue.length s = t := by
        rw [← ht, hq]
        exact htake (by rw [ht]; simp [t])
      change execMendStart none s = _
      unfold execMendStart
      rw [show s.findError none = s from rfl, if_pos hready, htaken]
      rfl
    have hfirst : 0 < n := by
      have hinhand : v.inHand Owner.isMend = s.inHand Owner.isMend := by
        simp [State.inHand, State.outstanding, State.countSlots, harb, hv.slots]
      have hchunks : (v.extent (Mend.toMark k l).extent).chunks = (s.extent k.extent).chunks :=
        congrArg Extent.chunks (State.extent_congr hv.map _)
      have hpos := Extent.chunks_pos hspan
      rw [hn, hinhand, hchunks, show v.cfg = s.cfg from hv.cfg]
      omega
    refine ⟨_, { m with next := n }, hstep, by simp [t], by simp [t], rfl, rfl, rfl, rfl, rfl, rfl, rfl, ?_, ?_, fun j hj => ?_,
      ?_, ⟨by simp [t, hv.pending], by simp [t, hv.ports], by simp [t, hv.up], by simp [t, hv.mediaUp], by simp [t, hv.slots]⟩,
      by simp [t, hv.map], by simp [t, hv.pool], by simp [t, hv.walk], by simp [t, hv.dir], by simp [t, hv.cfg],
      by simp [t, hv.ldr], by simp [t, hrepv], State.syncStatusTimer_of_mend (m := { m with next := n }) rfl rfl⟩
    · rw [State.syncStatusTimer_line]
      exact hpins
    · unfold State.entryIn at hentry ⊢
      rw [State.syncStatusTimer_line]
      exact hentry
    · rw [State.syncStatusTimer_line]
      exact hv.lines j hj
    · rw [show t.syncStatusTimer.arb = t.arb by simp]
      refine List.mem_append_right _ (List.mem_map.mpr ⟨0, List.mem_range'_1.mpr ⟨Nat.le_refl _, by omega⟩, ?_⟩)
      simp only [State.mendRead, State.extent_congr hv.map]
      rfl
  · have hid : exec (.mendStart none) s = .next s.syncStatusTimer := by
      change execMendStart none s = _
      unfold execMendStart
      rw [show s.findError none = s from rfl]
      rcases h with h | h
      · rw [if_neg (by simp [h])]
        rfl
      · simp only [h, List.length_nil, State.takeMend, ite_self]
        rfl
    exact ⟨_, hid, by simp [SamePorts], by simp, SameShelf.sync ⟨rfl, rfl, rfl, rfl, rfl⟩⟩

end Sys2Proof.Machine

/-!
PROOFS. The directives that start a walk over one at work: CHECK_EXTENT, START_PASS (R109, R164), DEFINE_EXTENT, SEAL_EXTENT
and RESEAL_FRAME (R10, R11, R13, R163), with the geometry conditions of R10.
-/

namespace Sys2Proof.Machine

/-! ### A walk takes the place of one that has a unit in flight (R109) -/

/-- The walk engine waits: its walk is not at a point where it moves on. -/
theorem State.walkRun_of_waiting {s : State} {w : Walk} (hw : s.walk.cur = some w) (hst : w.stage ≠ .ready) : s.walkRun = s := by
  have hmove : s.walkMove = none := by simp [State.walkMove, hw, hst]
  unfold State.walkRun
  rw [show Config.stepBound = Nat.succ (Config.stepBound - 1) from rfl]
  simp only [State.walkLoop, hmove]

/-- The engine with its walk SAVING and `v` incoming (R110). -/
def WalkEngine.yields (e : WalkEngine) (w v : Walk) : WalkEngine :=
  { e with cur := some { w with run := .saving }, incoming := some v }

/-- The state with another walk engine. -/
def State.withWalk (s : State) (e : WalkEngine) : State := { s with walk := e }

theorem State.startWalk_yields {s : State} {w : Walk} (hw : s.walk.cur = some w) (hrun : w.run = .running)
    (hfl : w.inFlight = true) (hst : w.stage ≠ .ready) (v : Walk) : s.startWalk v = s.withWalk (s.walk.yields w v) := by
  have hplace : s.placeWalk v = s.withWalk (s.walk.yields w v) := by
    unfold State.placeWalk
    simp only [hw]
    rw [if_neg (by simp [hrun]), if_neg (by simp [hfl])]
    rfl
  unfold State.startWalk
  rw [hplace]
  exact State.walkRun_of_waiting (w := { w with run := .saving }) rfl hst

theorem State.startAnswer_free {s : State} {w : Walk} (hw : s.walk.cur = some w) (hrun : w.run = .running)
    (hroom : s.walk.saved.length < 2) : s.startAnswer false = .started := by
  simp [State.startAnswer, hw, hrun, Nat.not_le.mpr hroom]

theorem State.startAnswer_busy {s : State} {w : Walk} (hw : s.walk.cur = some w)
    (hb : w.run = .saving ∨ w.run = .suspending ∨ 2 ≤ s.walk.saved.length) : s.startAnswer false = .busy := by
  unfold State.startAnswer
  simp only [Bool.false_and, Bool.false_eq_true, if_false, hw]
  split
  · rfl
  next h => rw [if_pos ((or_assoc.mpr hb).resolve_left h)]

/-- With no PASS walk anywhere START_PASS is answered as any other start (R109). -/
theorem State.startAnswer_pass {s : State} (h : s.passExists = false) : s.startAnswer true = s.startAnswer false := by
  simp [State.startAnswer, h]

theorem extentNumber_val (n : Fin 1024) : extentNumber n.val = some n := by simp [extentNumber]

theorem extentNumber_of_le {n : Nat} (h : 1024 ≤ n) : extentNumber n = none := by simp [extentNumber, Nat.not_lt.mpr h]

theorem CopyId.ofNum_of_le {n : Nat} (h : 2 ≤ n) : CopyId.ofNum n = none := by
  match n, h with
  | n + 2, _ => rfl

/-! ### CHECK_EXTENT and START_PASS -/

theorem State.createPass_fst (s : State) (d : Depth) :
    (s.createPass d).1 = ({ s with cfg := { s.cfg with passNumber := nextPass s.cfg.passNumber } } : State).markHeader := rfl

/-- Settles O46: a RUNNING walk with a unit in flight yields, its engine waiting; with two walks saved none starts. -/
theorem walksStart : Obligations.WalksStart := by
  intro s w hw hrun hfl hst hin
  refine ⟨fun n first last code d hex hsealed hle hlast hd => ?_, fun code d hex hd hkind hsaved => ?_⟩
  · have heffect : ∀ r, s.startAnswer false = r → checkEffect n.val first last code s =
        if r = .started then (s.startWalk (Walk.create .check none n first last (d.getD s.cfg.depth)), .started)
        else (s, .busy) := fun r hr => by
      simp [checkEffect, extentNumber_val, hd, hsealed, Nat.not_lt.mpr hle, Nat.not_le.mpr hlast, hr]
    by_cases hroom : s.walk.saved.length < 2
    · have he := heffect _ (State.startAnswer_free hw hrun hroom)
      rw [if_pos rfl, State.startWalk_yields hw hrun hfl hst] at he
      obtain ⟨t, hstep, hgain, hrec⟩ := State.directive_records hex he rfl
      obtain ⟨hmap, hpool, hstore, hwalk, hmend⟩ := hrec.shelf
      exact ⟨t, hstep, hrec.ports, hmap, hpool, hstore, hmend, hrec.cfg, hrec.ldr, fun _ => ⟨hgain, hwalk⟩,
        fun h => absurd hroom (Nat.not_lt.mpr h)⟩
    · have he := heffect _ (State.startAnswer_busy hw (.inr (.inr (Nat.le_of_not_lt hroom))))
      rw [if_neg (by simp)] at he
      obtain ⟨t, hstep, hgain, hrec⟩ := State.directive_refuses hex he
      obtain ⟨hmap, hpool, hstore, hwalk, hmend⟩ := hrec.shelf
      exact ⟨t, hstep, hrec.ports, hmap, hpool, hstore, hmend, hrec.cfg, hrec.ldr, fun h => absurd h hroom,
        fun _ => ⟨hgain, hwalk⟩⟩
  · have hpass : s.passExists = false := by
      simp only [State.passExists, hw, hin, Option.any_some, Option.any_none, decide_eq_false hkind, Bool.false_or,
        List.any_eq_false, decide_eq_true_eq]
      exact hsaved
    by_cases hroom : s.walk.saved.length < 2
    · have he : startPassEffect code s = (s.startPassNow (d.getD s.cfg.depth), .started) := by
        simp only [startPassEffect, hd, State.startAnswer_pass hpass, State.startAnswer_free hw hrun hroom]
      let u := State.markHeader { s with cfg := { s.cfg with passNumber := nextPass s.cfg.passNumber },
                                         walk := { s.walk with restTimer := none, passDue := false } }
      have hu : u.walk = { s.walk with restTimer := none, passDue := false } := by simp [u]
      have hstart : s.startPassNow (d.getD s.cfg.depth) =
          u.withWalk (u.walk.yields w (Walk.create .pass none 0 0 0 (d.getD s.cfg.depth))) :=
        State.startWalk_yields (s := u) (by rw [hu]; exact hw) hrun hfl hst _
      rw [hstart] at he
      obtain ⟨t, hstep, hgain, hrec⟩ := State.directive_records hex he (by simp [State.withWalk, u])
      obtain ⟨hmap, hpool, hstore, hwalk, hmend⟩ := hrec.shelf
      refine ⟨t, hstep, SamePorts.trans ?_ hrec.ports, hmap.trans ?_, hpool.trans ?_, hstore.trans ?_, hmend.trans ?_,
        (congrArg Loader.part hrec.ldr).trans ?_, fun _ => ⟨hgain, hrec.cfg.trans ?_, hwalk.trans ?_⟩,
        fun h => absurd hroom (Nat.not_lt.mpr h)⟩
      · simp [SamePorts, State.withWalk, u]
      · simp [State.withWalk, u]
      · simp [State.withWalk, u]
      · simp [State.withWalk, u]
      · simp [State.withWalk, u]
      · simp [State.withWalk, u]
      · exact State.markHeader_cfg _
      · simp [State.withWalk, hu, WalkEngine.yields]
    · have he : startPassEffect code s = (s, .busy) := by
        simp only [startPassEffect, hd, State.startAnswer_pass hpass,
          State.startAnswer_busy hw (.inr (.inr (Nat.le_of_not_lt hroom)))]
      obtain ⟨t, hstep, hgain, hrec⟩ := State.directive_refuses hex he
      obtain ⟨hmap, hpool, hstore, hwalk, hmend⟩ := hrec.shelf
      exact ⟨t, hstep, hrec.ports, hmap, hpool, hstore, hmend, congrArg Loader.part hrec.ldr, fun h => absurd h hroom,
        fun _ => ⟨hgain, hwalk, hrec.cfg⟩⟩

/-! ### DEFINE_EXTENT, SEAL_EXTENT and RESEAL_FRAME past their checks -/

theorem State.extent_changeExtent (s : State) (n k : Fin 1024) (x : Extent) :
    (s.changeExtent n x).extent k = if k = n then x else s.extent k := by
  have hmap : (s.changeExtent n x).map = (s.setExtent n x).map := by simp [State.changeExtent]
  rw [State.extent_congr hmap, State.extent_setExtent]

/-- The extent's record before its PREPARE walk starts (R11). -/
def State.defined (s : State) (n : Fin 1024) (e : Extent) : State :=
  { s.changeExtent n e with map := { (s.changeExtent n e).map with
                                       index := joinIndex (s.changeExtent n e).map.index (e.ranges n) } }

theorem geometry_fields {capacity cls mode policy base0 replica span frames tail mask digestBase : Nat} {e : Extent}
    (h : geometry capacity cls mode policy base0 replica span frames tail mask digestBase = some e) :
    e.state = .preparing ∧ e.frames = frames := by
  unfold geometry at h
  split at h
  · simp only [Option.ite_none_right_eq_some, Option.some.injEq] at h
    obtain ⟨-, rfl⟩ := h
    exact ⟨rfl, rfl⟩
  · cases h

/-- What the start of an extent's walk leaves but for the extent: the engine with its walk SAVING. -/
structure Yielded (s t : State) (w v : Walk) : Prop where
  ports : SamePorts s t
  walk : t.walk = s.walk.yields w v
  store : t.store = s.store
  pool : t.pool = s.pool
  mend : t.mend = s.mend
  cfg : t.cfg = s.cfg

/-- A directive that changes an extent and starts its walk over a RUNNING one with a unit in flight (R109). -/
theorem State.directive_yields {s u : State} {i : Instr} {effect : Effect} {w v : Walk} (h : s.executes i)
    (hw : s.walk.cur = some w) (hrun : w.run = .running) (hfl : w.inFlight = true) (hst : w.stage ≠ .ready)
    (he : effect s = (u.startWalk v, .started)) (hports : SamePorts s u) (hdir : u.dir = s.dir)
    (hshelf : u.pool = s.pool ∧ u.store = s.store ∧ u.walk = s.walk ∧ u.mend = s.mend) (hcfg : u.cfg = s.cfg) :
    ∃ t, s.directive i effect = .next t ∧ Gained s t .started ∧ Yielded s t w v ∧ t.map = u.map := by
  obtain ⟨hpool, hstore, hwalk, hmend⟩ := hshelf
  rw [State.startWalk_yields (by rw [hwalk, hw]) hrun hfl hst] at he
  obtain ⟨t, hstep, hgain, hrec⟩ := State.directive_records h he (by simp [State.withWalk, hdir])
  obtain ⟨tmap, tpool, tstore, twalk, tmend⟩ := hrec.shelf
  exact ⟨t, hstep, hgain,
    ⟨hports.trans (SamePorts.trans (by simp [SamePorts, State.withWalk]) hrec.ports),
      twalk.trans (congrArg (fun e : WalkEngine => e.yields w v) hwalk), tstore.trans hstore, tpool.trans hpool,
      tmend.trans hmend, hrec.cfg.trans hcfg⟩, tmap⟩

theorem State.changeExtent_samePorts (s : State) (n : Fin 1024) (x : Extent) : SamePorts s (s.changeExtent n x) := by
  simp [SamePorts]

section

variable {s : State} {w : Walk} {n : Fin 1024} (hw : s.walk.cur = some w) (hrun : w.run = .running)
  (hfl : w.inFlight = true) (hst : w.stage ≠ .ready) (hroom : s.walk.saved.length < 2)
include hw hrun hfl hst hroom

theorem defineExtent_starts {cls mode policy base0 replica span frames tail mask digestBase : Nat} {e : Extent}
    (hex : s.executes (.defineExtent n.val cls mode policy base0 replica span frames tail mask digestBase none))
    (hgeo : geometry s.capacity cls mode policy base0 replica span frames tail mask digestBase = some e)
    (hfree : overlapFree s.map.index (e.ranges n) = true) (hstate : (s.extent n).state = .free) :
    ∃ t, exec (.defineExtent n.val cls mode policy base0 replica span frames tail mask digestBase none) s = .next t ∧
      Gained s t .started ∧ Yielded s t w (Walk.create .prepare none n 0 (frames - 1) .full) ∧
      t.extent n = e ∧ (∀ k, k ≠ n → t.extent k = s.extent k) ∧ t.map.index = joinIndex s.map.index (e.ranges n) := by
  have he : defineEffect n.val (geometry s.capacity cls mode policy base0 replica span frames tail mask digestBase) s =
      ((s.defined n e).startWalk (Walk.create .prepare none n 0 (frames - 1) .full), .started) := by
    have hanswer := State.startAnswer_free hw hrun hroom
    simp only [defineEffect, extentNumber_val, hgeo, hfree, hstate, hanswer, if_true, State.defineNow,
      (geometry_fields hgeo).2]
    rfl
  obtain ⟨t, hstep, hgain, hy, hmap⟩ := State.directive_yields hex hw hrun hfl hst he (s.changeExtent_samePorts n e)
    (by simp [State.defined]) (by simp [State.defined]) (by simp [State.defined])
  have hextent : ∀ k, t.extent k = if k = n then e else s.extent k := fun k => by
    rw [State.extent_congr hmap, ← State.extent_changeExtent]
    rfl
  exact ⟨t, hstep, hgain, hy, by rw [hextent, if_pos rfl], fun k hk => by rw [hextent, if_neg hk],
    by rw [hmap]; simp [State.defined]⟩

theorem sealExtent_starts (hex : s.executes (.sealExtent n.val none))
    (hstate : (s.extent n).state = .defined ∨ (s.extent n).state = .opened) :
    ∃ t, exec (.sealExtent n.val none) s = .next t ∧ Gained s t .started ∧
      Yielded s t w (Walk.create .seal none n 0 ((s.extent n).frames - 1) .full) ∧
      t.extent n = { s.extent n with state := .sealing } ∧ (∀ k, k ≠ n → t.extent k = s.extent k) ∧
      t.map.index = s.map.index := by
  have he : sealEffect n.val s =
      ((s.setExtentState n .sealing).startWalk (Walk.create .seal none n 0 ((s.extent n).frames - 1) .full), .started) := by
    simp only [sealEffect, extentNumber_val, hstate, State.startAnswer_free hw hrun hroom, if_true]
  obtain ⟨t, hstep, hgain, hy, hmap⟩ := State.directive_yields hex hw hrun hfl hst he (s.changeExtent_samePorts n _)
    (by simp [State.setExtentState]) (by simp [State.setExtentState]) (by simp [State.setExtentState])
  have hextent : ∀ k, t.extent k = if k = n then { s.extent n with state := .sealing } else s.extent k := fun k =>
    (State.extent_congr hmap k).trans (s.extent_changeExtent n k _)
  exact ⟨t, hstep, hgain, hy, by rw [hextent, if_pos rfl], fun k hk => by rw [hextent, if_neg hk],
    by rw [hmap]; simp [State.setExtentState]⟩

theorem resealFrame_starts {frame source : Nat} {c : CopyId} (hex : s.executes (.resealFrame n.val frame source none))
    (hc : CopyId.ofNum source = some c) (hstate : (s.extent n).state = .sealed) (hframe : frame < (s.extent n).frames)
    (hcopy : c = .copy1 → (s.extent n).hasReplica = true) (hfreeze : s.dir.freeze = false) :
    ∃ t, exec (.resealFrame n.val frame source none) s = .next t ∧ Gained s t .started ∧
      Yielded s t w (Walk.create .seal (some c) n frame frame .full) ∧ t.map = s.map := by
  have hcopy' : ¬(c = .copy1 ∧ (s.extent n).hasReplica = false) := fun h => by simp [hcopy h.1] at h
  have he : resealEffect n.val frame source s = (s.startWalk (Walk.create .seal (some c) n frame frame .full), .started) := by
    simp only [resealEffect, extentNumber_val, hc]
    rw [if_neg (by simp [hstate]), if_neg (Nat.not_le.mpr hframe), if_neg hcopy', if_neg (by simp [hfreeze]),
      if_pos (State.startAnswer_free hw hrun hroom)]
  exact State.directive_yields hex hw hrun hfl hst he ⟨rfl, rfl, rfl, rfl, rfl⟩ rfl ⟨rfl, rfl, rfl, rfl⟩ rfl

end

/-! ### Their refusals -/

/-- The directive is refused with result `r`, and map, walks and settings stay. -/
def State.refuses (s : State) (i : Instr) (r : Result) : Prop :=
  ∃ t, exec i s = .next t ∧ Gained s t r ∧ SamePorts s t ∧ SameShelf s t ∧ t.cfg = s.cfg ∧ t.ldr = s.ldr

theorem State.refuses_of_effect {s : State} {i : Instr} {effect : Effect} {r : Result} (h : s.executes i)
    (hi : exec i s = s.directive i effect) (he : effect s = (s, r)) : s.refuses i r := by
  obtain ⟨t, hstep, hgain, hrec⟩ := State.directive_refuses h he
  exact ⟨t, hi.trans hstep, hgain, hrec.ports, hrec.shelf, hrec.cfg, hrec.ldr⟩

/-- The engine takes no further walk (R109). -/
def State.engineBusy (s : State) : Prop :=
  ∃ w, s.walk.cur = some w ∧ (w.run = .saving ∨ w.run = .suspending ∨ 2 ≤ s.walk.saved.length)

theorem State.startAnswer_of_engineBusy {s : State} (h : s.engineBusy) : s.startAnswer false = .busy := by
  obtain ⟨w, hw, hb⟩ := h
  exact State.startAnswer_busy hw hb

theorem defineExtent_refusals {s : State} {extent cls mode policy base0 replica span frames tail mask digestBase : Nat}
    (hex : s.executes (.defineExtent extent cls mode policy base0 replica span frames tail mask digestBase none)) :
    let i := Instr.defineExtent extent cls mode policy base0 replica span frames tail mask digestBase none
    let geo := geometry s.capacity cls mode policy base0 replica span frames tail mask digestBase
    (1024 ≤ extent ∨ geo = none → s.refuses i .refusedRange) ∧
      (∀ (n : Fin 1024) (e : Extent), extent = n.val → geo = some e →
        (overlapFree s.map.index (e.ranges n) = false → s.refuses i .refusedOverlap) ∧
        (overlapFree s.map.index (e.ranges n) = true → (s.extent n).state ≠ .free → s.refuses i .refusedState) ∧
        (overlapFree s.map.index (e.ranges n) = true → (s.extent n).state = .free → s.engineBusy → s.refuses i .busy)) := by
  intro i geo
  have hrefuse : ∀ r, defineEffect extent geo s = (s, r) → s.refuses i r := fun r he =>
    State.refuses_of_effect hex rfl he
  refine ⟨fun h => hrefuse _ ?_, fun n e hn hgeo => ⟨fun hov => hrefuse _ ?_, fun hov hstate => hrefuse _ ?_,
    fun hov hstate hbusy => hrefuse _ ?_⟩⟩
  · rcases h with h | h
    · simp [defineEffect, extentNumber_of_le h]
    · cases hx : extentNumber extent <;> simp [defineEffect, h, hx]
  · simp [defineEffect, hn, extentNumber_val, hgeo, hov]
  · simp [defineEffect, hn, extentNumber_val, hgeo, hov, hstate]
  · simp [defineEffect, hn, extentNumber_val, hgeo, hov, hstate, State.startAnswer_of_engineBusy hbusy]

theorem sealExtent_refusals {s : State} {extent : Nat} (hex : s.executes (.sealExtent extent none)) :
    (1024 ≤ extent → s.refuses (.sealExtent extent none) .refusedRange) ∧
      (∀ n : Fin 1024, extent = n.val →
        ((s.extent n).state ≠ .defined → (s.extent n).state ≠ .opened → s.refuses (.sealExtent extent none) .refusedState) ∧
        ((s.extent n).state = .defined ∨ (s.extent n).state = .opened → s.engineBusy →
          s.refuses (.sealExtent extent none) .busy)) := by
  have hrefuse : ∀ r, sealEffect extent s = (s, r) → s.refuses (.sealExtent extent none) r := fun r he =>
    State.refuses_of_effect hex rfl he
  refine ⟨fun h => hrefuse _ ?_, fun n hn => ⟨fun hd ho => hrefuse _ ?_, fun hstate hbusy => hrefuse _ ?_⟩⟩
  · simp [sealEffect, extentNumber_of_le h]
  · simp [sealEffect, hn, extentNumber_val, hd, ho]
  · simp [sealEffect, hn, extentNumber_val, hstate, State.startAnswer_of_engineBusy hbusy]

theorem resealFrame_refusals {s : State} {extent frame source : Nat} (hex : s.executes (.resealFrame extent frame source none)) :
    let i := Instr.resealFrame extent frame source none
    (1024 ≤ extent ∨ 2 ≤ source → s.refuses i .refusedRange) ∧
      (∀ n : Fin 1024, extent = n.val → source < 2 →
        ((s.extent n).state ≠ .sealed → s.refuses i .refusedState) ∧
        ((s.extent n).state = .sealed → (s.extent n).frames ≤ frame → s.refuses i .refusedRange) ∧
        ((s.extent n).state = .sealed → frame < (s.extent n).frames →
          (source = 1 → (s.extent n).hasReplica = false → s.refuses i .refusedState) ∧
          (source = 0 ∨ (s.extent n).hasReplica = true → (s.dir.freeze = true → s.refuses i .refusedFrozen) ∧
            (s.dir.freeze = false → s.engineBusy → s.refuses i .busy)))) := by
  intro i
  have hrefuse : ∀ r, resealEffect extent frame source s = (s, r) → s.refuses i r := fun r he =>
    State.refuses_of_effect hex rfl he
  refine ⟨fun h => hrefuse _ ?_, fun n hn hsource => ?_⟩
  · rcases h with h | h
    · simp [resealEffect, extentNumber_of_le h]
    · cases hx : extentNumber extent <;> simp [resealEffect, CopyId.ofNum_of_le h, hx]
  · obtain ⟨c, hc, hc1⟩ : ∃ c, CopyId.ofNum source = some c ∧ (c = .copy1 ↔ source = 1) := by
      match source, hsource with
      | 0, _ => exact ⟨.copy0, rfl, by simp⟩
      | 1, _ => exact ⟨.copy1, rfl, by simp⟩
    have heffect : resealEffect extent frame source s = resealEffect n.val frame source s := by rw [hn]
    simp only [heffect] at hrefuse
    refine ⟨fun hst => hrefuse _ ?_, fun hst hfr => hrefuse _ ?_, fun hst hfr => ⟨fun h1 hrep => hrefuse _ ?_, fun hok => ?_⟩⟩
    · simp [resealEffect, extentNumber_val, hc, hst]
    · simp [resealEffect, extentNumber_val, hc, hst, hfr]
    · simp [resealEffect, extentNumber_val, hc, hst, Nat.not_le.mpr hfr, hc1.mpr h1, hrep]
    · have hcopy : ¬(c = .copy1 ∧ (s.extent n).hasReplica = false) := fun h => by
        rcases hok with h0 | hr
        · rw [hc1, h0] at h
          simp at h
        · simp [hr] at h
      refine ⟨fun hfz => hrefuse _ ?_, fun hfz hbusy => hrefuse _ ?_⟩
      · simp only [resealEffect, extentNumber_val, hc]
        rw [if_neg (by simp [hst]), if_neg (Nat.not_le.mpr hfr), if_neg hcopy, if_pos hfz]
      · simp only [resealEffect, extentNumber_val, hc]
        rw [if_neg (by simp [hst]), if_neg (Nat.not_le.mpr hfr), if_neg hcopy, if_neg (by simp [hfz]),
          if_neg (by rw [State.startAnswer_of_engineBusy hbusy]; simp)]

/-! ### The geometry conditions of R10 -/

theorem ExtentClass.ofCode_isSome (n : Nat) : (ExtentClass.ofCode n).isSome = true ↔ n ≤ 1 := by
  match n with
  | 0 => simp [ExtentClass.ofCode]
  | 1 => simp [ExtentClass.ofCode]
  | n + 2 => simp [ExtentClass.ofCode]

theorem MendMode.ofCode_isSome (n : Nat) : (MendMode.ofCode n).isSome = true ↔ n ≤ 1 := by
  match n with
  | 0 => simp [MendMode.ofCode]
  | 1 => simp [MendMode.ofCode]
  | n + 2 => simp [MendMode.ofCode]

theorem overrideOfCode_isSome (n : Nat) : (overrideOfCode n).isSome = true ↔ n ≤ 2 := by
  match n with
  | 0 => simp [overrideOfCode]
  | 1 => simp [overrideOfCode]
  | 2 => simp [overrideOfCode]
  | n + 3 => simp [overrideOfCode]

theorem geometry_isSome (capacity cls mode policy base0 replica span frames tail mask digestBase : Nat) :
    (geometry capacity cls mode policy base0 replica span frames tail mask digestBase).isSome = true ↔
      cls ≤ 1 ∧ mode ≤ 1 ∧ policy ≤ 2 ∧ 1 ≤ span ∧ span ≤ 65536 ∧ 1 ≤ frames ∧ frames ≤ 16777216 ∧ 1 ≤ tail ∧
        tail ≤ 4096 ∧ mask ≠ 4294967295 ∧ base0 + span * frames ≤ capacity ∧
        (replica = 1099511627775 ∨ replica + span * frames ≤ capacity) ∧ digestBase + (frames + 255) / 256 ≤ capacity := by
  rw [← ExtentClass.ofCode_isSome cls, ← MendMode.ofCode_isSome mode, ← overrideOfCode_isSome policy]
  unfold geometry
  cases ExtentClass.ofCode cls with
  | none => simp
  | some c =>
    cases MendMode.ofCode mode with
    | none => simp
    | some m =>
      cases overrideOfCode policy with
      | none => simp
      | some p =>
        by_cases hr : replica = 1099511627775
        · simp [hr, Config.addressLimit, and_assoc]
          exact fun _ _ _ _ _ _ _ => Iff.rfl
        · simp [hr, Config.addressLimit, and_assoc]
          exact fun _ _ _ _ _ _ _ => Iff.rfl

/-- Settles O47: the three directives' starts, their refusals, and the conditions of `geometry`. -/
theorem extentWalksStart : Obligations.ExtentWalksStart := by
  refine ⟨fun s w n hw hrun hfl hst hroom => ⟨?_, ?_, ?_⟩, fun s => ⟨?_, ?_, ?_⟩, geometry_isSome⟩
  · intro cls mode policy base0 replica span frames tail mask digestBase e hex hgeo hfree hstate
    obtain ⟨t, hstep, hgain, hy, hn, hothers, hindex⟩ := defineExtent_starts hw hrun hfl hst hroom hex hgeo hfree hstate
    exact ⟨t, hstep, hy.ports, hgain, hn, (geometry_fields hgeo).1, hothers, hindex, hy.walk, hy.store, hy.pool, hy.mend, hy.cfg⟩
  · intro hex hstate
    obtain ⟨t, hstep, hgain, hy, hn, hothers, hindex⟩ := sealExtent_starts hw hrun hfl hst hroom hex hstate
    exact ⟨t, hstep, hy.ports, hgain, hn, hothers, hindex, hy.walk, hy.store, hy.pool, hy.mend, hy.cfg⟩
  · intro frame source c hex hc hstate hframe hcopy
    cases hfz : s.dir.freeze with
    | false =>
      obtain ⟨t, hstep, hgain, hy, hmap⟩ := resealFrame_starts hw hrun hfl hst hroom hex hc hstate hframe hcopy hfz
      exact ⟨t, hstep, hy.ports, hmap, hy.store, hy.pool, hy.mend, hy.cfg, fun h => by simp at h, fun _ => ⟨hgain, hy.walk⟩⟩
    | true =>
      have hcopy' : ¬(c = .copy1 ∧ (s.extent n).hasReplica = false) := fun h => by simp [hcopy h.1] at h
      have he : resealEffect n.val frame source s = (s, .refusedFrozen) := by
        simp only [resealEffect, extentNumber_val, hc]
        rw [if_neg (by simp [hstate]), if_neg (Nat.not_le.mpr hframe), if_neg hcopy', if_pos hfz]
      obtain ⟨t, hstep, hgain, hports, ⟨hmap, hpool, hstore, hwalk, hmend⟩, hcfg, -⟩ := State.refuses_of_effect hex rfl he
      exact ⟨t, hstep, hports, hmap, hstore, hpool, hmend, hcfg, fun _ => ⟨hgain, hwalk⟩, fun h => by simp at h⟩
  · intro extent cls mode policy base0 replica span frames tail mask digestBase c hc hex
    subst hc
    exact defineExtent_refusals hex
  · exact fun extent hex => sealExtent_refusals hex
  · intro extent frame source c hc hex
    subst hc
    exact resealFrame_refusals hex

end Sys2Proof.Machine

/-!
PROOFS. The catalogue's reads and writes: the load and its failures (R186, R187), the entry to RUNNING (R188), and the
returns of catalogue writes in RUNNING (R189).
-/

namespace Sys2Proof.Machine

/-! ### A load that fails (R190) -/

theorem State.loadFails_entered (s : State) (cause : FaultCause) :
    FaultEntered s.emptyMap cause (s.emptyMap.faultTraffic cause) (s.loadFails cause) := s.emptyMap.enterFault_entered cause

/-- What a failed load leaves: FAULT with its cause, the flag risen, the map emptied to its CONTROL range (R22, R190). -/
structure LoadFailed (index : List Range) (cause : FaultCause) (t : State) : Prop where
  part : t.ldr.part = .fault
  fault : t.ldr.fault = some cause
  flag : (t.flag .fault).isSet = true
  index : t.map.index = index
  extents : ∀ e, t.extent e = Extent.freeForm
  window : t.windowBytes.take 12 = leBytes 1 6 ++ leBytes 1 cause.code ++ zeros 2 ++ cause.detail

theorem State.loadFails_failed (s : State) (cause : FaultCause) : LoadFailed s.controlIndex cause (s.loadFails cause).syncStatusTimer := by
  have h := s.loadFails_entered cause
  rw [h.sync]
  exact ⟨h.part, h.fault, h.flag, congrArg ExtentMap.index h.map,
    fun e => (State.extent_congr h.map e).trans (Vector.getElem_replicate e.isLt), State.windowBytes_fault h.part h.fault⟩

theorem State.controlIndex_of_base {s : State} {c : Nat} (h : s.controlBase = some c) :
    s.controlIndex = [⟨.control, c, 51⟩] := by
  simp [State.controlIndex, h, controlRange, Config.controlBlocks]

/-! ### Entry to RUNNING with nothing to take up (R188) -/

/-- The state as RUNNING is entered with settings `c`, the blocks at rest. -/
def State.ran (s : State) (c : Settings) : State := (s.loadHeader c).takeRestart false

theorem State.restartList_of_none {s : State} (h : ∀ e, (s.extent e).state ≠ .preparing ∧ (s.extent e).state ≠ .sealing) :
    s.restartList = [] := by
  unfold State.restartList
  rw [List.filter_eq_nil_iff]
  intro e _
  simp [(h e).1, (h e).2]

theorem State.walkRun_of_none {s : State} (h : s.walk.cur = none) : s.walkRun = s := by
  have hmove : s.walkMove = none := by simp [State.walkMove, h]
  unfold State.walkRun
  rw [show Config.stepBound = Nat.succ (Config.stepBound - 1) from rfl]
  simp only [State.walkLoop, hmove]

/-- With repeat off, no request held, no walk and no extent to restart, the entry to RUNNING takes the header alone. -/
theorem State.enterRunning_quiet {s : State} {c : Settings} (hhead : c.headerHead % 128 = 0) (hrepeat : c.repeatOn = false)
    (hup : s.up.head = none) (hcur : s.walk.cur = none) (hsaved : s.walk.saved = [])
    (hextents : ∀ e, (s.extent e).state ≠ .preparing ∧ (s.extent e).state ≠ .sealing) :
    s.enterRunning c none = (s.ran c).statusDue ∧ (s.ran c).map.restart = [] := by
  let u := s.loadHeader c
  have hsettled : u.settleHead = u := State.settleHead_of_settled (by
    simp [u, Report.unsettled, State.loadHeader, Report.fromHeader, hhead])
  have hheld : u.decideHeld = u := by simp [State.decideHeld, u, State.loadHeader, hup]
  have hrestart : (s.ran c).map.restart = [] := by
    have hnone := State.restartList_of_none (s := s.loadHeader c) fun e => hextents e
    simpa only [State.ran, State.takeRestart] using hnone
  have hnext : (s.ran c).nextWalk = s.ran c := by
    have hs : (s.ran c).walk.saved = [] := hsaved
    unfold State.nextWalk
    rw [hs, hrestart]
    rfl
  have hrun : (s.ran c).walkRun = s.ran c := State.walkRun_of_none hcur
  refine ⟨?_, hrestart⟩
  have hrel : u.releaseBlocks false = (s.ran c).statusDue := by
    unfold State.releaseBlocks
    rw [hheld]
    change (s.ran c).nextWalk.walkRun.statusDue = _
    rw [hnext, hrun]
  unfold State.enterRunning
  rw [show s.loadHeader c = u from rfl, hsettled, hrepeat]
  exact (if_pos rfl).trans hrel

/-- What the quiet entry to RUNNING leaves, but for the map (R188, R184). -/
structure Ran (c : Settings) (t : State) : Prop where
  part : t.ldr.part = .running
  load : t.ldr.load = .idle
  cfg : t.cfg = c
  restart : t.map.restart = []
  head : t.rep.head = c.headerHead
  writtenHead : t.rep.writtenHead = c.headerHead
  tail : t.rep.tail = c.headerTail
  due : t.rep.statusDue = true
  cur : t.walk.cur = none
  cat : ∀ k, t.cat k = ⟨.current, none, false⟩

theorem State.enterRunning_ran {s : State} {c : Settings} (hhead : c.headerHead % 128 = 0) (hrepeat : c.repeatOn = false)
    (hup : s.up.head = none) (hcur : s.walk.cur = none) (hsaved : s.walk.saved = [])
    (hextents : ∀ e, (s.extent e).state ≠ .preparing ∧ (s.extent e).state ≠ .sealing) :
    Ran c (s.enterRunning c none).syncStatusTimer ∧ (s.enterRunning c none).syncStatusTimer.map.index = s.map.index ∧
      ∀ e, (s.enterRunning c none).syncStatusTimer.extent e = s.extent e := by
  obtain ⟨heq, hrestart⟩ := State.enterRunning_quiet hhead hrepeat hup hcur hsaved hextents
  rw [heq]
  have hrep := (s.ran c).statusDue_rep
  have hmap : (s.ran c).statusDue.syncStatusTimer.map = (s.ran c).map := by simp
  refine ⟨⟨by simp [State.ran, State.loadHeader, State.takeRestart], by simp [State.ran, State.loadHeader, State.takeRestart],
    by simp [State.ran, State.loadHeader, State.takeRestart], by rw [hmap, hrestart], ?_, ?_, ?_, ?_, ?_, fun k => ?_⟩,
    by rw [hmap]; simp [State.ran, State.loadHeader, State.takeRestart],
    fun e => by simp [State.extent, State.ran, State.loadHeader, State.takeRestart]⟩
  · rw [State.syncStatusTimer_rep_head, hrep]
    rfl
  · rw [State.syncStatusTimer_rep_writtenHead, hrep]
    rfl
  · rw [State.syncStatusTimer_rep_tail, hrep]
    rfl
  · rw [State.syncStatusTimer_rep_statusDue, hrep]
  · simpa [State.ran, State.loadHeader, State.takeRestart] using hcur
  · have hldr : (s.ran c).statusDue.syncStatusTimer.ldr = (s.ran c).ldr := by simp
    rw [State.cat, hldr]
    exact Vector.getElem_replicate k.isLt

/-! ### CATALOGUE_WRITE_RETURN (R189) and BLANK_CATALOGUE_WRITE_RETURN (R187) -/

theorem exec_blankWrite {s : State} {i : Fin 256} {b : Fin 17} (status : MediaStatus) (hm : s.mediaUp = true)
    (hlife : (s.slot i).life = .outstanding) (hk : (s.slot i).kind = .injected (.blankWrite b)) (hd : (s.slot i).dead = false) :
    exec (.blankCatalogueWriteReturn i status none) s =
      .next ((s.setSlot i Slot.freeSlot).blankEnded b (normalise .write (s.slot i).count status []) none).syncStatusTimer := by
  have hreturn := State.injReturn_of_outstanding (test := Owner.isBlankWrite) hm hlife hk rfl status [] none
  refine congrArg State.done (hreturn.trans ?_)
  simp [State.ownerEnded, hd, Owner.kind]

theorem exec_catalogueWrite {s : State} {i : Fin 256} {b : Fin 17} (status : MediaStatus) (hm : s.mediaUp = true)
    (hlife : (s.slot i).life = .outstanding) (hk : (s.slot i).kind = .injected (.catalogueWrite b))
    (hd : (s.slot i).dead = false) :
    exec (.catalogueWriteReturn i status none) s =
      .next ((s.setSlot i Slot.freeSlot).catalogueEnded b (normalise .write (s.slot i).count status [])).syncStatusTimer := by
  have hreturn := State.injReturn_of_outstanding (test := Owner.isCatalogueWrite) hm hlife hk rfl status [] none
  refine congrArg State.done (hreturn.trans ?_)
  simp [State.ownerEnded, hd, Owner.kind]

theorem normalise_write_ok {status : MediaStatus} (h : status = .good) (count : Nat) (data : List Byte) :
    normalise .write count status data = .good [] := by
  subst h
  rfl

/-- Of the loader's block that returned, slot and queue aside, nothing changed but what the loader does next. -/
structure LoadGoesOn (i : Fin 256) (s t : State) (l : Load) (r : InjRequest) : Prop where
  part : t.ldr.part = s.ldr.part
  load : t.ldr.load = l
  arb : t.arb = s.arb ++ [r]
  slot : t.slot i = Slot.freeSlot
  others : OtherSlots s t i
  ports : t.ports = s.ports
  shelf : SameShelf s t
  cfg : t.cfg = s.cfg

theorem State.loadGoesOn (s : State) (i : Fin 256) (l : Load) (r : InjRequest) :
    LoadGoesOn i s (((s.setSlot i Slot.freeSlot).setLoad l).enqueue r).syncStatusTimer l r where
  part := by simp [State.setLoad]
  load := by simp [State.setLoad]
  arb := by simp [State.setLoad, State.enqueue]
  slot := by
    rw [State.slot_congr (by simp [State.setLoad] : _ = (s.setSlot i Slot.freeSlot).slots)]
    exact State.slot_setSlot_self ..
  others := OtherSlots.sync (s.otherSlots_setSlot i _)
  ports := by simp [State.setLoad]
  shelf := SameShelf.sync ⟨rfl, rfl, rfl, rfl, rfl⟩
  cfg := by simp [State.setLoad]

theorem State.blankEnded_good {s : State} {b b' : Fin 17} {n : Nat} (hl : s.ldr.load = .blank b' n) (hb : b ≠ 0) {next : Fin 17}
    (hnext : next.val = (b.val + 1) % 17) : s.blankEnded b (.good []) none = (s.setLoad (.blank next 0)).queueBlank next := by
  have hb0 : b.val ≠ 0 := fun h => hb (Fin.ext h)
  have hn : (if h : b.val + 1 < 17 then (⟨b.val + 1, h⟩ : Fin 17) else 0) = next := by
    split
    next h => exact Fin.ext (by rw [hnext, Nat.mod_eq_of_lt h])
    next h => exact Fin.ext (by rw [hnext, show b.val + 1 = 17 by omega]; rfl)
  simp only [State.blankEnded, hl, MediaEnd.isGood, if_true, if_neg hb0, hn]

theorem State.blankEnded_header {s : State} {b' : Fin 17} {n : Nat} (hl : s.ldr.load = .blank b' n) :
    s.blankEnded 0 (.good []) none = s.enterRunning s.blankSettings none := by
  simp [State.blankEnded, hl, MediaEnd.isGood]

theorem State.blankEnded_failed {s : State} {b b' : Fin 17} {n : Nat} (hl : s.ldr.load = .blank b' n) :
    s.blankEnded b .mediaError none =
      if 2 ≤ n then s.loadFails (.catalogueWrite (catalogueAddr (s.controlBase.getD 0) b))
      else (s.setLoad (.blank b (n + 1))).queueBlank b := by
  simp [State.blankEnded, hl, MediaEnd.isGood]

theorem State.queueBlank_eq {s : State} {c : Nat} (h : s.controlBase = some c) (b : Fin 17) :
    s.queueBlank b = s.enqueue (writeOf (.blankWrite b) (c + 34 + b.val)) := by
  simp [State.queueBlank, oneBlock, catalogueAddr, h]

theorem State.setLoad_controlBase (s : State) (l : Load) : (s.setLoad l).controlBase = s.controlBase := rfl

theorem State.queueRead_eq {s : State} {c : Nat} (h : s.controlBase = some c) (b : Fin 17) :
    s.queueRead b = s.enqueue (Machine.readOf (.catalogueRead b) (c + 34 + b.val)) := by
  simp [State.queueRead, oneBlock, catalogueAddr, h]

theorem State.flushBlock_of_none {s : State} (h : s.dir.flush = none) (b : Fin 17) (good : Bool) : s.flushBlock b good = s := by
  simp [State.flushBlock, h]

theorem State.catalogueEnded_current {s : State} (hf : s.dir.flush = none) {b : Fin 17} (hst : (s.cat b).state = .writing) :
    s.catalogueEnded b (.good []) = s.setCat b ⟨.current, none, false⟩ := by
  unfold State.catalogueEnded
  simp only [MediaEnd.isGood, if_true, hst]
  exact State.flushBlock_of_none (s := s.setCat b _) hf ..

theorem State.catalogueEnded_again {s : State} (hf : s.dir.flush = none) {b : Fin 17} (hst : (s.cat b).state = .writingChanged) :
    s.catalogueEnded b (.good []) = (s.setCat b ⟨.changed, none, false⟩).queueCat b := by
  unfold State.catalogueEnded
  simp only [MediaEnd.isGood, if_true, hst]
  exact State.flushBlock_of_none (by simpa using hf) ..

theorem State.catalogueEnded_other {s : State} (hf : s.dir.flush = none) {b : Fin 17} (hw : (s.cat b).state ≠ .writing)
    (hc : (s.cat b).state ≠ .writingChanged) : s.catalogueEnded b (.good []) = s := by
  unfold State.catalogueEnded
  cases hst : (s.cat b).state with
  | writing => exact absurd hst hw
  | writingChanged => exact absurd hst hc
  | changed =>
    simp only [MediaEnd.isGood, if_true]
    exact State.flushBlock_of_none hf ..
  | current =>
    simp only [MediaEnd.isGood, if_true]
    exact State.flushBlock_of_none hf ..

theorem State.catalogueEnded_failed {s : State} (hf : s.dir.flush = none) (b : Fin 17) :
    s.catalogueEnded b .mediaError =
      (s.setCat b ⟨.changed, some (Timer.start Config.dirtyMs), false⟩).logCatalogue .mediaError b := by
  unfold State.catalogueEnded
  simp only [MediaEnd.isGood, Bool.false_eq_true, if_false]
  exact State.flushBlock_of_none (by simpa [State.logCatalogue] using hf) ..

/-- But for catalogue block `b`, slot `i`, the queue and the report writer a catalogue write's return changes nothing. -/
structure CatReturned (i : Fin 256) (b : Fin 17) (s t : State) : Prop where
  slot : t.slot i = Slot.freeSlot
  others : OtherSlots s t i
  ports : t.ports = s.ports
  shelf : SameShelf s t
  cfg : t.cfg = s.cfg
  dir : t.dir = s.dir
  part : t.ldr.part = s.ldr.part
  cats : ∀ k, k ≠ b → t.cat k = s.cat k

theorem catReturned_of {i : Fin 256} {b : Fin 17} {s t : State} (hslots : t.slots = (s.setSlot i Slot.freeSlot).slots)
    (hports : t.ports = s.ports) (hshelf : SameShelf s t) (hcfg : t.cfg = s.cfg) (hdir : t.dir = s.dir)
    (hpart : t.ldr.part = s.ldr.part) (hcats : ∀ k, k ≠ b → t.cat k = s.cat k) : CatReturned i b s t.syncStatusTimer where
  slot := by
    rw [State.slot_congr ((by simp : t.syncStatusTimer.slots = t.slots).trans hslots)]
    exact State.slot_setSlot_self ..
  others := OtherSlots.sync fun j hj => (State.slot_congr hslots j).trans (s.otherSlots_setSlot i _ j hj)
  ports := by simp [hports]
  shelf := hshelf.sync
  cfg := by simp [hcfg]
  dir := by simp [hdir]
  part := by simp [hpart]
  cats k hk := by
    rw [State.cat, (by simp : t.syncStatusTimer.ldr = t.ldr)]
    exact hcats k hk

theorem blankWrite_returns {s : State} {i : Fin 256} {status : MediaStatus} {b : Fin 17} {c n : Nat} (hm : s.mediaUp = true)
    (hc : s.controlBase = some c) (hlife : (s.slot i).life = .outstanding) (hd : (s.slot i).dead = false)
    (hk : (s.slot i).kind = .injected (.blankWrite b)) (hl : s.ldr.load = .blank b n) :
    ∃ t, exec (.blankCatalogueWriteReturn i status none) s = .next t ∧
      (∀ next : Fin 17, status = .good → b ≠ 0 → next.val = (b.val + 1) % 17 →
        LoadGoesOn i s t (.blank next 0) (writeOf (.blankWrite next) (c + 34 + next.val))) ∧
      (∀ x, status = .good → b = 0 → s.ldr.setup = some x → s.walk.cur = none → s.walk.saved = [] →
        s.up.head = none → (∀ e, (s.extent e).state = .free) → Ran (freshHeader x) t) ∧
      (status ≠ .good → n < 2 → LoadGoesOn i s t (.blank b (n + 1)) (writeOf (.blankWrite b) (c + 34 + b.val))) ∧
      (status ≠ .good → 2 ≤ n → LoadFailed s.controlIndex (.catalogueWrite (c + 34 + b.val)) t) := by
  let u := s.setSlot i Slot.freeSlot
  have hstep := exec_blankWrite status hm hlife hk hd
  have hlu : u.ldr.load = .blank b n := hl
  have hcu : ∀ l, (u.setLoad l).controlBase = some c := fun _ => hc
  by_cases hg : status = .good
  · rw [normalise_write_ok hg] at hstep
    refine ⟨_, hstep, fun next _ hb hnext => ?_, fun x _ hb hx hcur hsaved hup hext => ?_, fun h => absurd hg h,
      fun h => absurd hg h⟩
    · rw [State.blankEnded_good hlu hb hnext, State.queueBlank_eq (hcu _)]
      exact s.loadGoesOn i _ _
    · subst hb
      have hsettings : u.blankSettings = freshHeader x := by
        have hxu : u.ldr.setup = some x := hx
        simp only [State.blankSettings, hxu]
      rw [State.blankEnded_header hlu, hsettings]
      exact (State.enterRunning_ran (s := u) rfl rfl hup hcur hsaved fun e => by
        rw [show u.extent e = s.extent e from rfl, hext e]
        simp).1
  · rw [normalise_write_bad hg, State.blankEnded_failed hlu, show u.controlBase = some c from hc] at hstep
    refine ⟨_, hstep, fun _ h => absurd h hg, fun _ h => absurd h hg, fun _ hn => ?_, fun _ hn => ?_⟩
    · rw [if_neg (Nat.not_le.mpr hn), State.queueBlank_eq (hcu _)]
      exact s.loadGoesOn i _ _
    · rw [if_pos hn]
      exact u.loadFails_failed (.catalogueWrite (c + 34 + b.val))

theorem catalogueWrite_returns {s : State} {i : Fin 256} (status : MediaStatus) {b : Fin 17} (hm : s.mediaUp = true)
    (hlife : (s.slot i).life = .outstanding) (hd : (s.slot i).dead = false)
    (hk : (s.slot i).kind = .injected (.catalogueWrite b)) (hf : s.dir.flush = none) :
    ∃ t, exec (.catalogueWriteReturn i status none) s = .next t ∧ CatReturned i b s t ∧
      (status = .good → (s.cat b).state = .writing → t.cat b = ⟨.current, none, false⟩ ∧ t.arb = s.arb) ∧
      (status = .good → (s.cat b).state = .writingChanged → (t.cat b).state = .changed ∧
        t.queued (.catalogueWrite b) = true) ∧
      (status ≠ .good → t.cat b = ⟨.changed, some ⟨5000, 0⟩, false⟩ ∧
        (s.ldr.part = .running → s.rep.full = false → t.rep.head = (s.rep.head + 1) % 4096)) := by
  let u := s.setSlot i Slot.freeSlot
  have hstep := exec_catalogueWrite status hm hlife hk hd
  have hsync : ∀ t : State, t.syncStatusTimer.cat b = t.cat b := fun t => by
    rw [State.cat, (by simp : t.syncStatusTimer.ldr = t.ldr)]
    rfl
  have hset : ∀ (x : CatBlock) k, k ≠ b → (u.setCat b x).cat k = s.cat k := fun x k hk => by
    rw [State.cat_setCat, if_neg hk]
    rfl
  by_cases hg : status = .good
  · rw [normalise_write_ok hg] at hstep
    by_cases hw : (s.cat b).state = .writing
    · rw [State.catalogueEnded_current (s := u) hf hw] at hstep
      refine ⟨_, hstep, catReturned_of rfl rfl ⟨rfl, rfl, rfl, rfl, rfl⟩ rfl rfl rfl (hset _), fun _ _ => ⟨?_, ?_⟩,
        fun _ h => absurd (hw.symm.trans h) (by simp), fun h => absurd hg h⟩
      · rw [hsync, State.cat_setCat, if_pos rfl]
      · simp [u]
    · by_cases hc : (s.cat b).state = .writingChanged
      · rw [State.catalogueEnded_again (s := u) hf hc] at hstep
        let v := u.setCat b ⟨.changed, none, false⟩
        have hldr : (v.queueCat b).ldr = v.ldr := by simp
        refine ⟨_, hstep, catReturned_of (by simp [u]) (by simp [u]) (by simp [SameShelf, u]) (by simp [u]) (by simp [u])
          (by simp [u]) (fun k hk => ?_), fun _ h => absurd h hw, fun _ _ => ⟨?_, ?_⟩, fun h => absurd hg h⟩
        · rw [State.cat, hldr]
          exact hset _ k hk
        · rw [hsync, State.cat, hldr]
          exact congrArg CatBlock.state ((State.cat_setCat u b b _).trans (if_pos rfl))
        · rw [State.queued_sync]
          exact v.queueCat_queued b
      · rw [State.catalogueEnded_other (s := u) hf hw hc] at hstep
        exact ⟨_, hstep, catReturned_of rfl rfl ⟨rfl, rfl, rfl, rfl, rfl⟩ rfl rfl rfl fun _ _ => rfl, fun _ h => absurd h hw,
          fun _ h => absurd h hc, fun h => absurd hg h⟩
  · rw [normalise_write_bad hg, State.catalogueEnded_failed (s := u) hf] at hstep
    let v := u.setCat b ⟨.changed, some (Timer.start Config.dirtyMs), false⟩
    have hldr : (v.logCatalogue .mediaError b).ldr = v.ldr := by simp [State.logCatalogue]
    refine ⟨_, hstep, catReturned_of (by simp [State.logCatalogue, u]) (by simp [State.logCatalogue, u])
      (by simp [SameShelf, State.logCatalogue, u]) (by simp [State.logCatalogue, u]) (by simp [State.logCatalogue, u])
      (by simp [State.logCatalogue, u]) (fun k hk => ?_), fun h => absurd h hg, fun h => absurd h hg,
      fun _ => ⟨?_, fun hp hfull => ?_⟩⟩
    · rw [State.cat, hldr]
      exact hset _ k hk
    · rw [hsync, State.cat, hldr]
      exact (State.cat_setCat u b b _).trans (if_pos rfl)
    · have hlog := State.logged_log (s := v) (v.running_iff.mpr hp) .mediaError none none none
        (lowBits (catalogueAddr (v.controlBase.getD 0) b)) (highBits (catalogueAddr (v.controlBase.getD 0) b)) 0
      rw [State.syncStatusTimer_rep_head]
      exact (hlog.1 hfull).1.trans (Report.place_head ..)

/-- Settles O60. -/
theorem catalogueWritesReturn : Obligations.CatalogueWritesReturn := by
  refine fun s i status b c hm hc hlife hd => ⟨fun n hk hp hl => ?_, fun hk hf => ?_⟩
  · obtain ⟨t, hstep, hnext, hran, hagain, hfails⟩ := blankWrite_returns (status := status) hm hc hlife hd hk hl
    refine ⟨t, hstep, fun next hg hb hn => ?_, fun x hg hb hx hcur hsaved hup hext => ?_, fun hg hn => ?_, fun hg hn => ?_⟩
    · have h := hnext next hg hb hn
      exact ⟨h.part.trans hp, h.load, h.arb, h.slot, h.others, h.ports, h.shelf, h.cfg⟩
    · have h := hran x hg hb hx hcur hsaved hup hext
      exact ⟨h.part, h.cfg, h.head, h.tail, h.due, h.cur, h.restart, h.cat⟩
    · have h := hagain hg hn
      exact ⟨h.part.trans hp, h.load, h.arb, h.shelf, h.cfg⟩
    · have h := hfails hg hn
      exact ⟨h.part, h.fault, h.flag, h.window⟩
  · obtain ⟨t, hstep, h, hgood, hagain, hbad⟩ := catalogueWrite_returns status hm hlife hd hk hf
    exact ⟨t, hstep, h.slot, h.others, h.ports, h.shelf, h.cfg, h.dir, h.part, h.cats, hgood, hagain, hbad⟩

end Sys2Proof.Machine

/-!
PROOFS. CATALOGUE_READ_RETURN: the header, the record blocks, and the load's failure (R186, R187).
-/

namespace Sys2Proof.Machine

theorem exec_catalogueRead {s : State} {i : Fin 256} {b : Fin 17} (status : MediaStatus) (data : List Byte)
    (hm : s.mediaUp = true) (hlife : (s.slot i).life = .outstanding) (hcount : (s.slot i).count = 1)
    (hk : (s.slot i).kind = .injected (.catalogueRead b)) (hd : (s.slot i).dead = false) :
    exec (.catalogueReadReturn i status data none) s =
      .next ((s.setSlot i Slot.freeSlot).readEnded b (normalise .read 1 status data) none).syncStatusTimer := by
  have hreturn := State.injReturn_of_outstanding (test := Owner.isCatalogueRead) hm hlife hk rfl status data none
  rw [hcount] at hreturn
  refine congrArg State.done (hreturn.trans ?_)
  simp [State.ownerEnded, hd, Owner.kind]

theorem isBlank_iff (data : List Byte) : isBlank data = true ↔ data = zeros data.length := by
  simp [isBlank, zeros, List.eq_replicate_iff]

theorem isBlank_zeros (n : Nat) : isBlank (zeros n) = true := (isBlank_iff _).mpr (by simp [zeros])

theorem isBlank_of_ne {data : List Byte} (hlen : data.length = 4096) (h : data ≠ zeros 4096) : isBlank data = false := by
  rw [Bool.eq_false_iff, ne_eq, isBlank_iff, hlen]
  exact h

/-- The header's return, by what it holds (R186, R187). -/
theorem State.readEnded_header {s : State} {n : Nat} (hl : s.ldr.load = .header n) (b : Fin 17) (data : List Byte) :
    s.readEnded b (.good data) none = s.takeHeader data := by
  simp [State.readEnded, hl]

theorem State.takeHeader_blank {s : State} {data : List Byte} (h : isBlank data = true) :
    s.takeHeader data = (s.setLoad (.blank 1 0)).queueBlank 1 := if_pos h

theorem State.takeHeader_bad {s : State} {data : List Byte} (h : isBlank data = false) (hd : decodeHeader data = none) :
    s.takeHeader data = s.loadFails .catalogueHeader := by
  simp [State.takeHeader, h, hd]

/-- The load with the header known and no record block read. -/
def Load.begun (h : Settings) : Load := .records h (Vector.replicate 16 none) (Vector.replicate 16 0)

theorem recordBlocks_eq : (allFin 17).drop 1 = (List.finRange 16).map Fin.succ := by
  unfold allFin
  rw [List.finRange_succ]
  rfl

theorem State.takeHeader_records {s : State} {data : List Byte} {h : Settings} {c : Nat} (hblank : isBlank data = false)
    (hd : decodeHeader data = some h) (hc : s.controlBase = some c) :
    s.takeHeader data = { s.setLoad (Load.begun h) with
      arb := s.arb ++ (List.finRange 16).map fun b => Machine.readOf (.catalogueRead b.succ) (c + 35 + b.val) } := by
  have hloop := State.forEach_enqueue
    (fun (b : Fin 17) t => oneBlock (.catalogueRead b) .read (catalogueAddr (t.controlBase.getD 0) b)) (fun _ _ _ => rfl)
    ((List.finRange 16).map Fin.succ) (s.setLoad (Load.begun h))
  have hbase : (s.setLoad (Load.begun h)).controlBase = some c := hc
  have haddr : ∀ b : Fin 16, catalogueAddr c b.succ = c + 35 + b.val := fun b => by
    simp only [catalogueAddr, Fin.val_succ]
    omega
  simp only [State.takeHeader, hblank, Bool.false_eq_true, if_false, hd, recordBlocks_eq]
  refine hloop.trans ?_
  rw [hbase, List.map_map]
  simp only [Function.comp_def, Option.getD_some, oneBlock, haddr]
  rfl

/-- A read that failed: the third failure on a block ends the load, a first or second queues it again (R186). -/
theorem State.readEnded_failed_header {s : State} {n c : Nat} (hl : s.ldr.load = .header n) (hc : s.controlBase = some c)
    (b : Fin 17) : s.readEnded b .mediaError none =
      if 2 ≤ n then s.loadFails (.catalogueRead (c + 34 + b.val))
      else (s.setLoad (.header (n + 1))).enqueue (Machine.readOf (.catalogueRead b) (c + 34 + b.val)) := by
  simp only [State.readEnded, State.readFailed, hl, hc, Option.getD_some, catalogueAddr]
  split
  · rfl
  · exact State.queueRead_eq ((s.setLoad_controlBase _).trans hc) b

theorem recordIndex_succ (j : Fin 16) : recordIndex j.succ = j := Fin.ext (by simp [recordIndex])

theorem State.readEnded_failed_record {s : State} {h : Settings} {got : Vector (Option (List Byte)) 16} {tries : Vector Nat 16}
    {c : Nat} (hl : s.ldr.load = .records h got tries) (hc : s.controlBase = some c) (j : Fin 16) :
    s.readEnded j.succ .mediaError none =
      if 2 ≤ tries[j] then s.loadFails (.catalogueRead (c + 35 + j.val))
      else (s.setLoad (.records h got (tries.set j (tries[j] + 1)))).enqueue
        (Machine.readOf (.catalogueRead j.succ) (c + 35 + j.val)) := by
  have haddr : c + 34 + (j.succ : Fin 17).val = c + 35 + j.val := by
    simp only [Fin.val_succ]
    omega
  simp only [State.readEnded, State.readFailed, hl, hc, Option.getD_some, catalogueAddr, recordIndex_succ, haddr]
  split
  · rfl
  · rw [← haddr]
    exact State.queueRead_eq ((s.setLoad_controlBase _).trans hc) _

/-- A record block's return with the others of the load (R186). -/
theorem State.readEnded_record {s : State} {h : Settings} {got : Vector (Option (List Byte)) 16} {tries : Vector Nat 16}
    (hl : s.ldr.load = .records h got tries) (j : Fin 16) (data : List Byte) :
    s.readEnded j.succ (.good data) none =
      if (got.set j (some data)).toList.all Option.isSome then
        s.takeRecords h ((got.set j (some data)).toList.filterMap id) none
      else s.setLoad (.records h (got.set j (some data)) tries) := by
  simp only [State.readEnded, hl, State.takeBlock, recordIndex_succ]

theorem State.takeRecords_bad {s : State} {blocks : List (List Byte)} {cause : FaultCause}
    (h : loadRecords s.capacity (blocks.flatMap recordsOf) 0 s.controlIndex = .error cause) (c : Settings) :
    s.takeRecords c blocks none = s.loadFails cause := by
  unfold State.takeRecords
  change (match loadRecords s.capacity _ 0 s.controlIndex with | .error cause => _ | .ok r => _) = _
  rw [h]

theorem State.takeRecords_ok {s : State} {blocks : List (List Byte)} {r : List Extent × List Range}
    (h : loadRecords s.capacity (blocks.flatMap recordsOf) 0 s.controlIndex = .ok r) (c : Settings) :
    s.takeRecords c blocks none = (s.loadMap r.1 r.2).enterRunning c none := by
  unfold State.takeRecords
  change (match loadRecords s.capacity _ 0 s.controlIndex with | .error cause => _ | .ok r => _) = _
  rw [h]

theorem State.loadMap_extent (s : State) (es : List Extent) (index : List Range) (e : Fin 1024) :
    (s.loadMap es index).extent e = es.getD e.val Extent.freeForm := Vector.getElem_ofFn e.isLt

/-- The loader goes on with other requests queued; nothing else changes but the slot. -/
theorem State.headerTaken (s : State) (i : Fin 256) (l : Load) (arb : List InjRequest) :
    let t := State.syncStatusTimer { (s.setSlot i Slot.freeSlot).setLoad l with arb := arb }
    t.ldr.part = s.ldr.part ∧ t.ldr.load = l ∧ t.cfg = s.cfg ∧ SameShelf s t ∧ t.arb = arb :=
  ⟨by simp [State.setLoad], by simp [State.setLoad], by simp [State.setLoad], SameShelf.sync ⟨rfl, rfl, rfl, rfl, rfl⟩, by simp⟩

theorem headerRead_returns {s : State} {i : Fin 256} {status : MediaStatus} {data : List Byte} {c n : Nat}
    (hm : s.mediaUp = true) (hc : s.controlBase = some c) (hlife : (s.slot i).life = .outstanding)
    (hd : (s.slot i).dead = false) (hcount : (s.slot i).count = 1) (hl : s.ldr.load = .header n)
    (hk : (s.slot i).kind = .injected (.catalogueRead 0)) :
    ∃ t, exec (.catalogueReadReturn i status data none) s = .next t ∧
      (status = .good ∧ data = zeros 4096 → LoadGoesOn i s t (.blank 1 0) (writeOf (.blankWrite 1) (c + 35))) ∧
      (status = .good ∧ data.length = 4096 ∧ data ≠ zeros 4096 →
        (decodeHeader data = none → LoadFailed s.controlIndex .catalogueHeader t) ∧
        (∀ h, decodeHeader data = some h → t.ldr.part = s.ldr.part ∧ t.ldr.load = Load.begun h ∧ t.cfg = s.cfg ∧ SameShelf s t ∧
          t.arb = s.arb ++ (List.finRange 16).map fun b => readOf (.catalogueRead b.succ) (c + 35 + b.val))) ∧
      (status ≠ .good ∨ data.length ≠ 4096 →
        (n < 2 → LoadGoesOn i s t (.header (n + 1)) (readOf (.catalogueRead 0) (c + 34))) ∧
        (2 ≤ n → LoadFailed s.controlIndex (.catalogueRead (c + 34)) t)) := by
  let u := s.setSlot i Slot.freeSlot
  have hlu : u.ldr.load = .header n := hl
  have hstep := exec_catalogueRead status data hm hlife hcount hk hd
  by_cases hgood : status = .good ∧ data.length = 4096
  · obtain ⟨hg, hlen⟩ := hgood
    rw [normalise_read_good hg hlen, State.readEnded_header hlu] at hstep
    refine ⟨_, hstep, fun h => ?_, fun h => ⟨fun hdec => ?_, fun x hdec => ?_⟩,
      fun h => h.elim (absurd hg) (absurd hlen)⟩
    · rw [State.takeHeader_blank (by rw [h.2]; exact isBlank_zeros _), State.queueBlank_eq ((u.setLoad_controlBase _).trans hc)]
      exact s.loadGoesOn i _ _
    · rw [State.takeHeader_bad (isBlank_of_ne hlen h.2.2) hdec]
      exact u.loadFails_failed _
    · rw [State.takeHeader_records (s := u) (isBlank_of_ne hlen h.2.2) hdec (c := c) hc]
      exact s.headerTaken i (Load.begun x) _
  · have hbad : status ≠ .good ∨ data.length ≠ 4096 := not_and_or.mp hgood
    rw [normalise_read_bad hbad, State.readEnded_failed_header (c := c) hlu hc] at hstep
    refine ⟨_, hstep, fun h => absurd ⟨h.1, (congrArg List.length h.2).trans List.length_replicate⟩ hgood, fun h => absurd ⟨h.1, h.2.1⟩ hgood,
      fun _ => ⟨fun hn => ?_, fun hn => ?_⟩⟩
    · rw [if_neg (Nat.not_le.mpr hn)]
      exact s.loadGoesOn i _ _
    · rw [if_pos hn]
      exact u.loadFails_failed _

theorem recordRead_returns {s : State} {i : Fin 256} {status : MediaStatus} {data : List Byte} {c : Nat}
    {h : Settings} {got : Vector (Option (List Byte)) 16} {tries : Vector Nat 16} {j : Fin 16}
    (hm : s.mediaUp = true) (hc : s.controlBase = some c) (hlife : (s.slot i).life = .outstanding)
    (hd : (s.slot i).dead = false) (hcount : (s.slot i).count = 1) (hl : s.ldr.load = .records h got tries)
    (hk : (s.slot i).kind = .injected (.catalogueRead j.succ)) :
    let all := (got.set j (some data)).toList
    let records := (all.filterMap id).flatMap recordsOf
    ∃ t, exec (.catalogueReadReturn i status data none) s = .next t ∧
      (status = .good ∧ data.length = 4096 →
        (all.all Option.isSome = false → t.ldr.part = s.ldr.part ∧ t.ldr.load = .records h (got.set j (some data)) tries ∧
          t.slot i = Slot.freeSlot ∧ OtherSlots s t i ∧ t.arb = s.arb ∧ t.ports = s.ports ∧ SameShelf s t ∧ t.cfg = s.cfg) ∧
        (∀ cause, all.all Option.isSome = true → loadRecords s.capacity records 0 s.controlIndex = .error cause →
          LoadFailed s.controlIndex cause t) ∧
        (∀ r, all.all Option.isSome = true → loadRecords s.capacity records 0 s.controlIndex = .ok r →
          (∀ x ∈ r.1, x.state ≠ .preparing ∧ x.state ≠ .sealing) → h.repeatOn = false → h.headerHead % 128 = 0 →
          s.up.head = none → s.walk.cur = none → s.walk.saved = [] →
          Ran h t ∧ t.map.index = r.2 ∧ ∀ e : Fin 1024, t.extent e = r.1.getD e.val Extent.freeForm)) ∧
      (status ≠ .good ∨ data.length ≠ 4096 →
        (tries[j] < 2 → LoadGoesOn i s t (.records h got (tries.set j (tries[j] + 1)))
          (readOf (.catalogueRead j.succ) (c + 35 + j.val))) ∧
        (2 ≤ tries[j] → LoadFailed s.controlIndex (.catalogueRead (c + 35 + j.val)) t)) := by
  intro all records
  let u := s.setSlot i Slot.freeSlot
  have hlu : u.ldr.load = .records h got tries := hl
  have hstep := exec_catalogueRead status data hm hlife hcount hk hd
  by_cases hgood : status = .good ∧ data.length = 4096
  · obtain ⟨hg, hlen⟩ := hgood
    rw [normalise_read_good hg hlen, State.readEnded_record hlu] at hstep
    refine ⟨_, hstep, fun _ => ⟨fun hall => ?_, fun cause hall hrec => ?_, fun r hall hrec hst hrep hhead hup hcur hsaved => ?_⟩,
      fun hb => hb.elim (absurd hg) (absurd hlen)⟩
    · rw [if_neg (by rw [Bool.not_eq_true]; exact hall)]
      refine ⟨by simp [State.setLoad, u], by simp [State.setLoad], ?_, OtherSlots.sync (s.otherSlots_setSlot i _),
        by simp [State.setLoad, u], by simp [State.setLoad, u], SameShelf.sync ⟨rfl, rfl, rfl, rfl, rfl⟩, by simp [State.setLoad, u]⟩
      rw [State.slot_congr (by simp [State.setLoad] : _ = u.slots)]
      exact State.slot_setSlot_self ..
    · rw [if_pos hall, State.takeRecords_bad (s := u) hrec]
      exact u.loadFails_failed _
    · rw [if_pos hall, State.takeRecords_ok (s := u) hrec]
      obtain ⟨hran, hindex, hext⟩ := State.enterRunning_ran (s := u.loadMap r.1 r.2) hhead hrep hup hcur hsaved fun e => by
        rw [State.loadMap_extent, List.getD_eq_getElem?_getD]
        cases hx : r.1[e.val]? with
        | none => simp [Extent.freeForm]
        | some x => exact hst x (List.mem_of_getElem? hx)
      exact ⟨hran, hindex, fun e => (hext e).trans (State.loadMap_extent ..)⟩
  · have hbad : status ≠ .good ∨ data.length ≠ 4096 := not_and_or.mp hgood
    rw [normalise_read_bad hbad, State.readEnded_failed_record (c := c) hlu hc] at hstep
    refine ⟨_, hstep, fun hg => absurd hg hgood, fun _ => ⟨fun hn => ?_, fun hn => ?_⟩⟩
    · rw [if_neg (Nat.not_le.mpr hn)]
      exact s.loadGoesOn i _ _
    · rw [if_pos hn]
      exact u.loadFails_failed _

/-- Settles O59. -/
theorem catalogueReads : Obligations.CatalogueReads := by
  intro s i status data c hm hp hc hlife hd hcount
  have hindex := State.controlIndex_of_base hc
  refine ⟨fun n hl hk => ?_, fun h got tries j hl hk => ?_⟩
  · obtain ⟨t, hstep, hblank, hread, hfailed⟩ := headerRead_returns (status := status) (data := data) hm hc hlife hd hcount hl hk
    refine ⟨t, hstep, fun hg => ?_, fun hg => ⟨fun hdec => ?_, fun x hdec => ?_⟩, fun hb => ⟨fun hn => ?_, fun hn => ?_⟩⟩
    · have g := hblank hg
      exact ⟨g.part.trans hp, g.load, g.arb, g.slot, g.others, g.ports, g.shelf, g.cfg⟩
    · have g := (hread hg).1 hdec
      exact ⟨g.part, g.fault, g.flag, g.index.trans hindex⟩
    · obtain ⟨hpart, hload, hcfg, hshelf, harb⟩ := (hread hg).2 x hdec
      exact ⟨hpart.trans hp, hload, hcfg, hshelf, harb⟩
    · have g := (hfailed hb).1 hn
      exact ⟨g.part.trans hp, g.load, g.arb, g.shelf, g.cfg⟩
    · have g := (hfailed hb).2 hn
      exact ⟨g.part, g.fault, g.flag, g.window⟩
  · obtain ⟨t, hstep, hread, hfailed⟩ := recordRead_returns (status := status) (data := data) hm hc hlife hd hcount hl hk
    rw [hindex] at hread
    refine ⟨t, hstep, fun hg => ⟨fun hall => ?_, fun cause hall hrec => ?_, fun r hall hrec hst hrep hhead hup hcur hsaved => ?_⟩,
      fun hb => ⟨fun hn => ?_, fun hn => ?_⟩⟩
    · obtain ⟨hpart, hrest⟩ := (hread hg).1 hall
      exact ⟨hpart.trans hp, hrest⟩
    · have g := (hread hg).2.1 cause hall hrec
      exact ⟨g.part, g.fault, g.flag, g.index, g.extents⟩
    · obtain ⟨g, hix, hext⟩ := (hread hg).2.2 r hall hrec hst hrep hhead hup hcur hsaved
      exact ⟨g.part, g.load, g.cfg, hix, g.restart, hext, g.head, g.writtenHead, g.tail, g.due, g.cur, g.cat⟩
    · have g := (hfailed hb).1 hn
      exact ⟨g.part.trans hp, g.load, g.arb, g.shelf, g.cfg⟩
    · have g := (hfailed hb).2 hn
      exact ⟨g.part, g.fault, g.flag, g.window⟩

end Sys2Proof.Machine

/-!
PROOFS. The media link goes down with the engines idle (R103): the slots, the lines being read, the owners cut off.
-/

namespace Sys2Proof.Machine

/-! ### Loops over a table -/

/-- A loop only one turn of which does anything. -/
theorem forEach_single {α : Type} {xs : List α} {f : α → State → State} {x : α} {s : State} (hnodup : xs.Nodup) (hx : x ∈ xs)
    (hbefore : ∀ y ∈ xs, y ≠ x → f y s = s) (hafter : ∀ y ∈ xs, y ≠ x → f y (f x s) = f x s) : forEach xs f s = f x s := by
  obtain ⟨before, after, rfl⟩ := List.append_of_mem hx
  obtain ⟨-, hrest, hdisj⟩ := List.nodup_append.mp hnodup
  have hne1 : ∀ y ∈ before, y ≠ x := fun y hy => hdisj y hy x (List.mem_cons_self ..)
  have hne2 : ∀ y ∈ after, y ≠ x := fun y hy h => (List.nodup_cons.mp hrest).1 (h ▸ hy)
  have hsplit : forEach (before ++ x :: after) f s = forEach after f (f x (forEach before f s)) := by
    simp [forEach, List.foldl_append]
  rw [hsplit, forEach_fixed fun y hy => hbefore y (List.mem_append_left _ hy) (hne1 y hy)]
  exact forEach_fixed fun y hy => hafter y (List.mem_append_right _ (List.mem_cons_of_mem _ hy)) (hne2 y hy)

/-- Two loops are alike where their turns are alike in the states the second runs through. -/
theorem forEach_congr {α : Type} {Q : State → Prop} {f g : α → State → State} (h : ∀ x t, Q t → f x t = g x t)
    (hkeep : ∀ x t, Q t → Q (g x t)) (xs : List α) {s : State} (hs : Q s) : forEach xs f s = forEach xs g s := by
  induction xs generalizing s with
  | nil => rfl
  | cons x xs ih =>
    change forEach xs f (f x s) = forEach xs g (g x s)
    rw [h x s hs]
    exact ih (hkeep x s hs)

/-- A list only one item of which yields something. -/
theorem filterMap_single {α β : Type} {xs : List α} {f : α → Option β} {x : α} {b : β} (hnodup : xs.Nodup) (hx : x ∈ xs)
    (hfx : f x = some b) (hne : ∀ y ∈ xs, y ≠ x → f y = none) : xs.filterMap f = [b] := by
  obtain ⟨before, after, rfl⟩ := List.append_of_mem hx
  obtain ⟨-, hrest, hdisj⟩ := List.nodup_append.mp hnodup
  have h1 : before.filterMap f = [] := List.filterMap_eq_nil_iff.mpr fun y hy =>
    hne y (List.mem_append_left _ hy) (hdisj y hy x (List.mem_cons_self ..))
  have h2 : after.filterMap f = [] := List.filterMap_eq_nil_iff.mpr fun y hy =>
    hne y (List.mem_append_right _ (List.mem_cons_of_mem _ hy)) fun h => (List.nodup_cons.mp hrest).1 (h ▸ hy)
  simp [List.filterMap_append, h1, h2, hfx]

/-! ### The owners cut off -/

/-- The owner of a slot whose injected request is OUTSTANDING with a result that counts. -/
def Slot.cutOwner (x : Slot) : Option Owner :=
  match x.kind with
  | .injected o => if x.life = .outstanding ∧ x.dead = false then some o else none
  | .passthrough _ => none

theorem State.cutOwners_eq (s : State) : s.cutOwners = (allFin 256).filterMap fun i => (s.slot i).cutOwner := by
  have hlist : s.slots.toList = (allFin 256).map s.slot := by
    refine List.ext_getElem (by simp [allFin]) fun i hi hj => ?_
    simp [allFin, State.slot]
  unfold State.cutOwners
  rw [hlist, List.filterMap_map]
  rfl

theorem Slot.cutOwner_of_free {x : Slot} (h : x.life = .free) : x.cutOwner = none := by
  unfold Slot.cutOwner
  cases x.kind <;> simp [h]

theorem State.cutOwners_of_free {s : State} (h : ∀ i, (s.slot i).life = .free) : s.cutOwners = [] := by
  rw [State.cutOwners_eq]
  exact List.filterMap_eq_nil_iff.mpr fun i _ => Slot.cutOwner_of_free (h i)

theorem State.cutOwners_of_passthrough {s : State} {i : Fin 256} {k : ReqKind} (hk : (s.slot i).kind = .passthrough k)
    (h : ∀ j, j ≠ i → (s.slot j).life = .free) : s.cutOwners = [] := by
  rw [State.cutOwners_eq]
  refine List.filterMap_eq_nil_iff.mpr fun j _ => ?_
  by_cases hj : j = i
  · simp [hj, Slot.cutOwner, hk]
  · exact Slot.cutOwner_of_free (h j hj)

theorem State.cutOwners_of_injected {s : State} {i : Fin 256} {o : Owner} (hlife : (s.slot i).life = .outstanding)
    (hk : (s.slot i).kind = .injected o) (hd : (s.slot i).dead = false) (h : ∀ j, j ≠ i → (s.slot j).life = .free) :
    s.cutOwners = [o] := by
  rw [State.cutOwners_eq]
  exact filterMap_single (List.nodup_finRange 256) (List.mem_finRange i) (by simp [Slot.cutOwner, hk, hlife, hd])
    fun j _ hj => Slot.cutOwner_of_free (h j hj)

/-! ### The slots (R103) -/

theorem State.slotLinkDown_of_free {s : State} {i : Fin 256} (h : (s.slot i).life = .free) : s.slotLinkDown i = s := by
  unfold State.slotLinkDown
  simp only [h]

theorem State.slotsLinkDown_of_free {s : State} (h : ∀ i, (s.slot i).life = .free) :
    forEach (allFin 256) (fun i t => t.slotLinkDown i) s = s := forEach_fixed fun i _ => State.slotLinkDown_of_free (h i)

theorem State.slotsLinkDown_of_one {s : State} {i : Fin 256} (h : ∀ j, j ≠ i → (s.slot j).life = .free)
    (hothers : OtherSlots s (s.slotLinkDown i) i) :
    forEach (allFin 256) (fun i t => t.slotLinkDown i) s = s.slotLinkDown i :=
  forEach_single (List.nodup_finRange 256) (List.mem_finRange i) (fun j _ hj => State.slotLinkDown_of_free (h j hj))
    fun j _ hj => State.slotLinkDown_of_free (by rw [hothers j hj, h j hj])

/-! ### The lines being read (R53, R55, R60) -/

/-- Nothing differs but the digest store, and of it not the line queue. -/
def OnStore (s t : State) : Prop := t = { s with store := t.store } ∧ t.store.queue = s.store.queue

theorem OnStore.refl (s : State) : OnStore s s := ⟨rfl, rfl⟩

theorem OnStore.trans {s t u : State} (h : OnStore s t) (k : OnStore t u) : OnStore s u := by
  refine ⟨?_, k.2.trans h.2⟩
  rw [k.1, h.1]

/-- The read of line `l` is lost, nobody waiting for it. -/
def State.readLost (s : State) (l : Fin 64) : State :=
  if (s.line l).state = .filling then s.invalidate l
  else if (s.line l).refilling then s.setLine l { s.line l with refilling := false }
  else s

theorem State.readLost_onStore (s : State) (l : Fin 64) : OnStore s (s.readLost l) := by
  unfold State.readLost
  split
  · exact ⟨rfl, rfl⟩
  · split
    · exact ⟨rfl, rfl⟩
    · exact OnStore.refl s

theorem State.readLost_line (s : State) (l k : Fin 64) :
    (s.readLost l).line k = if k = l then (s.line l).linkLost else s.line k := by
  unfold State.readLost Line.linkLost
  by_cases hk : k = l
  · subst hk
    rw [if_pos rfl]
    split
    · exact s.invalidate_line k
    · split
      · exact State.line_setLine_self ..
      next hr => rw [Bool.not_eq_true] at hr; rw [← hr]
  · rw [if_neg hk]
    split
    · exact (s.invalidate_onLine l).lines k hk
    · split
      · exact (s.setLine_onLine l _).lines k hk
      · rfl

/-- The engines are idle, no request is at the head, and nothing waits for a line being read. -/
def State.readsIdle (s : State) : Prop := s.enginesIdle ∧ s.up.head = none ∧ s.noneAwaitReads

theorem State.lineLinkDown_idle {s : State} (h : s.readsIdle) (l : Fin 64) : s.lineLinkDown l = s.readLost l := by
  obtain ⟨hidle, hhead, hf, hw⟩ := h
  unfold State.lineLinkDown State.readLost
  split
  next hfill => exact State.fillLost_idle hidle hf (by simp [State.headWaitsOn, hhead]) (hw l (.inl hfill))
  next => split
          next hr => exact State.refillLost_idle hidle hf (hw l (.inr hr))
          next => rfl

theorem State.readsIdle_of_onStore {s t : State} (h : s.readsIdle) (k : OnStore s t)
    (hl : ∀ l, t.line l = s.line l ∨ t.line l = (s.line l).linkLost) : t.readsIdle := by
  obtain ⟨hidle, hhead, hf, hw⟩ := h
  have hwalk : t.walk = s.walk := (congrArg State.walk k.1).trans rfl
  have hmend : t.mend = s.mend := (congrArg State.mend k.1).trans rfl
  have hup : t.up = s.up := (congrArg State.up k.1).trans rfl
  have hdir : t.dir = s.dir := (congrArg State.dir k.1).trans rfl
  refine ⟨by unfold State.enginesIdle; rw [hwalk, hmend]; exact hidle, by rw [hup, hhead], by rw [hdir, hf], fun l hr => ?_⟩
  rcases hl l with h | h
  · rw [h] at hr ⊢
    exact hw l hr
  · rw [h] at hr ⊢
    unfold Line.linkLost at hr ⊢
    split
    · rfl
    next hne =>
      rw [if_neg hne] at hr
      exact absurd (hr.resolve_right (by simp)) hne

/-- The lines being read lose their reads, and nothing else happens. -/
theorem State.linesLinkDown_idle {s : State} (h : s.readsIdle) {ls : List (Fin 64)} (hnodup : ls.Nodup) :
    OnStore s (forEach ls (fun l t => t.lineLinkDown l) s) ∧
      ∀ k, (forEach ls (fun l t => t.lineLinkDown l) s).line k = if k ∈ ls then (s.line k).linkLost else s.line k := by
  have hloop : forEach ls (fun l t => t.lineLinkDown l) s = forEach ls (fun l t => t.readLost l) s :=
    forEach_congr (Q := State.readsIdle) (fun l _ ht => State.lineLinkDown_idle ht l)
      (fun l t ht => State.readsIdle_of_onStore ht (t.readLost_onStore l) fun k => by
        rw [State.readLost_line]
        by_cases hk : k = l <;> simp [hk]) ls h
  rw [hloop]
  exact ⟨forEach_induct OnStore.refl OnStore.trans (fun l t => t.readLost_onStore l) ls s,
    fun k => forEach_pointwise State.line Line.linkLost (fun l t k => t.readLost_line l k) hnodup s k⟩

theorem Line.linkLost_of_settled {x : Line} (h : x.state ≠ .filling) (hr : x.refilling = false) : x.linkLost = x := by
  unfold Line.linkLost
  rw [if_neg h, ← hr]

theorem State.mem_readingLines (s : State) (l : Fin 64) :
    l ∈ s.readingLines ↔ (s.line l).state = .filling ∨ (s.line l).refilling = true := by
  simp [State.readingLines, allFin]

theorem State.line_of_notReading {s : State} {l : Fin 64} (h : l ∉ s.readingLines) : (s.line l).linkLost = s.line l := by
  rw [State.mem_readingLines, not_or, Bool.not_eq_true] at h
  exact Line.linkLost_of_settled h.1 h.2

theorem State.readingLines_nodup (s : State) : s.readingLines.Nodup := (List.nodup_finRange 64).filter _

/-! ### The media link goes down -/

/-- The walk and the mend are as they were; of the loader but the catalogue's marks and the reads' queue nothing differs. -/
theorem State.ownerLinkDown_engines (o : Owner) (s : State) :
    (s.ownerLinkDown o).walk = s.walk ∧ (s.ownerLinkDown o).mend = s.mend := by
  cases o with
  | writeback l => exact ⟨(s.cutWriteback_settled l).walk, (s.cutWriteback_settled l).mend⟩
  | catalogueWrite b => exact ⟨(s.cutCatalogue_settled b).walk, (s.cutCatalogue_settled b).mend⟩
  | _ => exact ⟨rfl, rfl⟩

theorem State.engines_at_rest {s : State} (h : s.enginesIdle) : s.cutWalk.cutMend.feedWalk.feedMend.pokeWalk = s := by
  obtain ⟨hw, hm⟩ := h
  have h1 : s.cutWalk = s := by simp [State.cutWalk, hw]
  have h2 : s.cutMend = s := by simp [State.cutMend, hm]
  have h3 : s.feedWalk = s := by simp [State.feedWalk, hw]
  have h4 : s.feedMend = s := by simp [State.feedMend, hm]
  have h5 : s.pokeWalk = s := by simp [State.pokeWalk, hw]
  rw [h1, h2, h3, h4, h5]

/-- With the engines idle and no request at the head the media link's loss is the loss of the slots, of the reads, and what
the owners cut off do. -/
theorem State.mediaLost_idle {s u : State} (hhead : s.up.head = none)
    (hslots : forEach (allFin 256) (fun i t => t.slotLinkDown i) { s with mediaUp := false } = u) (hu : u.readsIdle) :
    ∃ v, OnStore (u.withdraw Owner.isLineRead) v ∧
      (∀ l, v.line l = if l ∈ s.readingLines then (u.line l).linkLost else u.line l) ∧
      s.mediaLost = forEach s.cutOwners (fun o t => t.ownerLinkDown o) v := by
  obtain ⟨hstore, hline⟩ := State.linesLinkDown_idle (s := u.withdraw Owner.isLineRead) hu s.readingLines_nodup
  refine ⟨_, hstore, hline, ?_⟩
  have hanswer : State.answerHead { s with mediaUp := false } .mediaError = { s with mediaUp := false } := by
    simp [State.answerHead, hhead]
  unfold State.mediaLost
  simp only [hanswer, hslots]
  refine State.engines_at_rest ?_
  have hkeep := forEach_induct (P := fun s t : State => t.walk = s.walk ∧ t.mend = s.mend) (fun _ => ⟨rfl, rfl⟩)
    (fun h k => ⟨k.1.trans h.1, k.2.trans h.2⟩) (fun o t => State.ownerLinkDown_engines o t) s.cutOwners
    (forEach s.readingLines (fun l t => t.lineLinkDown l) (u.withdraw Owner.isLineRead))
  unfold State.enginesIdle
  rw [hkeep.1, hkeep.2, congrArg State.walk hstore.1, congrArg State.mend hstore.1]
  exact hu.1

/-! ### What each owner cut off does (R58, R173, R179, R186, R187, R189) -/

theorem State.unpinSlot_line (s : State) (i : Fin 256) (l : Fin 64) :
    (l ∉ (s.slot i).pins → (s.unpinSlot i).line l = s.line l) ∧
      ((s.unpinSlot i).line l).state = (s.line l).state ∧ ((s.unpinSlot i).line l).refilling = (s.line l).refilling ∧
      ((s.unpinSlot i).line l).waiting = (s.line l).waiting := by
  have hall : ∀ (ps : List (Fin 64)) (t : State), (l ∉ ps → (forEach ps (fun k t => t.unpin k) t).line l = t.line l) ∧
      ((forEach ps (fun k t => t.unpin k) t).line l).state = (t.line l).state ∧
      ((forEach ps (fun k t => t.unpin k) t).line l).refilling = (t.line l).refilling ∧
      ((forEach ps (fun k t => t.unpin k) t).line l).waiting = (t.line l).waiting := by
    intro ps
    induction ps with
    | nil => exact fun _ => ⟨fun _ => rfl, rfl, rfl, rfl⟩
    | cons p ps ih =>
      intro t
      obtain ⟨hline, hst, hrf, hw⟩ := ih (t.unpin p)
      have hcons : forEach (p :: ps) (fun k t => State.unpin t k) t = forEach ps (fun k t => t.unpin k) (t.unpin p) := rfl
      have hone : ((t.unpin p).line l).state = (t.line l).state ∧ ((t.unpin p).line l).refilling = (t.line l).refilling ∧
          ((t.unpin p).line l).waiting = (t.line l).waiting := by
        unfold State.unpin
        rw [State.line_setLine]
        split
        next h => rw [h]; exact ⟨rfl, rfl, rfl⟩
        next => exact ⟨rfl, rfl, rfl⟩
      rw [hcons]
      refine ⟨fun h => (hline fun c => h (List.mem_cons_of_mem _ c)).trans ?_, hst.trans hone.1, hrf.trans hone.2.1,
        hw.trans hone.2.2⟩
      unfold State.unpin
      rw [State.line_setLine, if_neg fun c => h (by rw [c]; exact List.mem_cons_self ..)]
  exact hall _ s

theorem State.cutWriteback_line (s : State) {l : Fin 64} (h : (s.line l).state.writes = true) :
    (s.cutWriteback l).line l = { s.line l with state := .dirty, dirtyTimer := some (Timer.start Config.dirtyMs), cut := true,
                                                retrigger := false } := by
  unfold State.cutWriteback
  rw [if_pos h]
  exact (State.becomeDirty_line _ l).trans (by rw [State.line_setLine_self]; rfl)

theorem State.cutWriteback_other (s : State) {l k : Fin 64} (h : k ≠ l) : (s.cutWriteback l).line k = s.line k := by
  unfold State.cutWriteback
  dsimp only
  split
  · exact ((State.becomeDirty_onLine _ l).lines k h).trans ((s.setLine_onLine l _).lines k h)
  · rfl

theorem State.cutCatalogue_cat (s : State) (b : Fin 17) : (s.cutCatalogue b).cat b = ⟨.changed, none, true⟩ :=
  (State.cat_setCat s b b _).trans (if_pos rfl)

theorem Report.logLost_shot (r : Report) : r.logLost.logShot = none ∧ r.logLost.completed = r.completed ∧
    r.logLost.writtenHead = r.writtenHead := by
  unfold Report.logLost
  split
  · split <;> exact ⟨rfl, rfl, rfl⟩
  · exact ⟨rfl, rfl, rfl⟩

/-- What every owner's act leaves alone (R103). -/
structure OwnerActed (o : Owner) (s t : State) : Prop where
  mediaUp : t.mediaUp = s.mediaUp
  slots : t.slots = s.slots
  ports : t.ports = s.ports
  log : Unlogged s t
  lines : ∀ l, o ≠ .writeback l → t.line l = s.line l
  arb : (∀ b, o ≠ .catalogueRead b ∧ o ≠ .blankWrite b) → t.arb = s.arb

theorem State.ownerLinkDown_acted (o : Owner) (s : State) : OwnerActed o s (s.ownerLinkDown o) := by
  cases o with
  | writeback l =>
    have h := s.cutWriteback_settled l
    refine ⟨h.mediaUp, h.slots, h.ports, h.unlogged, fun k hk => s.cutWriteback_other fun c => hk (by rw [c]), fun _ => ?_⟩
    change (s.cutWriteback l).arb = s.arb
    unfold State.cutWriteback
    dsimp only
    split
    · exact State.becomeDirty_arb _ l
    · rfl
  | catalogueRead b => exact ⟨rfl, rfl, rfl, ⟨rfl, rfl, rfl⟩, fun _ _ => rfl, fun h => absurd rfl (h b).1⟩
  | blankWrite b => exact ⟨rfl, rfl, rfl, ⟨rfl, rfl, rfl⟩, fun _ _ => rfl, fun h => absurd rfl (h b).2⟩
  | catalogueWrite b =>
    have h := s.cutCatalogue_settled b
    exact ⟨h.mediaUp, h.slots, h.ports, h.unlogged, fun _ _ => rfl, fun _ => rfl⟩
  | status => exact ⟨rfl, rfl, rfl, s.cutStatus_settled.unlogged, fun _ _ => rfl, fun _ => rfl⟩
  | log => exact ⟨rfl, rfl, rfl, s.cutLog_settled.unlogged, fun _ _ => rfl, fun _ => rfl⟩
  | _ => exact ⟨rfl, rfl, rfl, ⟨rfl, rfl, rfl⟩, fun _ _ => rfl, fun _ => rfl⟩

/-! ### MEDIA_LINK_DOWN and MEDIA_LINK_UP -/

theorem exec_mediaLinkDown (s : State) : exec (.mediaLinkDown none) s = .next s.mediaLost.syncStatusTimer := rfl

theorem exec_mediaLinkUp (s : State) : exec (.mediaLinkUp none) s = .next s.mediaBack.syncStatusTimer := rfl

/-- The queue without the reads of digest lines. -/
def State.keptQueue (s : State) : List InjRequest := s.arb.filter fun r => !r.owner.isLineRead

/-- The loss of the media link with no request in flight (R53, R55, R103). -/
theorem mediaLinkDown_quiet {s : State} (h : s.readsIdle) (hfree : ∀ i, (s.slot i).life = .free) :
    ∃ t, exec (.mediaLinkDown none) s = .next t ∧ t.mediaUp = false ∧ t.slots = s.slots ∧ t.ports = s.ports ∧
      t.up = s.up ∧ t.arb = s.keptQueue ∧ (∀ l, t.line l = (s.line l).linkLost) ∧ t.store.queue = s.store.queue ∧
      t.map = s.map ∧ t.pool = s.pool ∧ t.walk = s.walk ∧ t.mend = s.mend ∧ t.dir = s.dir ∧ t.ldr = s.ldr ∧
      t.cfg = s.cfg ∧ Unlogged s t := by
  obtain ⟨v, ⟨hv, hq⟩, hline, hlost⟩ := State.mediaLost_idle h.2.1
    (State.slotsLinkDown_of_free (s := { s with mediaUp := false }) hfree) h
  rw [State.cutOwners_of_free hfree] at hlost
  refine ⟨_, (congrArg State.done (hlost : s.mediaLost = v) : exec (.mediaLinkDown none) s = .next v.syncStatusTimer), ?_⟩
  refine ⟨by rw [State.syncStatusTimer_mediaUp, hv]; rfl, by rw [State.syncStatusTimer_slots, hv]; rfl,
    by rw [State.syncStatusTimer_ports, hv]; rfl, by rw [State.syncStatusTimer_up, hv]; rfl,
    by rw [State.syncStatusTimer_arb, hv]; rfl, fun l => ?_, by rw [State.syncStatusTimer_store, hq]; rfl,
    by rw [State.syncStatusTimer_map, hv]; rfl, by rw [State.syncStatusTimer_pool, hv]; rfl,
    by rw [State.syncStatusTimer_walk, hv]; rfl, by rw [State.syncStatusTimer_mend, hv]; rfl,
    by rw [State.syncStatusTimer_dir, hv]; rfl, by rw [State.syncStatusTimer_ldr, hv]; rfl,
    by rw [State.syncStatusTimer_cfg, hv]; rfl, ?_⟩
  · rw [State.syncStatusTimer_line, hline]
    split
    · rfl
    next hn => exact (State.line_of_notReading hn).symm
  · have hrep : v.rep = s.rep := by rw [hv]; rfl
    exact (SameLog.of_rep hrep).sync.unlogged

theorem State.slotLinkDown_passthrough {s : State} {i : Fin 256} {k : ReqKind} (hlife : (s.slot i).life = .outstanding)
    (hk : (s.slot i).kind = .passthrough k) (hc : (s.slot i).contribs = []) (hb : s.dir.batch = none) :
    s.slotLinkDown i = s.endSlot i .mediaError [] := by
  have hlose : (s.endSlot i .mediaError []).loseBatchSlot i = s.endSlot i .mediaError [] :=
    State.loseBatchSlot_of_ne fun b hb' => by
      rw [show (s.endSlot i .mediaError []).dir = s.dir by simp [State.endSlot, State.sendUp], hb] at hb'
      cases hb'
  unfold State.slotLinkDown
  simp only [hlife, hk]
  rw [State.abandonContributions_of_nil hc, hlose]

theorem State.slotLinkDown_injected {s : State} {i : Fin 256} {o : Owner} (hlife : (s.slot i).life = .outstanding)
    (hk : (s.slot i).kind = .injected o) : s.slotLinkDown i = s.setSlot i Slot.freeSlot := by
  unfold State.slotLinkDown
  simp only [hlife, hk]

theorem State.endSlot_line (s : State) (i : Fin 256) (st : UpStatus) (data : List Byte) (l : Fin 64) :
    (s.endSlot i st data).line l = ((s.sendUp ⟨(s.slot i).requester, (s.slot i).tag, st, data⟩).unpinSlot i).line l := rfl

/-- The loss of the media link with one passthrough request in flight (R103). -/
theorem mediaLinkDown_passthrough {s : State} (h : s.readsIdle) {i : Fin 256} {k : ReqKind} (hb : s.dir.batch = none)
    (hlife : (s.slot i).life = .outstanding) (hk : (s.slot i).kind = .passthrough k) (hc : (s.slot i).contribs = [])
    (hothers : ∀ j, j ≠ i → (s.slot j).life = .free) :
    ∃ t, exec (.mediaLinkDown none) s = .next t ∧ t.mediaUp = false ∧ (∀ j, (t.slot j).life = .free) ∧ t.arb = s.keptQueue ∧
      (∀ l, l ∉ (s.slot i).pins → t.line l = (s.line l).linkLost) ∧ Unlogged s t ∧
      Returned s t (s.slot i).requester (s.slot i).tag .mediaError [] := by
  let s' : State := { s with mediaUp := false }
  let u := s'.endSlot i .mediaError []
  have hone : s'.slotLinkDown i = u := State.slotLinkDown_passthrough (s := s') hlife hk hc hb
  have hslots : forEach (allFin 256) (fun i t => t.slotLinkDown i) s' = u := by
    rw [State.slotsLinkDown_of_one (s := s') (i := i) hothers (by rw [hone]; exact s'.otherSlots_endSlot i _ _), hone]
  have hlines : ∀ l, (l ∉ (s.slot i).pins → u.line l = s.line l) ∧ (u.line l).state = (s.line l).state ∧
      (u.line l).refilling = (s.line l).refilling ∧ (u.line l).waiting = (s.line l).waiting := fun l =>
    (s'.sendUp ⟨(s.slot i).requester, (s.slot i).tag, .mediaError, []⟩).unpinSlot_line i l
  have hu : u.readsIdle := by
    obtain ⟨⟨hwalk, hmend⟩, hhead, hf, hw⟩ := h
    refine ⟨⟨by simpa [u, State.endSlot, State.sendUp] using hwalk, by simpa [u, State.endSlot, State.sendUp] using hmend⟩,
      by simpa [u, State.endSlot, State.sendUp] using hhead, by simpa [u, State.endSlot, State.sendUp] using hf, fun l hr => ?_⟩
    obtain ⟨-, hst, hrf, hwt⟩ := hlines l
    rw [hwt]
    exact hw l (hst ▸ hrf ▸ hr)
  obtain ⟨v, ⟨hv, -⟩, hline, hlost⟩ := State.mediaLost_idle h.2.1 hslots hu
  rw [State.cutOwners_of_passthrough hk hothers] at hlost
  refine ⟨_, (congrArg State.done (hlost : s.mediaLost = v) : exec (.mediaLinkDown none) s = .next v.syncStatusTimer), ?_⟩
  have hvslots : v.slots = u.slots := by rw [hv]; rfl
  refine ⟨?_, fun j => ?_, ?_, fun l hl => ?_, ?_, ?_⟩
  · rw [State.syncStatusTimer_mediaUp, hv]
    simp [State.withdraw, u, State.endSlot, State.sendUp, s']
  · rw [State.slot_congr (State.syncStatusTimer_slots v), State.slot_congr hvslots]
    by_cases hj : j = i
    · subst hj
      exact congrArg Slot.life (s'.slot_endSlot j j _ _ |>.trans (if_pos rfl))
    · rw [s'.otherSlots_endSlot i _ _ j hj]
      exact hothers j hj
  · rw [State.syncStatusTimer_arb, hv]
    simp [State.withdraw, u, State.endSlot, State.sendUp, State.keptQueue, s']
  · rw [State.syncStatusTimer_line, hline, (hlines l).1 hl]
    split
    · rfl
    next hn => exact (State.line_of_notReading hn).symm
  · have hrep : v.rep = s.rep := by
      rw [hv]
      simp [State.withdraw, u, State.endSlot, State.sendUp, s']
    exact (SameLog.of_rep hrep).sync.unlogged
  · unfold Returned
    rw [State.syncStatusTimer_ports, hv]
    simp [State.withdraw, u, State.endSlot, State.sendUp, s']
    exact ⟨rfl, rfl⟩

/-- The loss of the media link with one injected request in flight: the reads are lost, then its owner acts (R103). -/
theorem mediaLinkDown_injected {s : State} (h : s.readsIdle) {i : Fin 256} {o : Owner}
    (hlife : (s.slot i).life = .outstanding) (hk : (s.slot i).kind = .injected o) (hd : (s.slot i).dead = false)
    (hothers : ∀ j, j ≠ i → (s.slot j).life = .free) :
    ∃ v : State, exec (.mediaLinkDown none) s = .next (v.ownerLinkDown o).syncStatusTimer ∧ v.mediaUp = false ∧
      (∀ j, (v.slot j).life = .free) ∧ v.ports = s.ports ∧ v.rep = s.rep ∧ v.arb = s.keptQueue ∧
      v.controlBase = s.controlBase ∧ ∀ l, v.line l = (s.line l).linkLost := by
  let s' : State := { s with mediaUp := false }
  let u := s'.setSlot i Slot.freeSlot
  have hone : s'.slotLinkDown i = u := State.slotLinkDown_injected (s := s') hlife hk
  have hslots : forEach (allFin 256) (fun i t => t.slotLinkDown i) s' = u := by
    rw [State.slotsLinkDown_of_one (s := s') (i := i) hothers (by rw [hone]; exact s'.otherSlots_setSlot i _), hone]
  obtain ⟨v, ⟨hv, -⟩, hline, hlost⟩ := State.mediaLost_idle h.2.1 hslots (u := u) h
  rw [State.cutOwners_of_injected hlife hk hd hothers] at hlost
  have hstep : exec (.mediaLinkDown none) s = .next (v.ownerLinkDown o).syncStatusTimer :=
    congrArg State.done (hlost : s.mediaLost = v.ownerLinkDown o)
  have hvslots : v.slots = u.slots := by rw [hv]; rfl
  refine ⟨v, hstep, by rw [hv]; rfl, fun j => ?_, by rw [hv]; rfl, by rw [hv]; rfl, by rw [hv]; rfl, by rw [hv]; rfl, fun l => ?_⟩
  · rw [State.slot_congr hvslots]
    by_cases hj : j = i
    · subst hj
      exact congrArg Slot.life (s'.slot_setSlot_self j _)
    · rw [s'.otherSlots_setSlot i _ j hj]
      exact hothers j hj
  · rw [hline]
    split
    · rfl
    next hn => exact (State.line_of_notReading hn).symm

theorem Line.linkLost_of_writes {x : Line} (h : x.state.writes = true) :
    x.linkLost.state.writes = true ∧ x.linkLost.entries = x.entries := by
  have hne : x.state ≠ .filling := fun c => by simp [c, LineState.writes] at h
  unfold Line.linkLost
  rw [if_neg hne]
  exact ⟨h, rfl⟩

theorem State.mediaBack_idle {s : State} (h : s.enginesIdle) : s.mediaBack = State.requeueCut { s with mediaUp := true } := by
  obtain ⟨hw, hm⟩ := h
  have hset := State.requeueCut_settled { s with mediaUp := true }
  have hwalk : (State.requeueCut { s with mediaUp := true }).walk.cur = none := by rw [hset.walk, hw]
  have hmend : (State.requeueCut { s with mediaUp := true }).mend.active = none := by rw [hset.mend, hm]
  unfold State.mediaBack
  simp only [hwalk]
  simp [State.uncutMend, hmend]

theorem State.requeueCut_dir (s : State) : s.requeueCut.dir = s.dir := by
  have hlines : s.requeueLines.dir = s.dir :=
    forEach_induct (P := fun s t : State => t.dir = s.dir) (fun _ => rfl) (fun h k => k.trans h) (fun l t => by
      unfold State.requeueLine
      split <;> simp) _ s
  have hblocks : s.requeueLines.requeueBlocks.dir = s.requeueLines.dir :=
    forEach_induct (P := fun s t : State => t.dir = s.dir) (fun _ => rfl) (fun h k => k.trans h) (fun b t => by
      unfold State.requeueBlock
      split <;> simp) _ _
  rw [State.requeueCut_eq, State.pumpLog_dir, State.pumpStatus_dir, hblocks, hlines]

theorem State.syncStatusTimer_cat (s : State) (b : Fin 17) : s.syncStatusTimer.cat b = s.cat b := by
  rw [State.cat, State.syncStatusTimer_ldr]
  rfl

/-- Settles O17. -/
theorem linksDownAndUp : Obligations.LinksDownAndUp := by
  refine fun s => ⟨⟨_, rfl, rfl⟩, fun hidle hhead hw => ?_, fun hidle => ?_⟩
  · have h : s.readsIdle := ⟨hidle, hhead, hw⟩
    refine ⟨fun hfree => mediaLinkDown_quiet h hfree, fun i k hb hlife hk hc hothers =>
      mediaLinkDown_passthrough h hb hlife hk hc hothers, fun i o _ hlife hk hd hothers => ?_⟩
    obtain ⟨v, hstep, hup, hfree, hports, hrep, harb, hbase, hline⟩ := mediaLinkDown_injected h hlife hk hd hothers
    have hact := v.ownerLinkDown_acted o
    have hsline : ∀ l, (v.ownerLinkDown o).syncStatusTimer.line l = (v.ownerLinkDown o).line l := State.syncStatusTimer_line _
    have hkept : (∀ b, o ≠ .catalogueRead b ∧ o ≠ .blankWrite b) → (v.ownerLinkDown o).syncStatusTimer.arb = s.keptQueue :=
      fun ho => by rw [State.syncStatusTimer_arb, hact.arb ho, harb]
    have hlost : ∀ l, o ≠ .writeback l → (v.ownerLinkDown o).syncStatusTimer.line l = (s.line l).linkLost := fun l ho => by
      rw [hsline, hact.lines l ho, hline]
    refine ⟨_, hstep, by rw [State.syncStatusTimer_mediaUp, hact.mediaUp, hup], fun j => ?_,
      by rw [State.syncStatusTimer_ports, hact.ports, hports], ?_, hlost, hkept, fun l ho hfill => ?_, fun l ho hst => ?_,
      fun l ho hwr => ?_, fun ho => ?_, fun ho => ?_, fun b ho => ?_, fun b c ho hc => ?_, fun b c ho hc => ?_⟩
    · rw [State.slot_congr (State.syncStatusTimer_slots _), State.slot_congr hact.slots, hfree]
    · obtain ⟨h1, h2, h3⟩ := hact.log
      exact ⟨by rw [State.syncStatusTimer_rep_head, h1, hrep], by rw [State.syncStatusTimer_rep_withheld, h2, hrep],
        by rw [State.syncStatusTimer_rep_flags, h3, hrep]⟩
    · rw [hlost l (by simp [ho]), Line.linkLost, if_pos hfill]
      exact ⟨rfl, rfl⟩
    · rw [hlost l (by simp [ho]), Line.linkLost, if_neg hst]
    · obtain ⟨hwr', hentries⟩ := Line.linkLost_of_writes hwr
      subst ho
      rw [hsline]
      change ((v.cutWriteback l).line l).state = _ ∧ ((v.cutWriteback l).line l).cut = _ ∧
        ((v.cutWriteback l).line l).dirtyTimer = _ ∧ ((v.cutWriteback l).line l).entries = _
      rw [State.cutWriteback_line v (by rw [hline]; exact hwr'), hline]
      exact ⟨rfl, rfl, rfl, hentries⟩
    · subst ho
      exact ⟨State.syncStatusTimer_rep_statusShot _, State.syncStatusTimer_rep_statusDue _⟩
    · subst ho
      obtain ⟨hshot, hcompleted, hwritten⟩ := v.rep.logLost_shot
      exact ⟨(congrArg Report.logShot (State.syncStatusTimer_rep v.cutLog)).trans hshot,
        (State.syncStatusTimer_rep_completed _).trans (hcompleted.trans (congrArg Report.completed hrep)),
        (State.syncStatusTimer_rep_writtenHead _).trans (hwritten.trans (congrArg Report.writtenHead hrep))⟩
    · subst ho
      rw [State.syncStatusTimer_cat]
      exact v.cutCatalogue_cat b
    · subst ho
      rw [State.syncStatusTimer_arb]
      change (v.queueRead b).arb = _
      rw [State.queueRead_eq (hbase.trans hc)]
      exact congrArg (· ++ _) harb
    · subst ho
      rw [State.syncStatusTimer_arb]
      change (v.queueBlank b).arb = _
      rw [State.queueBlank_eq (hbase.trans hc)]
      exact congrArg (· ++ _) harb
  · let u := State.requeueCut { s with mediaUp := true }
    have hset := State.requeueCut_settled { s with mediaUp := true }
    have hstep : exec (.mediaLinkUp none) s = .next u.syncStatusTimer := congrArg State.done (State.mediaBack_idle hidle)
    obtain ⟨rs, hrs⟩ := State.requeueCut_grows { s with mediaUp := true }
    refine ⟨_, hstep, by rw [State.syncStatusTimer_mediaUp, hset.mediaUp], by rw [State.syncStatusTimer_slots, hset.slots],
      by rw [State.syncStatusTimer_ports, hset.ports], by rw [State.syncStatusTimer_up, hset.up],
      ⟨rs, by rw [State.syncStatusTimer_arb, hrs]⟩, by rw [State.syncStatusTimer_map, hset.map],
      by rw [State.syncStatusTimer_pool, hset.pool], ?_, by rw [State.syncStatusTimer_cfg, hset.cfg], fun l hl => ⟨?_, ?_⟩,
      fun b hb => ⟨?_, ?_⟩⟩
    · rw [State.syncStatusTimer_dir]
      exact State.requeueCut_dir { s with mediaUp := true }
    · rw [State.queued_sync]
      exact State.requeueCut_queued_line hl
    · rw [State.syncStatusTimer_line, State.requeueCut_line]
      rfl
    · rw [State.queued_sync]
      exact State.requeueCut_queued_block hb
    · rw [State.syncStatusTimer_cat, State.requeueCut_cat]
      rfl

end Sys2Proof.Machine

/-!
PROOFS. A link reset outside FAULT with the engines idle (R60, R105, R161, R173, R189).
-/

namespace Sys2Proof.Machine

/-! ### The batch cut off (R161) -/

/-- What cutting a batch off leaves alone: ports, shelf, settings, loader, log, clock; the arbiter's queue only grows. -/
structure BatchCutOff (s t : State) : Prop where
  ports : SamePorts s t
  shelf : SameShelf s t
  cfg : t.cfg = s.cfg
  ldr : t.ldr = s.ldr
  log : SameLog s t
  clock : t.rep.clock = s.rep.clock
  freeze : t.dir.freeze = s.dir.freeze
  queue : QueueGrows s t

theorem BatchCutOff.refl (s : State) : BatchCutOff s s :=
  ⟨⟨rfl, rfl, rfl, rfl, rfl⟩, ⟨rfl, rfl, rfl, rfl, rfl⟩, rfl, rfl, .of_rep rfl, rfl, rfl, .refl s⟩

theorem BatchCutOff.trans {s t u : State} (h : BatchCutOff s t) (k : BatchCutOff t u) : BatchCutOff s u :=
  ⟨h.ports.trans k.ports, h.shelf.trans k.shelf, k.cfg.trans h.cfg, k.ldr.trans h.ldr, h.log.trans k.log,
    k.clock.trans h.clock, k.freeze.trans h.freeze, h.queue.trans k.queue⟩

theorem State.setBatch_cutOff (s : State) (b : Option Batch) : BatchCutOff s (s.setBatch b) :=
  ⟨⟨rfl, rfl, rfl, rfl, rfl⟩, ⟨rfl, rfl, rfl, rfl, rfl⟩, rfl, rfl, .of_rep rfl, rfl, rfl, .of_arb rfl⟩

theorem State.tryEndBatch_cutOff (s : State) : BatchCutOff s s.tryEndBatch :=
  ⟨by simp [SamePorts], by simp [SameShelf], by simp, by simp, s.tryEndBatch_sameLog, by simp, by simp, s.tryEndBatch_grows⟩

theorem State.addResult_cutOff (s : State) (r : Result) : BatchCutOff s (s.addResult r) := by
  unfold State.addResult
  split
  · exact .refl s
  · exact (s.setBatch_cutOff _).trans (State.tryEndBatch_cutOff _)

theorem State.cutFrame_of_none {s : State} (h : s.dir.mendFrame = none) : s.cutFrame = s := by simp [State.cutFrame, h]

/-- A waiting MEND_FRAME record has no line any more as it is answered. -/
theorem State.cutFrame_cutOff (s : State) : BatchCutOff s s.cutFrame := by
  cases hf : s.dir.mendFrame with
  | none => rw [State.cutFrame_of_none hf]; exact .refl s
  | some q =>
    have heq : s.cutFrame = State.addResult { s with dir := { s.dir with mendFrame := none } } .busy := by
      simp only [State.cutFrame, hf]
      rfl
    rw [heq]
    exact BatchCutOff.trans (t := { s with dir := { s.dir with mendFrame := none } })
      ⟨⟨rfl, rfl, rfl, rfl, rfl⟩, ⟨rfl, rfl, rfl, rfl, rfl⟩, rfl, rfl, .of_rep rfl, rfl, rfl, .of_arb rfl⟩
      (State.addResult_cutOff _ _)

theorem State.cutBatch_cutOff (s : State) (n : Nat) : BatchCutOff s (s.cutBatch n) := by
  unfold State.cutBatch
  split
  · exact .refl s
  · split
    · exact s.setBatch_cutOff none
    · refine BatchCutOff.trans ?_ (State.tryEndBatch_cutOff _)
      refine BatchCutOff.trans ?_ (State.cutFrame_cutOff _)
      split
      · exact .refl s
      · exact s.setBatch_cutOff _

theorem State.cutBatch_ended {s : State} {b : Batch} (hb : s.dir.batch = some b) (he : b.ended = true) (n : Nat) :
    s.cutBatch n = s.setBatch none := by
  simp [State.cutBatch, hb, he]

theorem State.tryEndBatch_of_running {s : State} {b : Batch} (hb : s.dir.batch = some b)
    (h : b.results.length ≠ b.records) : s.tryEndBatch = s := by
  simp [State.tryEndBatch, hb, h]

/-- A batch that was cut off before and has records left goes on. -/
theorem State.cutBatch_again {s : State} {b : Batch} (hb : s.dir.batch = some b) (he : b.ended = false) (hc : b.cut = true)
    (hf : s.dir.mendFrame = none) (hr : b.results.length < b.records) (n : Nat) : s.cutBatch n = s := by
  have hend := State.tryEndBatch_of_running hb (Nat.ne_of_lt hr)
  simp only [State.cutBatch, hb, he, hc, Bool.false_eq_true, if_false, if_true, State.cutFrame_of_none hf, hend]

/-- A batch as it is cut off with `got` records received (R161). -/
def Batch.cutTo (b : Batch) (got : Nat) : Batch := { b with cut := true, slot := none, records := max b.results.length got }

theorem State.cutBatch_first {s : State} {b : Batch} (hb : s.dir.batch = some b) (he : b.ended = false) (hc : b.cut = false)
    (hf : s.dir.mendFrame = none) (hwhole : ∀ i, b.slot = some i → (s.slot i).life ≠ .held) (n : Nat) :
    s.cutBatch n = (s.setBatch (some (b.cutTo (min b.count (n / 64 - 1))))).tryEndBatch := by
  have hpart : s.batchWhole b = false := by
    unfold State.batchWhole
    split
    · rfl
    next i hi => exact decide_eq_false (hwhole i hi)
  have hcut : s.batchCut b n = b.cutTo (min b.count (n / 64 - 1)) := by
    simp [State.batchCut, hpart, hf, bit, recordsWithin, Batch.cutTo]
  have hframe : (s.setBatch (some (b.cutTo (min b.count (n / 64 - 1))))).cutFrame = _ := State.cutFrame_of_none hf
  simp only [State.cutBatch, hb, he, hc, Bool.false_eq_true, if_false, hcut, hframe]

/-! ### The lines (R60) -/

/-- A line as a link reset leaves it, before its write is queued again (R60). -/
def Line.wasReset (x : Line) : Line :=
  if x.state = .filling then Line.blank
  else if x.state.writes then
    { x.atReset with state := .dirty, dirtyTimer := some (Timer.start Config.dirtyMs), cut := true, retrigger := false }
  else x.atReset

theorem State.resetWrite_line (s : State) {l : Fin 64} (h : (s.line l).state.writes = true) (k : Fin 64) :
    ((s.setLine l (s.line l).atReset).cutWriteback l).line k = if k = l then (s.line l).wasReset else s.line k := by
  have hne : (s.line l).state ≠ .filling := fun c => by simp [c, LineState.writes] at h
  have hreset : (s.line l).atReset.state = (s.line l).state := by simp [Line.atReset, hne]
  by_cases hk : k = l
  · subst hk
    rw [if_pos rfl, State.cutWriteback_line _ (by rw [State.line_setLine_self, hreset]; exact h), State.line_setLine_self,
      Line.wasReset, if_neg hne, if_pos h]
  · rw [if_neg hk, State.cutWriteback_other _ hk, State.line_setLine, if_neg hk]

theorem State.lineReset_line (s : State) (l k : Fin 64) :
    (s.lineReset l).line k = if k = l then (s.line l).wasReset else s.line k := by
  have hset : ∀ x, (s.setLine l x).line k = if k = l then x else s.line k := fun x => s.line_setLine l k x
  unfold State.lineReset
  dsimp only
  cases hst : (s.line l).state with
  | filling =>
    refine (hset Line.blank).trans ?_
    simp [Line.wasReset, hst]
  | writing => exact s.resetWrite_line (by rw [hst]; rfl) k
  | writingRedirtied => exact s.resetWrite_line (by rw [hst]; rfl) k
  | invalid =>
    rw [hset]
    simp [Line.wasReset, hst, LineState.writes]
  | clean =>
    rw [hset]
    simp [Line.wasReset, hst, LineState.writes]
  | dirty =>
    rw [hset]
    simp [Line.wasReset, hst, LineState.writes]

/-- The line queue is empty. -/
def State.clearQueue (s : State) : State := { s with store := { s.store with queue := [] } }

theorem State.clearQueue_line (s : State) (k : Fin 64) : s.clearQueue.line k = s.line k := rfl

theorem State.clearQueue_arb (s : State) : s.clearQueue.arb = s.arb := rfl

theorem State.clearQueue_settled (s : State) : Settled s s.clearQueue :=
  ⟨rfl, rfl, rfl, rfl, rfl, rfl, rfl, rfl, rfl, rfl, rfl, rfl, rfl, rfl, rfl, rfl, rfl, rfl, rfl⟩

/-- The lines' turns at a link reset. -/
def State.linesReset (s : State) : State := forEach (allFin 64) (fun l t => t.lineReset l) (s.withdraw Owner.isLineRead)

theorem State.storeReset_eq (s : State) : s.storeReset = s.linesReset.clearQueue := by
  unfold State.storeReset State.linesReset State.clearQueue
  rfl

theorem State.storeReset_line (s : State) (k : Fin 64) : s.storeReset.line k = (s.line k).wasReset := by
  have h := forEach_pointwise State.line Line.wasReset (fun l t k => t.lineReset_line l k) (List.nodup_finRange 64)
    (s.withdraw Owner.isLineRead) k
  rw [if_pos (List.mem_finRange k)] at h
  rw [State.storeReset_eq, State.clearQueue_line, State.linesReset]
  exact h

theorem State.setLine_settled (s : State) (l : Fin 64) (x : Line) : Settled s (s.setLine l x) :=
  ⟨rfl, rfl, rfl, rfl, rfl, rfl, rfl, rfl, rfl, rfl, rfl, rfl, rfl, rfl, rfl, rfl, rfl, rfl, rfl⟩

theorem State.withdraw_settled (s : State) (p : Owner → Bool) : Settled s (s.withdraw p) :=
  ⟨rfl, rfl, rfl, rfl, rfl, rfl, rfl, rfl, rfl, rfl, rfl, rfl, rfl, rfl, rfl, rfl, rfl, rfl, rfl⟩

theorem State.lineReset_settled (s : State) (l : Fin 64) : Settled s (s.lineReset l) := by
  unfold State.lineReset
  dsimp only
  split
  · exact ⟨rfl, rfl, rfl, rfl, rfl, rfl, rfl, rfl, rfl, rfl, rfl, rfl, rfl, rfl, rfl, rfl, rfl, rfl, rfl⟩
  · exact (s.setLine_settled l _).trans (State.cutWriteback_settled _ l)
  · exact (s.setLine_settled l _).trans (State.cutWriteback_settled _ l)
  · exact s.setLine_settled l _

theorem State.storeReset_settled (s : State) : Settled s s.storeReset := by
  have hloop : Settled (s.withdraw Owner.isLineRead) s.linesReset :=
    forEach_induct Settled.refl Settled.trans (fun l t => t.lineReset_settled l) _ _
  rw [State.storeReset_eq]
  exact ((s.withdraw_settled _).trans hloop).trans (State.clearQueue_settled _)

/-! ### The owners cut off -/

theorem State.ownerReset_settled (o : Owner) (s : State) : Settled s (s.ownerReset o) := by
  cases o with
  | status => exact s.cutStatus_settled
  | log => exact s.cutLog_settled
  | catalogueWrite b => exact s.cutCatalogue_settled b
  | _ => exact ⟨rfl, rfl, rfl, rfl, rfl, rfl, rfl, rfl, rfl, rfl, rfl, rfl, rfl, rfl, rfl, rfl, rfl, rfl, rfl⟩

theorem State.ownerReset_grows (o : Owner) (s : State) : QueueGrows s (s.ownerReset o) := by
  cases o with
  | catalogueRead b => exact State.enqueue_grows _ _
  | blankWrite b => exact State.enqueue_grows _ _
  | _ => exact .of_arb rfl

theorem State.ownerReset_store (o : Owner) (s : State) : (s.ownerReset o).store = s.store := by cases o <;> rfl

/-- A status write is due, and none is in flight. -/
def State.statusOwed (s : State) : Prop := s.rep.statusShot = none ∧ s.rep.statusDue = true

theorem State.ownerReset_statusOwed (o : Owner) {s : State} (h : s.statusOwed) : (s.ownerReset o).statusOwed := by
  cases o with
  | log =>
    obtain ⟨hshot, hdue⟩ := h
    unfold State.statusOwed
    change s.rep.logLost.statusShot = none ∧ s.rep.logLost.statusDue = true
    unfold Report.logLost
    split
    · split <;> exact ⟨hshot, hdue⟩
    · exact ⟨hshot, hdue⟩
  | status => exact ⟨rfl, rfl⟩
  | _ => exact h

theorem State.ownerReset_cutCat (o : Owner) {s : State} {b : Fin 17} (h : s.cat b = ⟨.changed, none, true⟩) :
    (s.ownerReset o).cat b = ⟨.changed, none, true⟩ := by
  cases o with
  | catalogueWrite b' =>
    by_cases hb : b = b'
    · rw [hb]
      exact s.cutCatalogue_cat b'
    · exact (State.cat_setCat s b' b _).trans (by rw [if_neg hb, h])
  | _ => exact h

theorem State.mem_cutOwners {s : State} {i : Fin 256} {o : Owner} (hlife : (s.slot i).life = .outstanding)
    (hk : (s.slot i).kind = .injected o) (hd : (s.slot i).dead = false) : o ∈ s.cutOwners := by
  rw [State.cutOwners_eq]
  exact List.mem_filterMap.mpr ⟨i, List.mem_finRange i, by simp [Slot.cutOwner, hk, hlife, hd]⟩

/-! ### The reset as a whole -/

theorem State.cutWriteback_arb (s : State) (l : Fin 64) : (s.cutWriteback l).arb = s.arb := by
  unfold State.cutWriteback
  dsimp only
  split
  · exact State.becomeDirty_arb _ l
  · rfl

theorem State.lineReset_arb (s : State) (l : Fin 64) : (s.lineReset l).arb = s.arb := by
  unfold State.lineReset
  dsimp only
  split
  · rfl
  · exact State.cutWriteback_arb _ l
  · exact State.cutWriteback_arb _ l
  · rfl

theorem State.storeReset_queued {s : State} {o : Owner} (ho : o.isLineRead = false) (h : s.queued o = true) :
    s.storeReset.queued o = true := by
  have hloop : s.linesReset.arb = (s.withdraw Owner.isLineRead).arb :=
    (congrArg State.arb (State.linesReset.eq_1 s)).trans (forEach_induct (P := fun s t : State => t.arb = s.arb) (fun _ => rfl)
      (fun h k => k.trans h) (fun l t => t.lineReset_arb l) (allFin 64) (s.withdraw Owner.isLineRead))
  obtain ⟨r, hr, rfl⟩ := (s.queued_iff o).mp h
  rw [State.storeReset_eq]
  refine (State.queued_iff _ _).mpr ⟨r, ?_, rfl⟩
  rw [State.clearQueue_arb, hloop]
  exact List.mem_filter.mpr ⟨hr, by simp [ho]⟩

/-- The owners' turns at a link reset. -/
def State.ownersReset (s : State) (os : List Owner) : State := forEach os (fun o t => t.ownerReset o) s

theorem State.ownersReset_settled (s : State) (os : List Owner) : Settled s (s.ownersReset os) := by
  unfold State.ownersReset
  exact forEach_induct Settled.refl Settled.trans (fun o t => t.ownerReset_settled o) os s

theorem State.ownersReset_store (s : State) (os : List Owner) : (s.ownersReset os).store = s.store := by
  unfold State.ownersReset
  exact forEach_induct (P := fun s t : State => t.store = s.store) (fun _ => rfl) (fun h k => k.trans h)
    (fun o t => t.ownerReset_store o) os s

theorem State.ownersReset_grows (s : State) (os : List Owner) : QueueGrows s (s.ownersReset os) := by
  unfold State.ownersReset
  exact forEach_induct QueueGrows.refl QueueGrows.trans (fun o t => t.ownerReset_grows o) os s

theorem State.requeueCut_queue (s : State) : s.requeueCut.store.queue = s.store.queue := by
  have hlines : s.requeueLines.store.queue = s.store.queue := by
    unfold State.requeueLines
    exact forEach_induct (P := fun s t : State => t.store.queue = s.store.queue) (fun _ => rfl) (fun h k => k.trans h)
      (fun l t => by unfold State.requeueLine; split <;> simp) (allFin 64) s
  have hblocks : s.requeueLines.requeueBlocks.store = s.requeueLines.store := by
    unfold State.requeueBlocks
    exact forEach_induct (P := fun s t : State => t.store = s.store) (fun _ => rfl) (fun h k => k.trans h)
      (fun b t => t.requeueBlock_store b) (allFin 17) s.requeueLines
  rw [State.requeueCut_eq, State.pumpLog_store, State.pumpStatus_store, hblocks, hlines]

theorem State.resetRunning_idle {s : State} (h : s.enginesIdle) (n : Nat) :
    s.resetRunning n =
      ((((s.setHead none).cutBatch n).clearTraffic).storeReset.ownersReset s.cutOwners).requeueCut := by
  obtain ⟨hw, hm⟩ := h
  let c := (s.setHead none).cutBatch n
  let z := (c.clearTraffic).storeReset.ownersReset s.cutOwners
  have hcut := (s.setHead none).cutBatch_cutOff n
  have hset : Settled c.clearTraffic z.requeueCut :=
    (State.storeReset_settled _).trans ((State.ownersReset_settled _ _).trans (State.requeueCut_settled _))
  obtain ⟨-, -, -, hcw, hcm⟩ := hcut.shelf
  have hwalk : z.requeueCut.walk.cur = none := by
    rw [hset.walk, show c.clearTraffic.walk = s.walk from hcw, hw]
  have hmend : z.requeueCut.mend.active = none := by
    rw [hset.mend, show c.clearTraffic.mend = s.mend from hcm, hm]
  have hwr : z.requeueCut.walkReset s.walkFills = z.requeueCut := by simp [State.walkReset, hwalk]
  have hmr : z.requeueCut.resetMend = z.requeueCut := by simp [State.resetMend, hmend]
  unfold State.resetRunning
  change (z.requeueCut.walkReset s.walkFills).resetMend = z.requeueCut
  rw [hwr, hmr]

/-- What a link reset with the engines idle leaves, `s` being the state it begins in. -/
structure TrafficCleared (s x : State) : Prop where
  ports : x.ports = s.ports
  up : x.up = { s.up with head := none }
  mediaUp : x.mediaUp = s.mediaUp
  slots : ∀ i, (x.slot i).life = .free
  accums : ∀ p, x.accum p = none
  lines : ∀ l, x.line l = (s.line l).wasReset.uncut
  queue : x.store.queue = []
  map : x.map = s.map
  cfg : x.cfg = s.cfg
  freeze : x.dir.freeze = s.dir.freeze
  flags : x.rep.flags = s.rep.flags
  clock : x.rep.clock = s.rep.clock
  part : x.ldr.part = s.ldr.part
  mend : x.mend = s.mend
  walk : x.walk = s.walk
  rewritten : ∀ l, (s.line l).state.writes = true → x.queued (.writeback l) = true

section

variable {s : State} (h : s.enginesIdle) (n : Nat)
include h

/-- What the batch's cut leaves settled till the reset's end. -/
theorem State.resetRunning_settled :
    Settled ((s.setHead none).cutBatch n).clearTraffic (s.resetRunning n).syncStatusTimer := by
  rw [State.resetRunning_idle h]
  exact (State.storeReset_settled _).trans ((State.ownersReset_settled _ _).trans
    ((State.requeueCut_settled _).trans (State.syncStatusTimer_settled _)))

/-- What is queued as the batch has been cut off stays queued, but for the reads of digest lines. -/
theorem State.resetRunning_queued {o : Owner} (ho : o.isLineRead = false)
    (hq : ((s.setHead none).cutBatch n).queued o = true) : (s.resetRunning n).syncStatusTimer.queued o = true := by
  rw [State.resetRunning_idle h, State.queued_sync]
  have hstart : ((s.setHead none).cutBatch n).clearTraffic.queued o = true := hq
  exact (State.requeueCut_grows _).queued ((State.ownersReset_grows _ _).queued (State.storeReset_queued ho hstart))

theorem State.resetRunning_line (l : Fin 64) :
    (s.resetRunning n).syncStatusTimer.line l = (s.line l).wasReset.uncut := by
  obtain ⟨-, -, hstore, -, -⟩ := ((s.setHead none).cutBatch_cutOff n).shelf
  rw [State.syncStatusTimer_line, State.resetRunning_idle h, State.requeueCut_line,
    State.line_congr (State.ownersReset_store _ _), State.storeReset_line]
  exact congrArg (fun x : Line => x.wasReset.uncut) (State.line_congr hstore l)

theorem State.resetRunning_cleared : TrafficCleared s (s.resetRunning n).syncStatusTimer := by
  have hset := State.resetRunning_settled h n
  have hcut := (s.setHead none).cutBatch_cutOff n
  obtain ⟨-, hports, hup, hmedia, -⟩ := hcut.ports
  obtain ⟨hmap, -, hstore, hwalk, hmend⟩ := hcut.shelf
  have hlog := hcut.log
  refine ⟨hset.ports.trans hports, hset.up.trans hup, hset.mediaUp.trans hmedia, fun i => ?_, fun p => ?_,
    State.resetRunning_line h n, ?_, hset.map.trans hmap, hset.cfg.trans hcut.cfg, hset.freeze.trans hcut.freeze,
    hset.flags.trans ?_, hset.clock.trans hcut.clock, hset.part.trans (congrArg Loader.part hcut.ldr),
    hset.mend.trans hmend, hset.walk.trans hwalk, fun l hl => ?_⟩
  · rw [State.slot, hset.slots]
    exact congrArg Slot.life (Vector.getElem_replicate i.isLt)
  · rw [State.accum, hset.pool]
    exact Vector.getElem_replicate p.isLt
  · rw [State.syncStatusTimer_store, State.resetRunning_idle h, State.requeueCut_queue, State.ownersReset_store,
      State.storeReset_eq]
    rfl
  · obtain ⟨-, -, -, -, hflags⟩ := hlog
    exact hflags
  · rw [State.queued_sync, State.resetRunning_idle h]
    refine State.requeueCut_queued_line ?_
    rw [State.line_congr (State.ownersReset_store _ _), State.storeReset_line,
      show ((s.setHead none).cutBatch n).clearTraffic.line l = s.line l from State.line_congr hstore l]
    have hne : (s.line l).state ≠ .filling := fun c => by simp [c, LineState.writes] at hl
    rw [Line.wasReset, if_neg hne, if_pos hl]

/-- A status write in flight is queued again (R173). -/
theorem State.resetRunning_status {i : Fin 256} (hlife : (s.slot i).life = .outstanding)
    (hk : (s.slot i).kind = .injected .status) (hd : (s.slot i).dead = false) (hp : s.ldr.part = .running)
    (hc : s.controlBase.isSome = true) :
    (s.resetRunning n).syncStatusTimer.rep.statusShot = none ∧ (s.resetRunning n).syncStatusTimer.queued .status = true := by
  let c := (s.setHead none).cutBatch n
  let z := (c.clearTraffic).storeReset.ownersReset s.cutOwners
  have hldr := ((s.setHead none).cutBatch_cutOff n).ldr
  have howed : z.statusOwed := forEach_reaches (Q := State.statusOwed) (State.mem_cutOwners hlife hk hd) (fun _ => ⟨rfl, rfl⟩)
    (fun o _ ht => State.ownerReset_statusOwed o ht) _
  have hz : Settled c.clearTraffic z := (State.storeReset_settled _).trans (State.ownersReset_settled _ _)
  let y := z.requeueLines.requeueBlocks
  have hy : Settled z y := z.requeueLines_settled.trans (State.requeueBlocks_settled _)
  have hyrep : y.rep = z.rep := by
    have hlines : z.requeueLines.rep = z.rep :=
      forEach_induct (P := fun s t : State => t.rep = s.rep) (fun _ => rfl) (fun h k => k.trans h) (fun l t => by
        unfold State.requeueLine
        split <;> simp) _ _
    have hblocks : y.rep = z.requeueLines.rep :=
      forEach_induct (P := fun s t : State => t.rep = s.rep) (fun _ => rfl) (fun h k => k.trans h) (fun l t => by
        unfold State.requeueBlock
        split <;> simp) _ _
    exact hblocks.trans hlines
  have hypart : y.ldr.part = .running := (hy.part.trans hz.part).trans ((congrArg Loader.part hldr).trans hp)
  have hybase : y.controlBase.isSome = true := by
    rw [(hz.trans hy).base, show c.clearTraffic.controlBase = s.controlBase from congrArg (fun d => d.setup.map Setup.base) hldr]
    exact hc
  obtain ⟨hshot, hdue⟩ : y.rep.statusShot = none ∧ y.rep.statusDue = true := by
    rw [hyrep]
    exact howed
  have hqueued : y.pumpStatus.queued .status = true := by
    have hself : ({ y with rep := { y.rep with statusDue := true } } : State) = y := by rw [← hdue]
    have h := State.statusDue_queued (s := y) hypart hybase hshot
    unfold State.statusDue at h
    rwa [hself] at h
  rw [State.resetRunning_idle h]
  rw [show c.clearTraffic.storeReset.ownersReset s.cutOwners = z from rfl, State.requeueCut_eq]
  refine ⟨?_, ?_⟩
  · rw [State.syncStatusTimer_rep_statusShot, State.pumpLog_rep, State.pumpStatus_rep, hshot]
  · rw [State.queued_sync]
    exact (State.pumpLog_grows _).queued hqueued

/-- A catalogue write in flight is queued again (R189). -/
theorem State.resetRunning_catalogue {i : Fin 256} {b : Fin 17} (hlife : (s.slot i).life = .outstanding)
    (hk : (s.slot i).kind = .injected (.catalogueWrite b)) (hd : (s.slot i).dead = false) :
    ((s.resetRunning n).syncStatusTimer.cat b).state = .changed ∧
      (s.resetRunning n).syncStatusTimer.queued (.catalogueWrite b) = true := by
  have hcat : ((((s.setHead none).cutBatch n).clearTraffic).storeReset.ownersReset s.cutOwners).cat b = ⟨.changed, none, true⟩ :=
    forEach_reaches (Q := fun t => t.cat b = ⟨.changed, none, true⟩) (State.mem_cutOwners hlife hk hd)
      (fun t => t.cutCatalogue_cat b) (fun o _ ht => State.ownerReset_cutCat o ht) _
  rw [State.resetRunning_idle h]
  refine ⟨?_, ?_⟩
  · rw [State.syncStatusTimer_cat, State.requeueCut_cat, hcat]
    rfl
  · rw [State.queued_sync]
    exact State.requeueCut_queued_block (by rw [hcat])

/-- What a link reset does to the batch at work (R161). -/
structure BatchCut (s x : State) (n : Nat) : Prop where
  ended : ∀ b, s.dir.batch = some b → b.ended = true → x.dir.batch = none
  goesOn : ∀ b, s.dir.batch = some b → b.ended = false → b.cut = false → s.dir.mendFrame = none →
    (∀ i, b.slot = some i → (s.slot i).life ≠ .held) → b.results.length < min b.count (n / 64 - 1) →
    x.rep.lastBatch = s.rep.lastBatch ∧
      x.dir.batch = some { b with cut := true, slot := none, records := min b.count (n / 64 - 1) }
  handed : ∀ b, s.dir.batch = some b → b.ended = false → b.cut = false → s.dir.mendFrame = none →
    (∀ i, b.slot = some i → (s.slot i).life ≠ .held) → min b.count (n / 64 - 1) ≤ b.results.length →
    x.dir.batch = none ∧ x.rep.lastBatch = some ⟨b.label, b.count, b.clamped, b.results⟩ ∧
      (s.ldr.part = .running → s.controlBase.isSome = true → s.rep.statusShot = none → x.queued .status = true)
  again : ∀ b, s.dir.batch = some b → b.ended = false → b.cut = true → s.dir.mendFrame = none →
    b.results.length < b.records → x.dir.batch = some b

theorem State.resetRunning_batch : BatchCut s (s.resetRunning n).syncStatusTimer n := by
  have hset := State.resetRunning_settled h n
  have hbatch : (s.resetRunning n).syncStatusTimer.dir.batch = ((s.setHead none).cutBatch n).dir.batch := hset.batch
  have hlast : (s.resetRunning n).syncStatusTimer.rep.lastBatch = ((s.setHead none).cutBatch n).rep.lastBatch := hset.lastBatch
  refine ⟨fun b hb he => ?_, fun b hb he hc hf hw hlt => ?_, fun b hb he hc hf hw hle => ?_, fun b hb he hc hf hlt => ?_⟩
  · rw [hbatch, State.cutBatch_ended (s := s.setHead none) hb he]
    rfl
  · have hmax : max b.results.length (min b.count (n / 64 - 1)) = min b.count (n / 64 - 1) := max_eq_right hlt.le
    have hrecords : (b.cutTo (min b.count (n / 64 - 1))).results.length ≠ (b.cutTo (min b.count (n / 64 - 1))).records :=
      ne_of_lt (lt_of_lt_of_eq hlt hmax.symm)
    rw [hlast, hbatch, State.cutBatch_first (s := s.setHead none) hb he hc hf hw, State.tryEndBatch_of_running rfl hrecords]
    refine ⟨rfl, Eq.trans (b := some (b.cutTo (min b.count (n / 64 - 1)))) rfl ?_⟩
    rw [Batch.cutTo, hmax]
  · have hmax : max b.results.length (min b.count (n / 64 - 1)) = b.results.length := max_eq_left hle
    have hcut := State.cutBatch_first (s := s.setHead none) hb he hc hf hw n
    rw [State.tryEndBatch_of_complete (b := b.cutTo (min b.count (n / 64 - 1))) rfl ⟨he, hmax.symm⟩] at hcut
    rw [hlast, hbatch]
    refine ⟨?_, ?_, fun hp hcb hshot => State.resetRunning_queued h n rfl ?_⟩
    · rw [hcut]
      simp [State.handBatch, Batch.cutTo]
    · rw [hcut]
      simp [State.handBatch, Batch.cutTo]
    · rw [hcut]
      exact State.statusDue_queued hp hcb hshot
  · rw [hbatch, State.cutBatch_again (s := s.setHead none) hb he hc hf hlt]
    exact hb

end

/-! ### The two commands -/

/-- The state in which the part acts on a link reset: passed on, the link up or fallen. -/
def State.linkFell (s : State) (up : Bool) : State := ({ s with up := ⟨up, s.up.head⟩ } : State).sendMedia .linkReset

theorem State.resetLink_linkFell {s : State} (hp : s.ldr.part ≠ .fault) (up : Bool) (n : Nat) :
    ({ s with up := ⟨up, s.up.head⟩ } : State).resetLink n = (s.linkFell up).resetRunning n := by
  unfold State.resetLink State.linkFell
  exact if_neg hp

theorem exec_linkReset {s : State} (hp : s.ldr.part ≠ .fault) (n : Nat) :
    exec (.linkReset n none) s = .next ((s.linkFell s.up.linkUp).resetRunning n).syncStatusTimer :=
  congrArg State.done (State.resetLink_linkFell hp s.up.linkUp n)

theorem exec_upstreamLinkDown {s : State} (hp : s.ldr.part ≠ .fault) (n : Nat) :
    exec (.upstreamLinkDown n none) s = .next ((s.linkFell false).resetRunning n).syncStatusTimer :=
  congrArg State.done (State.resetLink_linkFell hp false n)

theorem Line.uncut_wasReset_free (x : Line) : x.wasReset.uncut.pins = 0 ∧ x.wasReset.uncut.waiting = [] := by
  unfold Line.wasReset
  split
  · exact ⟨rfl, rfl⟩
  next hne => split <;> simp [Line.uncut, Line.atReset, hne]

theorem Line.uncut_wasReset_filling {x : Line} (h : x.state = .filling) : x.wasReset.uncut = Line.blank := by
  rw [Line.wasReset, if_pos h]
  rfl

theorem Line.uncut_wasReset_writes {x : Line} (h : x.state.writes = true) :
    x.wasReset.uncut.state = .dirty ∧ x.wasReset.uncut.dirtyTimer = some ⟨5000, 0⟩ ∧
      x.wasReset.uncut.entries = x.entries ∧ x.wasReset.uncut.tag = x.tag := by
  have hne : x.state ≠ .filling := fun c => by simp [c, LineState.writes] at h
  rw [Line.wasReset, if_neg hne, if_pos h]
  simp [Line.uncut, Line.atReset, hne, Timer.start, Config.dirtyMs]

theorem Line.uncut_wasReset_kept {x : Line} (h : x.state = .clean ∨ x.state = .dirty) :
    x.wasReset.uncut.state = x.state ∧ x.wasReset.uncut.entries = x.entries ∧ x.wasReset.uncut.tag = x.tag ∧
      x.wasReset.uncut.dirtyTimer = x.dirtyTimer ∧ x.wasReset.uncut.refilling = false := by
  have hne : x.state ≠ .filling := by rcases h with h | h <;> simp [h]
  have hw : ¬ x.state.writes = true := by rcases h with h | h <;> simp [h, LineState.writes]
  rw [Line.wasReset, if_neg hne, if_neg hw]
  simp [Line.uncut, Line.atReset, hne]

/-- Settles O14: both commands reset the same state but for the port's own mark, and each part of the reset is the matching
`resetRunning_*` lemma. -/
theorem linkResetClearsTraffic : Obligations.LinkResetClearsTraffic := by
  unfold Obligations.LinkResetClearsTraffic
  intro s n hp hidle
  have hcleared : ∀ up, TrafficCleared (s.linkFell up) ((s.linkFell up).resetRunning n).syncStatusTimer := fun up =>
    State.resetRunning_cleared (s := s.linkFell up) hidle n
  refine ⟨_, _, exec_linkReset hp n, exec_upstreamLinkDown hp n, (hcleared _).up, (hcleared _).up, ?_⟩
  intro x hx
  obtain ⟨up, hx⟩ : ∃ up, x = ((s.linkFell up).resetRunning n).syncStatusTimer := hx.elim (fun h => ⟨_, h⟩) fun h => ⟨_, h⟩
  have c : TrafficCleared (s.linkFell up) x := hx ▸ hcleared up
  have hlines : ∀ l, x.line l = (s.line l).wasReset.uncut := c.lines
  have hbatch : BatchCut (s.linkFell up) x n := hx ▸ State.resetRunning_batch (s := s.linkFell up) hidle n
  refine ⟨c.ports, c.slots, c.accums, fun l => ?_, c.queue, c.map, c.cfg, c.freeze, c.flags, c.clock, c.mediaUp, c.part,
    congrArg MendEngine.queue c.mend, congrArg WalkEngine.saved c.walk, fun l hl => ?_, fun l hl => ?_, fun l hl => ?_,
    fun i hlife hk hd hrun hbase => ?_, fun i b hlife hk hd => ?_, hbatch.ended, fun b hb he hc hf hw => ?_, hbatch.again⟩
  · rw [hlines l]
    exact Line.uncut_wasReset_free _
  · rw [hlines l]
    exact Line.uncut_wasReset_filling hl
  · obtain ⟨hstate, htimer, hentries, htag⟩ := Line.uncut_wasReset_writes hl
    rw [hlines l]
    exact ⟨hstate, htimer, hentries, htag, c.rewritten l hl⟩
  · rw [hlines l]
    exact Line.uncut_wasReset_kept hl
  · rw [hx]
    exact State.resetRunning_status (s := s.linkFell up) hidle n hlife hk hd hrun hbase
  · rw [hx]
    exact State.resetRunning_catalogue (s := s.linkFell up) hidle n hlife hk hd
  · exact ⟨hbatch.goesOn b hb he hc hf hw, hbatch.handed b hb he hc hf hw⟩

end Sys2Proof.Machine

/-!
PROOFS. The MEND_FRAME record (R142, R165).
-/

namespace Sys2Proof.Machine

/-- The result of the record that is executed now. -/
theorem State.gained_record {s u : State} {i : Instr} (h : s.executes i) (hb : u.dir.batch = s.dir.batch) (r : Result) :
    Gained s (u.addResult r).syncStatusTimer r := by
  obtain ⟨b, hbatch⟩ := State.executes_batch h
  have hgain : Gained u (u.addResult r) r := State.gained_addResult (hb.trans hbatch) r
  unfold Gained at hgain ⊢
  rw [hb] at hgain
  simpa using hgain

theorem exec_mendFrame {s : State} {extent frame target : Nat} (h : s.executes (.mendFrame extent frame target none)) :
    exec (.mendFrame extent frame target none) s = (s.mendFrameRecord extent frame target).done :=
  if_pos h

theorem State.mendFrameRecord_of_error {s : State} {extent frame target : Nat} {r : Result}
    (h : s.mendFrameCheck extent frame target = .error r) : s.mendFrameRecord extent frame target = s.addResult r := by
  simp [State.mendFrameRecord, h]

theorem State.mendFrameRecord_of_ok {s : State} {extent frame target : Nat} {k : FrameKey}
    (h : s.mendFrameCheck extent frame target = .ok k) : s.mendFrameRecord extent frame target = s.frameAsk k := by
  simp [State.mendFrameRecord, h]

/-- A frame copy that passes the checks is of a mendable extent with a replica. -/
theorem State.mendFrameCheck_ok {s : State} {extent frame target : Nat} {k : FrameKey}
    (h : s.mendFrameCheck extent frame target = .ok k) :
    (s.extent k.extent).state.mendable = true ∧ (s.extent k.extent).hasReplica = true := by
  unfold State.mendFrameCheck at h
  split at h
  · dsimp only at h
    split at h
    · cases h
    next hok =>
      split at h
      · cases h
      · cases h
        simpa using hok
  · cases h

/-- The record `k`, which holds its line `l`. -/
def FrameAsk.holding (k : FrameKey) (l : Fin 64) : FrameAsk := ⟨k, .fill, some l⟩

/-- The pin and the record leave the entries as they are. -/
theorem State.entryIn_pinned (s : State) (l : Fin 64) (q : FrameAsk) (frame : Nat) :
    ((s.pin l).setAsk q).entryIn l frame = s.entryIn l frame :=
  (congrArg (fun x : Line => x.entry frame) (s.pin_line l)).trans rfl

/-- A record whose entry a line holds pins it and is tested at once. -/
theorem State.frameAsk_of_found {s : State} {k : FrameKey} {l : Fin 64}
    (hl : s.findLine ((s.extent k.extent).digestBlock k.frame) = some l) (hst : (s.line l).state ≠ .filling)
    (he : (s.entryIn l k.frame).copyState k.copy ≠ .mending) :
    s.frameAsk k = ((s.pin l).setAsk (.holding k l)).frameTests (.holding k l) l := by
  have hline : ((s.pin l).setAsk (.holding k l)).line l = { s.line l with pins := (s.line l).pins + 1 } := s.pin_line l
  have hask : ((s.setAsk ⟨k, .queue, none⟩).pin l).setAsk (.holding k l) = (s.pin l).setAsk (.holding k l) := rfl
  have hfound : (s.setAsk ⟨k, .queue, none⟩).findLine ((s.extent k.extent).digestBlock k.frame) = some l := hl
  have hnot : ¬(((s.pin l).setAsk (.holding k l)).line l).state = .filling := by rw [hline]; exact hst
  have hheld : ((s.pin l).setAsk (.holding k l)).frameHeld (.holding k l) l =
      ((s.pin l).setAsk (.holding k l)).frameTests (.holding k l) l := by
    unfold State.frameHeld
    dsimp only
    exact if_neg (fun c => he (s.entryIn_pinned l (.holding k l) k.frame ▸ c.1))
  unfold State.frameAsk
  simp only [State.requestLine_of_found hfound]
  exact (if_neg hnot).trans hheld

/-- The record joins the mend queue at its end. -/
theorem State.frameTests_queues {s : State} {q : FrameAsk} {l : Fin 64} (hp : s.mendPresent q.key = false)
    (hx : (s.extent q.key.extent).state.mendable = true ∧ (s.extent q.key.extent).hasReplica = true)
    (ht : (s.entryIn l q.key.frame).copyState q.key.copy = .suspect)
    (ho : (s.entryIn l q.key.frame).copyState q.key.copy.other = .sealed) (hroom : s.mend.queue.length < 16) :
    s.frameTests q l =
      State.answerFrame { s with mend := { s.mend with queue := s.mend.queue ++ [q.key] } } .done := by
  simp [State.frameTests, hp, hx, ht, ho, hroom]

/-- The answer releases the record's pin. -/
theorem State.answerFrame_of_holding {s : State} {k : FrameKey} {l : Fin 64} (h : s.dir.mendFrame = some (.holding k l))
    (r : Result) :
    s.answerFrame r = (({ s with dir := { s.dir with mendFrame := none } } : State).unpin? (some l)).addResult r := by
  simp only [State.answerFrame, h]
  rfl

/-- The copy at the mend queue's end, and no record that waits. -/
def State.withMendAsked (s : State) (k : FrameKey) : State :=
  { s with mend := { s.mend with queue := s.mend.queue ++ [k] }, dir := { s.dir with mendFrame := none } }

theorem State.withMendAsked_line (s : State) (k : FrameKey) (j : Fin 64) : (s.withMendAsked k).line j = s.line j := rfl

/-- The state in which the record, queued for a mend, has its result: nothing of it is left but the queue's new end. -/
def State.frameQueued (s : State) (k : FrameKey) (l : Fin 64) : State := ((s.pin l).withMendAsked k).unpin? (some l)

theorem State.frameQueued_line (s : State) (k : FrameKey) (l j : Fin 64) : (s.frameQueued k l).line j = s.line j := by
  rw [State.frameQueued, State.unpin?_line, State.withMendAsked_line]
  by_cases hj : j = l
  · subst hj
    rw [State.pin_line, if_pos rfl]
    rfl
  · rw [if_neg (fun c => hj (Option.some.inj c).symm), (s.pin_onLine l).lines j hj]
    rfl

/-- Settles O51: a record that passes every test holds its line for the step alone. -/
theorem mendFrameQueued : Obligations.MendFrameQueued := by
  unfold Obligations.MendFrameQueued
  intro s extent frame target h
  constructor
  · intro r hr
    have hrec := s.recorded_addResult r
    exact ⟨_, (exec_mendFrame h).trans (congrArg State.done (State.mendFrameRecord_of_error hr)), State.gained_record h rfl r,
      hrec.ports, hrec.shelf, hrec.cfg, hrec.ldr⟩
  · intro k l hk hl hst ht ho hp hroom
    have hentry : ((s.pin l).setAsk (.holding k l)).entryIn l k.frame = s.entryIn l k.frame := s.entryIn_pinned l _ _
    have hstep : s.mendFrameRecord extent frame target = (s.frameQueued k l).addResult .done := by
      rw [State.mendFrameRecord_of_ok hk, State.frameAsk_of_found hl hst (by rw [ht]; decide),
        State.frameTests_queues (s := (s.pin l).setAsk (.holding k l)) (q := .holding k l) hp
          (State.mendFrameCheck_ok hk) ((congrArg (Entry.copyState · k.copy) hentry).trans ht)
          ((congrArg (Entry.copyState · k.copy.other) hentry).trans ho) hroom,
        State.answerFrame_of_holding (k := k) (l := l) rfl]
      rfl
    have hrec := (s.frameQueued k l).recorded_addResult .done
    obtain ⟨hmap, hpool, hstore, hwalk, hmend⟩ := hrec.shelf
    have hports : SamePorts s (s.frameQueued k l) := ⟨rfl, rfl, rfl, rfl, rfl⟩
    exact ⟨_, (exec_mendFrame h).trans (congrArg State.done hstep), State.gained_record (u := s.frameQueued k l) h rfl .done,
      hports.trans hrec.ports, hmend.trans rfl, hmap.trans rfl, hpool.trans rfl, hwalk.trans rfl,
      fun j => (State.line_congr hstore j).trans (s.frameQueued_line k l j), hrec.cfg.trans rfl, hrec.ldr.trans rfl⟩

end Sys2Proof.Machine

/-!
PROOFS. The arbiter's grant: what each owner does, and the data it gives (R57, R67, R99 to R101, R115, R146, R148, R173, R179,
R187, R189).
-/

namespace Sys2Proof.Machine

/-! ### What every owner's part leaves as it is -/

/-- What no owner moves as its request is granted, where no accumulator that it may abandon holds a return. -/
structure Granting (s t : State) : Prop where
  ports : t.ports = s.ports
  map : t.map = s.map
  cfg : t.cfg = s.cfg
  unlogged : Unlogged s t
  slots : ∀ j, (t.slot j).life = (s.slot j).life ∧ (t.slot j).kind = (s.slot j).kind ∧ (t.slot j).timer = (s.slot j).timer

theorem Granting.refl (s : State) : Granting s s := ⟨rfl, rfl, rfl, ⟨rfl, rfl, rfl⟩, fun _ => ⟨rfl, rfl, rfl⟩⟩

theorem Granting.trans {s t u : State} (h : Granting s t) (k : Granting t u) : Granting s u := by
  refine ⟨k.ports.trans h.ports, k.map.trans h.map, k.cfg.trans h.cfg, ?_, fun j => ?_⟩
  · obtain ⟨h1, h2, h3⟩ := h.unlogged
    obtain ⟨k1, k2, k3⟩ := k.unlogged
    exact ⟨k1.trans h1, k2.trans h2, k3.trans h3⟩
  · obtain ⟨h1, h2, h3⟩ := h.slots j
    obtain ⟨k1, k2, k3⟩ := k.slots j
    exact ⟨k1.trans h1, k2.trans h2, k3.trans h3⟩

/-- The store, the pool, the engines and the arbiter's queue are no part of it. -/
theorem Granting.of_eq {s t : State} (hports : t.ports = s.ports) (hmap : t.map = s.map) (hcfg : t.cfg = s.cfg)
    (hrep : t.rep = s.rep) (hslots : t.slots = s.slots) : Granting s t :=
  ⟨hports, hmap, hcfg, by simp [Unlogged, hrep], fun j => by simp [State.slot_congr hslots j]⟩

theorem State.mapSlots_granting (s : State) {f : Slot → Slot}
    (h : ∀ x, (f x).life = x.life ∧ (f x).kind = x.kind ∧ (f x).timer = x.timer) : Granting s (s.mapSlots f) :=
  ⟨rfl, rfl, rfl, ⟨rfl, rfl, rfl⟩, fun j => by rw [State.slot_mapSlots]; exact h _⟩

theorem State.setSlot_granting (s : State) (i : Fin 256) {x : Slot}
    (h : x.life = (s.slot i).life ∧ x.kind = (s.slot i).kind ∧ x.timer = (s.slot i).timer) : Granting s (s.setSlot i x) := by
  refine ⟨rfl, rfl, rfl, ⟨rfl, rfl, rfl⟩, fun j => ?_⟩
  rw [State.slot_setSlot]
  split
  next hj => rw [hj]; exact h
  next => exact ⟨rfl, rfl, rfl⟩

theorem State.unpin?_granting (s : State) (o : Option (Fin 64)) : Granting s (s.unpin? o) :=
  .of_eq (by simp) (by simp) (by simp) (by simp) (by simp)

/-- The accumulator at a position, where there is one, holds no return. -/
def State.unheld (s : State) (p : Fin 32) : Prop := ∀ a, s.accum p = some a → a.holding = []

theorem State.abandon_granting {s : State} {p : Fin 32} (h : s.unheld p) : Granting s (s.abandon p) := by
  cases ha : s.accum p with
  | none =>
    rw [State.abandon, ha]
    exact .refl s
  | some a =>
    rw [State.abandon_of_unheld ha (h a ha)]
    have hdrop : Granting s (s.mapSlots fun x => x.dropAccum p) := s.mapSlots_granting fun _ => ⟨rfl, rfl, rfl⟩
    have hwait : Granting (s.mapSlots fun x => x.dropAccum p) ((s.mapSlots fun x => x.dropAccum p).dropWaiting (.accum p)) :=
      .of_eq rfl rfl rfl rfl rfl
    refine (hdrop.trans hwait).trans (Granting.trans ?_ (State.unpin?_granting _ _))
    refine (State.mapSlots_granting _ (f := fun x => x.dropWatch p) fun _ => ⟨rfl, rfl, rfl⟩).trans ?_
    exact .of_eq rfl rfl rfl rfl rfl

/-- An accumulator opened on a line, or on none. -/
def State.opensOn (s : State) (p : Fin 32) (mode : AccumMode) (k : FrameKey) : Option (Fin 64) → State
  | none => s.openAccum p mode k none
  | some l => (s.pin l).openAccum p mode k (some l)

theorem State.opensOn_granting (s : State) (p : Fin 32) (mode : AccumMode) (k : FrameKey) (o : Option (Fin 64)) :
    Granting s (s.opensOn p mode k o) := by
  cases o with
  | none => exact .of_eq rfl rfl rfl rfl rfl
  | some l => exact .of_eq rfl rfl rfl rfl rfl

theorem State.opensOn_accum (s : State) (p q : Fin 32) (mode : AccumMode) (k : FrameKey) (o : Option (Fin 64)) :
    (s.opensOn p mode k o).accum q = if q = p then some (Accum.opened mode k o) else s.accum q := by
  cases o with
  | none => exact State.accum_setAccum s p q _
  | some l => exact State.accum_setAccum (s.pin l) p q _

/-- A copy named to a position: an accumulator of it stays, one is opened where there is none, one of another copy is abandoned
first (R67). -/
theorem State.nameCopy_cases (s : State) (p : Fin 32) (mode : AccumMode) (k : FrameKey) (o : Option (Fin 64)) :
    ((∃ a, s.accum p = some a ∧ a.key = k) ∧ s.nameCopy p mode k o = s) ∨
      (s.accum p = none ∧ s.nameCopy p mode k o = s.opensOn p mode k o) ∨
      s.nameCopy p mode k o = (s.abandon p).opensOn p mode k o := by
  unfold State.nameCopy
  dsimp only
  cases ha : s.accum p with
  | none => exact .inr (.inl ⟨rfl, by cases o <;> rfl⟩)
  | some a =>
    by_cases hk : a.key = k
    · exact .inl ⟨⟨a, rfl, hk⟩, if_pos hk⟩
    · exact .inr (.inr ((if_neg hk).trans (by cases o <;> rfl)))

theorem State.nameCopy_granting {s : State} {p : Fin 32} (h : s.unheld p) (mode : AccumMode) (k : FrameKey)
    (o : Option (Fin 64)) : Granting s (s.nameCopy p mode k o) ∧ (s.nameCopy p mode k o).unheld p := by
  have hopened : ∀ t : State, (t.opensOn p mode k o).unheld p := fun t a ha => by
    rw [State.opensOn_accum, if_pos rfl] at ha
    exact Option.some.inj ha ▸ rfl
  rcases s.nameCopy_cases p mode k o with ⟨-, heq⟩ | ⟨-, heq⟩ | heq <;> rw [heq]
  · exact ⟨.refl s, h⟩
  · exact ⟨s.opensOn_granting p mode k o, hopened s⟩
  · exact ⟨(State.abandon_granting h).trans (State.opensOn_granting _ p mode k o), hopened _⟩

theorem State.joinRead_granting {s : State} {p : Fin 32} (h : s.unheld p) (i : Fin 256) (t : Touched) :
    Granting s (s.joinRead p i t) := by
  unfold State.joinRead
  split
  · exact .refl s
  dsimp only
  split
  · exact State.abandon_granting h
  split
  · split
    · exact s.setSlot_granting i ⟨rfl, rfl, rfl⟩
    · exact .refl s
  · exact Granting.trans (t := s.setAccum p _) (.of_eq rfl rfl rfl rfl rfl) (State.setSlot_granting _ i ⟨rfl, rfl, rfl⟩)

/-- The chunk of an engine: its copy is named to the engine's position, and its run reserved there. -/
theorem State.engineChunk_granting {s : State} {p : Fin 32} (h : s.unheld p) (mode : AccumMode) (k : FrameKey)
    (o : Option (Fin 64)) (i : Fin 256) (t : Touched) : Granting s ((s.nameCopy p mode k o).joinRead p i t) :=
  have hnamed := State.nameCopy_granting h mode k o
  hnamed.1.trans (State.joinRead_granting hnamed.2 i t)

/-- Feeding a mend queues requests and counts its chunks on, and nothing else. -/
theorem State.feedMend_moves {s : State} {m : Mend} (h : s.mend.active = some m) :
    ∃ arb n, s.feedMend = { s with arb := arb, mend := { s.mend with active := some { m with next := n } } } := by
  have hsame : s = { s with arb := s.arb, mend := { s.mend with active := some { m with next := m.next } } } := by
    rw [← h]
  unfold State.feedMend
  rw [h]
  dsimp only
  split
  · unfold State.feedCopy
    split
    · split
      · split
        · exact ⟨_, _, hsame⟩
        · exact ⟨_, m.next, congrArg (fun t : State => t.enqueue _) hsame⟩
      · split
        · exact ⟨_, _, rfl⟩
        · exact ⟨_, _, hsame⟩
    · exact ⟨_, _, hsame⟩
  · rw [State.forEach_enqueue (fun j t => t.mendRead m j) (fun _ _ _ => rfl)]
    exact ⟨_, _, rfl⟩
  · exact ⟨_, _, hsame⟩

theorem State.beginWrite_granting (s : State) (l : Fin 64) : Granting s (s.beginWrite l) := by
  unfold State.beginWrite
  split
  · exact .of_eq (by simp) (by simp) (by simp) (by simp) (by simp)
  · exact .refl s

theorem State.grantWriteback_granting (s : State) (l : Fin 64) : Granting s (s.grantWriteback l).1 := by
  unfold State.grantWriteback
  dsimp only
  split
  · exact s.beginWrite_granting l
  · exact (s.beginWrite_granting l).trans (.of_eq rfl rfl rfl rfl rfl)

theorem State.grantOwner_granting {s : State} (hscrub : s.unheld scrubPos) (hmend : s.unheld mendPos) (i : Fin 256)
    (r : InjRequest) : Granting s (s.grantOwner i r).1 := by
  unfold State.grantOwner
  split
  · exact .refl s
  · exact .refl s
  · exact .refl s
  · exact ⟨rfl, rfl, rfl, ⟨rfl, rfl, rfl⟩, fun _ => ⟨rfl, rfl, rfl⟩⟩
  · unfold State.grantLog
    split <;> exact ⟨rfl, rfl, rfl, ⟨rfl, rfl, rfl⟩, fun _ => ⟨rfl, rfl, rfl⟩⟩
  · exact s.grantWriteback_granting _
  · exact .refl s
  · exact .of_eq rfl rfl rfl rfl rfl
  · dsimp only
    unfold State.grantWalk
    split
    · exact .refl s
    next w _ =>
      refine Granting.trans (t := s.setWalk (some w.granted)) (.of_eq rfl rfl rfl rfl rfl) ?_
      exact State.engineChunk_granting (s := s.setWalk (some w.granted)) hscrub _ _ _ _ _
  · dsimp only
    unfold State.grantMendRead
    split
    · exact .refl s
    · split
      · exact .refl s
      · exact State.engineChunk_granting hmend _ _ _ _ _
  · unfold State.grantMendWrite
    split
    · exact .refl s
    next m _ =>
      obtain ⟨arb, n, heq⟩ := State.feedMend_moves (s := s.setMend (some { m with buffer := none })) rfl
      dsimp only
      rw [heq]
      exact .of_eq rfl rfl rfl rfl rfl

/-! ### Owner by owner -/

/-- A read is granted without data. -/
theorem State.grantOwner_read (s : State) (i : Fin 256) {r : InjRequest} (h : r.owner.kind = .read) :
    (s.grantOwner i r).2 = [] := by
  obtain ⟨o, kind, addr, count⟩ := r
  cases o with
  | fill _ | refill _ | catalogueRead _ | walkChunk _ _ | mendRead _ => rfl
  | _ => cases h

theorem State.nameCopy_arb (s : State) (p : Fin 32) (mode : AccumMode) (k : FrameKey) (o : Option (Fin 64)) :
    (s.nameCopy p mode k o).arb = s.arb := by
  have hopens : ∀ t : State, (t.opensOn p mode k o).arb = t.arb := fun t => by cases o <;> rfl
  rcases s.nameCopy_cases p mode k o with ⟨-, heq⟩ | ⟨-, heq⟩ | heq <;> rw [heq]
  · exact hopens s
  · exact (hopens _).trans (by simp)

theorem State.nameCopy_engines (s : State) (p : Fin 32) (mode : AccumMode) (k : FrameKey) (o : Option (Fin 64)) :
    (s.nameCopy p mode k o).walk = s.walk ∧ (s.nameCopy p mode k o).mend = s.mend := by
  have hopens : ∀ t : State, (t.opensOn p mode k o).walk = t.walk ∧ (t.opensOn p mode k o).mend = t.mend := fun t => by
    cases o <;> exact ⟨rfl, rfl⟩
  rcases s.nameCopy_cases p mode k o with ⟨-, heq⟩ | ⟨-, heq⟩ | heq <;> rw [heq]
  · exact ⟨rfl, rfl⟩
  · exact hopens s
  · obtain ⟨hw, hm⟩ := hopens (s.abandon p)
    exact ⟨hw.trans (by simp), hm.trans (by simp)⟩

theorem State.grantWriteback_arb (s : State) (l : Fin 64) : (s.grantWriteback l).1.arb = s.arb := by
  have hbegin : (s.beginWrite l).arb = s.arb := by
    unfold State.beginWrite
    split <;> simp
  unfold State.grantWriteback
  dsimp only
  split <;> exact hbegin

/-- Only the mend's write queues another request as it is granted. -/
theorem State.grantOwner_arb (s : State) (i : Fin 256) {r : InjRequest} (h : r.owner.isMendWrite = false) :
    (s.grantOwner i r).1.arb = s.arb := by
  unfold State.grantOwner
  split
  · rfl
  · rfl
  · rfl
  · rfl
  · unfold State.grantLog
    split <;> rfl
  · exact s.grantWriteback_arb _
  · rfl
  · rfl
  · dsimp only
    unfold State.grantWalk
    split
    · rfl
    · rw [State.joinRead_arb, State.nameCopy_arb]
      rfl
  · dsimp only
    unfold State.grantMendRead
    split
    · rfl
    · split
      · rfl
      · dsimp only
        rw [State.joinRead_arb, State.nameCopy_arb]
  next heq =>
    rw [heq] at h
    cases h

/-- The owners that are no engine leave slots, pool and mend as they are. -/
theorem State.grantOwner_slots (s : State) (i : Fin 256) {r : InjRequest} (hw : r.owner.isWalk = false)
    (hm : r.owner.isMend = false) :
    (s.grantOwner i r).1.slots = s.slots ∧ (s.grantOwner i r).1.mend = s.mend ∧ (s.grantOwner i r).1.pool = s.pool := by
  have hback : ∀ l, (s.grantWriteback l).1.slots = s.slots ∧ (s.grantWriteback l).1.mend = s.mend ∧
      (s.grantWriteback l).1.pool = s.pool := fun l => by
    have hbegin : (s.beginWrite l).slots = s.slots ∧ (s.beginWrite l).mend = s.mend ∧ (s.beginWrite l).pool = s.pool := by
      unfold State.beginWrite
      split <;> simp
    unfold State.grantWriteback
    dsimp only
    split <;> exact hbegin
  obtain ⟨o, kind, addr, count⟩ := r
  cases o with
  | walkChunk _ _ => cases hw
  | mendRead _ | mendWrite _ => cases hm
  | writeback l => exact hback l
  | log =>
    have hlog : s.grantLog.1.slots = s.slots ∧ s.grantLog.1.mend = s.mend ∧ s.grantLog.1.pool = s.pool := by
      unfold State.grantLog
      split <;> exact ⟨rfl, rfl, rfl⟩
    exact hlog
  | _ => exact ⟨rfl, rfl, rfl⟩

theorem State.grantOwner_updateCount (s : State) (i : Fin 256) {r : InjRequest} (h : r.owner ≠ .status) :
    (s.grantOwner i r).1.rep.updateCount = s.rep.updateCount := by
  exact ((Keeps.refl s).grantOwner i r h).count

/-- A chunk's blocks of its frame copy. -/
def chunkTouched (k : FrameKey) (j count : Nat) : Touched := ⟨k, 256 * j, 256 * j + count - 1, 0⟩

/-- An accumulator that has reserved one more run for a request in flight (R68, R70). -/
def Accum.reserving (a : Accum) (first last : Nat) : Accum :=
  { a with runs := insertRun first last a.runs, pendingCount := a.pendingCount + 1, idle := none }

/-- A read reserves in an accumulator the blocks of it that are not reserved yet (R70). -/
theorem State.joinRead_reserves {s : State} {p : Fin 32} {a : Accum} (ha : s.accum p = some a) (i : Fin 256) {t : Touched}
    (hlen : (insertRun t.first t.last a.runs).length ≤ 8) (hnew : gaps a.runs t.first t.last ≠ []) :
    s.joinRead p i t = (s.setAccum p (some (a.reserving t.first t.last))).addContribution i
      ⟨p, t.first, t.start, gaps a.runs t.first t.last, 0, 0⟩ := by
  simp [State.joinRead, ha, hnew, Nat.not_lt.mpr hlen, Accum.reserving]

theorem State.addContribution_slot (s : State) (i : Fin 256) (c : Contribution) (j : Fin 256) :
    (s.addContribution i c).slot j =
      if j = i then { s.slot i with contribs := (s.slot i).contribs ++ [c] } else s.slot j := State.slot_setSlot s i j _

/-- What an engine's chunk leaves where the engine's accumulator takes its run: `a` is the accumulator as it was. -/
structure ChunkReserved (p : Fin 32) (a : Accum) (i : Fin 256) (k : FrameKey) (first last : Nat) (s t : State) : Prop where
  accum : t.accum p = some (a.reserving first last)
  accums : OtherAccums s t p
  slots : OtherSlots s t i
  contribs : (t.slot i).contribs = (s.slot i).contribs ++ [⟨p, first, 0, gaps a.runs first last, 0, 0⟩]

theorem State.joinRead_reserved {s : State} {p : Fin 32} {a : Accum} (ha : s.accum p = some a) (i : Fin 256) (k : FrameKey)
    {first last : Nat} (hlen : (insertRun first last a.runs).length ≤ 8) (hnew : gaps a.runs first last ≠ []) :
    ChunkReserved p a i k first last s (s.joinRead p i ⟨k, first, last, 0⟩) := by
  rw [State.joinRead_reserves (t := ⟨k, first, last, 0⟩) ha i hlen hnew]
  refine ⟨State.accum_setAccum_self s p _, fun q hq => ?_, fun j hj => ?_, ?_⟩
  · exact (State.accum_setAccum s p q _).trans (if_neg hq)
  · rw [State.addContribution_slot, if_neg hj]
    rfl
  · rw [State.addContribution_slot, if_pos rfl]
    rfl

theorem insertRun_nil (first last : Nat) : insertRun first last [] = [(first, last)] := rfl

/-- The first chunk of a frame copy opens the engine's accumulator on the engine's line (R62, R67). -/
theorem State.engineChunk_opens {s : State} {p : Fin 32} (h : s.accum p = none) (mode : AccumMode) (k : FrameKey) (l : Fin 64)
    (i : Fin 256) {first last : Nat} (hrun : first ≤ last) :
    let t := (s.nameCopy p mode k (some l)).joinRead p i ⟨k, first, last, 0⟩
    ChunkReserved p (Accum.opened mode k (some l)) i k first last s t ∧ t.line l = { s.line l with pins := (s.line l).pins + 1 } := by
  have hnamed : s.nameCopy p mode k (some l) = s.opensOn p mode k (some l) := by
    unfold State.nameCopy
    rw [h]
    rfl
  have hopen : (s.opensOn p mode k (some l)).accum p = some (Accum.opened mode k (some l)) := by
    rw [State.opensOn_accum, if_pos rfl]
  have hnew : gaps (Accum.opened mode k (some l)).runs first last = [(first, last)] := if_pos hrun
  have hjoin := State.joinRead_reserved hopen i k (first := first) (last := last) (by simp [Accum.opened, insertRun])
    (by rw [hnew]; simp)
  dsimp only
  rw [hnamed]
  refine ⟨⟨hjoin.accum, fun q hq => (hjoin.accums q hq).trans ?_, fun j hj => hjoin.slots j hj, hjoin.contribs⟩, ?_⟩
  · rw [State.opensOn_accum, if_neg hq]
  · rw [State.joinRead_reserves (t := ⟨k, first, last, 0⟩) hopen i (by simp [Accum.opened, insertRun]) (by rw [hnew]; simp)]
    exact s.pin_line l

/-- A later chunk of the frame copy that the accumulator is of. -/
theorem State.nameCopy_of_named {s : State} {p : Fin 32} {a : Accum} {k : FrameKey} (ha : s.accum p = some a) (hk : a.key = k)
    (mode : AccumMode) (o : Option (Fin 64)) : s.nameCopy p mode k o = s := by
  unfold State.nameCopy
  dsimp only
  rw [ha]
  exact if_pos hk

/-! ### The grant as a whole -/

/-- The request has left the queue, and its slot is taken (R100). -/
def State.slotGranted (s : State) (i : Fin 256) (r : InjRequest) : State :=
  { s with arb := s.arb.erase r }.setSlot i (Slot.injected r s.cfg.returnTimeout)

/-- The state in which its owner has acted, and the data. -/
def State.granted (s : State) (i : Fin 256) (r : InjRequest) : State × List Byte := (s.slotGranted i r).grantOwner i r

theorem State.grantNext_of_some {s : State} {r : InjRequest} {i : Fin 256} (hr : s.nextGrant = some r)
    (hi : s.injSlot? = some i) :
    s.grantNext = (s.granted i r).1.sendMedia (.request r.owner.kind 0 i r.addr r.count (s.granted i r).2) := by
  simp only [State.grantNext, hr, hi]
  rfl

theorem State.grantNext_of_none {s : State} (h : s.nextGrant = none ∨ s.injSlot? = none) : s.grantNext = s := by
  unfold State.grantNext
  rcases h with h | h
  · rw [h]
  · cases hr : s.nextGrant <;> rw [h]

/-- The state after the grant. -/
def State.grantSent (s : State) (i : Fin 256) (r : InjRequest) : State :=
  ((s.granted i r).1.sendMedia (.request r.owner.kind 0 i r.addr r.count (s.granted i r).2)).syncStatusTimer

theorem exec_injectionGrant_of_some {s : State} {r : InjRequest} {i : Fin 256} (hr : s.nextGrant = some r)
    (hi : s.injSlot? = some i) : exec (.injectionGrant none) s = .next (s.grantSent i r) :=
  congrArg State.done (State.grantNext_of_some hr hi)

theorem exec_injectionGrant_of_none {s : State} (h : s.nextGrant = none ∨ s.injSlot? = none) :
    exec (.injectionGrant none) s = .next s.syncStatusTimer := congrArg State.done (State.grantNext_of_none h)

theorem State.slotGranted_slot (s : State) (i : Fin 256) (r : InjRequest) :
    (s.slotGranted i r).slot i = Slot.injected r s.cfg.returnTimeout := State.slot_setSlot_self _ i _

theorem State.slotGranted_others (s : State) (i : Fin 256) (r : InjRequest) : OtherSlots s (s.slotGranted i r) i :=
  State.otherSlots_setSlot _ i _

section

variable (s : State) (i : Fin 256) (r : InjRequest)

theorem State.grantSent_slot (j : Fin 256) : (s.grantSent i r).slot j = (s.granted i r).1.slot j :=
  State.slot_congr (by simp [State.grantSent]) j

theorem State.grantSent_accum (p : Fin 32) : (s.grantSent i r).accum p = (s.granted i r).1.accum p :=
  State.accum_congr (by simp [State.grantSent]) p

theorem State.grantSent_line (l : Fin 64) : (s.grantSent i r).line l = (s.granted i r).1.line l :=
  State.line_congr (by simp [State.grantSent]) l

theorem State.grantSent_arb : (s.grantSent i r).arb = (s.granted i r).1.arb := by simp [State.grantSent]

theorem State.grantSent_pool : (s.grantSent i r).pool = (s.granted i r).1.pool := by simp [State.grantSent]

theorem State.grantSent_mend : (s.grantSent i r).mend = (s.granted i r).1.mend := by simp [State.grantSent]

theorem State.grantSent_walk : (s.grantSent i r).walk = (s.granted i r).1.walk := by simp [State.grantSent]

theorem State.grantSent_ldr : (s.grantSent i r).ldr = (s.granted i r).1.ldr := by simp [State.grantSent]

/-- The port write and the status timer are no part of the status block. -/
theorem State.syncStatusTimer_eq (s : State) :
    ∃ x, s.syncStatusTimer = { s with rep := { s.rep with statusTimer := x } } := by
  unfold State.syncStatusTimer
  split
  · split
    · exact ⟨_, rfl⟩
    · exact ⟨s.rep.statusTimer, rfl⟩
  · split
    · exact ⟨_, rfl⟩
    · exact ⟨s.rep.statusTimer, rfl⟩

theorem State.leaveDirty_line (s : State) (l k : Fin 64) : (s.leaveDirty l).line k = s.line k := rfl

theorem State.grantSent_rep : ∃ x, (s.grantSent i r).rep = { (s.granted i r).1.rep with statusTimer := x } := by
  obtain ⟨x, hx⟩ := ((s.granted i r).1.sendMedia (.request r.owner.kind 0 i r.addr r.count (s.granted i r).2)).syncStatusTimer_eq
  exact ⟨x, congrArg State.rep hx⟩

theorem State.grantSent_statusImage : (s.grantSent i r).statusImage = (s.granted i r).1.statusImage := by
  obtain ⟨x, hx⟩ := ((s.granted i r).1.sendMedia (.request r.owner.kind 0 i r.addr r.count (s.granted i r).2)).syncStatusTimer_eq
  rw [State.grantSent, hx]
  rfl

/-- What every grant does, whatever its owner (R99, R100). -/
structure GrantMade (t : State) : Prop where
  ports : t.ports = { s.ports with
    media := s.ports.media ++ [.request r.owner.kind 0 i r.addr r.count (s.granted i r).2] }
  life : (t.slot i).life = .outstanding
  kind : (t.slot i).kind = .injected r.owner
  timer : (t.slot i).timer = some ⟨s.cfg.returnTimeout, 0⟩
  map : t.map = s.map
  cfg : t.cfg = s.cfg
  unlogged : Unlogged s t

theorem State.grantSent_made (hscrub : s.unheld scrubPos) (hmend : s.unheld mendPos) : GrantMade s i r (s.grantSent i r) := by
  have hg : Granting (s.slotGranted i r) (s.granted i r).1 := State.grantOwner_granting (s := s.slotGranted i r) hscrub hmend i r
  obtain ⟨hlife, hkind, htimer⟩ := hg.slots i
  rw [State.slotGranted_slot] at hlife hkind htimer
  obtain ⟨hhead, hwithheld, hflags⟩ := hg.unlogged
  refine ⟨?_, ?_, ?_, ?_, ?_, ?_, ?_⟩
  · simp only [State.grantSent, State.syncStatusTimer_ports, State.sendMedia, hg.ports]
    rfl
  · rw [State.grantSent_slot, hlife]
    rfl
  · rw [State.grantSent_slot, hkind]
    rfl
  · rw [State.grantSent_slot, htimer]
    rfl
  · simpa [State.grantSent, State.slotGranted] using hg.map
  · simpa [State.grantSent, State.slotGranted] using hg.cfg
  · simpa [State.grantSent, State.slotGranted, Unlogged] using hg.unlogged

theorem State.grantSent_status (h : r.owner = .status) :
    (s.grantSent i r).rep.updateCount = s.rep.updateCount + 1 ∧ (s.grantSent i r).rep.statusDue = false ∧
      (s.grantSent i r).rep.selectedSince = false ∧ (s.granted i r).2 = (s.grantSent i r).statusImage ∧
      ∃ shot, (s.grantSent i r).rep.statusShot = some shot ∧ shot.count = s.rep.updateCount + 1 ∧
        ∀ f : EventFlag, shot.shown[f.idx] = (s.flag f).isSet := by
  have hg : s.granted i r = (s.slotGranted i r).grantStatus := by
    unfold State.granted State.grantOwner
    rw [h]
  rw [State.grantSent_statusImage, State.grantSent, hg]
  refine ⟨by simp [State.grantStatus, State.slotGranted], by simp [State.grantStatus], by simp [State.grantStatus], rfl, ?_⟩
  refine ⟨_, by simp [State.grantStatus]; rfl, rfl, fun f => ?_⟩
  simp [State.flag, State.slotGranted]

theorem State.grantSent_writeback {l : Fin 64} (h : r.owner = .writeback l) :
    (s.granted i r).2 = s.lineImage l ∧ OtherLines s (s.grantSent i r) l ∧
      ((s.line l).state = .dirty →
        (s.grantSent i r).line l = { s.line l with state := .writing, dirtyTimer := none, cut := false }) ∧
      ((s.line l).state ≠ .dirty → (s.grantSent i r).line l = s.line l) := by
  let x := s.slotGranted i r
  have hg : s.granted i r = x.grantWriteback l := by
    unfold State.granted State.grantOwner
    rw [h]
  have hdata : (x.grantWriteback l).2 = x.lineImage l := by
    unfold State.grantWriteback
    dsimp only
    split <;> rfl
  have hstore : (x.grantWriteback l).1.store = (x.beginWrite l).store := by
    unfold State.grantWriteback
    dsimp only
    split <;> rfl
  have hline : ∀ k, (s.grantSent i r).line k = (x.beginWrite l).line k := fun k => by
    rw [State.grantSent_line, hg]
    exact State.line_congr hstore k
  have hbegin : ∀ k, (x.beginWrite l).line k = if k = l ∧ (s.line l).state = .dirty then
      { s.line l with state := .writing, dirtyTimer := none, cut := false } else s.line k := fun k => by
    unfold State.beginWrite
    by_cases hd : (s.line l).state = .dirty
    · rw [if_pos (show (x.line l).state = .dirty from hd), State.leaveDirty_line, State.line_setLine]
      simp only [hd, and_true]
      rfl
    · rw [if_neg (show ¬(x.line l).state = .dirty from hd), if_neg (fun c => hd c.2)]
      rfl
  refine ⟨hg ▸ hdata, fun k hk => ?_, fun hd => ?_, fun hd => ?_⟩
  · rw [hline, hbegin, if_neg (fun c => hk c.1)]
  · rw [hline, hbegin, if_pos ⟨rfl, hd⟩]
  · rw [hline, hbegin, if_neg (fun c => hd c.2)]

theorem State.grantSent_log (h : r.owner = .log) :
    (∀ b fs rest, s.rep.completed = (b, fs) :: rest →
      (s.granted i r).2 = logBlock fs ∧ (s.grantSent i r).rep.logShot = some .completed) ∧
    (s.rep.completed = [] → (s.granted i r).2 = logBlock (s.rep.image.getD []) ∧
      (s.grantSent i r).rep.logShot = some (.headImage s.rep.head) ∧ (s.grantSent i r).rep.imageChanged = false) := by
  have hg : s.granted i r = (s.slotGranted i r).grantLog := by
    unfold State.granted State.grantOwner
    rw [h]
  obtain ⟨x, hx⟩ := State.grantSent_rep s i r
  rw [hx, hg]
  constructor
  · intro b fs rest hc
    have hlog : (s.slotGranted i r).rep.completed = (b, fs) :: rest := hc
    unfold State.grantLog
    rw [hlog]
    exact ⟨rfl, rfl⟩
  · intro hc
    have hlog : (s.slotGranted i r).rep.completed = [] := hc
    unfold State.grantLog
    rw [hlog]
    exact ⟨rfl, rfl, rfl⟩

theorem State.grantSent_catalogue {b : Fin 17} (h : r.owner = .catalogueWrite b) :
    (s.granted i r).2 = s.catalogueImage b ∧ (s.grantSent i r).cat b = ⟨.writing, none, false⟩ := by
  have hg : s.granted i r = ((s.slotGranted i r).setCat b ⟨.writing, none, false⟩, (s.slotGranted i r).catalogueImage b) := by
    unfold State.granted State.grantOwner
    rw [h]
  rw [State.cat_congr (State.grantSent_ldr s i r), hg]
  refine ⟨rfl, ?_⟩
  rw [State.cat_setCat, if_pos rfl]

theorem State.grantSent_blank {b : Fin 17} (h : r.owner = .blankWrite b) :
    (s.granted i r).2 = s.blankImage b ∧ (s.grantSent i r).ldr = s.ldr := by
  have hg : s.granted i r = (s.slotGranted i r, (s.slotGranted i r).blankImage b) := by
    unfold State.granted State.grantOwner
    rw [h]
  rw [State.grantSent_ldr, hg]
  exact ⟨rfl, rfl⟩

/-- The contribution of the first chunk of a copy, on a slot just taken. -/
theorem State.firstChunk_contribs {x : State} {i : Fin 256} {r : InjRequest} {n : Nat}
    (hx : x.slot i = Slot.injected r n) {p : Fin 32} {mode : AccumMode} {k : FrameKey} {o : Option (Fin 64)} {first last : Nat}
    (hrun : first ≤ last) :
    (x.slot i).contribs ++ [⟨p, first, 0, gaps (Accum.opened mode k o).runs first last, 0, 0⟩] =
      [⟨p, first, 0, [(first, last)], 0, 0⟩] := by
  rw [hx]
  have hgaps : gaps (Accum.opened mode k o).runs first last = [(first, last)] := if_pos hrun
  rw [hgaps]
  rfl

/-- A walk's chunk (R67, R115). -/
theorem State.grantSent_walkChunk {k : FrameKey} {j : Nat} {w : Walk} (h : r.owner = .walkChunk k j)
    (hw : s.walk.cur = some w) (hcount : 0 < r.count) :
    (s.grantSent i r).walk = { s.walk with cur := some w.granted } ∧
      (∀ l, s.accum scrubPos = none → w.line = some l → OtherSlots s (s.grantSent i r) i ∧
        OtherAccums s (s.grantSent i r) scrubPos ∧
        (s.grantSent i r).accum scrubPos = some { Accum.opened .scrub k (some l) with
          runs := [(256 * j, 256 * j + r.count - 1)], pendingCount := 1 } ∧
        ((s.grantSent i r).slot i).contribs = [⟨scrubPos, 256 * j, 0, [(256 * j, 256 * j + r.count - 1)], 0, 0⟩] ∧
        ((s.grantSent i r).line l).pins = (s.line l).pins + 1) ∧
      (∀ a, s.accum scrubPos = some a → a.key = k →
        (insertRun (256 * j) (256 * j + r.count - 1) a.runs).length ≤ 8 →
        gaps a.runs (256 * j) (256 * j + r.count - 1) ≠ [] → OtherSlots s (s.grantSent i r) i ∧
        OtherAccums s (s.grantSent i r) scrubPos ∧
        (s.grantSent i r).accum scrubPos = some (a.reserving (256 * j) (256 * j + r.count - 1))) := by
  let x := (s.slotGranted i r).setWalk (some w.granted)
  have hg : s.granted i r = (((x.nameCopy scrubPos .scrub k w.line).joinRead scrubPos i
      ⟨k, 256 * j, 256 * j + r.count - 1, 0⟩), []) := by
    have hcur : (s.slotGranted i r).walk.cur = some w := hw
    unfold State.granted State.grantOwner State.grantWalk
    rw [h]
    dsimp only
    rw [hcur]
  have hothers : OtherSlots s x i := fun m hm => s.slotGranted_others i r m hm
  have hslots : ∀ {t : State}, (s.granted i r).1 = t → OtherSlots x t i → OtherSlots s (s.grantSent i r) i := fun ht hx m hm => by
    rw [State.grantSent_slot, ht]
    exact (hx m hm).trans (hothers m hm)
  have haccums : ∀ {t : State}, (s.granted i r).1 = t → OtherAccums x t scrubPos →
      OtherAccums s (s.grantSent i r) scrubPos := fun ht hx q hq => by
    rw [State.grantSent_accum, ht]
    exact hx q hq
  refine ⟨?_, fun l hnone hl => ?_, fun a ha hk hlen hnew => ?_⟩
  · rw [State.grantSent_walk, hg]
    exact (State.joinRead_walk _ _ _ _).trans (x.nameCopy_engines _ _ _ _).1
  · obtain ⟨hres, hpin⟩ := State.engineChunk_opens (s := x) hnone .scrub k l i
      (first := 256 * j) (last := 256 * j + r.count - 1) (by omega)
    rw [hl] at hg
    have hfst := congrArg Prod.fst hg
    refine ⟨hslots hfst hres.slots, haccums hfst hres.accums, ?_, ?_, ?_⟩
    · rw [State.grantSent_accum, hfst]
      exact hres.accum
    · rw [State.grantSent_slot, hfst]
      exact hres.contribs.trans (State.firstChunk_contribs (s.slotGranted_slot i r) (by omega))
    · rw [State.grantSent_line, hfst]
      exact (congrArg Line.pins hpin).trans rfl
  · have hnamed : x.nameCopy scrubPos .scrub k w.line = x := State.nameCopy_of_named (s := x) ha hk _ _
    rw [hnamed] at hg
    have hres := State.joinRead_reserved (s := x) ha i k hlen hnew
    have hfst := congrArg Prod.fst hg
    refine ⟨hslots hfst hres.slots, haccums hfst hres.accums, ?_⟩
    rw [State.grantSent_accum, hfst]
    exact hres.accum

/-- A mend's read (R67, R146, R148). -/
theorem State.grantSent_mendRead {j : Nat} {m : Mend} (h : r.owner = .mendRead j) (hm : s.mend.active = some m)
    (hcount : 0 < r.count) :
    (m.phase = .copy → (s.grantSent i r).pool = s.pool ∧ (s.grantSent i r).mend = s.mend ∧
        OtherSlots s (s.grantSent i r) i) ∧
      (∀ l, m.phase ≠ .copy → s.accum mendPos = none → m.line = some l → OtherSlots s (s.grantSent i r) i ∧
        OtherAccums s (s.grantSent i r) mendPos ∧
        (s.grantSent i r).accum mendPos = some { Accum.opened .mend ⟨m.extent, m.frame, m.readCopy⟩ (some l) with
          runs := [(256 * j, 256 * j + r.count - 1)], pendingCount := 1 } ∧
        ((s.grantSent i r).slot i).contribs = [⟨mendPos, 256 * j, 0, [(256 * j, 256 * j + r.count - 1)], 0, 0⟩]) := by
  let x := s.slotGranted i r
  have hgrant : s.granted i r = (x.grantMendRead i j r.count, []) := by
    unfold State.granted State.grantOwner
    rw [h]
  have hactive : x.mend.active = some m := hm
  have hothers : OtherSlots s x i := s.slotGranted_others i r
  refine ⟨fun hcopy => ?_, fun l hcopy hnone hl => ?_⟩
  · have hidle : x.grantMendRead i j r.count = x := by
      unfold State.grantMendRead
      rw [hactive]
      exact if_pos hcopy
    rw [hidle] at hgrant
    refine ⟨?_, ?_, fun m hm => ?_⟩
    · rw [State.grantSent_pool, hgrant]
      rfl
    · rw [State.grantSent_mend, hgrant]
      rfl
    · rw [State.grantSent_slot, hgrant]
      exact hothers m hm
  · have hjoin : x.grantMendRead i j r.count = (x.nameCopy mendPos .mend ⟨m.extent, m.frame, m.readCopy⟩ (some l)).joinRead
        mendPos i ⟨⟨m.extent, m.frame, m.readCopy⟩, 256 * j, 256 * j + r.count - 1, 0⟩ := by
      unfold State.grantMendRead
      rw [hactive]
      dsimp only
      rw [if_neg hcopy, hl]
    obtain ⟨hres, -⟩ := State.engineChunk_opens (s := x) hnone .mend ⟨m.extent, m.frame, m.readCopy⟩ l i
      (first := 256 * j) (last := 256 * j + r.count - 1) (by omega)
    rw [hjoin] at hgrant
    have hfst := congrArg Prod.fst hgrant
    refine ⟨fun m hm => ?_, fun q hq => ?_, ?_, ?_⟩
    · rw [State.grantSent_slot, hfst]
      exact (hres.slots m hm).trans (hothers m hm)
    · rw [State.grantSent_accum, hfst]
      exact hres.accums q hq
    · rw [State.grantSent_accum, hfst]
      exact hres.accum
    · rw [State.grantSent_slot, hfst]
      exact hres.contribs.trans (State.firstChunk_contribs (s.slotGranted_slot i r) (by omega))

/-- A mend's write (R148). -/
theorem State.grantSent_mendWrite {j n : Nat} {m : Mend} {bytes : List Byte} (h : r.owner = .mendWrite j)
    (hm : s.mend.active = some m) (hbuf : m.buffer = some (n, bytes)) :
    (s.granted i r).2 = bytes ∧ (s.grantSent i r).pool = s.pool ∧ OtherSlots s (s.grantSent i r) i ∧
      ∃ v, (s.grantSent i r).mend = { s.mend with active := some v } ∧ v.buffer = none ∧ v.stage = m.stage ∧
        v.phase = m.phase ∧ v.attempt = m.attempt := by
  let x := s.slotGranted i r
  obtain ⟨arb, next, hfeed⟩ := State.feedMend_moves (s := x.setMend (some { m with buffer := none })) rfl
  have hgrant : s.granted i r = ((x.setMend (some { m with buffer := none })).feedMend, bytes) := by
    have hactive : (s.slotGranted i r).mend.active = some m := hm
    unfold State.granted State.grantOwner State.grantMendWrite
    rw [h]
    dsimp only
    rw [hactive]
    dsimp only
    rw [hbuf]
  rw [hfeed] at hgrant
  refine ⟨congrArg Prod.snd hgrant, ?_, fun m hm => ?_, ?_⟩
  · rw [State.grantSent_pool, hgrant]
    rfl
  · rw [State.grantSent_slot, hgrant]
    exact s.slotGranted_others i r m hm
  · rw [State.grantSent_mend, hgrant]
    exact ⟨_, rfl, rfl, rfl, rfl, rfl⟩

end

/-- Settles O34: each owner's clause is the matching `grantSent_*` lemma. -/
theorem injectionGranted : Obligations.InjectionGranted := by
  unfold Obligations.InjectionGranted
  intro s
  refine ⟨fun r i hr hi hscrub hmend => ?_, fun h => ?_⟩
  · have hmade := State.grantSent_made s i r hscrub hmend
    refine ⟨_, _, exec_injectionGrant_of_some hr hi, hmade.ports, hmade.life, hmade.kind, hmade.timer, hmade.map, hmade.cfg,
      hmade.unlogged, fun h => State.grantOwner_read _ i h, fun h => ?_, fun hw hm => ?_, fun h => ?_, fun h => ?_,
      fun l h => State.grantSent_writeback s i r h, fun h => ?_, fun b h => State.grantSent_catalogue s i r h,
      fun b h => State.grantSent_blank s i r h, fun k j w h hw hc => ?_, fun j m h hm hc => State.grantSent_mendRead s i r h hm hc,
      fun j m n bytes h hm hb => State.grantSent_mendWrite s i r h hm hb⟩
    · exact (State.grantSent_arb s i r).trans (State.grantOwner_arb _ i h)
    · obtain ⟨hslots, hmends, hpool⟩ := State.grantOwner_slots (s.slotGranted i r) i hw hm
      refine ⟨fun j hj => ?_, (State.grantSent_mend s i r).trans hmends, (State.grantSent_pool s i r).trans hpool⟩
      rw [State.grantSent_slot]
      exact (State.slot_congr hslots j).trans (s.slotGranted_others i r j hj)
    · obtain ⟨x, hx⟩ := State.grantSent_rep s i r
      rw [hx]
      exact State.grantOwner_updateCount (s.slotGranted i r) i h
    · exact State.grantSent_status s i r h
    · obtain ⟨hdone, hhead⟩ := State.grantSent_log s i r h
      cases hc : s.rep.completed with
      | nil => exact hhead hc
      | cons c rest => exact hdone c.1 c.2 rest hc
    · obtain ⟨hwalk, hfirst, hlater⟩ := State.grantSent_walkChunk s i r h hw hc
      exact ⟨hwalk, hfirst, fun a ha hk _ => hlater a ha hk⟩
  · have hquiet := exec_injectionGrant_of_none h
    exact ⟨_, hquiet, by simp [SamePorts], by simp, SameShelf.sync ⟨rfl, rfl, rfl, rfl, rfl⟩⟩

end Sys2Proof.Machine

/-!
PROOFS. The expiry of an injected request's return timer, owner by owner (R53, R55, R58, R98, R117, R149, R150, R173, R179, R186,
R187, R189).
-/

namespace Sys2Proof.Machine

/-! ### The slot -/

/-- The state in which the owner is told: the slot is STALE. -/
def State.slotLate (s : State) (i : Fin 256) : State := s.setSlot i (s.slot i).stale

/-- The slot is STALE with its timer started again, and nothing left the ports. -/
structure Late (s : State) (i : Fin 256) (x : Timer) (t : State) : Prop where
  life : (t.slot i).life = .stale
  timer : (t.slot i).timer = some ⟨x.length, 0⟩
  ports : t.ports = s.ports

theorem Late.holds {s : State} {i : Fin 256} {x : Timer} {t : State} (h : Late s i x t) :
    (t.slot i).life = .stale ∧ (t.slot i).timer = some ⟨x.length, 0⟩ ∧ t.ports = s.ports := ⟨h.life, h.timer, h.ports⟩

theorem exec_injectedReturnTimeout {s : State} {i : Fin 256} {o : Owner} {x : Timer} (hlife : (s.slot i).life = .outstanding)
    (hk : (s.slot i).kind = .injected o) (htimer : (s.slot i).timer = some x) (hdue : x.length ≤ x.elapsed) {t : State}
    (ht : (s.slotLate i).ownerEnded (s.slot i) o .timeout none = t) :
    exec (.injectedReturnTimeout i none) s = .next t.syncStatusTimer := by
  refine congrArg State.done (Eq.trans ?_ ht)
  have hfires : (s.slot i).life = .outstanding ∧ timerDue (s.slot i).timer = true :=
    ⟨hlife, by simp [htimer, timerDue, Timer.due, hdue]⟩
  change s.injectedTimeout i none = _
  unfold State.injectedTimeout
  simp only [hk]
  exact if_pos hfires

section

variable {s : State} {i : Fin 256} {x : Timer} (htimer : (s.slot i).timer = some x)
include htimer

/-- What keeps the slot and the ports keeps the slot STALE. -/
theorem late_of {t : State} (hlife : (t.slot i).life = ((s.slotLate i).slot i).life)
    (ht : (t.slot i).timer = ((s.slotLate i).slot i).timer) (hports : t.ports = s.ports) : Late s i x t.syncStatusTimer := by
  have hslot : (s.slotLate i).slot i = (s.slot i).stale := State.slot_setSlot_self ..
  rw [hslot] at hlife ht
  refine ⟨?_, ?_, by simp [hports]⟩
  · rw [State.slot_congr (State.syncStatusTimer_slots _), hlife]
    rfl
  · rw [State.slot_congr (State.syncStatusTimer_slots _), ht]
    simp [Slot.stale, htimer, Timer.start]

theorem late_of_slots {t : State} (hslots : t.slots = (s.slotLate i).slots) (hports : t.ports = s.ports) :
    Late s i x t.syncStatusTimer ∧ OtherSlots s t.syncStatusTimer i := by
  refine ⟨late_of htimer ?_ ?_ hports, OtherSlots.sync fun j hj => ?_⟩
  · rw [State.slot_congr hslots]
  · rw [State.slot_congr hslots]
  · exact (State.slot_congr hslots j).trans (s.otherSlots_setSlot i _ j hj)

end

/-! ### Owners that stand alone -/

/-- A status write is to be made again (R173). -/
theorem statusTimeout {s : State} {shot : StatusShot} (h : s.rep.statusShot = some shot) :
    s.statusEnded false = (s.withRep { s.rep with statusShot := none }).statusDue := State.statusEnded_bad h

theorem State.ownerEnded_dead {s : State} {x : Slot} (hd : x.dead = true) {o : Owner} (hw : o.isWalk = false)
    (hm : o.isMend = false) (e : MediaEnd) : s.ownerEnded x o e none = s := by
  cases o with
  | walkChunk _ _ => cases hw
  | mendRead _ | mendWrite _ => cases hm
  | _ => exact if_pos hd

/-! ### Lines (R53, R55, R58) -/

theorem State.logLineFailure_onLine (s : State) (kind : FindingKind) (l : Fin 64) : OnLine l s (s.logLineFailure kind l) :=
  s.log_onLine l ..

theorem State.logLineFailure_line (s : State) (kind : FindingKind) (l k : Fin 64) : (s.logLineFailure kind l).line k = s.line k :=
  State.log_line ..

/-- The finding of a line's request that timed out. -/
def State.lineTimeout (s : State) (l : Fin 64) : Finding :=
  s.findingNow .timeout (some (s.line l).extent.val) (some ((s.extent (s.line l).extent).firstFrame (s.line l).tag)) none
    ((s.line l).tag % 2 ^ 32) ((s.line l).tag / 2 ^ 32) 0

/-- A line's request has timed out: `t` differs on the line alone, and one finding was handed over. -/
structure LineTimedOut (l : Fin 64) (s t : State) : Prop where
  onLine : OnLine l s t
  logged : s.ldr.part = .running → Logged s t (s.lineTimeout l)

theorem LineTimedOut.of_log {s t : State} {l : Fin 64} (hon : OnLine l (s.logLineFailure .timeout l) t)
    (hlog : SameLog (s.logLineFailure .timeout l) t) : LineTimedOut l s t :=
  ⟨(s.logLineFailure_onLine .timeout l).trans hon, fun hp => (State.logged_log (s.running_iff.mpr hp) ..).sameLog hlog⟩

section

variable {s : State} (hidle : s.enginesIdle) (hf : s.dir.mendFrame = none) {l : Fin 64} (hw : (s.line l).waiting = [])
include hidle hf hw

theorem State.fillTimedOut (hhead : s.up.head = none) :
    LineTimedOut l s (s.fillEnded l .timeout) ∧
      (s.fillEnded l .timeout).line l = { Line.blank with pins := (s.line l).pins } := by
  have hv := s.logLineFailure_onLine .timeout l
  have hline := s.logLineFailure_line .timeout l l
  have hlost : s.fillEnded l .timeout = (s.logLineFailure .timeout l).invalidate l := by
    refine State.fillLost_idle (s := s.logLineFailure .timeout l) ?_ (hv.dir ▸ hf) ?_ (hline ▸ hw)
    · unfold State.enginesIdle
      rw [hv.walk, hv.mend]
      exact hidle
    · simp [State.headWaitsOn, hv.up, hhead]
  rw [hlost]
  refine ⟨.of_log (State.invalidate_onLine _ l) (.of_rep (by simp)), ?_⟩
  rw [State.invalidate_line, hline]

theorem State.refillTimedOut :
    LineTimedOut l s (s.refillEnded l .timeout) ∧ (s.refillEnded l .timeout).line l = { s.line l with refilling := false } := by
  have hv := s.logLineFailure_onLine .timeout l
  have hline := s.logLineFailure_line .timeout l l
  have hlost : s.refillEnded l .timeout =
      (s.logLineFailure .timeout l).setLine l { (s.logLineFailure .timeout l).line l with refilling := false } := by
    refine State.refillLost_idle (s := s.logLineFailure .timeout l) ?_ (hv.dir ▸ hf) (hline ▸ hw)
    unfold State.enginesIdle
    rw [hv.walk, hv.mend]
    exact hidle
  rw [hlost]
  refine ⟨.of_log (State.setLine_onLine _ l _) (.of_rep rfl), ?_⟩
  rw [State.line_setLine_self, hline]

end

theorem State.writebackTimedOut {s : State} (hwalk : s.walk.cur = none) (hflush : s.dir.flush = none)
    (hq : s.store.queue = []) {l : Fin 64} (hst : (s.line l).state.writes = true) (hr : (s.line l).retrigger = false) :
    LineTimedOut l s (s.writebackEnded l .timeout) ∧ ((s.writebackEnded l .timeout).line l).state = .dirty ∧
      ((s.writebackEnded l .timeout).line l).dirtyTimer = some ⟨5000, 0⟩ ∧
      ((s.writebackEnded l .timeout).line l).entries = (s.line l).entries := by
  let w := (s.setLine l (s.line l).writeEnded).becomeDirty l
  have hwon : OnLine l s w := (s.setLine_onLine l _).trans (State.becomeDirty_onLine _ l)
  have hwline : w.line l = (s.line l).writeEnded.redirtied := (State.becomeDirty_line _ l).trans (by rw [State.line_setLine_self]; rfl)
  have hfailed : s.writebackFailed l .timeout = w.logLineFailure .timeout l := by
    rw [State.writebackFailed_writes hq hst, hr]
    rfl
  have hended : s.writebackEnded l .timeout = w.logLineFailure .timeout l :=
    State.writebackEnded_idle hwalk hflush l (e := .timeout) hfailed (hwon.trans (w.logLineFailure_onLine .timeout l))
  have hfinding : w.lineTimeout l = s.lineTimeout l := by
    have hclock : w.rep.clock = s.rep.clock := by simp [w]
    unfold State.lineTimeout State.findingNow
    rw [hwline, State.extent_congr hwon.map, hwon.cfg, hclock]
    rfl
  rw [hended, State.logLineFailure_line, hwline]
  exact ⟨⟨hwon.trans (w.logLineFailure_onLine .timeout l), fun hp =>
    hfinding ▸ ((State.logged_log (w.running_iff.mpr (by rw [hwon.ldr]; exact hp)) ..).of_rep (by simp [w]))⟩, rfl, rfl, rfl⟩

/-! ### The log, the loader and the catalogue (R179, R186, R187, R189) -/

theorem State.logTimedOut {s : State} {shot : LogShot} (h : s.rep.logShot = some shot) :
    s.logEnded false = (s.withRep s.rep.logLost).pumpLog := by
  rw [State.logEnded, h]
  rfl

theorem State.headerTimedOut {s : State} {n c : Nat} (hl : s.ldr.load = .header n) (hn : n < 2) (hc : s.controlBase = some c) :
    s.readEnded 0 .timeout none = (s.setLoad (.header (n + 1))).enqueue (Machine.readOf (.catalogueRead 0) (c + 34)) :=
  (State.readEnded_failed_header hl hc 0).trans (if_neg (by omega))

theorem State.blankTimedOut {s : State} {b : Fin 17} {n c : Nat} (hl : s.ldr.load = .blank b n) (hn : n < 2)
    (hc : s.controlBase = some c) :
    s.blankEnded b .timeout none = (s.setLoad (.blank b (n + 1))).enqueue (writeOf (.blankWrite b) (c + 34 + b.val)) := by
  have hended : s.blankEnded b .timeout none = (s.setLoad (.blank b (n + 1))).queueBlank b := by
    simp [State.blankEnded, hl, MediaEnd.isGood, Nat.not_le.mpr hn]
  exact hended.trans (State.queueBlank_eq ((s.setLoad_controlBase _).trans hc) b)

theorem State.catalogueTimedOut {s : State} (hf : s.dir.flush = none) (b : Fin 17) :
    s.catalogueEnded b .timeout =
      (s.setCat b ⟨.changed, some (Timer.start Config.dirtyMs), false⟩).logCatalogue .timeout b := by
  unfold State.catalogueEnded
  simp only [MediaEnd.isGood, Bool.false_eq_true, if_false]
  exact State.flushBlock_of_none (by simpa [State.logCatalogue] using hf) ..

/-- The finding of a catalogue block's write that timed out. -/
theorem State.catalogueTimedOut_logged {s : State} (hf : s.dir.flush = none) {b : Fin 17} {c : Nat}
    (hc : s.controlBase = some c) (hp : s.ldr.part = .running) :
    Logged s (s.catalogueEnded b .timeout) (s.findingNow .timeout none none none ((c + 34 + b.val) % 2 ^ 32)
      ((c + 34 + b.val) / 2 ^ 32) 0) := by
  have hbase : (s.setCat b ⟨.changed, some (Timer.start Config.dirtyMs), false⟩).controlBase = some c := hc
  rw [State.catalogueTimedOut hf, State.logCatalogue, hbase]
  exact (State.logged_log (s := s.setCat b ⟨.changed, some (Timer.start Config.dirtyMs), false⟩) (s.running_iff.mpr hp) ..)

/-! ### From the owner's part to the step -/

section

variable {s : State} {i : Fin 256} {x : Timer} (htimer : (s.slot i).timer = some x)
include htimer

theorem LineTimedOut.late {l : Fin 64} {t : State} (h : LineTimedOut l (s.slotLate i) t) :
    Late s i x t.syncStatusTimer ∧ OtherSlots s t.syncStatusTimer i ∧ OtherLines s t.syncStatusTimer l ∧
      (s.ldr.part = .running → Logged s t.syncStatusTimer (s.lineTimeout l)) := by
  obtain ⟨hlate, hothers⟩ := late_of_slots htimer h.onLine.slots h.onLine.ports
  refine ⟨hlate, hothers, fun k hk => ?_, fun hp => (h.logged hp).sync⟩
  rw [State.syncStatusTimer_line]
  exact h.onLine.lines k hk

/-- A line's request that timed out, by what it was for. -/
theorem lineTimeout_holds {o : Owner} (hd : (s.slot i).dead = false) (hidle : s.enginesIdle) (hf : s.dir.mendFrame = none)
    (hflush : s.dir.flush = none) (hhead : s.up.head = none) (hq : s.store.queue = []) {l : Fin 64}
    (ho : o = .fill l ∨ o = .refill l ∨ (o = .writeback l ∧ (s.line l).state.writes = true ∧ (s.line l).retrigger = false))
    (hw : (s.line l).waiting = []) :
    let t := ((s.slotLate i).ownerEnded (s.slot i) o .timeout none).syncStatusTimer
    Late s i x t ∧ OtherSlots s t i ∧ OtherLines s t l ∧
      (o = .fill l → (t.line l).state = .invalid ∧ (t.line l).pins = (s.line l).pins) ∧
      (o = .refill l → t.line l = { s.line l with refilling := false }) ∧
      (o = .writeback l → (t.line l).state = .dirty ∧ (t.line l).dirtyTimer = some ⟨5000, 0⟩ ∧
        (t.line l).entries = (s.line l).entries) ∧
      (s.ldr.part = .running → Logged s t (s.lineTimeout l)) := by
  have hlive : ∀ y z : State, (if (s.slot i).dead = true then y else z) = z := fun y z => by simp [hd]
  dsimp only
  rw [State.syncStatusTimer_line]
  rcases ho with rfl | rfl | ⟨rfl, hst, hr⟩
  · have hend : (s.slotLate i).ownerEnded (s.slot i) (.fill l) .timeout none = (s.slotLate i).fillEnded l .timeout := hlive _ _
    obtain ⟨h, hline⟩ := State.fillTimedOut (s := s.slotLate i) hidle hf hw hhead
    obtain ⟨hlate, hothers, hlines, hlog⟩ := h.late htimer
    rw [hend]
    exact ⟨hlate, hothers, hlines, fun _ => by rw [hline]; exact ⟨rfl, rfl⟩, nofun, nofun, hlog⟩
  · have hend : (s.slotLate i).ownerEnded (s.slot i) (.refill l) .timeout none = (s.slotLate i).refillEnded l .timeout :=
      hlive _ _
    obtain ⟨h, hline⟩ := State.refillTimedOut (s := s.slotLate i) hidle hf hw
    obtain ⟨hlate, hothers, hlines, hlog⟩ := h.late htimer
    rw [hend]
    exact ⟨hlate, hothers, hlines, nofun, fun _ => hline, nofun, hlog⟩
  · have hend : (s.slotLate i).ownerEnded (s.slot i) (.writeback l) .timeout none = (s.slotLate i).writebackEnded l .timeout :=
      hlive _ _
    obtain ⟨h, hline⟩ := State.writebackTimedOut (s := s.slotLate i) hidle.1 hflush hq hst hr
    obtain ⟨hlate, hothers, hlines, hlog⟩ := h.late htimer
    rw [hend]
    exact ⟨hlate, hothers, hlines, nofun, nofun, fun _ => hline, hlog⟩

/-- The writes and reads that are made again. -/
theorem remadeTimeout_holds {o : Owner} (hd : (s.slot i).dead = false) (hflush : s.dir.flush = none) :
    let t := ((s.slotLate i).ownerEnded (s.slot i) o .timeout none).syncStatusTimer
    (o = .log → s.rep.logShot.isSome = true → Late s i x t ∧ t.rep.logShot = none ∧ t.rep.completed = s.rep.completed ∧
      t.rep.writtenHead = s.rep.writtenHead ∧ SameShelf s t ∧ Unlogged s t) ∧
    (∀ n c, o = .catalogueRead 0 → s.ldr.load = .header n → n < 2 → s.controlBase = some c → Late s i x t ∧
      t.ldr.load = .header (n + 1) ∧ t.arb = s.arb ++ [Machine.readOf (.catalogueRead 0) (c + 34)] ∧ Unlogged s t) ∧
    (∀ b n c, o = .blankWrite b → s.ldr.load = .blank b n → n < 2 → s.controlBase = some c → Late s i x t ∧
      t.ldr.load = .blank b (n + 1) ∧ t.arb = s.arb ++ [writeOf (.blankWrite b) (c + 34 + b.val)] ∧ Unlogged s t) ∧
    (∀ b c, o = .catalogueWrite b → s.controlBase = some c → Late s i x t ∧ t.cat b = ⟨.changed, some ⟨5000, 0⟩, false⟩ ∧
      (s.ldr.part = .running → Logged s t (s.findingNow .timeout none none none ((c + 34 + b.val) % 2 ^ 32)
        ((c + 34 + b.val) / 2 ^ 32) 0))) := by
  have hlive : ∀ y z : State, (if (s.slot i).dead = true then y else z) = z := fun y z => by simp [hd]
  dsimp only
  refine ⟨fun ho hshot => ?_, fun n c ho hl hn hc => ?_, fun b n c ho hl hn hc => ?_, fun b c ho hc => ?_⟩
  · subst ho
    obtain ⟨shot, hshot⟩ := Option.isSome_iff_exists.mp hshot
    have hend : (s.slotLate i).ownerEnded (s.slot i) .log .timeout none =
        ((s.slotLate i).withRep (s.slotLate i).rep.logLost).pumpLog :=
      (hlive _ _).trans (State.logTimedOut (s := s.slotLate i) hshot)
    have hkeeps := Report.logLost_keeps s.rep
    obtain ⟨y, hy⟩ := (((s.slotLate i).withRep (s.slotLate i).rep.logLost).pumpLog).syncStatusTimer_eq
    have hrep : (((s.slotLate i).withRep (s.slotLate i).rep.logLost).pumpLog).syncStatusTimer.rep =
        { s.rep.logLost with statusTimer := y } := by
      rw [hy, State.pumpLog_rep]
      rfl
    rw [hend]
    refine ⟨(late_of_slots htimer (by simp [State.withRep]) (by simp [State.withRep, State.slotLate])).1, ?_, ?_, ?_,
      SameShelf.sync ?_, ?_⟩
    · rw [hrep, hkeeps]
    · rw [hrep, hkeeps]
    · rw [hrep, hkeeps]
    · simp [SameShelf, State.withRep, State.slotLate]
    · rw [Unlogged, hrep, hkeeps]
      exact ⟨rfl, rfl, rfl⟩
  · subst ho
    have hend : (s.slotLate i).ownerEnded (s.slot i) (.catalogueRead 0) .timeout none = _ :=
      (hlive _ _).trans (State.headerTimedOut (s := s.slotLate i) hl hn hc)
    rw [hend]
    exact ⟨(late_of_slots htimer (by rfl) (by rfl)).1, by simp [State.setLoad], by simp [State.setLoad, State.slotLate, State.enqueue],
      (SameLog.of_rep rfl).sync.unlogged⟩
  · subst ho
    have hend : (s.slotLate i).ownerEnded (s.slot i) (.blankWrite b) .timeout none = _ :=
      (hlive _ _).trans (State.blankTimedOut (s := s.slotLate i) hl hn hc)
    rw [hend]
    exact ⟨(late_of_slots htimer (by rfl) (by rfl)).1, by simp [State.setLoad], by simp [State.setLoad, State.slotLate, State.enqueue],
      (SameLog.of_rep rfl).sync.unlogged⟩
  · subst ho
    have hend : (s.slotLate i).ownerEnded (s.slot i) (.catalogueWrite b) .timeout none =
        (s.slotLate i).catalogueEnded b .timeout := hlive _ _
    rw [hend]
    refine ⟨?_, ?_, fun hp => (State.catalogueTimedOut_logged (s := s.slotLate i) hflush hc hp).sync⟩
    · rw [State.catalogueTimedOut (s := s.slotLate i) hflush]
      exact (late_of_slots htimer (by simp [State.logCatalogue]) (by simp [State.logCatalogue, State.slotLate])).1
    · rw [State.syncStatusTimer_cat, State.catalogueTimedOut (s := s.slotLate i) hflush,
        State.logCatalogue, State.cat_congr (State.log_ldr ..), State.cat_setCat_self]
      rfl

end

/-! ### The walk engine's moves -/

/-- The engine comes from `s` to `t` in `n` moves. -/
def State.movesTo (n : Nat) (s t : State) : Prop := ∀ k, State.walkLoop (k + n) s = State.walkLoop k t

theorem State.movesTo_zero (s : State) : State.movesTo 0 s s := fun _ => rfl

theorem State.movesTo_succ {s t u : State} {n : Nat} (h : s.walkMove = some t) (k : State.movesTo n t u) :
    State.movesTo (n + 1) s u := fun m => by
  have hstep : State.walkLoop (m + n + 1) s = State.walkLoop (m + n) t := by simp only [State.walkLoop, h]
  exact hstep.trans (k m)

theorem State.walkLoop_of_halted {s : State} (h : s.walkMove = none) (k : Nat) : State.walkLoop k s = s := by
  cases k with
  | zero => rfl
  | succ k => simp only [State.walkLoop, h]

/-- The engine's run ends where it comes to a halt within its bound. -/
theorem State.walkRun_of_movesTo {s t : State} {n : Nat} (h : State.movesTo n s t) (hn : n ≤ Config.stepBound)
    (ht : t.walkMove = none) : s.walkRun = t := by
  have hrun := h (Config.stepBound - n)
  rw [Nat.sub_add_cancel hn, State.walkLoop_of_halted ht] at hrun
  exact hrun

theorem State.walkMove_of_suspended {s : State} {w : Walk} (hw : s.walk.cur = some w) (hrun : w.run = .suspended) :
    s.walkMove = none := by simp [State.walkMove, hw, hrun]

/-- A walk that is suspending, between its units (R110). -/
theorem State.walkMove_suspends {s : State} {w : Walk} (hw : s.walk.cur = some w) (hstage : w.stage = .ready)
    (hrun : w.run = .suspending) (hfl : w.inFlight = false) (hspent : w.spent = false) :
    s.walkMove = some (((s.clearWalk).unpin? w.line).setWalk (some (w.rested .suspended))) := by
  simp [State.walkMove, hw, hstage, hrun, hfl, hspent, State.stopWalk]

theorem State.setWalk_stopped (s : State) (a b : Option Walk) (o : Option (Fin 64)) :
    ((s.setWalk a).clearWalk.unpin? o).setWalk b = (s.clearWalk.unpin? o).setWalk b := by cases o <;> rfl

/-- A walk that is suspending and has no unit in flight stops; where its range is done it is past it (R110). -/
theorem State.walkRun_suspends {s : State} {w : Walk} (hw : s.walk.cur = some w) (hstage : w.stage = .ready)
    (hrun : w.run = .suspending) (hfl : w.inFlight = false) (hk : w.kind ≠ .pass) :
    ∃ p, s.walkRun = ((s.clearWalk).unpin? w.line).setWalk (some ({ w with past := p }.rested .suspended)) := by
  cases hspent : w.spent with
  | false =>
    refine ⟨w.past, State.walkRun_of_movesTo
      (State.movesTo_succ (State.walkMove_suspends hw hstage hrun hfl hspent) (State.movesTo_zero _)) (by decide) ?_⟩
    exact State.walkMove_of_suspended (w := w.rested .suspended) rfl rfl
  | true =>
    have hpass : s.walkMove = some (s.setWalk (some { w with past := true })) := by
      simp [State.walkMove, hw, hstage, hrun, hspent, State.passRange, hk]
    have hstop := State.walkMove_suspends (s := s.setWalk (some { w with past := true })) (w := { w with past := true }) rfl hstage
      hrun hfl rfl
    rw [State.setWalk_stopped] at hstop
    exact ⟨true, State.walkRun_of_movesTo (State.movesTo_succ hpass (State.movesTo_succ hstop (State.movesTo_zero _))) (by decide)
      (State.walkMove_of_suspended (w := { w with past := true }.rested .suspended) rfl rfl)⟩

/-! ### A walk's chunk (R117) -/

theorem State.killOutstanding_granting (s : State) (p : Owner → Bool) : Granting s (s.killOutstanding p) :=
  s.mapSlots_granting fun x => by
    cases hk : x.kind with
    | passthrough _ => simp [hk]
    | injected o => dsimp only; split <;> simp [hk]

theorem State.clearWalk_granting (s : State) : Granting s s.clearWalk :=
  (Granting.of_eq rfl rfl rfl rfl rfl : Granting s (s.withdraw Owner.isWalk)).trans
    ((State.killOutstanding_granting _ _).trans (.of_eq rfl rfl rfl rfl rfl))

theorem State.clearWalk_noneQueued (s : State) : NoneQueued s.clearWalk Owner.isWalk := fun r hr => by
  have hmem : r ∈ s.arb.filter fun q => !q.owner.isWalk := hr
  simpa using (List.mem_filter.mp hmem).2

/-- An accumulator that holds no return is gone as it is abandoned. -/
theorem State.abandon_accum {s : State} {p : Fin 32} (h : s.unheld p) : (s.abandon p).accum p = none := by
  cases ha : s.accum p with
  | none => rw [State.abandon, ha]; exact ha
  | some a => rw [State.abandon_of_unheld ha (h a ha), State.accum_congr (State.unpin?_pool _ _), State.accum_setAccum_self]

/-- The visit of a FULL walk's frame copy ends as its chunk times out: the copy is skipped. -/
theorem State.walkFailed_late {s : State} {w : Walk} (hw : s.walk.cur = some w) (hp : w.plan = none) (j : Nat) :
    ∃ next, s.walkFailed j false = (((s.abandon scrubPos).clearWalk).logCopy .timeout w.key (256 * j)
      ((s.accum scrubPos).elim 0 Accum.reserved) ((s.accum scrubPos).elim 0 Accum.pendingCount)).setWalk
        (some ((w.skip 1).nextCopy next)) := by
  unfold State.walkFailed
  rw [hw]
  dsimp only
  rw [hp]
  cases s.accum scrubPos <;> exact ⟨_, rfl⟩

theorem Walk.nextCopy_kept (w : Walk) (b : Bool) : (w.nextCopy b).stage = .ready ∧ (w.nextCopy b).run = w.run ∧
    (w.nextCopy b).inFlight = false ∧ (w.nextCopy b).kind = w.kind ∧ (w.nextCopy b).extent = w.extent ∧
    (w.nextCopy b).skipped = w.skipped ∧ (w.nextCopy b).checked = w.checked ∧ (w.nextCopy b).mismatches = w.mismatches := by
  unfold Walk.nextCopy
  split <;> exact ⟨rfl, rfl, rfl, rfl, rfl, rfl, rfl, rfl⟩

/-- A suspending walk after its chunk's timeout: `t` has it SUSPENDED as `v`. -/
structure WalkGaveUp (s : State) (w v : Walk) (f : Finding) (t : State) : Prop where
  slots : ∀ j, (t.slot j).life = (s.slot j).life ∧ (t.slot j).timer = (s.slot j).timer
  ports : t.ports = s.ports
  walk : t.walk = { s.walk with cur := some v }
  run : v.run = .suspended
  extent : v.extent = w.extent
  line : v.line = none
  skipped : v.skipped = min 4294967295 (w.skipped + 1)
  checked : v.checked = w.checked
  mismatches : v.mismatches = w.mismatches
  accum : t.accum scrubPos = none
  queued : NoneQueued t Owner.isWalk
  logged : Logged s t f

theorem State.walkFailed_suspends {s : State} {w : Walk} (hw : s.walk.cur = some w) (hp : w.plan = none) (hk : w.kind = .check)
    (hrun : w.run = .suspending) (hpart : s.ldr.part = .running) (hh : s.unheld scrubPos) (j : Nat) :
    ∃ v, WalkGaveUp s w v (s.findingNow .timeout (some w.extent.val) (some w.frame) (some w.copy.num) (256 * j)
      ((s.accum scrubPos).elim 0 Accum.reserved) ((s.accum scrubPos).elim 0 Accum.pendingCount)) (s.walkFailed j false).walkRun := by
  obtain ⟨next, hfail⟩ := State.walkFailed_late hw hp j
  obtain ⟨hstage, hvrun, hfl, hvk, hext, hskip, hcheck, hmis⟩ := (w.skip 1).nextCopy_kept next
  let c := (s.abandon scrubPos).clearWalk
  have hc : Granting s c := (State.abandon_granting hh).trans (State.clearWalk_granting _)
  have hcrep : c.rep = s.rep := by simp [c, State.clearWalk]
  let L := c.logCopy .timeout w.key (256 * j) ((s.accum scrubPos).elim 0 Accum.reserved)
    ((s.accum scrubPos).elim 0 Accum.pendingCount)
  have hcwalk : c.walk = s.walk := by simp [c, State.clearWalk]
  have hlog : Logged s L (s.findingNow .timeout (some w.extent.val) (some w.frame) (some w.copy.num) (256 * j)
      ((s.accum scrubPos).elim 0 Accum.reserved) ((s.accum scrubPos).elim 0 Accum.pendingCount)) := by
    have hcl : c.ldr = s.ldr := by simp [c, State.clearWalk]
    have h := (State.logged_log (s := c) (c.running_iff.mpr (by rw [hcl]; exact hpart)) .timeout (some w.extent.val) (some w.frame)
      (some w.copy.num) (256 * j) ((s.accum scrubPos).elim 0 Accum.reserved) ((s.accum scrubPos).elim 0 Accum.pendingCount)).of_rep hcrep
    unfold State.findingNow at h ⊢
    rw [hc.cfg, hcrep] at h
    exact h
  obtain ⟨p, hstop⟩ := State.walkRun_suspends (s := L.setWalk (some ((w.skip 1).nextCopy next))) rfl hstage (hvrun.trans hrun) hfl
    (by rw [hvk]; exact fun h => by rw [show (w.skip 1).kind = w.kind from rfl, hk] at h; cases h)
  rw [State.setWalk_stopped] at hstop
  have hrest : Granting L ((L.clearWalk).unpin? ((w.skip 1).nextCopy next).line) :=
    L.clearWalk_granting.trans (State.unpin?_granting _ _)
  rw [hfail, hstop]
  refine ⟨{ (w.skip 1).nextCopy next with past := p }.rested .suspended, fun m => ?_, ?_, ?_, rfl, hext, rfl, hskip, hcheck, hmis, ?_, ?_, hlog.sameLog (.of_rep (by simp [State.clearWalk, State.setWalk]))⟩
  · obtain ⟨hl, -, ht⟩ := hc.slots m
    obtain ⟨hl', -, ht'⟩ := hrest.slots m
    have hlogged : L.slot m = c.slot m := State.slot_congr (by simp [L, State.logCopy]) m
    exact ⟨hl'.trans ((congrArg Slot.life hlogged).trans hl), ht'.trans ((congrArg Slot.timer hlogged).trans ht)⟩
  · have hports : L.ports = c.ports := by simp [L, State.logCopy]
    exact hrest.ports.trans (hports.trans hc.ports)
  · simp [State.setWalk, State.clearWalk, L, State.logCopy, hcwalk]
  · have hpool : (((L.clearWalk).unpin? ((w.skip 1).nextCopy next).line).setWalk
        (some ({ (w.skip 1).nextCopy next with past := p }.rested .suspended))).pool = (s.abandon scrubPos).pool := by
      simp [State.setWalk, State.clearWalk, L, State.logCopy, c]
    exact (State.accum_congr hpool scrubPos).trans (State.abandon_accum hh)
  · intro r hr
    refine L.clearWalk_noneQueued r ?_
    simpa [State.setWalk] using hr

/-! ### What the report writer queues -/

/-- What `t` has queued and `s` had not is the report writer's (R173, R179). -/
def ReporterQueues (s t : State) : Prop := ∀ r ∈ t.arb, r ∈ s.arb ∨ r.owner = .status ∨ r.owner = .log

theorem ReporterQueues.of_arb {s t : State} (h : t.arb = s.arb) : ReporterQueues s t := fun _ hr => .inl (h ▸ hr)

theorem ReporterQueues.trans {s t u : State} (h : ReporterQueues s t) (k : ReporterQueues t u) : ReporterQueues s u :=
  fun r hr => (k r hr).elim (h r) .inr

theorem ReporterQueues.noneQueued {s t : State} (h : ReporterQueues s t) {p : Owner → Bool} (hs : NoneQueued s p)
    (hstatus : p .status = false) (hlog : p .log = false) : NoneQueued t p := fun r hr => by
  rcases h r hr with hmem | ho | ho
  · exact hs r hmem
  · rw [ho, hstatus]
  · rw [ho, hlog]

theorem ReporterQueues.enqueue {s : State} {r : InjRequest} (h : r.owner = .status ∨ r.owner = .log) :
    ReporterQueues s (s.enqueue r) := fun q hq => by
  rcases List.mem_append.mp hq with hmem | hlast
  · exact .inl hmem
  · rw [List.mem_singleton.mp hlast]
    exact .inr h

theorem State.pumpStatus_reporter (s : State) : ReporterQueues s s.pumpStatus := by
  unfold State.pumpStatus
  split
  · exact .of_arb rfl
  · split
    · exact .enqueue (.inl rfl)
    · exact .of_arb rfl

theorem State.pumpLog_reporter (s : State) : ReporterQueues s s.pumpLog := by
  unfold State.pumpLog
  split
  · exact .of_arb rfl
  · split
    · exact .enqueue (.inr rfl)
    · exact .of_arb rfl

theorem State.raise_reporter (s : State) (f : EventFlag) : ReporterQueues s (s.raise f) :=
  State.pumpStatus_reporter { s with rep := _ }

theorem State.log_reporter (s : State) (k : FindingKind) (e f c : Option Nat) (d1 d2 d3 : Nat) :
    ReporterQueues s (s.log k e f c d1 d2 d3) := by
  unfold State.log State.handFinding
  split
  · split
    · exact State.raise_reporter { s with rep := _ } .logFull
    · exact (State.raise_reporter { s with rep := s.rep.place (s.findingNow k e f c d1 d2 d3) } .finding).trans
        (State.pumpLog_reporter _)
  · exact .of_arb rfl

/-! ### A mend's chunk (R150) -/

theorem State.stopMendWork_granting {s : State} (h : s.unheld mendPos) : Granting s s.stopMendWork :=
  (Granting.of_eq rfl rfl rfl rfl rfl : Granting s (s.withdraw Owner.isMend)).trans
    ((State.killOutstanding_granting _ _).trans
      ((State.abandon_granting (s := (s.withdraw Owner.isMend).killOutstanding Owner.isMend) h).trans
        (.of_eq rfl rfl rfl rfl rfl)))

theorem State.stopMendWork_accum {s : State} (h : s.unheld mendPos) : s.stopMendWork.accum mendPos = none :=
  State.abandon_accum (s := (s.withdraw Owner.isMend).killOutstanding Owner.isMend) h

theorem State.stopMendWork_noneQueued (s : State) : NoneQueued s.stopMendWork Owner.isMend := fun r hr => by
  have harb : s.stopMendWork.arb = s.arb.filter fun q => !q.owner.isMend :=
    (State.abandon_arb ((s.withdraw Owner.isMend).killOutstanding Owner.isMend) mendPos).trans rfl
  rw [harb] at hr
  simpa using (List.mem_filter.mp hr).2

/-- COPY begins at chunk 0 in attempt `m.attempt`, whatever it may queue at once (R148). -/
theorem State.startPhase_copy (s : State) (m : Mend) :
    ∃ arb n, s.startPhase m .copy =
      { s with arb := arb, mend := { s.mend with active := some { m.atPhase .copy with next := n } } } :=
  State.feedMend_moves (s := s.setMend (some (m.atPhase .copy))) rfl

/-- None of an engine's requests is queued or OUTSTANDING. -/
structure NoneInHand (s : State) (p : Owner → Bool) : Prop where
  queued : NoneQueued s p
  slots : ∀ q, (s.slot q).life ≠ .outstanding

theorem State.exists_slot_of_mem {s : State} {x : Slot} (h : x ∈ s.slots.toList) : ∃ q, s.slot q = x := by
  obtain ⟨k, hk, rfl⟩ := List.getElem_of_mem h
  exact ⟨⟨k, by simpa using hk⟩, by simp [State.slot]⟩

theorem NoneInHand.inHand {s : State} {p : Owner → Bool} (h : NoneInHand s p) : s.inHand p = 0 := by
  have hqueued : (s.arb.countP fun r => p r.owner) = 0 := List.countP_eq_zero.mpr fun r hr => by simp [h.queued r hr]
  have hslots : s.outstanding p = 0 := List.countP_eq_zero.mpr fun x hx => by
    obtain ⟨q, rfl⟩ := State.exists_slot_of_mem hx
    have hq := h.slots q
    cases (s.slot q).kind <;> simp [hq]
  rw [State.inHand, hqueued, hslots]

theorem NoneInHand.liveInHand {s : State} {p q : Owner → Bool} (h : NoneInHand s p) (hq : ∀ o, q o = true → p o = true) :
    s.liveInHand q = false := by
  have hqueued : (s.arb.any fun r => q r.owner) = false := List.any_eq_false.mpr fun r hr hr' => by
    have := h.queued r hr
    rw [hq _ hr'] at this
    cases this
  unfold State.liveInHand
  rw [hqueued, Bool.false_or]
  refine List.any_eq_false.mpr fun x hx => ?_
  obtain ⟨i, rfl⟩ := State.exists_slot_of_mem hx
  have hi := h.slots i
  cases (s.slot i).kind <;> simp [hi]

/-- With nothing in hand COPY queues the read of the source's first chunk (R148). -/
theorem State.startPhase_copy_reads {s : State} {m : Mend} (h : NoneInHand s Owner.isMend) (hpace : 0 < s.cfg.paceDepth)
    (hspan : 0 < (s.extent m.extent).span) :
    (⟨.mendRead 0, .read, (s.extent m.extent).blockAddr m.target.other m.frame 0, (s.extent m.extent).chunkLen 0⟩ :
      InjRequest) ∈ (s.startPhase m .copy).arb := by
  let u := s.setMend (some (m.atPhase .copy))
  have hu : NoneInHand u Owner.isMend := ⟨h.queued, h.slots⟩
  have hroom : u.inHand Owner.isMend < u.cfg.paceDepth := by rw [hu.inHand]; exact hpace
  have hreads : u.liveInHand Owner.isMendRead = false := hu.liveInHand fun o ho => by cases o <;> first | rfl | cases ho
  have hchunks : (m.atPhase .copy).next < (u.extent (m.atPhase .copy).extent).chunks := Extent.chunks_pos hspan
  have hfeed : u.feedCopy (m.atPhase .copy) =
      (u.enqueue (u.mendRead (m.atPhase .copy) 0)).setMend (some { m.atPhase .copy with next := 1 }) := by
    unfold State.feedCopy
    rw [if_pos hroom]
    exact if_pos ⟨hchunks, hreads⟩
  have hstart : s.startPhase m .copy = u.feedCopy (m.atPhase .copy) := rfl
  rw [hstart, hfeed]
  exact List.mem_append_right _ (List.mem_singleton.mpr rfl)

/-- What stopping a mend's work leaves alone. -/
theorem State.stopMendWork_kept (s : State) : s.stopMendWork.rep = s.rep ∧ s.stopMendWork.walk = s.walk ∧
    s.stopMendWork.mend = s.mend ∧ s.stopMendWork.ldr = s.ldr ∧ s.stopMendWork.dir = s.dir := by
  unfold State.stopMendWork
  exact ⟨(State.abandon_rep _ _).trans rfl, (State.abandon_walk _ _).trans rfl, (State.abandon_mend _ _).trans rfl,
    (State.abandon_ldr _ _).trans rfl, (State.abandon_dir _ _).trans rfl⟩

/-- A mend's request that failed in COPY or VERIFY_TARGET of attempt 1: attempt 2 begins (R150). -/
theorem State.mendFailed_again {s : State} {m : Mend} (hm : s.mend.active = some m) (hph : m.phase = .copy ∨ m.phase = .verifyTarget)
    (ha : m.attempt = 1) (j : Nat) (copy : CopyId) (media : Bool) :
    s.mendFailed j copy media = ((s.stopMendWork).logCopy (if media then .mendMediaError else .mendTimeout)
      ⟨m.extent, m.frame, copy⟩ (256 * j) m.phase.code 1).startPhase { m with buffer := none, attempt := 2 } .copy := by
  unfold State.mendFailed
  rw [hm]
  rcases hph with hph | hph <;> simp only [hph, State.attemptFailed, ha, if_true]

/-- Attempt 2 has begun at COPY: `v` is the mend, `t` the state. -/
structure MendAgain (s : State) (m v : Mend) (f : Finding) (t : State) : Prop where
  slots : ∀ j, (t.slot j).life = (s.slot j).life ∧ (t.slot j).timer = (s.slot j).timer
  ports : t.ports = s.ports
  mend : t.mend = { s.mend with active := some v }
  stage : v.stage = .working
  phase : v.phase = .copy
  attempt : v.attempt = 2
  buffer : v.buffer = none
  extent : v.extent = m.extent
  frame : v.frame = m.frame
  target : v.target = m.target
  line : v.line = m.line
  accum : t.accum mendPos = none
  reads : (∀ q, (s.slot q).life ≠ .outstanding) → 0 < s.cfg.paceDepth → 0 < (s.extent m.extent).span →
    (⟨.mendRead 0, .read, (s.extent m.extent).blockAddr m.target.other m.frame 0, (s.extent m.extent).chunkLen 0⟩ :
      InjRequest) ∈ t.arb
  logged : Logged s t f

theorem State.mendFailed_begins {s : State} {m : Mend} (hm : s.mend.active = some m)
    (hph : m.phase = .copy ∨ m.phase = .verifyTarget) (ha : m.attempt = 1) (hp : s.ldr.part = .running)
    (hh : s.unheld mendPos) (j : Nat) (copy : CopyId) (media : Bool) :
    ∃ v, MendAgain s m v (s.findingNow (if media then .mendMediaError else .mendTimeout) (some m.extent.val) (some m.frame)
      (some copy.num) (256 * j) m.phase.code 1) (s.mendFailed j copy media) := by
  let c := s.stopMendWork
  have hc : Granting s c := State.stopMendWork_granting hh
  obtain ⟨hrep, -, hmend, hldr, -⟩ := s.stopMendWork_kept
  let L := c.logCopy (if media then .mendMediaError else .mendTimeout) ⟨m.extent, m.frame, copy⟩ (256 * j) m.phase.code 1
  have hlog : Logged s L (s.findingNow (if media then .mendMediaError else .mendTimeout) (some m.extent.val) (some m.frame)
      (some copy.num) (256 * j) m.phase.code 1) := by
    have h := (State.logged_log (s := c) (c.running_iff.mpr (by rw [hldr]; exact hp))
      (if media then .mendMediaError else .mendTimeout) (some m.extent.val) (some m.frame) (some copy.num) (256 * j)
      m.phase.code 1).of_rep hrep
    unfold State.findingNow at h ⊢
    rw [hc.cfg, hrep] at h
    exact h
  have hLslots : L.slots = c.slots := by simp [L, State.logCopy]
  have hLpool : L.pool = c.pool := by simp [L, State.logCopy]
  have hLports : L.ports = c.ports := by simp [L, State.logCopy]
  have hLmend : L.mend = c.mend := by simp [L, State.logCopy]
  have hLarb : NoneQueued L Owner.isMend := ReporterQueues.noneQueued (c.log_reporter _ _ _ _ _ _ _) s.stopMendWork_noneQueued rfl rfl
  have hLcfg : L.cfg = c.cfg := by simp [L, State.logCopy]
  have hLmap : L.map = c.map := by simp [L, State.logCopy]
  obtain ⟨arb, n, hstart⟩ := L.startPhase_copy { m with buffer := none, attempt := 2 }
  rw [State.mendFailed_again hm hph ha]
  refine ⟨{ { m with buffer := none, attempt := 2 }.atPhase .copy with next := n }, fun k => ?_, ?_, ?_, rfl, rfl, rfl, rfl, rfl,
    rfl, rfl, rfl, ?_, fun hq hpace hspan => ?_, ?_⟩
  · obtain ⟨hl, -, ht⟩ := hc.slots k
    rw [hstart, ← hl, ← ht]
    exact ⟨congrArg Slot.life (State.slot_congr hLslots k), congrArg Slot.timer (State.slot_congr hLslots k)⟩
  · rw [hstart]
    exact hLports.trans hc.ports
  · rw [hstart, ← hmend, ← show L.mend = s.stopMendWork.mend from hLmend]
  · rw [hstart]
    exact (State.accum_congr hLpool mendPos).trans (State.stopMendWork_accum hh)
  · have hnone : NoneInHand L Owner.isMend := by
      refine ⟨hLarb, fun q => ?_⟩
      rw [State.slot_congr hLslots, (hc.slots q).1]
      exact hq q
    have hext : L.extent m.extent = s.extent m.extent := State.extent_congr (hLmap.trans hc.map) _
    have hreads := State.startPhase_copy_reads (m := { m with buffer := none, attempt := 2 }) hnone
      (by rw [hLcfg, hc.cfg]; exact hpace) (by rw [hext]; exact hspan)
    rw [hext] at hreads
    exact hreads
  · exact hlog.sameLog (.of_rep (by rw [hstart]))

/-- Settles O33: what each owner does as its request times out, from the state in which the slot is STALE. -/
theorem injectedTimeout : Obligations.InjectedTimeout := by
  unfold Obligations.InjectedTimeout
  intro s i o x hlife hk htimer hdue late
  have hstep : exec (.injectedReturnTimeout i none) s =
      .next ((s.slotLate i).ownerEnded (s.slot i) o .timeout none).syncStatusTimer :=
    exec_injectedReturnTimeout hlife hk htimer hdue rfl
  refine ⟨fun ho hd hshot => ?_, fun hw hm hd => ?_, fun hd hidle hf hflush hhead hq => ?_,
    fun w k j ho hd hw hmend hkind hrun hplan hp hh => ?_, fun m j ho hd hm hwalk hph ha hp hh hfree hpace hspan => ?_⟩
  · obtain ⟨shot, hshot⟩ := Option.isSome_iff_exists.mp hshot
    have hend : (s.slotLate i).ownerEnded (s.slot i) o .timeout none =
        ((s.slotLate i).withRep { s.rep with statusShot := none }).statusDue := by
      subst ho
      exact (if_neg (by simp [hd])).trans (statusTimeout (s := s.slotLate i) hshot)
    rw [hend] at hstep
    obtain ⟨hlate, hothers⟩ := late_of_slots htimer
      (t := ((s.slotLate i).withRep { s.rep with statusShot := none }).statusDue) (by simp [State.withRep])
      (by simp [State.withRep, State.slotLate])
    refine ⟨_, hstep, hlate.holds, hothers, by simp [State.withRep], ?_, SameShelf.sync (by simp [SameShelf, State.withRep, State.slotLate]), ?_⟩
    · obtain ⟨y, hy⟩ := State.syncStatusTimer_eq ((s.slotLate i).withRep { s.rep with statusShot := none }).statusDue
      rw [hy, State.statusDue_rep]
    · obtain ⟨y, hy⟩ := State.syncStatusTimer_eq ((s.slotLate i).withRep { s.rep with statusShot := none }).statusDue
      rw [Unlogged, hy, State.statusDue_rep]
      exact ⟨rfl, rfl, rfl⟩
  · rw [State.ownerEnded_dead hd hw hm] at hstep
    obtain ⟨hlate, hothers⟩ := late_of_slots htimer (t := s.slotLate i) rfl rfl
    exact ⟨_, hstep, hlate.holds, hothers, by simp [State.slotLate], SameShelf.sync ⟨rfl, rfl, rfl, rfl, rfl⟩,
      by simp [State.slotLate], by simp [State.slotLate], (SameLog.of_rep rfl).sync.unlogged⟩
  · obtain ⟨hlog, hread, hblank, hcat⟩ := remadeTimeout_holds htimer (o := o) hd hflush
    refine ⟨_, hstep, fun l ho hw => ?_, fun ho hs => ?_, fun n c ho hl hn hc => ?_, fun b n c ho hl hn hc => ?_, fun b c ho hc => ?_⟩
    · obtain ⟨hlate, hrest⟩ := lineTimeout_holds htimer hd hidle hf hflush hhead hq ho hw
      exact ⟨hlate.holds, hrest⟩
    · obtain ⟨hlate, hrest⟩ := hlog ho hs
      exact ⟨hlate.holds, hrest⟩
    · obtain ⟨hlate, hrest⟩ := hread n c ho hl hn hc
      exact ⟨hlate.holds, hrest⟩
    · obtain ⟨hlate, hrest⟩ := hblank b n c ho hl hn hc
      exact ⟨hlate.holds, hrest⟩
    · obtain ⟨hlate, hrest⟩ := hcat b c ho hc
      exact ⟨hlate.holds, hrest⟩
  · subst ho
    obtain ⟨v, h⟩ := State.walkFailed_suspends (s := s.slotLate i) hw hplan hkind hrun hp hh j
    have hend : (s.slotLate i).ownerEnded (s.slot i) (.walkChunk k j) .timeout none = ((s.slotLate i).walkFailed j false).walkRun :=
      if_neg (by simp [hd])
    rw [hend] at hstep
    have hlate := late_of htimer (h.slots i).1 (h.slots i).2 h.ports
    refine ⟨_, v, hstep, hlate.holds, (State.syncStatusTimer_walk _).trans h.walk, h.run, h.extent, h.line, h.skipped, h.checked,
      h.mismatches, (State.accum_congr (State.syncStatusTimer_pool _) _).trans h.accum,
      fun r hr => h.queued r (State.syncStatusTimer_arb _ ▸ hr), ?_⟩
    have hlog := h.logged.sync
    have haccum : (s.slotLate i).accum scrubPos = s.accum scrubPos := rfl
    rw [haccum] at hlog
    generalize s.accum scrubPos = a at hlog ⊢
    cases a with
    | none => exact hlog
    | some a => exact hlog
  · have hnone : ∀ q, ((s.slotLate i).slot q).life ≠ .outstanding := fun q => by
      rw [State.slotLate, State.slot_setSlot]
      split
      · simp [Slot.stale]
      next hq => simp [hfree q hq]
    have hactive : (s.slotLate i).mend.active = some m := hm
    have hfails : ∀ copy, (s.slotLate i).ownerEnded (s.slot i) o .timeout none = (s.slotLate i).mendFailed j copy false →
        ∃ t v, exec (.injectedReturnTimeout i none) s = .next t ∧ late t ∧ t.mend = { s.mend with active := some v } ∧
          v.stage = .working ∧ v.phase = .copy ∧ v.attempt = 2 ∧ v.buffer = none ∧ v.extent = m.extent ∧ v.frame = m.frame ∧
          v.target = m.target ∧ v.line = m.line ∧ t.accum mendPos = none ∧
          (⟨.mendRead 0, .read, (s.extent m.extent).blockAddr m.target.other m.frame 0, (s.extent m.extent).chunkLen 0⟩ :
            InjRequest) ∈ t.arb ∧
          Logged s t (s.findingNow .mendTimeout (some m.extent.val) (some m.frame) (some copy.num) (256 * j) m.phase.code 1) := by
      intro copy hend
      obtain ⟨v, h⟩ := State.mendFailed_begins (s := s.slotLate i) hm hph ha hp hh j copy false
      rw [hend] at hstep
      exact ⟨_, v, hstep, (late_of htimer (h.slots i).1 (h.slots i).2 h.ports).holds, (State.syncStatusTimer_mend _).trans h.mend,
        h.stage, h.phase, h.attempt, h.buffer, h.extent, h.frame, h.target, h.line,
        (State.accum_congr (State.syncStatusTimer_pool _) _).trans h.accum,
        (State.syncStatusTimer_arb _).symm ▸ h.reads hnone hpace hspan, h.logged.sync⟩
    rcases ho with rfl | rfl
    · exact hfails m.readCopy (by simp only [State.ownerEnded, State.mendReadEnded, hd, hactive])
    · exact hfails m.target (by simp only [State.ownerEnded, State.mendWriteEnded, hd, hactive])

end Sys2Proof.Machine

/-!
PROOFS. What a mend's step keeps around the line that holds its entry, and how a mend closes or begins an attempt (R146, R147, R149
to R152).
-/

namespace Sys2Proof.Machine

/-! ### Around a line -/

/-- What a mend's step keeps: the ports, the map, the settings and the loader, every line but `l`, what lines are of, and the slots
that are FREE or not OUTSTANDING. -/
structure Around (l : Fin 64) (s t : State) : Prop where
  ports : t.ports = s.ports
  map : t.map = s.map
  cfg : t.cfg = s.cfg
  ldr : t.ldr = s.ldr
  lines : ∀ k, k ≠ l → (t.line k).entries = (s.line k).entries ∧ (t.line k).state = (s.line k).state
  tags : ∀ k, (t.line k).tag = (s.line k).tag ∧ (t.line k).extent = (s.line k).extent
  valid : ∀ k, (t.line k).state = .invalid ↔ (s.line k).state = .invalid
  freed : ∀ q, s.slot q = Slot.freeSlot → t.slot q = Slot.freeSlot
  resting : ∀ q, (s.slot q).life ≠ .outstanding → (t.slot q).life ≠ .outstanding

theorem Around.refl (l : Fin 64) (s : State) : Around l s s :=
  ⟨rfl, rfl, rfl, rfl, fun _ _ => ⟨rfl, rfl⟩, fun _ => ⟨rfl, rfl⟩, fun _ => Iff.rfl, fun _ h => h, fun _ h => h⟩

theorem Around.trans {l : Fin 64} {s t u : State} (h : Around l s t) (k : Around l t u) : Around l s u where
  ports := k.ports.trans h.ports
  map := k.map.trans h.map
  cfg := k.cfg.trans h.cfg
  ldr := k.ldr.trans h.ldr
  lines j hj := by
    obtain ⟨h1, h2⟩ := h.lines j hj
    obtain ⟨k1, k2⟩ := k.lines j hj
    exact ⟨k1.trans h1, k2.trans h2⟩
  tags j := by
    obtain ⟨h1, h2⟩ := h.tags j
    obtain ⟨k1, k2⟩ := k.tags j
    exact ⟨k1.trans h1, k2.trans h2⟩
  valid j := (k.valid j).trans (h.valid j)
  freed q hq := k.freed q (h.freed q hq)
  resting q hq := k.resting q (h.resting q hq)

/-- The step leaves the entries, the state and the readiness of line `l` too. -/
structure Aside (l : Fin 64) (s t : State) : Prop extends Around l s t where
  entries : (t.line l).entries = (s.line l).entries
  state : (t.line l).state = (s.line l).state
  waits : (s.line l).waits = false → (t.line l).waits = false

theorem Aside.refl (l : Fin 64) (s : State) : Aside l s s := ⟨.refl l s, rfl, rfl, fun h => h⟩

theorem Aside.trans {l : Fin 64} {s t u : State} (h : Aside l s t) (k : Aside l t u) : Aside l s u :=
  ⟨h.toAround.trans k.toAround, k.entries.trans h.entries, k.state.trans h.state, fun hw => k.waits (h.waits hw)⟩

theorem Aside.of_eq {l : Fin 64} {s t : State} (hports : t.ports = s.ports) (hmap : t.map = s.map) (hcfg : t.cfg = s.cfg)
    (hldr : t.ldr = s.ldr) (hslots : t.slots = s.slots) (hstore : t.store = s.store) : Aside l s t := by
  have hline : ∀ k, t.line k = s.line k := State.line_congr hstore
  have hslot : ∀ q, t.slot q = s.slot q := State.slot_congr hslots
  exact ⟨⟨hports, hmap, hcfg, hldr, fun k _ => by rw [hline]; exact ⟨rfl, rfl⟩, fun k => by rw [hline]; exact ⟨rfl, rfl⟩,
    fun k => by rw [hline], fun q => by rw [hslot]; exact id, fun q => by rw [hslot]; exact id⟩, by rw [hline], by rw [hline],
    by rw [hline]; exact id⟩

theorem State.mapSlots_aside (s : State) (l : Fin 64) {f : Slot → Slot} (hfree : f Slot.freeSlot = Slot.freeSlot)
    (hlife : ∀ x, (f x).life = x.life) : Aside l s (s.mapSlots f) :=
  ⟨⟨rfl, rfl, rfl, rfl, fun _ _ => ⟨rfl, rfl⟩, fun _ => ⟨rfl, rfl⟩, fun _ => Iff.rfl,
    fun q hq => by rw [State.slot_mapSlots, hq, hfree], fun q hq => by rw [State.slot_mapSlots, hlife]; exact hq⟩, rfl, rfl,
    fun h => h⟩

theorem State.setSlot_free_aside (s : State) (l : Fin 64) (i : Fin 256) : Aside l s (s.setSlot i Slot.freeSlot) := by
  refine ⟨⟨rfl, rfl, rfl, rfl, fun _ _ => ⟨rfl, rfl⟩, fun _ => ⟨rfl, rfl⟩, fun _ => Iff.rfl, fun q hq => ?_, fun q hq => ?_⟩,
    rfl, rfl, fun h => h⟩
  · rw [State.slot_setSlot]
    split
    · rfl
    · exact hq
  · rw [State.slot_setSlot]
    split
    · simp [Slot.freeSlot]
    · exact hq

/-- Lines that changed in their pins and what waits alone. -/
theorem Aside.of_lines {l : Fin 64} {s t : State} (hports : t.ports = s.ports) (hmap : t.map = s.map) (hcfg : t.cfg = s.cfg)
    (hldr : t.ldr = s.ldr) (hslots : t.slots = s.slots)
    (hline : ∀ k, (t.line k).entries = (s.line k).entries ∧ (t.line k).state = (s.line k).state ∧ (t.line k).tag = (s.line k).tag ∧
      (t.line k).extent = (s.line k).extent) (hwaits : (s.line l).waits = false → (t.line l).waits = false) : Aside l s t := by
  have hslot : ∀ q, t.slot q = s.slot q := State.slot_congr hslots
  refine ⟨⟨hports, hmap, hcfg, hldr, fun k _ => ?_, fun k => ?_, fun k => ?_, fun q => by rw [hslot]; exact id,
    fun q => by rw [hslot]; exact id⟩, ?_, ?_, hwaits⟩
  · obtain ⟨he, hs, -, -⟩ := hline k
    exact ⟨he, hs⟩
  · obtain ⟨-, -, ht, hx⟩ := hline k
    exact ⟨ht, hx⟩
  · obtain ⟨-, hs, -, -⟩ := hline k
    rw [hs]
  · obtain ⟨he, -, -, -⟩ := hline l
    exact he
  · obtain ⟨-, hs, -, -⟩ := hline l
    exact hs

theorem State.unpin?_aside (s : State) (l : Fin 64) (o : Option (Fin 64)) : Aside l s (s.unpin? o) :=
  .of_lines (by simp) (by simp) (by simp) (by simp) (by simp) (fun k => by rw [State.unpin?_line]; exact ⟨rfl, rfl, rfl, rfl⟩)
    (fun h => by rw [State.unpin?_line]; exact h)

theorem State.dropWaiting_aside (s : State) (l : Fin 64) (who : Submitter) : Aside l s (s.dropWaiting who) :=
  .of_lines rfl rfl rfl rfl rfl (fun k => by rw [State.dropWaiting_line]; exact ⟨rfl, rfl, rfl, rfl⟩) (fun h => by
    rw [State.dropWaiting_line]
    simp only [Line.waits, Bool.or_eq_false_iff, Bool.not_eq_false'] at h ⊢
    obtain ⟨hstate, hwaiting⟩ := h
    exact ⟨hstate, by rw [List.isEmpty_iff.mp hwaiting]; rfl⟩)

theorem State.log_aside (s : State) (l : Fin 64) (k : FindingKind) (e f c : Option Nat) (d1 d2 d3 : Nat) :
    Aside l s (s.log k e f c d1 d2 d3) := .of_eq (by simp) (by simp) (by simp) (by simp) (by simp) (by simp)

theorem State.raise_aside (s : State) (l : Fin 64) (f : EventFlag) : Aside l s (s.raise f) :=
  .of_eq (by simp) (by simp) (by simp) (by simp) (by simp) (by simp)

theorem State.setMend_aside (s : State) (l : Fin 64) (m : Option Mend) : Aside l s (s.setMend m) :=
  .of_eq rfl rfl rfl rfl rfl rfl

theorem Slot.dropAccum_free (p : Fin 32) : Slot.freeSlot.dropAccum p = Slot.freeSlot := rfl

theorem State.abandon_aside {s : State} {p : Fin 32} (h : s.unheld p) (l : Fin 64) : Aside l s (s.abandon p) := by
  cases ha : s.accum p with
  | none =>
    rw [State.abandon, ha]
    exact .refl l s
  | some a =>
    rw [State.abandon_of_unheld ha (h a ha)]
    refine ((((s.mapSlots_aside l (f := fun x => x.dropAccum p) rfl fun _ => rfl).trans (State.dropWaiting_aside _ l (.accum p))).trans
      (State.mapSlots_aside _ l (f := fun x => x.dropWatch p) rfl fun _ => rfl)).trans ?_).trans (State.unpin?_aside _ l _)
    exact .of_eq rfl rfl rfl rfl rfl rfl

theorem State.killOutstanding_aside (s : State) (l : Fin 64) (p : Owner → Bool) : Aside l s (s.killOutstanding p) := by
  refine s.mapSlots_aside l ?_ fun x => ?_
  · simp [Slot.freeSlot]
  · cases hk : x.kind with
    | passthrough _ => rfl
    | injected o => dsimp only; split <;> rfl

theorem State.stopMendWork_aside {s : State} (h : s.unheld mendPos) (l : Fin 64) : Aside l s s.stopMendWork :=
  (Aside.of_eq rfl rfl rfl rfl rfl rfl : Aside l s (s.withdraw Owner.isMend)).trans
    ((State.killOutstanding_aside _ l _).trans
      ((State.abandon_aside (s := (s.withdraw Owner.isMend).killOutstanding Owner.isMend) h l).trans
        (State.dropWaiting_aside _ l _)))

/-! ### The frame's entry in its line -/

/-- Line `l` holds entry `e` of the frame, ready for a change (R42). -/
structure FrameLine (l : Fin 64) (n : Fin 1024) (frame : Nat) (e : Entry) (s : State) : Prop where
  line : s.lineOf n frame = some l
  waits : (s.line l).waits = false
  holds : (s.line l).state.holds = true
  length : (s.line l).entries.length = 256
  state : (s.extent n).state ≠ .preparing
  replica : (s.extent n).hasReplica = true
  frames : frame < (s.extent n).frames
  entry : s.entryIn l frame = e

theorem State.lineOf_extent {s : State} {n : Fin 1024} {frame : Nat} {l : Fin 64} (h : s.lineOf n frame = some l) :
    (s.line l).extent = n := by
  unfold State.lineOf at h
  split at h
  · cases h
  · split at h
    next he => cases h; exact he
    · cases h

theorem State.lineOf_congr {s t : State} (hmap : t.map = s.map)
    (htags : ∀ k, (t.line k).tag = (s.line k).tag ∧ (t.line k).extent = (s.line k).extent)
    (hvalid : ∀ k, (t.line k).state = .invalid ↔ (s.line k).state = .invalid) (n : Fin 1024) (frame : Nat) :
    t.lineOf n frame = s.lineOf n frame := by
  have hfind : t.findLine ((s.extent n).digestBlock frame) = s.findLine ((s.extent n).digestBlock frame) :=
    State.findLine_congr (fun k => (htags k).1) hvalid _
  unfold State.lineOf
  rw [State.extent_congr hmap, hfind]
  cases s.findLine ((s.extent n).digestBlock frame) with
  | none => rfl
  | some k => simp only [(htags k).2]

theorem FrameLine.aside {l : Fin 64} {n : Fin 1024} {frame : Nat} {e : Entry} {s t : State} (h : FrameLine l n frame e s)
    (k : Aside l s t) : FrameLine l n frame e t where
  line := (State.lineOf_congr k.map k.tags k.valid n frame).trans h.line
  waits := k.waits h.waits
  holds := by rw [k.state]; exact h.holds
  length := by rw [k.entries]; exact h.length
  state := by rw [State.extent_congr k.map]; exact h.state
  replica := by rw [State.extent_congr k.map]; exact h.replica
  frames := by rw [State.extent_congr k.map]; exact h.frames
  entry := by
    unfold State.entryIn Line.entry
    rw [k.entries]
    exact h.entry

theorem EntryGiven.around {l : Fin 64} {frame : Nat} {e : Entry} {s t : State} (h : EntryGiven l frame e s t)
    (hs : (s.line l).state.holds = true) : Around l s t := by
  obtain ⟨st, timer, hline, hst⟩ := h.line
  have hslot : ∀ q, t.slot q = s.slot q := State.slot_congr h.on.slots
  have hvalid : ∀ x : LineState, x.holds = true → x ≠ .invalid := fun x hx c => by rw [c] at hx; cases hx
  refine ⟨h.on.ports, h.on.map, h.on.cfg, h.on.ldr, fun k hk => ?_, fun k => ?_, fun k => ?_, fun q => by rw [hslot]; exact id,
    fun q => by rw [hslot]; exact id⟩
  · rw [h.on.lines k hk]
    exact ⟨rfl, rfl⟩
  · by_cases hk : k = l
    · rw [hk, hline]
      exact ⟨rfl, rfl⟩
    · rw [h.on.lines k hk]
      exact ⟨rfl, rfl⟩
  · by_cases hk : k = l
    · rw [hk, hline]
      exact ⟨fun c => absurd c (hvalid _ hst), fun c => absurd c (hvalid _ hs)⟩
    · rw [h.on.lines k hk]

theorem FrameLine.given {l : Fin 64} {n : Fin 1024} {frame : Nat} {e e' : Entry} {s t : State} (h : FrameLine l n frame e s)
    (k : EntryGiven l frame e' s t) : FrameLine l n frame e' t := by
  have ha := k.around h.holds
  obtain ⟨st, timer, hline, hst⟩ := k.line
  refine ⟨(State.lineOf_congr ha.map ha.tags ha.valid n frame).trans h.line, ?_, ?_, ?_, ?_, ?_, ?_, k.entryIn h.length⟩
  · have hfill : st ≠ .filling := fun c => by rw [c] at hst; cases hst
    have hw := h.waits
    rw [hline]
    simp only [Line.waits, Line.given, Bool.or_eq_false_iff, Bool.not_eq_false'] at hw ⊢
    obtain ⟨⟨-, hrefilling⟩, hwaiting⟩ := hw
    exact ⟨⟨decide_eq_false hfill, hrefilling⟩, hwaiting⟩
  · rw [hline]
    exact hst
  · rw [hline]
    simp [Line.given, h.length]
  · rw [State.extent_congr ha.map]
    exact h.state
  · rw [State.extent_congr ha.map]
    exact h.replica
  · rw [State.extent_congr ha.map]
    exact h.frames

/-- The store takes a change on the frame's entry (R42). -/
theorem FrameLine.applyCore {l : Fin 64} {n : Fin 1024} {frame : Nat} {e : Entry} {s : State} (h : FrameLine l n frame e s)
    (ch : Change) {e' : Entry} {ans : Answer} (happ : e.apply true ch = (e', ans)) :
    ∃ t, EntryGiven l frame e' s t ∧ s.applyCore l frame ch = (t.logChange n frame ch ans, ans, e, e') := by
  have hext : (s.line l).extent = n := State.lineOf_extent h.line
  obtain ⟨t, hgiven, hcore⟩ := State.applyCore_takes (s := s) (l := l) h.holds h.length (by rw [hext]; exact h.state)
    (frame := frame) (by rw [hext]; exact h.frames) ch (e := e') (ans := ans) (by rw [hext, h.replica, h.entry]; exact happ)
  rw [hext, h.entry] at hcore
  exact ⟨t, hgiven, hcore⟩

/-- The reports of an applied change move the mend queue alone (R45, R141, R143). -/
theorem State.reportEntry_queue (s : State) (e : Fin 1024) (frame : Nat) (before after : Entry) :
    ∃ q, s.reportEntry e frame before after = { s with mend := { s.mend with queue := q } } := by
  have hcopy : ∀ (t : State) (k : FrameKey), ∃ q, t.reportCopy k before after = { t with mend := { t.mend with queue := q } } := by
    intro t k
    unfold State.reportCopy
    split
    · unfold State.mendWanted
      split
      · exact ⟨_, rfl⟩
      · exact ⟨t.mend.queue, rfl⟩
    · split
      · exact ⟨_, rfl⟩
      · exact ⟨t.mend.queue, rfl⟩
  obtain ⟨q, hq⟩ := hcopy s ⟨e, frame, .copy0⟩
  obtain ⟨q', hq'⟩ := hcopy (s.reportCopy ⟨e, frame, .copy0⟩ before after) ⟨e, frame, .copy1⟩
  refine ⟨q', ?_⟩
  unfold State.reportEntry
  rw [hq', hq]

/-! ### Findings, one after the other -/

theorem Logged.raise {s t : State} {f : Finding} (h : Logged s t f) (g : EventFlag) : Logged s (t.raise g) f := by
  obtain ⟨hroom, hfull⟩ := h
  have hflag : ∀ k : EventFlag, (t.flag k).isSet = true → ((t.raise g).flag k).isSet = true := fun k hk => by
    unfold State.flag at hk ⊢
    rw [State.raise_rep]
    simp only [Fin.getElem_fin, Vector.getElem_set] at hk ⊢
    split
    · rfl
    · exact hk
  unfold Logged
  rw [State.raise_rep]
  refine ⟨fun hr => ?_, fun hf => ?_⟩
  · obtain ⟨h1, h2, h3, h4⟩ := hroom hr
    exact ⟨h1, h2, h3, hflag .finding h4⟩
  · obtain ⟨h1, h2, h3⟩ := hfull hf
    exact ⟨h1, h2, hflag .logFull h3⟩

theorem Report.place_congr {r r' : Report} (hhead : r.head = r'.head) (himage : r.image = r'.image)
    (hdone : r.completed = r'.completed) (f : Finding) : (r.place f).head = (r'.place f).head ∧
      (r.place f).image = (r'.place f).image ∧ (r.place f).completed = (r'.place f).completed := by
  unfold Report.place
  simp only [hhead, himage, hdone]
  split <;> exact ⟨rfl, rfl, rfl⟩

/-- The report writer after a finding was placed depends on the head, the images and the tail alone. -/
theorem Logged.both {s t u : State} {f g : Finding} (h : Logged s t f) (k : Logged t u g) (htail : t.rep.tail = s.rep.tail) :
    LoggedBoth s u f g := by
  intro hroom hroom'
  obtain ⟨hhead, himage, hdone, -⟩ := h.1 hroom
  have htail' : (s.rep.place f).tail = s.rep.tail := by
    unfold Report.place
    dsimp only
    split <;> rfl
  have hfull : t.rep.full = (s.rep.place f).full := by
    simp only [Report.full, Report.unread, Report.tailAhead, hhead, himage, hdone, htail, htail']
  obtain ⟨k1, k2, k3, k4⟩ := k.1 (hfull.trans hroom')
  obtain ⟨p1, p2, p3⟩ := Report.place_congr hhead himage hdone g
  exact ⟨k1.trans p1, k2.trans p2, k3.trans p3, k4⟩

/-! ### How a mend closes (R151, R152) -/

/-- No mend is active any more, line `l` holds `e` for the frame, and MEND_END is set. -/
structure MendClosed (l : Fin 64) (frame : Nat) (e : Entry) (s t : State) : Prop where
  around : Around l s t
  active : t.mend.active = none
  accum : s.accum mendPos = none → t.accum mendPos = none
  entry : t.entryIn l frame = e
  flag : (t.flag .mendEnd).isSet = true
  queues : ReporterQueues s t

theorem MendClosed.after {l : Fin 64} {frame : Nat} {e : Entry} {s t u : State} (k : MendClosed l frame e t u)
    (ha : Around l s t) (haccum : s.accum mendPos = none → t.accum mendPos = none) (hq : ReporterQueues s t) :
    MendClosed l frame e s u :=
  ⟨ha.trans k.around, k.active, fun h => k.accum (haccum h), k.entry, k.flag, hq.trans k.queues⟩

/-- The mark MEND_END and the release of the mend's pin. -/
theorem FrameLine.closes {l : Fin 64} {n : Fin 1024} {frame : Nat} {e : Entry} {s : State} (h : FrameLine l n frame e s)
    (hm : s.mend.active = none) (o : Option (Fin 64)) : MendClosed l frame e s ((s.raise .mendEnd).unpin? o) := by
  have ha : Aside l s ((s.raise .mendEnd).unpin? o) := (s.raise_aside l .mendEnd).trans (State.unpin?_aside _ l o)
  refine ⟨ha.toAround, by simpa using hm, fun hn => ?_, (h.aside ha).entry, ?_, ?_⟩
  · rw [State.accum_congr (by simp : ((s.raise .mendEnd).unpin? o).pool = s.pool)]
    exact hn
  · rw [State.flag_congr (congrArg Report.flags (State.unpin?_rep _ o)), State.flag_raise_self]
  · exact (s.raise_reporter .mendEnd).trans (.of_arb (by simp))

/-- The closing finding before it (R152). -/
theorem FrameLine.closes_logged {l : Fin 64} {n : Fin 1024} {frame : Nat} {e : Entry} {s : State} (h : FrameLine l n frame e s)
    (hm : s.mend.active = none) (hp : s.ldr.part = .running) (o : Option (Fin 64)) (k : FindingKind) (key : FrameKey)
    (d1 d2 d3 : Nat) :
    MendClosed l frame e s (((s.logCopy k key d1 d2 d3).raise .mendEnd).unpin? o) ∧
      Logged s (((s.logCopy k key d1 d2 d3).raise .mendEnd).unpin? o)
        (s.findingNow k (some key.extent.val) (some key.frame) (some key.copy.num) d1 d2 d3) := by
  have ha : Aside l s (s.logCopy k key d1 d2 d3) := s.log_aside l ..
  have hclosed := (h.aside ha).closes (by simpa [State.logCopy] using hm) o
  have hq : ReporterQueues s (s.logCopy k key d1 d2 d3) := s.log_reporter _ _ _ _ _ _ _
  refine ⟨hclosed.after ha.toAround (fun hn => ?_) hq, ?_⟩
  · rw [State.accum_congr (by simp [State.logCopy] : (s.logCopy k key d1 d2 d3).pool = s.pool)]
    exact hn
  · have hlog := (State.logged_log (s.running_iff.mpr hp) k (some key.extent.val) (some key.frame) (some key.copy.num) d1 d2
      d3).raise .mendEnd
    exact hlog.sameLog (.of_rep (by simp [State.logCopy]))

section

variable {l : Fin 64} {m : Mend} {e : Entry} {s : State} (h : FrameLine l m.extent m.frame e s) (hp : s.ldr.part = .running)
include h hp

/-- The finding of a mend that fails (R152). -/
def State.mendFailure (s : State) (m : Mend) (reason : Nat) : Finding :=
  s.findingNow .mendFailed (some m.extent.val) (some m.frame) (some m.target.num) m.lastA m.lastB reason

theorem FrameLine.finishFailed (hm : s.mend.active = none) (reason : Nat) :
    MendClosed l m.frame e s (s.finishMend m (.failed reason)) ∧
      Logged s (s.finishMend m (.failed reason)) (s.mendFailure m reason) :=
  h.closes_logged hm hp m.line .mendFailed m.key m.lastA m.lastB reason

/-- A closing change that finds its target MENDING (R149 to R152). -/
theorem FrameLine.submitClosing (ht : e.copyState m.target = .mending) {tgt : CopyState} (htgt : tgt ≠ .absent) (reason : Nat) :
    MendClosed l m.frame (e.setCopy m.target tgt) s (s.submitClosing m reason tgt) ∧
      Logged s (s.submitClosing m reason tgt) (s.mendFailure m reason) := by
  have happ : e.apply true (.state m.target [.mending] tgt) = (e.setCopy m.target tgt, .applied) := by
    simp [Entry.apply, Entry.change, htgt, ht]
  obtain ⟨t, hgiven, hcore⟩ := h.applyCore (.state m.target [.mending] tgt) happ
  have hlogged : t.logChange m.extent m.frame (.state m.target [.mending] tgt) .applied = t := rfl
  rw [hlogged] at hcore
  obtain ⟨q, hq⟩ := (t.setMend none).reportEntry_queue m.extent m.frame e (e.setCopy m.target tgt)
  let u : State := { t.setMend none with mend := { (t.setMend none).mend with queue := q } }
  have hclosing : s.submitClosing m reason tgt = u.finishMend m (.failed reason) := by
    simp only [State.submitClosing, h.line, h.waits, Bool.false_eq_true, if_false, State.applyClosing, hcore, if_true, hq]
    rfl
  have hu : FrameLine l m.extent m.frame (e.setCopy m.target tgt) u := (h.given hgiven).aside (.of_eq rfl rfl rfl rfl rfl rfl)
  have hup : u.ldr.part = .running := by
    rw [show u.ldr = s.ldr from hgiven.on.ldr]
    exact hp
  obtain ⟨hclosed, hlog⟩ := hu.finishFailed hup rfl reason
  have hfinding : u.mendFailure m reason = s.mendFailure m reason := by
    unfold State.mendFailure State.findingNow
    rw [show u.cfg = s.cfg from hgiven.on.cfg, show u.rep = s.rep from hgiven.rep]
  rw [hclosing]
  have haside : Aside l t u := .of_eq rfl rfl rfl rfl rfl rfl
  refine ⟨hclosed.after ((hgiven.around h.holds).trans haside.toAround) (fun hn => ?_)
    (.of_arb hgiven.arb), ?_⟩
  · exact (State.accum_congr hgiven.on.pool mendPos).trans hn
  · rw [← hfinding]
    exact hlog.of_rep hgiven.rep

end

end Sys2Proof.Machine

/-!
PROOFS. A mend's comparison and its answers (R146, R147, R149, R151, R152).
-/

namespace Sys2Proof.Machine

/-! ### An attempt begins at COPY (R147 to R150) -/

/-- Attempt `attempt` of the mend begins at COPY, the frame's entry being `e`. -/
structure CopyBegins (l : Fin 64) (m : Mend) (attempt : Nat) (e : Entry) (s t : State) : Prop where
  around : Around l s t
  accum : s.accum mendPos = none → t.accum mendPos = none
  entry : t.entryIn l m.frame = e
  mend : ∃ v, t.mend = { s.mend with active := some v } ∧ v.stage = .working ∧ v.phase = .copy ∧ v.attempt = attempt ∧
    v.buffer = none ∧ v.extent = m.extent ∧ v.frame = m.frame ∧ v.target = m.target ∧ v.line = m.line
  reads : NoneQueued s Owner.isMend → (∀ q, (s.slot q).life ≠ .outstanding) → 0 < s.cfg.paceDepth →
    0 < (s.extent m.extent).span → (⟨.mendRead 0, .read, (s.extent m.extent).blockAddr m.target.other m.frame 0,
      (s.extent m.extent).chunkLen 0⟩ : InjRequest) ∈ t.arb
  writes : NoneQueued s Owner.isMendWrite → NoneQueued t Owner.isMendWrite
  rep : t.rep = s.rep

theorem CopyBegins.after {l : Fin 64} {m : Mend} {attempt : Nat} {e : Entry} {s t u : State} (k : CopyBegins l m attempt e t u)
    (ha : Around l s t) (haccum : s.accum mendPos = none → t.accum mendPos = none) (hqueue : t.mend.queue = s.mend.queue)
    (harb : t.arb = s.arb) (hrep : t.rep = s.rep) : CopyBegins l m attempt e s u where
  around := ha.trans k.around
  accum h := k.accum (haccum h)
  entry := k.entry
  mend := by
    obtain ⟨v, hv, hrest⟩ := k.mend
    exact ⟨v, hv.trans (congrArg (fun q => (⟨q, some v⟩ : MendEngine)) hqueue), hrest⟩
  reads hq hslots hpace hspan := by
    have h := k.reads (fun r hr => hq r (harb ▸ hr)) (fun q => ha.resting q (hslots q)) (by rw [ha.cfg]; exact hpace)
      (by rw [State.extent_congr ha.map]; exact hspan)
    rwa [State.extent_congr ha.map] at h
  writes hq := k.writes fun r hr => hq r (harb ▸ hr)
  rep := k.rep.trans hrep

/-- With its buffer empty COPY queues at most one read (R148). -/
theorem State.feedCopy_empty (s : State) {k : Mend} (hb : k.buffer = none) :
    s.feedCopy k = s ∨ s.feedCopy k = (s.enqueue (s.mendRead k k.next)).setMend (some { k with next := k.next + 1 }) := by
  unfold State.feedCopy
  rw [hb]
  split
  · dsimp only
    split
    · exact .inr rfl
    · exact .inl rfl
  · exact .inl rfl

theorem State.startPhase_copy_writes {s : State} (m : Mend) (h : NoneQueued s Owner.isMendWrite) :
    NoneQueued (s.startPhase m .copy) Owner.isMendWrite := by
  have hfeed : s.startPhase m .copy = (s.setMend (some (m.atPhase .copy))).feedCopy (m.atPhase .copy) := rfl
  rw [hfeed]
  rcases (s.setMend (some (m.atPhase .copy))).feedCopy_empty (k := m.atPhase .copy) rfl with heq | heq <;> rw [heq]
  · exact h
  · intro r hr
    rcases List.mem_append.mp hr with hmem | hlast
    · exact h r hmem
    · rw [List.mem_singleton.mp hlast]
      rfl

theorem FrameLine.startsCopy {l : Fin 64} {m : Mend} {e : Entry} {s : State} (h : FrameLine l m.extent m.frame e s) :
    CopyBegins l m m.attempt e s (s.startPhase m .copy) := by
  obtain ⟨arb, n, hstart⟩ := s.startPhase_copy m
  have ha : Aside l s (s.startPhase m .copy) := by
    rw [hstart]
    exact .of_eq rfl rfl rfl rfl rfl rfl
  refine ⟨ha.toAround, fun hn => ?_, (h.aside ha).entry, ?_, fun hq hslots hpace hspan => ?_, State.startPhase_copy_writes m, ?_⟩
  · rw [hstart]
    exact hn
  · rw [hstart]
    exact ⟨_, rfl, rfl, rfl, rfl, rfl, rfl, rfl, rfl, rfl⟩
  · exact State.startPhase_copy_reads ⟨hq, hslots⟩ hpace hspan
  · rw [hstart]

/-! ### The end of a mend whose source or target has left its state (R151) -/

theorem FrameLine.endMend {l : Fin 64} {m : Mend} {e : Entry} {s : State} (h : FrameLine l m.extent m.frame e s)
    (hp : s.ldr.part = .running) (hn : s.accum mendPos = none) :
    (e.copyState m.target = .mending → MendClosed l m.frame (e.setCopy m.target .suspect) s (s.endMend m) ∧
      Logged s (s.endMend m) (s.mendFailure m 3)) ∧
    (e.copyState m.target ≠ .mending → MendClosed l m.frame e s (s.endMend m) ∧
      Logged s (s.endMend m) (s.mendFailure m 6)) := by
  let u := s.stopMendWork.dropRequests .mend
  let k : Mend := { m with buffer := none }
  have hh : s.unheld mendPos := fun a ha => absurd (hn.symm.trans ha) (by simp)
  have ha : Aside l s u := (State.stopMendWork_aside hh l).trans
    (.of_lines rfl rfl rfl rfl rfl (fun _ => ⟨rfl, rfl, rfl, rfl⟩) fun h => h)
  obtain ⟨hrep, -, -, hldr, -⟩ := s.stopMendWork_kept
  have hq : ReporterQueues s u := fun r hr => by
    have harb : u.arb = s.arb.filter fun q => !q.owner.isMend :=
      (State.abandon_arb ((s.withdraw Owner.isMend).killOutstanding Owner.isMend) mendPos).trans rfl
    rw [harb] at hr
    exact .inl (List.mem_filter.mp hr).1
  have hu : FrameLine l k.extent k.frame e u := h.aside ha
  have hup : u.ldr.part = .running := (congrArg Loader.part hldr).trans hp
  have haccum : s.accum mendPos = none → u.accum mendPos = none := fun _ => State.stopMendWork_accum hh
  have hfinding : ∀ r, u.mendFailure k r = s.mendFailure m r := fun r => by
    unfold State.mendFailure State.findingNow
    rw [ha.cfg, show u.rep = s.rep from hrep]
  have hend : s.endMend m = if e.copyState m.target = .mending then u.submitClosing k 3 .suspect
      else (u.setMend none).finishMend k (.failed 6) := by
    have hline : (s.stopMendWork.dropRequests .mend).lineOf m.extent m.frame = some l := hu.line
    have hentry : (s.stopMendWork.dropRequests .mend).entryIn l m.frame = e := hu.entry
    simp only [State.endMend, hline, hentry]
    rfl
  rw [hend]
  refine ⟨fun ht => ?_, fun ht => ?_⟩
  · rw [if_pos ht]
    obtain ⟨hclosed, hlog⟩ := hu.submitClosing hup ht (tgt := .suspect) (by simp) 3
    exact ⟨hclosed.after ha.toAround haccum hq, hfinding 3 ▸ hlog.of_rep hrep⟩
  · rw [if_neg ht]
    obtain ⟨hclosed, hlog⟩ := (hu.aside (u.setMend_aside l none)).finishFailed hup rfl 6
    have hlog' : Logged u ((u.setMend none).finishMend k (.failed 6)) (u.mendFailure k 6) := hlog
    exact ⟨(hclosed.after (u.setMend_aside l none).toAround (fun h => h) (.of_arb rfl)).after ha.toAround haccum hq,
      hfinding 6 ▸ hlog'.of_rep hrep⟩

/-! ### The comparison (R146) -/

/-- The comparison of mend `m`, which awaits its answer, with the entry (R146). -/
def State.mendCompares (s : State) (l : Fin 64) (m : Mend) (a b : Nat) : State :=
  let r := s.applyNow l m.frame .mendComparing (.mendCompare m.phase m.target a b)
  r.1.mendAnswer a b r.2

theorem State.reportMend_own (s : State) (e : Fin 1024) (frame : Nat) (after : Entry) :
    s.reportMend e frame .mendComparing after = s := by
  unfold State.reportMend
  split
  · rfl
  · rw [if_neg (by simp)]

section

variable {l : Fin 64} {m : Mend} {e : Entry} {s : State} (h : FrameLine l m.extent m.frame e s)
include h

/-- An answer with nothing applied: the store did nothing (R42). -/
theorem FrameLine.compares_unapplied {a b : Nat} {ans : Answer}
    (happ : e.mendCompare m.phase m.target a b = (e, ans)) (hans : ans.isApplied = false)
    (hquiet : ∀ t : State, t.logChange m.extent m.frame (.mendCompare m.phase m.target a b) ans = t) :
    ∃ t, EntryGiven l m.frame e s t ∧ s.mendCompares l m a b = t.mendAnswer a b ans := by
  obtain ⟨t, hgiven, hcore⟩ := h.applyCore (.mendCompare m.phase m.target a b) happ
  rw [hquiet] at hcore
  refine ⟨t, hgiven, ?_⟩
  unfold State.mendCompares State.applyNow
  simp only [hcore, hans, Bool.false_eq_true, if_false]

/-- An answer with a change applied: the store's finding, if any, then the reports, which move the mend queue (R45). -/
theorem FrameLine.compares_applied {a b : Nat} {e' : Entry} {ans : Answer}
    (happ : e.mendCompare m.phase m.target a b = (e', ans)) (hans : ans.isApplied = true) :
    ∃ t q, EntryGiven l m.frame e' s t ∧
      s.mendCompares l m a b = State.mendAnswer { t.logChange m.extent m.frame (.mendCompare m.phase m.target a b) ans with
        mend := { (t.logChange m.extent m.frame (.mendCompare m.phase m.target a b) ans).mend with queue := q } } a b ans := by
  obtain ⟨t, hgiven, hcore⟩ := h.applyCore (.mendCompare m.phase m.target a b) happ
  obtain ⟨q, hq⟩ := (t.logChange m.extent m.frame (.mendCompare m.phase m.target a b) ans).reportEntry_queue m.extent m.frame e e'
  refine ⟨t, q, hgiven, ?_⟩
  have hext : (s.line l).extent = m.extent := State.lineOf_extent h.line
  unfold State.mendCompares State.applyNow
  simp only [hcore, hans, if_true, hext, hq, State.reportMend_own]

end

theorem State.mendAnswer_of_comparing {s : State} {m : Mend} (hm : s.mend.active = some m) (hst : m.stage = .comparing)
    (a b : Nat) (ans : Answer) : s.mendAnswer a b ans = s.compared m a b ans := by
  simp [State.mendAnswer, hm, hst]

theorem EntryGiven.copyBegins {l : Fin 64} {m : Mend} {n : Nat} {e : Entry} {s t u : State} (hs : (s.line l).state.holds = true)
    (hg : EntryGiven l m.frame e s t) (k : CopyBegins l m n e t u) : CopyBegins l m n e s u :=
  k.after (hg.around hs) (fun hn => (State.accum_congr hg.on.pool mendPos).trans hn) (by rw [hg.on.mend]) hg.arb hg.rep

theorem EntryGiven.mendClosed {l : Fin 64} {m : Mend} {e e' : Entry} {s t u : State} {f : Finding}
    (hs : (s.line l).state.holds = true) (hg : EntryGiven l m.frame e s t)
    (k : MendClosed l m.frame e' t u ∧ Logged t u f) : MendClosed l m.frame e' s u ∧ Logged s u f :=
  ⟨k.1.after (hg.around hs) (fun hn => (State.accum_congr hg.on.pool mendPos).trans hn) (.of_arb hg.arb), k.2.of_rep hg.rep⟩

theorem EntryGiven.mendFailure {l : Fin 64} {frame : Nat} {e : Entry} {s t : State} (hg : EntryGiven l frame e s t) (m : Mend)
    (r : Nat) : t.mendFailure m r = s.mendFailure m r := by
  unfold State.mendFailure State.findingNow
  rw [hg.on.cfg, hg.rep]

section

variable {l : Fin 64} {m : Mend} {e : Entry} {s : State} (h : FrameLine l m.extent m.frame e s) (hp : s.ldr.part = .running)
  (hm : s.mend.active = some m) (hst : m.stage = .comparing) {a b : Nat}
include h hm hst

/-- An unapplied answer reaches the engine in a state that differs in nothing it looks at. -/
theorem FrameLine.compares_answer {ans : Answer} (happ : e.mendCompare m.phase m.target a b = (e, ans))
    (hans : ans.isApplied = false) (hquiet : ∀ t : State, t.logChange m.extent m.frame (.mendCompare m.phase m.target a b) ans = t) :
    ∃ t, EntryGiven l m.frame e s t ∧ s.mendCompares l m a b = t.compared m a b ans := by
  obtain ⟨t, hgiven, hres⟩ := h.compares_unapplied happ hans hquiet
  exact ⟨t, hgiven, hres.trans (State.mendAnswer_of_comparing (by rw [hgiven.on.mend]; exact hm) hst a b ans)⟩

theorem FrameLine.compares_good (hph : m.phase = .verifySource) (ho : e.copyState m.target.other = .sealed)
    (heq : e.equal a b = true) : CopyBegins l m m.attempt e s (s.mendCompares l m a b) := by
  have happ : e.mendCompare m.phase m.target a b = (e, .sourceGood) := by simp [Entry.mendCompare, hph, ho, heq]
  obtain ⟨t, hgiven, hres⟩ := h.compares_answer hm hst happ rfl (fun _ => rfl)
  rw [hres]
  exact hgiven.copyBegins h.holds (h.given hgiven).startsCopy

theorem FrameLine.compares_unequal (hph : m.phase = .verifyTarget) (ht : e.copyState m.target = .mending)
    (heq : e.equal a b = false) (hat : m.attempt = 1) : CopyBegins l m 2 e s (s.mendCompares l m a b) := by
  have happ : e.mendCompare m.phase m.target a b = (e, .targetUnequal) := by simp [Entry.mendCompare, hph, ht, heq]
  obtain ⟨t, hgiven, hres⟩ := h.compares_answer hm hst happ rfl (fun _ => rfl)
  have hstart : t.compared m a b .targetUnequal = t.startPhase { m with lastA := a, lastB := b, attempt := 2 } .copy := by
    simp [State.compared, State.attemptFailed, hat]
  rw [hres, hstart]
  have hbegins := FrameLine.startsCopy (m := { m with lastA := a, lastB := b, attempt := 2 }) (h.given hgiven)
  exact hgiven.copyBegins h.holds ⟨hbegins.around, hbegins.accum, hbegins.entry, hbegins.mend, hbegins.reads, hbegins.writes,
    hbegins.rep⟩

include hp

/-- The source or the target has left its state: reason 3 where the target is MENDING still, 6 where it is not (R151). -/
theorem FrameLine.compares_gone (hn : s.accum mendPos = none) (hgone : e.mendCompare m.phase m.target a b = (e, .gone)) :
    (e.copyState m.target = .mending → MendClosed l m.frame (e.setCopy m.target .suspect) s (s.mendCompares l m a b) ∧
      Logged s (s.mendCompares l m a b) (s.mendFailure m 3)) ∧
    (e.copyState m.target ≠ .mending → MendClosed l m.frame e s (s.mendCompares l m a b) ∧
      Logged s (s.mendCompares l m a b) (s.mendFailure m 6)) := by
  obtain ⟨t, hgiven, hres⟩ := h.compares_answer hm hst hgone rfl (fun _ => rfl)
  have hend : t.compared m a b .gone = t.endMend m := rfl
  obtain ⟨hmending, helse⟩ := (h.given hgiven).endMend (m := m) (by rw [hgiven.on.ldr]; exact hp)
    ((State.accum_congr hgiven.on.pool mendPos).trans hn)
  rw [hres, hend, ← hgiven.mendFailure m 3, ← hgiven.mendFailure m 6]
  exact ⟨fun ht => hgiven.mendClosed h.holds (hmending ht), fun ht => hgiven.mendClosed h.holds (helse ht)⟩

/-- Unequal in attempt 2: the target is LOST (R149). -/
theorem FrameLine.compares_given_up (hph : m.phase = .verifyTarget) (ht : e.copyState m.target = .mending)
    (heq : e.equal a b = false) (hat : m.attempt ≠ 1) :
    MendClosed l m.frame (e.setCopy m.target .lost) s (s.mendCompares l m a b) ∧
      Logged s (s.mendCompares l m a b) (s.mendFailure { m with lastA := a, lastB := b } 1) := by
  have happ : e.mendCompare m.phase m.target a b = (e, .targetUnequal) := by simp [Entry.mendCompare, hph, ht, heq]
  obtain ⟨t, hgiven, hres⟩ := h.compares_answer hm hst happ rfl (fun _ => rfl)
  have hclosing : t.compared m a b .targetUnequal = t.submitClosing { m with lastA := a, lastB := b } 1 .lost := by
    simp [State.compared, State.attemptFailed, hat]
  have hres' := FrameLine.submitClosing (m := { m with lastA := a, lastB := b }) (h.given hgiven)
    (by rw [hgiven.on.ldr]; exact hp) ht (tgt := .lost) (by simp) 1
  rw [hres, hclosing, ← hgiven.mendFailure { m with lastA := a, lastB := b } 1]
  exact hgiven.mendClosed (m := m) h.holds hres'

/-- Equal: the target is SEALED again (R147). -/
theorem FrameLine.compares_mended (hph : m.phase = .verifyTarget) (ht : e.copyState m.target = .mending)
    (heq : e.equal a b = true) :
    MendClosed l m.frame (e.setCopy m.target .sealed) s (s.mendCompares l m a b) ∧
      Logged s (s.mendCompares l m a b) (s.findingNow .mendDone (some m.extent.val) (some m.frame) (some m.target.num) a b
        m.attempt) := by
  have happ : e.mendCompare m.phase m.target a b = (e.setCopy m.target .sealed, .mended) := by
    simp [Entry.mendCompare, hph, ht, heq]
  obtain ⟨t, q, hgiven, hres⟩ := h.compares_applied happ rfl
  let u : State := { t with mend := { t.mend with queue := q } }
  have hactive : u.mend.active = some m := (congrArg MendEngine.active hgiven.on.mend).trans hm
  have hdone : s.mendCompares l m a b = (u.setMend none).finishMend m (.done a b) :=
    hres.trans (State.mendAnswer_of_comparing hactive hst a b .mended)
  have hu : Aside l t (u.setMend none) := .of_eq rfl rfl rfl rfl rfl rfl
  obtain ⟨hclosed, hlog⟩ := ((h.given hgiven).aside hu).closes_logged rfl (by rw [hu.ldr, hgiven.on.ldr]; exact hp) m.line .mendDone
    m.key a b m.attempt
  have hfinding : (u.setMend none).findingNow .mendDone (some m.extent.val) (some m.frame) (some m.target.num) a b m.attempt =
      s.findingNow .mendDone (some m.extent.val) (some m.frame) (some m.target.num) a b m.attempt := by
    unfold State.findingNow
    rw [hu.cfg, hgiven.on.cfg, show (u.setMend none).rep = s.rep from hgiven.rep]
  rw [hdone, ← hfinding]
  exact hgiven.mendClosed (m := m) h.holds ⟨hclosed.after hu.toAround (fun h => h) (.of_arb rfl), hlog⟩

/-- The source fails: both copies are LOST (R146). -/
theorem FrameLine.compares_failed (hph : m.phase = .verifySource) (ho : e.copyState m.target.other = .sealed)
    (heq : e.equal a b = false) :
    MendClosed l m.frame e.bothLost s (s.mendCompares l m a b) ∧
      Logged s (s.mendCompares l m a b) (s.findingNow .frameLost (some m.extent.val) (some m.frame) (some m.target.other.num) a b
        (e.copyState m.target).code) := by
  have happ : e.mendCompare m.phase m.target a b = (e.bothLost, .sourceFailed (e.copyState m.target)) := by
    simp [Entry.mendCompare, hph, ho, heq]
  obtain ⟨t, q, hgiven, hres⟩ := h.compares_applied happ rfl
  let L := t.logCopy .frameLost ⟨m.extent, m.frame, m.target.other⟩ a b (e.copyState m.target).code
  let u : State := { L with mend := { L.mend with queue := q } }
  have hactive : u.mend.active = some m := by
    have hL : L.mend = t.mend := by simp [L, State.logCopy]
    exact (congrArg MendEngine.active (hL.trans hgiven.on.mend)).trans hm
  have hdone : s.mendCompares l m a b = ((u.setMend none).raise .mendEnd).unpin? m.line :=
    hres.trans (State.mendAnswer_of_comparing hactive hst a b (.sourceFailed (e.copyState m.target)))
  have hL : Aside l t L := t.log_aside l ..
  have hu : Aside l L (u.setMend none) := .of_eq rfl rfl rfl rfl rfl rfl
  have hclosed := ((h.given hgiven).aside (hL.trans hu)).closes rfl m.line
  have hlog := ((State.logged_log (t.running_iff.mpr (by rw [hgiven.on.ldr]; exact hp)) .frameLost (some m.extent.val) (some m.frame)
    (some m.target.other.num) a b (e.copyState m.target).code).sameLog
      (SameLog.of_rep (s := L) (t := u.setMend none) rfl)).raise .mendEnd
  have hfinding : t.findingNow .frameLost (some m.extent.val) (some m.frame) (some m.target.other.num) a b
      (e.copyState m.target).code = s.findingNow .frameLost (some m.extent.val) (some m.frame) (some m.target.other.num) a b
        (e.copyState m.target).code := by
    unfold State.findingNow
    rw [hgiven.on.cfg, hgiven.rep]
  rw [hdone, ← hfinding]
  refine hgiven.mendClosed (m := m) h.holds ⟨hclosed.after (hL.trans hu).toAround (fun hn => ?_) ?_, hlog.sameLog (.of_rep (by simp))⟩
  · exact (State.accum_congr (by simp [L, State.logCopy] : L.pool = t.pool) mendPos).trans hn
  · exact t.log_reporter _ _ _ _ _ _ _

end

end Sys2Proof.Machine

/-!
PROOFS. The returns of a mend's reads and writes (R146 to R152).
-/

namespace Sys2Proof.Machine

/-! ### A request of the mend that failed (R150) -/

/-- The state in which a failed request's finding has been handed over: the mend's work is stopped. -/
def State.mendStopped (s : State) (m : Mend) (j : Nat) (copy : CopyId) : State :=
  s.stopMendWork.logCopy .mendMediaError ⟨m.extent, m.frame, copy⟩ (256 * j) m.phase.code m.attempt

/-- The finding of a mend request that failed with a media error. -/
def State.mendMediaFailure (s : State) (m : Mend) (j : Nat) (copy : CopyId) : Finding :=
  s.findingNow .mendMediaError (some m.extent.val) (some m.frame) (some copy.num) (256 * j) m.phase.code m.attempt

section

variable {s : State} {m : Mend} (j : Nat) (copy : CopyId)

theorem State.mendStopped_tail : (s.mendStopped m j copy).rep.tail = s.rep.tail := by
  obtain ⟨hrep, -⟩ := s.stopMendWork_kept
  rw [State.mendStopped, State.logCopy, State.log_rep_tail, hrep]

theorem State.mendStopped_noneQueued : NoneQueued (s.mendStopped m j copy) Owner.isMend :=
  ReporterQueues.noneQueued (s.stopMendWork.log_reporter _ _ _ _ _ _ _) s.stopMendWork_noneQueued rfl rfl

theorem State.mendStopped_mend : (s.mendStopped m j copy).mend = s.mend := by
  obtain ⟨-, -, hmend, -⟩ := s.stopMendWork_kept
  rw [State.mendStopped, State.logCopy, State.log_mend, hmend]

variable (hh : s.unheld mendPos)
include hh

theorem State.mendStopped_aside (l : Fin 64) : Aside l s (s.mendStopped m j copy) :=
  (State.stopMendWork_aside hh l).trans (State.log_aside _ l ..)

theorem State.mendStopped_accum : (s.mendStopped m j copy).accum mendPos = none := by
  have hpool : (s.mendStopped m j copy).pool = s.stopMendWork.pool := by simp [State.mendStopped, State.logCopy]
  exact (State.accum_congr hpool mendPos).trans (State.stopMendWork_accum hh)

theorem State.mendStopped_logged (hp : s.ldr.part = .running) :
    Logged s (s.mendStopped m j copy) (s.mendMediaFailure m j copy) := by
  obtain ⟨hrep, -, -, hldr, -⟩ := s.stopMendWork_kept
  have hlog := (State.logged_log (s := s.stopMendWork) (s.stopMendWork.running_iff.mpr (by rw [hldr]; exact hp)) .mendMediaError
    (some m.extent.val) (some m.frame) (some copy.num) (256 * j) m.phase.code m.attempt).of_rep hrep
  have hfinding : s.stopMendWork.findingNow .mendMediaError (some m.extent.val) (some m.frame) (some copy.num) (256 * j)
      m.phase.code m.attempt = s.mendMediaFailure m j copy := by
    unfold State.mendMediaFailure State.findingNow
    rw [(State.stopMendWork_granting hh).cfg, hrep]
  rw [← hfinding]
  exact hlog

end

/-- A failed request's mend has closed, after its finding: the closing finding follows. -/
structure MendGaveUp (l : Fin 64) (frame : Nat) (e : Entry) (f g : Finding) (s t : State) : Prop where
  around : Around l s t
  active : t.mend.active = none
  accum : t.accum mendPos = none
  entry : t.entryIn l frame = e
  flag : (t.flag .mendEnd).isSet = true
  writes : NoneQueued t Owner.isMendWrite
  logged : LoggedBoth s t f g

theorem NoneQueued.of_isMend {t : State} (h : NoneQueued t Owner.isMend) : NoneQueued t Owner.isMendWrite := fun r hr => by
  have := h r hr
  cases ho : r.owner <;> rw [ho] at this <;> first | rfl | cases this

/-- The finding that closes a mend, written at the moment the request failed. -/
theorem State.mendStopped_failure {s : State} {m : Mend} (hh : s.unheld mendPos) (j : Nat) (copy : CopyId) (k : Mend) (hk : k.extent = m.extent ∧ k.frame = m.frame ∧ k.target = m.target ∧
    k.lastA = m.lastA ∧ k.lastB = m.lastB) (r : Nat) : (s.mendStopped m j copy).mendFailure k r = s.mendFailure m r := by
  obtain ⟨h1, h2, h3, h4, h5⟩ := hk
  have hclock : (s.mendStopped m j copy).rep.clock = s.rep.clock := by
    obtain ⟨hrep, -⟩ := s.stopMendWork_kept
    rw [State.mendStopped, State.logCopy, State.log_rep_clock, hrep]
  unfold State.mendFailure State.findingNow
  rw [h1, h2, h3, h4, h5, (State.mendStopped_aside (m := m) j copy hh 0).cfg, hclock]

/-- The closing change after the failed request's finding. -/
theorem MendClosed.gaveUp {l : Fin 64} {m k : Mend} {s t u : State} {e' : Entry} {reason : Nat} (hp : s.ldr.part = .running)
    (hh : s.unheld mendPos) (j : Nat) (copy : CopyId) (ha : Around l (s.mendStopped m j copy) t)
    (haccum : t.accum mendPos = none) (hrep : t.rep = (s.mendStopped m j copy).rep) (harb : t.arb = (s.mendStopped m j copy).arb)
    (hk : k.extent = m.extent ∧ k.frame = m.frame ∧ k.target = m.target ∧ k.lastA = m.lastA ∧ k.lastB = m.lastB)
    (hu : MendClosed l m.frame e' t u ∧ Logged t u (t.mendFailure k reason)) :
    MendGaveUp l m.frame e' (s.mendMediaFailure m j copy) (s.mendFailure m reason) s u := by
  obtain ⟨hclosed, hlog⟩ := hu
  have hstopped := State.mendStopped_aside (m := m) j copy hh l
  have hfinding : t.mendFailure k reason = s.mendFailure m reason := by
    rw [← State.mendStopped_failure hh j copy k hk reason]
    unfold State.mendFailure State.findingNow
    rw [ha.cfg, hrep]
  refine ⟨hstopped.toAround.trans (ha.trans hclosed.around), hclosed.active, hclosed.accum haccum, hclosed.entry, hclosed.flag,
    NoneQueued.of_isMend (ReporterQueues.noneQueued hclosed.queues (fun r hr =>
      State.mendStopped_noneQueued j copy r (harb ▸ hr)) rfl rfl), ?_⟩
  exact (State.mendStopped_logged j copy hh hp).both (hfinding ▸ hlog.of_rep hrep) (State.mendStopped_tail j copy)

/-- The store's answer to the failed source read: a SEALED source becomes SUSPECT, and the mend, which is closing, is told of
nothing (R151). -/
theorem FrameLine.sourceTold {l : Fin 64} {m k : Mend} {e : Entry} {v : State} (hv : FrameLine l m.extent m.frame e v)
    (hk : v.mend.active = some { k with stage := .closing 5 }) :
    ∃ t, v.tell m.extent m.frame (.state m.target.other [.sealed] .suspect) = t ∧
      FrameLine l m.extent m.frame (if e.copyState m.target.other = .sealed then e.setCopy m.target.other .suspect else e) t ∧
      Around l v t ∧ t.rep = v.rep ∧ t.arb = v.arb ∧ t.pool = v.pool := by
  have hext : (v.line l).extent = m.extent := State.lineOf_extent hv.line
  by_cases ho : e.copyState m.target.other = .sealed
  · have happ : e.apply true (.state m.target.other [.sealed] .suspect) = (e.setCopy m.target.other .suspect, .applied) := by
      simp [Entry.apply, Entry.change, ho]
    obtain ⟨t, hgiven, hcore⟩ := hv.applyCore (.state m.target.other [.sealed] .suspect) happ
    obtain ⟨q, hq⟩ := t.reportEntry_queue m.extent m.frame e (e.setCopy m.target.other .suspect)
    let t' : State := { t with mend := { t.mend with queue := q } }
    have hreport : ∀ after, t'.reportMend m.extent m.frame .nobody after = t' := fun after => by
      have hactive : t'.mend.active = some { k with stage := .closing 5 } := (congrArg MendEngine.active hgiven.on.mend).trans hk
      simp [State.reportMend, hactive, Mend.isClosing]
    have hlogged : t.logChange m.extent m.frame (.state m.target.other [.sealed] .suspect) .applied = t := rfl
    have htell : v.tell m.extent m.frame (.state m.target.other [.sealed] .suspect) = t' := by
      rw [hlogged] at hcore
      unfold State.tell
      rw [State.submit_of_ready hv.line hv.waits]
      simp only [State.applyNow, hcore, Answer.isApplied, if_true, hext, hq]
      exact hreport _
    have ht' : Aside l t t' := .of_eq rfl rfl rfl rfl rfl rfl
    rw [if_pos ho]
    exact ⟨t', htell, (hv.given hgiven).aside ht', (hgiven.around hv.holds).trans ht'.toAround, hgiven.rep, hgiven.arb,
      hgiven.on.pool⟩
  · have happ : e.apply true (.state m.target.other [.sealed] .suspect) = (e, .notApplied) := by
      simp [Entry.apply, Entry.change, ho]
    obtain ⟨t, hgiven, hcore⟩ := hv.applyCore (.state m.target.other [.sealed] .suspect) happ
    have hlogged : t.logChange m.extent m.frame (.state m.target.other [.sealed] .suspect) .notApplied = t := rfl
    have htell : v.tell m.extent m.frame (.state m.target.other [.sealed] .suspect) = t := by
      rw [hlogged] at hcore
      unfold State.tell
      rw [State.submit_of_ready hv.line hv.waits]
      simp only [State.applyNow, hcore, Answer.isApplied, Bool.false_eq_true, if_false]
    rw [if_neg ho]
    exact ⟨t, htell, hv.given hgiven, hgiven.around hv.holds, hgiven.rep, hgiven.arb, hgiven.on.pool⟩

section

variable {l : Fin 64} {m : Mend} {e : Entry} {s : State} (h : FrameLine l m.extent m.frame e s) (hp : s.ldr.part = .running)
  (hh : s.unheld mendPos) (hm : s.mend.active = some m) (j : Nat) (copy : CopyId)
include h hp hh hm

/-- In VERIFY_SOURCE the target becomes SUSPECT, and a SEALED source with it (R150). -/
theorem FrameLine.sourceUnread (ht : e.copyState m.target = .mending) (hph : m.phase = .verifySource) :
    MendGaveUp l m.frame ((if e.copyState m.target.other = .sealed then e.setCopy m.target.other .suspect else e).setCopy
      m.target .suspect) (s.mendMediaFailure m j copy) (s.mendFailure m 5) s (s.mendFailed j copy true) := by
  let k : Mend := { m with buffer := none }
  let v := (s.mendStopped m j copy).setMend (some { k with stage := .closing 5 })
  have hv : Aside l s v := (State.mendStopped_aside j copy hh l).trans (State.setMend_aside _ l _)
  obtain ⟨t, htell, hline, hround, hrep, harb, hpool⟩ := FrameLine.sourceTold (k := k) (h.aside hv) rfl
  have hfail : s.mendFailed j copy true = t.submitClosing k 5 .suspect := by
    rw [← htell]
    simp [State.mendFailed, State.mendStopped, hm, hph, v, k]
  have htarget : (if e.copyState m.target.other = .sealed then e.setCopy m.target.other .suspect else e).copyState m.target =
      .mending := by
    split
    · have := e.setCopy_copyState_other m.target.other .suspect
      rw [CopyId.other_other] at this
      exact this.trans ht
    · exact ht
  have hclosed := FrameLine.submitClosing (m := k) hline (by rw [hround.ldr, hv.ldr]; exact hp) htarget (tgt := .suspect) (by simp) 5
  rw [hfail]
  exact MendClosed.gaveUp hp hh j copy ((State.setMend_aside _ l _).toAround.trans hround)
    ((State.accum_congr hpool mendPos).trans (State.mendStopped_accum j copy hh)) hrep harb ⟨rfl, rfl, rfl, rfl, rfl⟩ hclosed

/-- In attempt 2 of COPY or VERIFY_TARGET the target is LOST (R150). -/
theorem FrameLine.targetUnwritten (ht : e.copyState m.target = .mending) (hph : m.phase ≠ .verifySource) (hat : m.attempt ≠ 1) :
    MendGaveUp l m.frame (e.setCopy m.target .lost) (s.mendMediaFailure m j copy) (s.mendFailure m 2) s
      (s.mendFailed j copy true) := by
  have hfail : s.mendFailed j copy true = (s.mendStopped m j copy).submitClosing { m with buffer := none } 2 .lost := by
    cases hphase : m.phase with
    | verifySource => exact absurd hphase hph
    | copy => simp [State.mendFailed, State.mendStopped, hm, hphase, State.attemptFailed, hat]
    | verifyTarget => simp [State.mendFailed, State.mendStopped, hm, hphase, State.attemptFailed, hat]
  have hstopped := State.mendStopped_aside (m := m) j copy hh l
  have hclosed := FrameLine.submitClosing (m := { m with buffer := none }) (h.aside hstopped) (by rw [hstopped.ldr]; exact hp) ht
    (tgt := .lost) (by simp) 2
  rw [hfail]
  exact MendClosed.gaveUp hp hh j copy (.refl l _) (State.mendStopped_accum j copy hh) rfl rfl ⟨rfl, rfl, rfl, rfl, rfl⟩
    hclosed

/-- In attempt 1 of COPY or VERIFY_TARGET attempt 2 begins at COPY (R150). -/
theorem FrameLine.attemptAgain (hph : m.phase ≠ .verifySource) (hat : m.attempt = 1) :
    ∃ u : State, CopyBegins l m 2 e u (s.mendFailed j copy true) ∧ Aside l s u ∧ u.accum mendPos = none ∧
      u.mend = s.mend ∧ NoneQueued u Owner.isMend ∧ Logged s u (s.mendMediaFailure m j copy) := by
  have hfail : s.mendFailed j copy true =
      (s.mendStopped m j copy).startPhase { m with buffer := none, attempt := 2 } .copy := by
    cases hphase : m.phase with
    | verifySource => exact absurd hphase hph
    | copy => simp [State.mendFailed, State.mendStopped, hm, hphase, State.attemptFailed, hat]
    | verifyTarget => simp [State.mendFailed, State.mendStopped, hm, hphase, State.attemptFailed, hat]
  have hstopped := State.mendStopped_aside (m := m) j copy hh l
  have k := FrameLine.startsCopy (m := { m with buffer := none, attempt := 2 }) (h.aside hstopped)
  rw [hfail]
  exact ⟨s.mendStopped m j copy, ⟨k.around, k.accum, k.entry, k.mend, k.reads, k.writes, k.rep⟩, hstopped,
    State.mendStopped_accum j copy hh, State.mendStopped_mend j copy, State.mendStopped_noneQueued j copy,
    State.mendStopped_logged j copy hh hp⟩

end

end Sys2Proof.Machine

/-!
PROOFS. What a mend does as its requests return: COPY chunk by chunk, the comparisons, the failures (R146 to R152).
-/

namespace Sys2Proof.Machine

/-! ### The returns -/

theorem exec_mendReadReturn {s : State} {i : Fin 256} {j : Nat} (hm : s.mediaUp = true) (hlife : (s.slot i).life = .outstanding)
    (hk : (s.slot i).kind = .injected (.mendRead j)) (status : MediaStatus) (data : List Byte) {t : State}
    (ht : (s.setSlot i Slot.freeSlot).mendReadEnded (s.slot i) j (normalise .read (s.slot i).count status data) = t) :
    exec (.mendReadReturn i status data none) s = .next t.syncStatusTimer := by
  have hreturn := State.injReturn_of_outstanding (test := Owner.isMendRead) hm hlife hk rfl status data none
  exact congrArg State.done (hreturn.trans ht)

theorem exec_mendWriteReturn {s : State} {i : Fin 256} {j : Nat} (hm : s.mediaUp = true) (hlife : (s.slot i).life = .outstanding)
    (hk : (s.slot i).kind = .injected (.mendWrite j)) (status : MediaStatus) {t : State}
    (ht : (s.setSlot i Slot.freeSlot).mendWriteEnded (s.slot i) j (normalise .write (s.slot i).count status []) = t) :
    exec (.mendWriteReturn i status none) s = .next t.syncStatusTimer := by
  have hreturn := State.injReturn_of_outstanding (test := Owner.isMendWrite) hm hlife hk rfl status [] none
  exact congrArg State.done (hreturn.trans ht)

theorem normalise_read_whole {count : Nat} {data : List Byte} (h : data.length = count * 4096) :
    normalise .read count .good data = .good data := by
  unfold normalise
  exact if_pos h

theorem normalise_read_short {count : Nat} {status : MediaStatus} {data : List Byte}
    (h : status ≠ .good ∨ data.length ≠ count * 4096) : normalise .read count status data = .mediaError := by
  cases status with
  | good => exact if_neg (h.resolve_left fun c => c rfl)
  | mediaError => rfl
  | other n => rfl

/-! ### COPY (R148) -/

/-- With its buffer filled COPY queues at most the write of the buffer. -/
theorem State.feedMend_filled {s : State} {m : Mend} {j : Nat} {data : List Byte} (hm : s.mend.active = some m)
    (hph : m.phase = .copy) (hb : m.buffer = some (j, data)) :
    (∃ arb, s.feedMend = { s with arb := arb }) ∧
      (m.stage = .working → NoneInHand s Owner.isMend → 0 < s.cfg.paceDepth → s.feedMend = s.enqueue (s.mendWrite m j)) := by
  have hcopy : (∃ arb, s.feedCopy m = { s with arb := arb }) ∧
      (NoneInHand s Owner.isMend → 0 < s.cfg.paceDepth → s.feedCopy m = s.enqueue (s.mendWrite m j)) := by
    unfold State.feedCopy
    rw [hb]
    refine ⟨?_, fun hnone hpace => ?_⟩
    · split
      · dsimp only
        split
        · exact ⟨s.arb, rfl⟩
        · exact ⟨_, rfl⟩
      · exact ⟨s.arb, rfl⟩
    · have hwrites : s.liveInHand Owner.isMendWrite = false :=
        hnone.liveInHand fun o ho => by cases o <;> first | rfl | cases ho
      rw [if_pos (by rw [hnone.inHand]; exact hpace)]
      dsimp only
      rw [hwrites]
      rfl
  obtain ⟨hany, hwrite⟩ := hcopy
  unfold State.feedMend
  rw [hm]
  dsimp only
  cases hst : m.stage with
  | working =>
    rw [hph]
    exact ⟨hany, fun _ => hwrite⟩
  | _ => exact ⟨⟨s.arb, rfl⟩, nofun⟩

section

variable {s : State} {i : Fin 256} {j : Nat} {m : Mend} (hm : s.mend.active = some m) (hup : s.mediaUp = true)
  (hlife : (s.slot i).life = .outstanding) (hd : (s.slot i).dead = false)
include hm hup hlife hd

/-- A chunk's read that fills the buffer. -/
theorem mendRead_fills (hph : m.phase = .copy) {data : List Byte} (hk : (s.slot i).kind = .injected (.mendRead j))
    (hlen : data.length = (s.slot i).count * 4096) :
    ∃ arb, exec (.mendReadReturn i .good data none) s = .next
        ({ s.setSlot i Slot.freeSlot with arb := arb, mend := { s.mend with active := some { m with buffer := some (j, data) } } } :
          State).syncStatusTimer ∧
      (m.stage = .working → s.arb = [] → (∀ q, q ≠ i → (s.slot q).life = .free) → 0 < s.cfg.paceDepth →
        arb = [⟨.mendWrite j, .write, (s.extent m.extent).blockAddr m.target m.frame (256 * j), (s.extent m.extent).chunkLen j⟩]) := by
  let k : Mend := { m with buffer := some (j, data) }
  let u := (s.setSlot i Slot.freeSlot).setMend (some k)
  obtain ⟨⟨arb, hfeed⟩, hwrite⟩ := State.feedMend_filled (s := u) (m := k) rfl hph rfl
  have hactive : (s.setSlot i Slot.freeSlot).mend.active = some m := hm
  have hended : (s.setSlot i Slot.freeSlot).mendReadEnded (s.slot i) j (normalise .read (s.slot i).count .good data) = u.feedMend := by
    rw [normalise_read_whole hlen]
    simp only [State.mendReadEnded, hd, hactive]
    exact if_pos hph
  refine ⟨arb, exec_mendReadReturn hup hlife hk .good data (hended.trans hfeed), fun hst harb hfree hpace => ?_⟩
  have hnone : NoneInHand u Owner.isMend := by
    refine ⟨fun r hr => ?_, fun q => ?_⟩
    · rw [show u.arb = s.arb from rfl, harb] at hr
      cases hr
    · rw [show u.slot q = (s.setSlot i Slot.freeSlot).slot q from rfl, State.slot_setSlot]
      split
      · simp [Slot.freeSlot]
      next hq => simp [hfree q hq]
  have hqueued := congrArg State.arb (hfeed.symm.trans (hwrite hst hnone hpace))
  rw [show arb = (u.enqueue (u.mendWrite k j)).arb from hqueued]
  change s.arb ++ [_] = _
  rw [harb]
  rfl

/-- The write of the last chunk begins VERIFY_TARGET. -/
theorem mendWrite_ends (hk : (s.slot i).kind = .injected (.mendWrite j)) (hlast : (s.extent m.extent).chunks ≤ j + 1) :
    ∃ rs n, exec (.mendWriteReturn i .good none) s = .next
        ({ s.setSlot i Slot.freeSlot with
            arb := s.arb ++ rs, mend := { s.mend with active := some { m.atPhase .verifyTarget with next := n } } } :
          State).syncStatusTimer := by
  obtain ⟨n, hstart, -⟩ := (s.setSlot i Slot.freeSlot).startPhase_verify m (phase := .verifyTarget) (by simp)
  have hactive : (s.setSlot i Slot.freeSlot).mend.active = some m := hm
  refine ⟨_, n, exec_mendWriteReturn hup hlife hk .good (Eq.trans ?_ hstart)⟩
  simp only [State.mendWriteEnded, hd, hactive, normalise]
  exact if_pos hlast

end

/-! ### The comparison of a completed accumulator -/

/-- An accumulator that holds no return ends: its position is free and its pin released. -/
theorem State.endAccum_of_unheld {s : State} {p : Fin 32} {a : Accum} (ha : s.accum p = some a) (hh : a.holding = [])
    (o : SlotOutcome) : s.endAccum p o = ((s.mapSlots fun x => x.dropWatch p).setAccum p none).unpin? a.line := by
  rw [State.endAccum, ha]
  dsimp only
  rw [hh]
  rfl

/-- The mend as it awaits the store's answer (R146). -/
def Mend.comparing (m : Mend) : Mend := { m with stage := .comparing }

/-- The last chunk's return completes the MEND accumulator, which ends, and its digest is compared: `v` is the state in which
the comparison is made. -/
theorem mendRead_completes {s : State} {i : Fin 256} {j : Nat} {m : Mend} {l : Fin 64} (hm : s.mend.active = some m)
    (hup : s.mediaUp = true) (hlife : (s.slot i).life = .outstanding) (hd : (s.slot i).dead = false)
    (hk : (s.slot i).kind = .injected (.mendRead j)) {data : List Byte} (hlen : data.length = (s.slot i).count * 4096)
    (hph : m.phase ≠ .copy) {x : Accum} (hx : s.accum mendPos = some x) (hkey : x.key.extent = m.extent)
    (hold : x.holding = []) {c : Contribution} (hc : (s.slot i).contribs = [c]) (hpos : c.pos = mendPos) {e : Entry}
    (hline : FrameLine l m.extent m.frame e s) :
    let x2 := x.commit (s.extent m.extent).span s.cfg.idleTime (c.digest (s.extent m.extent) data).1
      (c.digest (s.extent m.extent) data).2
    x2.complete (s.extent m.extent).span = true →
      ∃ v, exec (.mendReadReturn i .good data none) s = .next (v.mendCompares l m.comparing x2.a x2.b).syncStatusTimer ∧
        Aside l s v ∧ v.slot i = Slot.freeSlot ∧ v.mend = { s.mend with active := some m.comparing } ∧
        v.accum mendPos = none ∧ v.rep = s.rep ∧ v.arb = s.arb := by
  intro x2 hcomplete
  let u := s.setSlot i Slot.freeSlot
  let w := u.setAccum mendPos (some x2)
  let v := (w.endAccum mendPos .noVerdict).setMend (some m.comparing)
  have hcommit : u.commitInjected [c] data = w := by
    have haccum : u.accum mendPos = some x := hx
    have hext : u.extent x.key.extent = s.extent m.extent := by rw [hkey]; rfl
    change u.commit c.pos (u.contributionSums c (some data)).1 (u.contributionSums c (some data)).2 = w
    simp only [State.commit, State.contributionSums, hpos, haccum, hext]
    rfl
  have hwaccum : w.accum mendPos = some x2 := State.accum_setAccum_self ..
  have hx2 : x2.holding = [] := hold
  have hx2line : x2.line = x.line := rfl
  have hwend : w.endAccum mendPos .noVerdict = ((w.mapSlots fun y => y.dropWatch mendPos).setAccum mendPos none).unpin? x.line :=
    State.endAccum_of_unheld hwaccum hx2 .noVerdict
  have hisComplete : w.isComplete mendPos = true := by
    have hext : w.extent x2.key.extent = s.extent m.extent := congrArg s.extent hkey
    simp only [State.isComplete, hwaccum, hext]
    exact hcomplete
  have hwv : Aside l w v := by
    have hwend' : Aside l w (w.endAccum mendPos .noVerdict) := by
      rw [hwend]
      exact (w.mapSlots_aside l (f := fun y => y.dropWatch mendPos) rfl fun _ => rfl).trans
        ((Aside.of_eq rfl rfl rfl rfl rfl rfl : Aside l (w.mapSlots fun y => y.dropWatch mendPos)
          ((w.mapSlots fun y => y.dropWatch mendPos).setAccum mendPos none)).trans (State.unpin?_aside _ l _))
    exact hwend'.trans (State.setMend_aside _ l _)
  have huv : Aside l u v := (Aside.of_eq rfl rfl rfl rfl rfl rfl : Aside l u w).trans hwv
  have hv : Aside l s v := (s.setSlot_free_aside l i).trans huv
  have hactive : w.mend.active = some m := hm
  have hended : u.mendReadEnded (s.slot i) j (normalise .read (s.slot i).count .good data) = v.mendCompares l m.comparing x2.a x2.b := by
    have hvline := hline.aside hv
    rw [normalise_read_whole hlen]
    have hu : u.mend.active = some m := hm
    simp only [State.mendReadEnded, hd, hu]
    rw [if_neg hph]
    rw [hc, hcommit, hisComplete, if_pos rfl]
    simp only [State.completeMend, hwaccum, hactive]
    have hsubmit : v.submit m.extent m.frame .mendComparing (.mendCompare m.phase m.target x2.a x2.b) =
        ((v.applyNow l m.frame .mendComparing (.mendCompare m.phase m.target x2.a x2.b)).1,
          some (v.applyNow l m.frame .mendComparing (.mendCompare m.phase m.target x2.a x2.b)).2) :=
      State.submit_of_ready hvline.line hvline.waits _ _
    rw [show (w.endAccum mendPos .noVerdict).setMend (some { m with stage := .comparing }) = v from rfl, hsubmit]
    rfl
  refine ⟨v, exec_mendReadReturn hup hlife hk .good data hended, hv, ?_, ?_, ?_, ?_, ?_⟩
  · exact huv.freed i (State.slot_setSlot_self ..)
  · change ({ (w.endAccum mendPos .noVerdict).mend with active := some m.comparing } : MendEngine) = _
    rw [State.endAccum_mend]
    rfl
  · change (w.endAccum mendPos .noVerdict).accum mendPos = none
    rw [hwend, State.accum_congr (State.unpin?_pool _ _), State.accum_setAccum_self]
  · exact (State.endAccum_rep _ _ _).trans rfl
  · exact (State.endAccum_arb _ _ _).trans rfl

end Sys2Proof.Machine

/-!
PROOFS. The settlement of the mend's returns (R146 to R152).
-/

namespace Sys2Proof.Machine

/-! ### What the obligation sees of a mend that closes, or begins an attempt -/

/-- The mend closed, its accumulator is gone, and line `l` holds `e` for the frame. -/
def MendOver (l : Fin 64) (frame : Nat) (e : Entry) (t : State) : Prop :=
  t.mend.active = none ∧ t.accum mendPos = none ∧ t.entryIn l frame = e ∧ (t.flag .mendEnd).isSet = true

/-- Attempt `n` of mend `m` begins at COPY as slot `i` became free, the frame's entry being `e`. -/
def MendRestarts (l : Fin 64) (i : Fin 256) (m : Mend) (e : Entry) (s t : State) (n : Nat) : Prop :=
  t.accum mendPos = none ∧ t.entryIn l m.frame = e ∧
    (∃ v, t.mend = { s.mend with active := some v } ∧ v.stage = .working ∧ v.phase = .copy ∧ v.attempt = n ∧ v.buffer = none ∧
      v.extent = m.extent ∧ v.frame = m.frame ∧ v.target = m.target ∧ v.line = m.line) ∧
    (s.arb = [] → (∀ q, q ≠ i → (s.slot q).life = .free) → 0 < s.cfg.paceDepth → 0 < (s.extent m.extent).span →
      (⟨.mendRead 0, .read, (s.extent m.extent).blockAddr m.target.other m.frame 0, (s.extent m.extent).chunkLen 0⟩ :
        InjRequest) ∈ t.arb)

theorem State.sync_aside (s : State) (l : Fin 64) : Aside l s s.syncStatusTimer := by
  obtain ⟨x, hx⟩ := s.syncStatusTimer_eq
  rw [hx]
  exact .of_eq rfl rfl rfl rfl rfl rfl

theorem MendOver.sync {l : Fin 64} {frame : Nat} {e : Entry} {t : State} (h : MendOver l frame e t) :
    MendOver l frame e t.syncStatusTimer := by
  obtain ⟨x, hx⟩ := t.syncStatusTimer_eq
  rw [hx]
  exact h

theorem MendRestarts.sync {l : Fin 64} {i : Fin 256} {m : Mend} {e : Entry} {s t : State} {n : Nat}
    (h : MendRestarts l i m e s t n) : MendRestarts l i m e s t.syncStatusTimer n := by
  obtain ⟨x, hx⟩ := t.syncStatusTimer_eq
  rw [hx]
  exact h

theorem MendClosed.over {l : Fin 64} {frame : Nat} {e : Entry} {s t : State} (h : MendClosed l frame e s t)
    (hn : s.accum mendPos = none) : MendOver l frame e t.syncStatusTimer :=
  MendOver.sync ⟨h.active, h.accum hn, h.entry, h.flag⟩

theorem MendGaveUp.over {l : Fin 64} {frame : Nat} {e : Entry} {f g : Finding} {s t : State} (h : MendGaveUp l frame e f g s t) :
    MendOver l frame e t.syncStatusTimer := MendOver.sync ⟨h.active, h.accum, h.entry, h.flag⟩

/-- From the state `u` in which the attempt begins: the slot of the last request is free there, and `s` is the state in which
that request returned. -/
theorem CopyBegins.restarts {l : Fin 64} {m : Mend} {n : Nat} {e : Entry} {s u t : State} {i : Fin 256}
    (k : CopyBegins l m n e u t) (ha : Aside l s u) (hn : u.accum mendPos = none) (hqueue : u.mend.queue = s.mend.queue)
    (hq : s.arb = [] → NoneQueued u Owner.isMend) (hi : u.slot i = Slot.freeSlot) :
    MendRestarts l i m e s t.syncStatusTimer n := by
  refine MendRestarts.sync ⟨k.accum hn, k.entry, ?_, fun harb hfree hpace hspan => ?_⟩
  · obtain ⟨v, hv, hrest⟩ := k.mend
    exact ⟨v, hv.trans (congrArg (fun q => (⟨q, some v⟩ : MendEngine)) hqueue), hrest⟩
  · have hslots : ∀ q, (u.slot q).life ≠ .outstanding := fun q => by
      by_cases hqi : q = i
      · rw [hqi, hi]
        simp [Slot.freeSlot]
      · exact ha.resting q (by simp [hfree q hqi])
    have hext : u.extent m.extent = s.extent m.extent := State.extent_congr ha.map m.extent
    have h := k.reads (hq harb) hslots (by rw [ha.cfg]; exact hpace) (by rw [hext]; exact hspan)
    rwa [hext] at h

/-- The comparison leaves everything around its line. -/
theorem FrameLine.compares_around {l : Fin 64} {m : Mend} {e : Entry} {s : State} (h : FrameLine l m.extent m.frame e s)
    (hp : s.ldr.part = .running) (hm : s.mend.active = some m) (hst : m.stage = .comparing) (hph : m.phase ≠ .copy)
    (hn : s.accum mendPos = none) (a b : Nat) : Around l s (s.mendCompares l m a b) := by
  have hgone : e.mendCompare m.phase m.target a b = (e, .gone) → Around l s (s.mendCompares l m a b) := fun hg => by
    obtain ⟨hmending, helse⟩ := h.compares_gone hp hm hst hn hg
    by_cases ht : e.copyState m.target = .mending
    · exact (hmending ht).1.around
    · exact (helse ht).1.around
  cases hphase : m.phase with
  | copy => exact absurd hphase hph
  | verifySource =>
    by_cases ho : e.copyState m.target.other = .sealed
    · cases heq : e.equal a b with
      | true => exact (h.compares_good hm hst hphase ho heq).around
      | false => exact (h.compares_failed hp hm hst hphase ho heq).1.around
    · exact hgone (by simp [Entry.mendCompare, hphase, ho])
  | verifyTarget =>
    by_cases ht : e.copyState m.target = .mending
    · cases heq : e.equal a b with
      | true => exact (h.compares_mended hp hm hst hphase ht heq).1.around
      | false =>
        by_cases hat : m.attempt = 1
        · exact (h.compares_unequal hm hst hphase ht heq hat).around
        · exact (h.compares_given_up hp hm hst hphase ht heq hat).1.around
    · exact hgone (by simp [Entry.mendCompare, hphase, ht])

/-! ### The settlement -/

/-- R146, R147, R149, R151, R152: a verify phase's last chunk. -/
theorem mendVerify_ends {s : State} {i : Fin 256} {j : Nat} {m : Mend} {l : Fin 64} {e : Entry} (hm : s.mend.active = some m)
    (hp : s.ldr.part = .running) (hup : s.mediaUp = true) (hlife : (s.slot i).life = .outstanding)
    (hd : (s.slot i).dead = false) (hline : FrameLine l m.extent m.frame e s) (hk : (s.slot i).kind = .injected (.mendRead j))
    {data : List Byte} (hlen : data.length = (s.slot i).count * 4096) (hph : m.phase ≠ .copy) {x : Accum}
    (hx : s.accum mendPos = some x) (hkey : x.key.extent = m.extent) (hold : x.holding = []) {c : Contribution}
    (hc : (s.slot i).contribs = [c]) (hpos : c.pos = mendPos) :
    let x2 := x.commit (s.extent m.extent).span s.cfg.idleTime (c.digest (s.extent m.extent) data).1
      (c.digest (s.extent m.extent) data).2
    let found := fun kind (copy : CopyId) d1 d2 d3 =>
      s.findingNow kind (some m.extent.val) (some m.frame) (some copy.num) d1 d2 d3
    x2.complete (s.extent m.extent).span = true →
      ∃ t, exec (.mendReadReturn i .good data none) s = .next t ∧ t.slot i = Slot.freeSlot ∧ Around l s t ∧
        (m.phase = .verifySource → e.copyState m.target.other = .sealed →
          (e.equal x2.a x2.b = true → MendRestarts l i m e s t m.attempt ∧ Unlogged s t) ∧
          (e.equal x2.a x2.b = false → MendOver l m.frame e.bothLost t ∧
            Logged s t (found .frameLost m.target.other x2.a x2.b (e.copyState m.target).code))) ∧
        (m.phase = .verifySource → e.copyState m.target.other ≠ .sealed → e.copyState m.target = .mending →
          MendOver l m.frame (e.setCopy m.target .suspect) t ∧ Logged s t (found .mendFailed m.target m.lastA m.lastB 3)) ∧
        (m.phase = .verifyTarget → e.copyState m.target = .mending →
          (e.equal x2.a x2.b = true → MendOver l m.frame (e.setCopy m.target .sealed) t ∧
            Logged s t (found .mendDone m.target x2.a x2.b m.attempt)) ∧
          (e.equal x2.a x2.b = false → m.attempt = 1 → MendRestarts l i m e s t 2 ∧ Unlogged s t) ∧
          (e.equal x2.a x2.b = false → m.attempt ≠ 1 → MendOver l m.frame (e.setCopy m.target .lost) t ∧
            Logged s t (found .mendFailed m.target x2.a x2.b 1))) ∧
        ((m.phase = .verifyTarget ∨ e.copyState m.target.other ≠ .sealed) → e.copyState m.target ≠ .mending →
          MendOver l m.frame e t ∧ Logged s t (found .mendFailed m.target m.lastA m.lastB 6)) := by
  intro x2 found hcomplete
  obtain ⟨v, hexec, hv, hvi, hvm, hvn, hvrep, hvarb⟩ :=
    mendRead_completes hm hup hlife hd hk hlen hph hx hkey hold hc hpos hline hcomplete
  have h : FrameLine l m.comparing.extent m.comparing.frame e v := hline.aside hv
  have hvp : v.ldr.part = .running := (congrArg Loader.part hv.ldr).trans hp
  have hva : v.mend.active = some m.comparing := by rw [hvm]
  have hround : Around l v (v.mendCompares l m.comparing x2.a x2.b) := h.compares_around hvp hva rfl hph hvn x2.a x2.b
  have hfind : v.findingNow = s.findingNow := by
    funext
    simp only [State.findingNow, hv.cfg, hvrep]
  have hover : ∀ {e' : Entry} {f : Finding}, MendClosed l m.comparing.frame e' v (v.mendCompares l m.comparing x2.a x2.b) ∧
      Logged v (v.mendCompares l m.comparing x2.a x2.b) f → MendOver l m.frame e' (v.mendCompares l m.comparing x2.a
        x2.b).syncStatusTimer ∧ Logged s (v.mendCompares l m.comparing x2.a x2.b).syncStatusTimer f := fun hcl =>
    ⟨hcl.1.over hvn, (hcl.2.of_rep hvrep).sync⟩
  have hagain : ∀ {n : Nat}, CopyBegins l m.comparing n e v (v.mendCompares l m.comparing x2.a x2.b) →
      MendRestarts l i m e s (v.mendCompares l m.comparing x2.a x2.b).syncStatusTimer n ∧
        Unlogged s (v.mendCompares l m.comparing x2.a x2.b).syncStatusTimer := fun k =>
    ⟨CopyBegins.restarts (m := m.comparing) k hv hvn (by rw [hvm]) (fun harb => by
      intro r hr
      rw [hvarb, harb] at hr
      cases hr) hvi, (SameLog.of_rep (k.rep.trans hvrep)).sync.unlogged⟩
  have hsync := (v.mendCompares l m.comparing x2.a x2.b).sync_aside l
  refine ⟨_, hexec, hsync.freed i (hround.freed i hvi), (hv.toAround.trans hround).trans hsync.toAround, fun hs ho => ⟨fun heq => ?_,
    fun heq => ?_⟩, fun hs ho ht => ?_, fun hs ht => ⟨fun heq => ?_, fun heq hat => ?_, fun heq hat => ?_⟩, fun hor ht => ?_⟩
  · exact hagain (h.compares_good hva rfl hs ho heq)
  · have := hover (h.compares_failed hvp hva rfl hs ho heq)
    rwa [hfind] at this
  · have hgone : e.mendCompare m.phase m.target x2.a x2.b = (e, .gone) := by simp [Entry.mendCompare, hs, ho]
    have := hover ((h.compares_gone hvp hva rfl hvn hgone).1 ht)
    rwa [State.mendFailure, hfind] at this
  · have := hover (h.compares_mended hvp hva rfl hs ht heq)
    rwa [hfind] at this
  · exact hagain (h.compares_unequal hva rfl hs ht heq hat)
  · have := hover (h.compares_given_up hvp hva rfl hs ht heq hat)
    rwa [State.mendFailure, hfind] at this
  · have hgone : e.mendCompare m.phase m.target x2.a x2.b = (e, .gone) := by
      cases hphase : m.phase with
      | copy => exact absurd hphase hph
      | verifySource => simp [Entry.mendCompare, hor.resolve_left (by simp [hphase])]
      | verifyTarget => simp [Entry.mendCompare, ht]
    have := hover ((h.compares_gone hvp hva rfl hvn hgone).2 ht)
    rwa [State.mendFailure, hfind] at this

/-- R150: a request of the mend ends in MEDIA_ERROR, its slot free. -/
theorem mendRequest_fails {s : State} {i : Fin 256} {j : Nat} {m : Mend} {l : Fin 64} {e : Entry} (hm : s.mend.active = some m)
    (hp : s.ldr.part = .running) (hline : FrameLine l m.extent m.frame e s) (copy : CopyId) (hh : s.unheld mendPos)
    (ht : e.copyState m.target = .mending) {c : Instr}
    (hexec : exec c s = .next ((s.setSlot i Slot.freeSlot).mendFailed j copy true).syncStatusTimer) :
    let found := fun kind (copy : CopyId) d1 d2 d3 =>
      s.findingNow kind (some m.extent.val) (some m.frame) (some copy.num) d1 d2 d3
    let failed := found .mendMediaError copy (256 * j) m.phase.code m.attempt
    ∃ t, exec c s = .next t ∧ t.slot i = Slot.freeSlot ∧ Around l s t ∧ NoneQueued t Owner.isMendWrite ∧
      (m.phase = .verifySource → e.copyState m.target.other = .sealed →
        MendOver l m.frame ((e.setCopy m.target.other .suspect).setCopy m.target .suspect) t ∧
          LoggedBoth s t failed (found .mendFailed m.target m.lastA m.lastB 5)) ∧
      (m.phase ≠ .verifySource → m.attempt = 1 → MendRestarts l i m e s t 2 ∧ Logged s t failed) ∧
      (m.phase ≠ .verifySource → m.attempt ≠ 1 → MendOver l m.frame (e.setCopy m.target .lost) t ∧
        LoggedBoth s t failed (found .mendFailed m.target m.lastA m.lastB 2)) := by
  intro found failed
  let u := s.setSlot i Slot.freeSlot
  have hu : Aside l s u := s.setSlot_free_aside l i
  have h : FrameLine l m.extent m.frame e u := hline.aside hu
  have hui : u.slot i = Slot.freeSlot := State.slot_setSlot_self ..
  obtain ⟨x, hx⟩ := (u.mendFailed j copy true).syncStatusTimer_eq
  have hsync := (u.mendFailed j copy true).sync_aside l
  have hboth : ∀ {e' : Entry} {f g : Finding}, MendGaveUp l m.frame e' f g u (u.mendFailed j copy true) →
      MendOver l m.frame e' (u.mendFailed j copy true).syncStatusTimer ∧
        LoggedBoth s (u.mendFailed j copy true).syncStatusTimer f g := fun hg => by
    refine ⟨hg.over, ?_⟩
    rw [hx]
    exact hg.logged
  have harb : (u.mendFailed j copy true).syncStatusTimer.arb = (u.mendFailed j copy true).arb := by rw [hx]
  have hclose : ∀ {e' : Entry} {f g : Finding}, MendGaveUp l m.frame e' f g u (u.mendFailed j copy true) →
      (u.mendFailed j copy true).syncStatusTimer.slot i = Slot.freeSlot ∧
        Around l s (u.mendFailed j copy true).syncStatusTimer ∧
          NoneQueued (u.mendFailed j copy true).syncStatusTimer Owner.isMendWrite := fun hg =>
    ⟨hsync.freed i (hg.around.freed i hui), (hu.toAround.trans hg.around).trans hsync.toAround,
      fun r hr => hg.writes r (harb ▸ hr)⟩
  by_cases hph : m.phase = .verifySource
  · have hg := h.sourceUnread hp hh hm j copy ht hph
    obtain ⟨hslot, haround, hwrites⟩ := hclose hg
    refine ⟨_, hexec, hslot, haround, hwrites, fun _ ho => ?_, fun hne => absurd hph hne, fun hne => absurd hph hne⟩
    rw [if_pos ho] at hg
    exact hboth hg
  · by_cases hat : m.attempt = 1
    · obtain ⟨w, hbegins, hw, hwn, hwm, hwq, hlog⟩ := h.attemptAgain hp hh hm j copy hph hat
      have hwi : w.slot i = Slot.freeSlot := hw.freed i hui
      refine ⟨_, hexec, hsync.freed i (hbegins.around.freed i hwi),
        ((hu.trans hw).toAround.trans hbegins.around).trans hsync.toAround,
        fun r hr => hbegins.writes (NoneQueued.of_isMend hwq) r (harb ▸ hr), fun hph' => absurd hph' hph, fun _ _ => ⟨?_, ?_⟩,
        fun _ hne => absurd hat hne⟩
      · exact hbegins.restarts (hu.trans hw) hwn (congrArg MendEngine.queue hwm) (fun _ => hwq) hwi
      · exact (hlog.sameLog (.of_rep hbegins.rep)).sync
    · have hg := h.targetUnwritten hp hh hm j copy ht hph hat
      obtain ⟨hslot, haround, hwrites⟩ := hclose hg
      exact ⟨_, hexec, hslot, haround, hwrites, fun hph' => absurd hph' hph, fun _ hne => absurd hne hat, fun _ _ => hboth hg⟩

theorem mendRead_fails {s : State} {i : Fin 256} {j : Nat} {m : Mend} (hm : s.mend.active = some m) (hup : s.mediaUp = true)
    (hlife : (s.slot i).life = .outstanding) (hd : (s.slot i).dead = false) (hk : (s.slot i).kind = .injected (.mendRead j))
    {status : MediaStatus} {data : List Byte} (hbad : status ≠ .good ∨ data.length ≠ (s.slot i).count * 4096) :
    exec (.mendReadReturn i status data none) s =
      .next ((s.setSlot i Slot.freeSlot).mendFailed j m.readCopy true).syncStatusTimer := by
  refine exec_mendReadReturn hup hlife hk status data ?_
  have hu : (s.setSlot i Slot.freeSlot).mend.active = some m := hm
  rw [normalise_read_short hbad]
  simp only [State.mendReadEnded, hd, hu]

theorem mendWrite_fails {s : State} {i : Fin 256} {j : Nat} {m : Mend} (hm : s.mend.active = some m) (hup : s.mediaUp = true)
    (hlife : (s.slot i).life = .outstanding) (hd : (s.slot i).dead = false) (hk : (s.slot i).kind = .injected (.mendWrite j))
    {status : MediaStatus} (hbad : status ≠ .good) :
    exec (.mendWriteReturn i status none) s =
      .next ((s.setSlot i Slot.freeSlot).mendFailed j m.target true).syncStatusTimer := by
  refine exec_mendWriteReturn hup hlife hk status ?_
  have hu : (s.setSlot i Slot.freeSlot).mend.active = some m := hm
  have hend : normalise .write (s.slot i).count status [] = .mediaError := by
    cases status with
    | good => exact absurd rfl hbad
    | mediaError => rfl
    | other n => rfl
  rw [hend]
  simp only [State.mendWriteEnded, hd, hu]

/-- Settles O50: COPY moves by its requests alone; a verify phase ends with the comparison, by the phase and the states of the two
copies; a failed request by the phase and the attempt. -/
theorem mendCopiesAndVerifies : Obligations.MendCopiesAndVerifies := by
  refine ⟨fun s i j m hm hph hup hlife hd => ⟨fun data hk hlen => ?_, fun hk hlast => ?_⟩, ?_⟩
  · obtain ⟨arb, hexec, hwrite⟩ := mendRead_fills hm hup hlife hd hph hk hlen
    generalize hw : ({ s.setSlot i Slot.freeSlot with
        arb := arb, mend := { s.mend with active := some { m with buffer := some (j, data) } } } : State) = w at hexec
    obtain ⟨x, hx⟩ := w.syncStatusTimer_eq
    subst hw
    refine ⟨_, hexec, ?_⟩
    rw [hx]
    exact ⟨State.slot_setSlot_self .., s.otherSlots_setSlot i Slot.freeSlot, rfl, rfl, rfl, rfl, rfl, rfl, rfl, rfl, rfl,
      rfl, rfl, rfl, hwrite⟩
  · obtain ⟨rs, n, hexec⟩ := mendWrite_ends hm hup hlife hd hk hlast
    generalize hw : ({ s.setSlot i Slot.freeSlot with
        arb := s.arb ++ rs, mend := { s.mend with active := some { m.atPhase .verifyTarget with next := n } } } : State) = w at hexec
    obtain ⟨x, hx⟩ := w.syncStatusTimer_eq
    subst hw
    refine ⟨_, { m.atPhase .verifyTarget with next := n }, hexec, ?_⟩
    rw [hx]
    exact ⟨State.slot_setSlot_self .., s.otherSlots_setSlot i Slot.freeSlot, rfl, rfl, rfl, rfl, rfl, rfl, rfl, rfl, rfl,
      List.prefix_append _ _, rfl, rfl, rfl, rfl, rfl, rfl, rfl, rfl, rfl, rfl, rfl⟩
  · intro s i j m l hm hst hp hup hlife hd hlineOf hwaits hholds hlength hstate hreplica hframe hwalk ext e found closed again others
    have hline : FrameLine l m.extent m.frame e s := ⟨hlineOf, hwaits, hholds, hlength, hstate, hreplica, hframe, rfl⟩
    constructor
    · intro data x c hk hlen hph hx hkey hold hc hpos x2 hcomplete
      obtain ⟨t, hexec, hslot, hround, hsource, hgone, htarget, hleft⟩ :=
        mendVerify_ends hm hp hup hlife hd hline hk hlen hph hx (congrArg FrameKey.extent hkey) hold hc hpos hcomplete
      exact ⟨t, hexec, hslot, hround.ports, hround.map, hround.cfg, hround.lines, hsource, hgone, htarget, hleft⟩
    · intro status data copy c hfail hunheld hmending failed
      have hexec : exec c s = .next ((s.setSlot i Slot.freeSlot).mendFailed j copy true).syncStatusTimer := by
        rcases hfail with ⟨hk, hbad, rfl, rfl⟩ | ⟨hk, hbad, rfl, -, rfl⟩
        · exact mendRead_fails hm hup hlife hd hk hbad
        · exact mendWrite_fails hm hup hlife hd hk hbad
      obtain ⟨t, hexec, hslot, hround, hwrites, hsource, hagain, hgivenUp⟩ :=
        mendRequest_fails hm hp hline copy hunheld hmending hexec
      exact ⟨t, hexec, hslot, hround.ports, hround.map, hround.cfg, hround.lines, hwrites, hsource, hagain, hgivenUp⟩

end Sys2Proof.Machine

/-!
PROOFS. A line taken for a fill (R48), and what the walk engine does at a unit: it asks for its line, waits for it, or reads (R114).
-/

namespace Sys2Proof.Machine

/-! ### A line taken (R48) -/

theorem State.takeForFill_line_self (s : State) (l : Fin 64) (tag : Nat) (e : Fin 1024) :
    (s.takeForFill l tag e).line l = { Line.blank with tag := tag, extent := e, state := .filling, pins := 1 } := by
  have hpin := State.pin_line ((s.setLine l { Line.blank with tag := tag, extent := e, state := .filling }).leaveDirty l) l
  rw [State.leaveDirty_line, State.line_setLine_self] at hpin
  exact hpin

theorem State.takeForFill_otherLines (s : State) (l : Fin 64) (tag : Nat) (e : Fin 1024) :
    OtherLines s (s.takeForFill l tag e) l := fun k hk => by
  have hpin := (State.pin_onLine ((s.setLine l { Line.blank with tag := tag, extent := e, state := .filling }).leaveDirty l) l).lines k
    hk
  rw [State.leaveDirty_line, State.line_setLine, if_neg hk] at hpin
  exact hpin

theorem State.takeForFill_arb (s : State) (l : Fin 64) (tag : Nat) (e : Fin 1024) :
    (s.takeForFill l tag e).arb = s.arb ++ [⟨.fill l, .read, tag, 1⟩] := by
  simp [State.takeForFill, State.enqueue, State.leaveDirty, oneBlock]

/-- A state whose lines and queue are as the line's taking left them. -/
theorem TakenForFill.of_take {s t : State} {l : Fin 64} {tag : Nat} {e : Fin 1024}
    (hlines : ∀ k, t.line k = (s.takeForFill l tag e).line k) (harb : t.arb = (s.takeForFill l tag e).arb) :
    TakenForFill s t l tag e := by
  have hself := (hlines l).trans (s.takeForFill_line_self l tag e)
  refine ⟨?_, ?_, ?_, ?_, ?_, fun k hk => (hlines k).trans (s.takeForFill_otherLines l tag e k hk),
    harb.trans (s.takeForFill_arb l tag e)⟩ <;> rw [hself]
  rfl

theorem State.findLine_spec {s : State} {tag : Nat} {l : Fin 64} (h : s.findLine tag = some l) :
    (s.line l).tag = tag ∧ (s.line l).state ≠ .invalid := by
  simpa using List.find?_some h

theorem State.requestLine_of_victim {s : State} {tag : Nat} {l : Fin 64} (h : s.findLine tag = none) (hq : s.store.queue = [])
    (hv : s.victim? = some l) (user : LineUser) (e : Fin 1024) :
    s.requestLine user tag e false = (s.takeForFill l tag e, some l) := by
  simp [State.requestLine, h, hq, hv, State.takeLine]

/-! ### A walk at a unit (R114, R118, R119) -/

/-- A RUNNING walk that is not done with a range ends past its work, and is at a unit otherwise (R110, R111). -/
theorem State.walkMove_of_running {s : State} {w : Walk} (hw : s.walk.cur = some w) (hstage : w.stage = .ready)
    (hrun : w.run = .running) (hspent : w.spent = false) :
    s.walkMove = some (if w.past = true then s.endWalk w else s.visit w) := by
  cases hpast : w.past <;> simp [State.walkMove, hw, hstage, hrun, hspent, hpast]

theorem Walk.spent_of_past {w : Walk} (h : w.past = true) : w.spent = false := by simp [Walk.spent, h]

theorem Walk.spent_of_within {w : Walk} (h : w.frame ≤ w.last) : w.spent = false := by
  have hnot : ¬ w.last < w.frame := by omega
  simp [Walk.spent, hnot]

section

variable {s : State} {w : Walk} (hunit : w.atUnit s)
include hunit

theorem Walk.atUnit.unchanged : s.walkChanged w = false := by
  obtain ⟨hkind, -, hchanged, -, hstate, -⟩ := hunit
  have hrequires : w.requires = .sealed := by
    rcases hkind with hk | ⟨hk, -⟩ <;> simp [Walk.requires, hk]
  simp [State.walkChanged, hchanged, hrequires, hstate]

theorem Walk.atUnit.congr {t : State} (hmap : t.map = s.map) (hcfg : t.cfg = s.cfg) : w.atUnit t := by
  unfold Walk.atUnit
  rw [State.extent_congr hmap, hcfg]
  exact hunit

theorem Walk.atUnit.notPrepare : w.kind ≠ .prepare := by
  obtain ⟨hkind, -⟩ := hunit
  rcases hkind with hk | ⟨hk, -⟩ <;> simp [hk]

/-- The engine's move at the unit is the walk's visit. -/
theorem State.walkMove_visit (hw : s.walk.cur = some w) (hstage : w.stage = .ready) (hrun : w.run = .running) :
    s.walkMove = some (if w.depth = .full then s.visitFull w else s.visitAudit w) := by
  obtain ⟨hkind, hpast, -, hlast, -⟩ := hunit
  rw [State.walkMove_of_running hw hstage hrun (Walk.spent_of_within hlast)]
  rcases hkind with hk | ⟨hk, hentered⟩
  · simp [hpast, State.visit, hk]
  · simp [hpast, State.visit, hk, hentered]

/-- Without a line it asks for the one of its frame's digest block (R114). -/
theorem State.walkMove_asks (hw : s.walk.cur = some w) (hstage : w.stage = .ready) (hrun : w.run = .running)
    (hline : w.line = none) : s.walkMove = some (s.askLine w) := by
  rw [State.walkMove_visit hunit hw hstage hrun]
  simp [State.visitFull, State.visitAudit, hunit.unchanged, hline]

/-- It has the line whose tag is that block's: a FULL walk looks at the copy, an AUDIT walk has the line verified. -/
theorem State.walkMove_looks (hw : s.walk.cur = some w) (hstage : w.stage = .ready) (hrun : w.run = .running) {l : Fin 64}
    (hline : w.line = some l) (htag : (s.line l).tag = (s.extent w.extent).digestBlock w.frame) :
    s.walkMove = some (if w.depth = .full then s.visitCopy w l else s.auditLine w l) := by
  rw [State.walkMove_visit hunit hw hstage hrun]
  simp [State.visitFull, State.visitAudit, hunit.unchanged, hline, htag]

end

theorem State.walkMove_of_stage {s : State} {w : Walk} (hw : s.walk.cur = some w) (hstage : w.stage ≠ .ready) :
    s.walkMove = none := by
  simp [State.walkMove, hw, hstage]

/-- Line `l` holds the cursor's block and no entries yet: the walk waits, a FULL one for the fill, an AUDIT one for the verification
in flight (R114, R119). -/
theorem State.walkMove_waits {s : State} {w : Walk} (hunit : w.atUnit s) (hw : s.walk.cur = some w) (hstage : w.stage = .ready)
    (hrun : w.run = .running) {l : Fin 64} (hline : w.line = some l)
    (htag : (s.line l).tag = (s.extent w.extent).digestBlock w.frame) (hfill : (s.line l).state = .filling) :
    ∃ v, s.walkMove = some (s.setWalk (some v)) ∧ v.stage ≠ .ready ∧ (w.depth = .full → v = { w with stage := .waitFill }) ∧
      (w.depth = .audit → v = { w with stage := .auditing, inFlight := true }) := by
  rw [State.walkMove_looks hunit hw hstage hrun hline htag]
  by_cases hd : w.depth = .full
  · have hready : (s.line l).notReady = true := by simp [Line.notReady, hfill, LineState.holds]
    exact ⟨{ w with stage := .waitFill }, by simp [State.visitCopy, hready, hd], by simp, fun _ => rfl, fun c => by simp [hd] at c⟩
  · exact ⟨{ w with stage := .auditing, inFlight := true }, by simp [State.auditLine, hfill, hd], by simp, fun c => absurd c hd,
      fun _ => rfl⟩

/-- A frame copy is read from its first chunk on, as far as the pace depth allows (R115). -/
theorem State.startRead_eq (s : State) (w : Walk) :
    ∃ n, s.startRead w = { s with
        arb := s.arb ++ (List.range' 0 n).map fun j => s.walkChunk w.key j,
        walk := { s.walk with cur := some { w with stage := .reading n } } } ∧
      n = min (s.cfg.paceDepth - s.inHand Owner.isWalk) (s.extent w.extent).chunks := by
  refine ⟨_, ?_, rfl⟩
  let u := s.setWalk (some { w with stage := .reading 0 })
  let k := min (u.cfg.paceDepth - u.inHand Owner.isWalk) ((u.extent w.extent).chunks - 0)
  have hloop := State.forEach_enqueue (fun j t => t.walkChunk w.key j) (fun _ _ _ => rfl) (List.range' 0 k) u
  have hfeed : u.feedWalk = (forEach (List.range' 0 k) (fun j t => t.enqueue (t.walkChunk w.key j)) u).setWalk
      (some { w with stage := .reading (0 + k) }) := rfl
  change u.feedWalk = _
  rw [hfeed, hloop, Nat.zero_add]
  rfl

/-- Line `l` holds the entry, SEALED or SUSPECT at the cursor: the walk begins to read the copy (R114). -/
theorem State.visitCopy_reads {s : State} {w : Walk} {l : Fin 64} (hholds : (s.line l).state.holds = true)
    (hrefill : (s.line l).refilling = false)
    (hcopy : (s.entryIn l w.frame).copyState w.copy = .sealed ∨ (s.entryIn l w.frame).copyState w.copy = .suspect) :
    s.visitCopy w l = s.startRead w := by
  have hready : (s.line l).notReady = false := by simp [Line.notReady, hholds, hrefill]
  rcases hcopy with hc | hc <;> simp [State.visitCopy, hready, hc]

end Sys2Proof.Machine

/-!
PROOFS. SUSPEND_WALK and RESUME_WALK (R110 to R112, R118, R137).
-/

namespace Sys2Proof.Machine

/-! ### What the end of a walk leaves (R111) -/

/-- The writebacks that a walk's end queues. -/
theorem State.queueExtents_eq (s : State) (test : Fin 1024 → Bool) :
    ∃ rs, s.queueExtents test = { s with arb := s.arb ++ rs } ∧ ∀ r ∈ rs, r.owner.isWalk = false := by
  refine forEach_induct (P := fun a b : State => ∃ rs : List InjRequest, b = { a with arb := a.arb ++ rs } ∧
    ∀ r ∈ rs, r.owner.isWalk = false) (fun a => ⟨[], by simp, nofun⟩) ?_ ?_ (allFin 64) s
  · rintro a b c ⟨rs, hb, hrs⟩ ⟨qs, hc, hqs⟩
    refine ⟨rs ++ qs, by simp [hc, hb], fun r hr => ?_⟩
    rcases List.mem_append.mp hr with h | h
    · exact hrs r h
    · exact hqs r h
  · intro l t
    split
    · unfold State.queueWriteback
      split
      · exact ⟨[], by simp, nofun⟩
      · exact ⟨[_], rfl, by simp [oneBlock, Owner.isWalk]⟩
    · exact ⟨[], by simp, nofun⟩

/-- A walk that has ended with finding `f`, none following it. -/
structure WalkOver (s t : State) (f : Finding) : Prop where
  cur : t.walk.cur = none
  flag : (t.flag .walkEnd).isSet = true
  ports : SamePorts s t
  map : t.map = s.map
  pool : t.pool = s.pool
  store : t.store = s.store
  dir : t.dir = s.dir
  queued : ∀ r ∈ t.arb, r ∈ s.arb ∨ r.owner.isWalk = false
  logged : Logged s t f

theorem State.endWalk_over {s : State} {w : Walk} (hk : w.kind ≠ .pass) (hline : w.line = none) (hsaved : s.walk.saved = [])
    (hrestart : s.map.restart = []) (hdue : s.walk.passDue = false) (hp : s.ldr.part = .running) {k : FindingKind}
    {e f c : Option Nat} {d1 d2 d3 : Nat} (hlog : s.logWalkEnd w = s.log k e f c d1 d2 d3) :
    WalkOver s (s.endWalk w) (s.findingNow k e f c d1 d2 d3) := by
  let u := (s.log k e f c d1 d2 d3).raise .walkEnd
  obtain ⟨rs, hqueue, hrs⟩ := u.queueExtents_eq fun e => if w.kind = .pass then w.visited.contains e else decide (e = w.extent)
  have hend : s.endWalk w = ({ u with arb := u.arb ++ rs } : State).setWalk none := by
    have hu : s.endWalk w = ((({ u with arb := u.arb ++ rs } : State).unpin? w.line).setWalk none |>.restAfter w).nextWalk := by
      rw [← hqueue]
      simp only [State.endWalk, hlog]
      rfl
    have hsavedu : u.walk.saved = [] := by simp [u, hsaved]
    have hrestartu : u.map.restart = [] := by simp [u, hrestart]
    have hdueu : u.walk.passDue = false := by simp [u, hdue]
    rw [hu, hline]
    simp [State.unpin?, State.restAfter, hk, State.nextWalk, State.setWalk, hsavedu, hrestartu, hdueu]
  rw [hend]
  refine ⟨rfl, ?_, ?_, ?_, ?_, ?_, ?_, fun r hr => ?_, ?_⟩
  · exact State.flag_raise_self ..
  · simp [SamePorts, State.setWalk, u]
  · simp [State.setWalk, u]
  · simp [State.setWalk, u]
  · simp [State.setWalk, u]
  · simp [State.setWalk, u]
  · rcases List.mem_append.mp (show r ∈ u.arb ++ rs from hr) with hmem | hmem
    · rcases ((s.log_reporter _ _ _ _ _ _ _).trans (State.raise_reporter _ .walkEnd)) r hmem with h | h | h
      · exact .inl h
      · exact .inr (by rw [h]; rfl)
      · exact .inr (by rw [h]; rfl)
    · exact .inr (hrs r hmem)
  · exact ((State.logged_log (s.running_iff.mpr hp) k e f c d1 d2 d3).raise .walkEnd).sameLog (.of_rep rfl)

theorem State.walkMove_of_none {s : State} (h : s.walk.cur = none) : s.walkMove = none := by simp [State.walkMove, h]

/-! ### SUSPEND_WALK -/

theorem State.addResult_reporter (s : State) (r : Result) : ReporterQueues s (s.addResult r) := by
  unfold State.addResult
  split
  · exact .of_arb rfl
  · unfold State.tryEndBatch
    split
    · exact .of_arb rfl
    · split
      · exact ReporterQueues.trans (.of_arb rfl) (State.pumpStatus_reporter _)
      · exact .of_arb rfl

theorem State.recorded_noneQueued {u : State} {p : Owner → Bool} (h : NoneQueued u p) (r : Result) (hs : p .status = false)
    (hl : p .log = false) : NoneQueued (u.addResult r).syncStatusTimer p := by
  have hq : ReporterQueues u (u.addResult r).syncStatusTimer := (u.addResult_reporter r).trans (.of_arb (by simp))
  exact hq.noneQueued h hs hl

theorem suspendWalk_records {s : State} (h : s.executes (.suspendWalk none)) {u : State} {r : Result}
    (he : suspendEffect s = (u, r)) (hdir : u.dir.batch = s.dir.batch) :
    exec (.suspendWalk none) s = .next (u.addResult r).syncStatusTimer ∧ Gained s (u.addResult r).syncStatusTimer r ∧
      Recorded u (u.addResult r).syncStatusTimer := by
  refine ⟨?_, State.gained_record h hdir r, u.recorded_addResult r⟩
  have hexec := State.directive_of_executes suspendEffect h
  rw [he] at hexec
  exact hexec

theorem resumeWalk_records {s : State} (h : s.executes (.resumeWalk none)) {u : State} {r : Result}
    (he : resumeEffect s = (u, r)) (hdir : u.dir.batch = s.dir.batch) :
    exec (.resumeWalk none) s = .next (u.addResult r).syncStatusTimer ∧ Gained s (u.addResult r).syncStatusTimer r ∧
      Recorded u (u.addResult r).syncStatusTimer := by
  refine ⟨?_, State.gained_record h hdir r, u.recorded_addResult r⟩
  have hexec := State.directive_of_executes resumeEffect h
  rw [he] at hexec
  exact hexec

/-- What SUSPEND_WALK leaves, whatever it does to the walk. -/
structure WalkAlone (s t : State) : Prop where
  ports : t.ports = s.ports
  up : t.up = s.up
  map : t.map = s.map
  pool : t.pool = s.pool
  mend : t.mend = s.mend
  cfg : t.cfg = s.cfg
  ldr : t.ldr = s.ldr
  saved : t.walk.saved = s.walk.saved
  incoming : t.walk.incoming = s.walk.incoming

theorem WalkAlone.refl (s : State) : WalkAlone s s := ⟨rfl, rfl, rfl, rfl, rfl, rfl, rfl, rfl, rfl⟩

theorem WalkAlone.recorded {s u t : State} (h : WalkAlone s u) (k : Recorded u t) : WalkAlone s t := by
  obtain ⟨-, hports, hup, -⟩ := k.ports
  obtain ⟨hmap, hpool, -, hwalk, hmend⟩ := k.shelf
  exact ⟨hports.trans h.ports, hup.trans h.up, hmap.trans h.map, hpool.trans h.pool, hmend.trans h.mend, k.cfg.trans h.cfg,
    k.ldr.trans h.ldr, (congrArg WalkEngine.saved hwalk).trans h.saved, (congrArg WalkEngine.incoming hwalk).trans h.incoming⟩

theorem Recorded.walk {u t : State} (k : Recorded u t) : t.walk = u.walk := by
  obtain ⟨-, -, -, hwalk, -⟩ := k.shelf
  exact hwalk

/-! ### A walk that resumes (R112, R114) -/

/-- The engine's run after RESUME_WALK, as SUSPENDED walk `w` begins to run. -/
def State.resumed (s : State) (w : Walk) : State := s.setWalk (some { w with run := .running })

theorem resumeEffect_of_suspended {s u : State} {w : Walk} (hw : s.walk.cur = some w) (hrun : w.run = .suspended)
    (hu : (s.resumed w).walkRun = u) : resumeEffect s = (u, .done) := by
  simp only [resumeEffect, hw, hrun, ← hu, State.resumed]

theorem State.askLine_of_found {s : State} {w : Walk} {l : Fin 64}
    (h : s.findLine ((s.extent w.extent).digestBlock w.frame) = some l) :
    s.askLine w = (s.pin l).setWalk (some { w with line := some l, stage := .ready }) := by
  simp only [State.askLine, State.requestLine_of_found h]

theorem State.askLine_of_victim {s : State} {w : Walk} {l : Fin 64} (hk : w.kind ≠ .prepare)
    (h : s.findLine ((s.extent w.extent).digestBlock w.frame) = none) (hq : s.store.queue = []) (hv : s.victim? = some l) :
    s.askLine w = (s.takeForFill l ((s.extent w.extent).digestBlock w.frame) w.extent).setWalk
      (some { w with line := some l, stage := .ready }) := by
  simp only [State.askLine, decide_eq_false hk, State.requestLine_of_victim h hq hv]

section

variable {s : State} {w : Walk} (hrun : w.run = .suspended) (hstage : w.stage = .ready) (hline : w.line = none)
include hstage hline

/-- Its line holds the entry: it begins to read the copy at its cursor. -/
theorem State.resumed_reads {l : Fin 64} (hvisits : w.visits s) (hhold : Holding s w.extent w.frame l)
    (hcopy : (s.entryIn l w.frame).copyState w.copy = .sealed ∨ (s.entryIn l w.frame).copyState w.copy = .suspect) :
    (s.resumed w).walkRun =
      (((s.resumed w).pin l).setWalk (some { w with run := .running, line := some l, stage := .ready })).startRead
        { w with run := .running, line := some l, stage := .ready } := by
  obtain ⟨hdepth, hunit⟩ := hvisits
  obtain ⟨hfind, hholds, hrefill⟩ := hhold
  let w1 : Walk := { w with run := .running }
  let w2 : Walk := { w with run := .running, line := some l, stage := .ready }
  let x := ((s.resumed w).pin l).setWalk (some w2)
  have hasks : (s.resumed w).walkMove = some x := by
    have hunit1 : w1.atUnit (s.resumed w) := hunit
    have hask : (s.resumed w).askLine w1 = x := State.askLine_of_found (s := s.resumed w) (w := w1) hfind
    rw [State.walkMove_asks hunit1 rfl hstage rfl hline, hask]
  have hx : x.line l = { s.line l with pins := (s.line l).pins + 1 } := State.pin_line (s.resumed w) l
  have hlooks : x.walkMove = some (x.startRead w2) := by
    have hunit2 : w2.atUnit x := hunit
    have htag : (x.line l).tag = (x.extent w2.extent).digestBlock w2.frame := by
      rw [hx]
      exact (State.findLine_spec hfind).1
    rw [State.walkMove_looks hunit2 rfl rfl rfl rfl htag, if_pos (show w2.depth = .full from hdepth)]
    have hentry : x.entryIn l w2.frame = s.entryIn l w.frame := (congrArg (fun y : Line => y.entry w.frame) hx).trans rfl
    refine congrArg some (State.visitCopy_reads ?_ ?_ (by rw [hentry]; exact hcopy))
    · rw [hx]; exact hholds
    · rw [hx]; exact hrefill
  obtain ⟨n, hread, -⟩ := x.startRead_eq w2
  refine State.walkRun_of_movesTo (State.movesTo_succ hasks (State.movesTo_succ hlooks (State.movesTo_zero _))) (by decide) ?_
  rw [hread]
  exact State.walkMove_of_stage (w := { w2 with stage := .reading n }) rfl (by simp)

/-- No line holds its block: it takes a line for it, and waits for the fill. -/
theorem State.resumed_waits {l : Fin 64} (hvisits : w.visits s)
    (hfind : s.findLine ((s.extent w.extent).digestBlock w.frame) = none) (hq : s.store.queue = []) (hv : s.victim? = some l) :
    (s.resumed w).walkRun = ((s.resumed w).takeForFill l ((s.extent w.extent).digestBlock w.frame) w.extent).setWalk
      (some { w with run := .running, line := some l, stage := .waitFill }) := by
  obtain ⟨hdepth, hunit⟩ := hvisits
  let w1 : Walk := { w with run := .running }
  let w2 : Walk := { w with run := .running, line := some l, stage := .ready }
  let x := ((s.resumed w).takeForFill l ((s.extent w.extent).digestBlock w.frame) w.extent).setWalk (some w2)
  have hunit1 : w1.atUnit (s.resumed w) := hunit
  have hasks : (s.resumed w).walkMove = some x := by
    have hask : (s.resumed w).askLine w1 = x :=
      State.askLine_of_victim (s := s.resumed w) (w := w1) hunit1.notPrepare hfind hq hv
    rw [State.walkMove_asks hunit1 rfl hstage rfl hline, hask]
  have hxline : x.line l = _ := (s.resumed w).takeForFill_line_self l ((s.extent w.extent).digestBlock w.frame) w.extent
  have hxmap : x.map = s.map := by simp [x, State.setWalk, State.resumed]
  have hunit2 : w2.atUnit x := (show w2.atUnit s from hunit).congr hxmap (by simp [x, State.setWalk, State.resumed])
  have htag : (x.line l).tag = (x.extent w2.extent).digestBlock w2.frame := by
    rw [hxline, State.extent_congr hxmap]
  have hfill : (x.line l).state = .filling := by rw [hxline]
  obtain ⟨v, hwaits, hne, hfull, -⟩ := State.walkMove_waits hunit2 rfl rfl rfl rfl htag hfill
  have hhalt : (x.setWalk (some v)).walkMove = none := State.walkMove_of_stage (w := v) rfl hne
  have hmoves := State.movesTo_succ hasks (State.movesTo_succ hwaits (State.movesTo_zero _))
  rw [State.walkRun_of_movesTo hmoves (by decide) hhalt, hfull hdepth]
  rfl

end

end Sys2Proof.Machine

/-!
PROOFS. The settlement of SUSPEND_WALK and RESUME_WALK (R110 to R112, R114, R118, R137).
-/

namespace Sys2Proof.Machine

/-! ### SUSPEND_WALK (R110, R112) -/

/-- A record that leaves the walks where they are. -/
theorem Recorded.kept {s t : State} (k : Recorded s t) : WalkAlone s t ∧ t.walk = s.walk := ⟨(WalkAlone.refl s).recorded k, k.walk⟩

theorem suspendEffect_stops {s : State} {w : Walk} (hw : s.walk.cur = some w) (hrun : w.run = .running) (hfl : w.inFlight = false) :
    suspendEffect s = ((s.clearWalk.unpin? w.line).setWalk (some ({ w with run := .suspending }.rested .suspended)), .done) := by
  simp [suspendEffect, hw, hrun, hfl, State.stopWalk]

theorem State.clearWalk_alone (s : State) (o : Option (Fin 64)) (v : Option Walk) :
    WalkAlone s ((s.clearWalk.unpin? o).setWalk v) := by
  constructor <;> simp [State.setWalk, State.clearWalk]

theorem suspendWalk_by_run {s : State} (h : s.executes (.suspendWalk none)) :
    (s.walk.cur = none → ∃ t, exec (.suspendWalk none) s = .next t ∧ WalkAlone s t ∧ Gained s t .refusedState ∧
      t.walk = s.walk) ∧
    ∀ w, s.walk.cur = some w →
      (w.run = .running → ∃ t, exec (.suspendWalk none) s = .next t ∧ WalkAlone s t ∧ Gained s t .done ∧
        (w.inFlight = true → t.walk.cur = some { w with run := .suspending }) ∧
        (w.inFlight = false → ∃ v, t.walk.cur = some v ∧ v.run = .suspended ∧ v.extent = w.extent ∧ v.frame = w.frame ∧
          v.copy = w.copy ∧ v.line = none ∧ NoneQueued t Owner.isWalk)) ∧
      (w.run = .suspending ∨ w.run = .suspended → ∃ t, exec (.suspendWalk none) s = .next t ∧ WalkAlone s t ∧
        Gained s t .done ∧ t.walk = s.walk) ∧
      (w.run = .saving → ∃ t, exec (.suspendWalk none) s = .next t ∧ WalkAlone s t ∧ Gained s t .busy ∧ t.walk = s.walk) := by
  have hsame : ∀ {r : Result}, suspendEffect s = (s, r) → ∃ t, exec (.suspendWalk none) s = .next t ∧ WalkAlone s t ∧ Gained s t r ∧
      t.walk = s.walk := fun he => by
    obtain ⟨hexec, hgain, hrec⟩ := suspendWalk_records h he rfl
    exact ⟨_, hexec, hrec.kept.1, hgain, hrec.kept.2⟩
  refine ⟨fun hw => hsame (by simp [suspendEffect, hw]), fun w hw => ⟨fun hrun => ?_, fun hrun => ?_, fun hrun =>
    hsame (by simp [suspendEffect, hw, hrun])⟩⟩
  · cases hfl : w.inFlight with
    | true =>
      have he : suspendEffect s = (s.setWalk (some { w with run := .suspending }), .done) := by
        simp [suspendEffect, hw, hrun, hfl]
      obtain ⟨hexec, hgain, hrec⟩ := suspendWalk_records h he rfl
      have halone : WalkAlone s (s.setWalk (some { w with run := .suspending })) := ⟨rfl, rfl, rfl, rfl, rfl, rfl, rfl, rfl, rfl⟩
      refine ⟨_, hexec, halone.recorded hrec, hgain, fun _ => ?_, nofun⟩
      rw [hrec.walk]
      simp [State.setWalk, hfl]
    | false =>
      obtain ⟨hexec, hgain, hrec⟩ := suspendWalk_records h (suspendEffect_stops hw hrun hfl) (by simp [State.setWalk, State.clearWalk])
      have halone := s.clearWalk_alone w.line (some ({ w with run := .suspending }.rested .suspended))
      refine ⟨_, hexec, halone.recorded hrec, hgain, nofun, fun _ => ⟨_, congrArg WalkEngine.cur hrec.walk, rfl, rfl, rfl, rfl, rfl,
        State.recorded_noneQueued (fun r hr => ?_) .done rfl rfl⟩⟩
      have harb : ((s.clearWalk.unpin? w.line).setWalk (some ({ w with run := .suspending }.rested .suspended))).arb = s.clearWalk.arb := by
        simp [State.setWalk]
      exact s.clearWalk_noneQueued r (harb ▸ hr)
  · rcases hrun with hrun | hrun <;> exact hsame (by simp [suspendEffect, hw, hrun])

/-! ### RESUME_WALK of a walk that is not SUSPENDED (R112) -/

theorem resumeWalk_by_run {s : State} (h : s.executes (.resumeWalk none)) :
    (s.walk.cur = none → ∃ t, exec (.resumeWalk none) s = .next t ∧ Recorded s t ∧ Gained s t .refusedState) ∧
    ∀ w, s.walk.cur = some w →
      (w.run = .running → ∃ t, exec (.resumeWalk none) s = .next t ∧ Recorded s t ∧ Gained s t .done) ∧
      (w.run = .suspending → ∃ t, exec (.resumeWalk none) s = .next t ∧ Recorded (s.resumed w) t ∧ Gained s t .done) ∧
      (w.run = .saving → ∃ t, exec (.resumeWalk none) s = .next t ∧ Recorded s t ∧ Gained s t .busy) := by
  have hrecords : ∀ {u : State} {r : Result}, resumeEffect s = (u, r) → u.dir.batch = s.dir.batch →
      ∃ t, exec (.resumeWalk none) s = .next t ∧ Recorded u t ∧ Gained s t r := fun he hdir => by
    obtain ⟨hexec, hgain, hrec⟩ := resumeWalk_records h he hdir
    exact ⟨_, hexec, hrec, hgain⟩
  refine ⟨fun hw => hrecords (by simp [resumeEffect, hw]) rfl, fun w hw => ⟨fun hrun => ?_, fun hrun => ?_, fun hrun => ?_⟩⟩
  · exact hrecords (by simp [resumeEffect, hw, hrun]) rfl
  · exact hrecords (u := s.resumed w) (by simp [resumeEffect, hw, hrun, State.resumed]) rfl
  · exact hrecords (by simp [resumeEffect, hw, hrun]) rfl

/-! ### RESUME_WALK of a SUSPENDED walk (R111, R114, R118, R137) -/

section

variable {s : State} {w : Walk} (h : s.executes (.resumeWalk none)) (hw : s.walk.cur = some w) (hrun : w.run = .suspended)
  (hstage : w.stage = .ready) (hline : w.line = none)
include h hw hrun

/-- The record's result follows the engine's run. -/
theorem resumeWalk_runs {u : State} (hu : (s.resumed w).walkRun = u) (hdir : u.dir.batch = s.dir.batch) :
    exec (.resumeWalk none) s = .next (u.addResult .done).syncStatusTimer ∧ Gained s (u.addResult .done).syncStatusTimer .done ∧
      Recorded u (u.addResult .done).syncStatusTimer :=
  resumeWalk_records h (resumeEffect_of_suspended hw hrun hu) hdir

include hstage hline

theorem resumeWalk_reads {l : Fin 64} (hvisits : w.visits s) (hhold : Holding s w.extent w.frame l)
    (hpace : s.inHand Owner.isWalk < s.cfg.paceDepth)
    (hcopy : (s.entryIn l w.frame).copyState w.copy = .sealed ∨ (s.entryIn l w.frame).copyState w.copy = .suspect) :
    ∃ t v, exec (.resumeWalk none) s = .next t ∧ Gained s t .done ∧ BeginsRead s t w ∧ t.walk.cur = some v ∧
      v.run = .running ∧ v.line = some l ∧ t.line l = { s.line l with pins := (s.line l).pins + 1 } ∧
      OtherLines s t l ∧ t.walk.saved = s.walk.saved ∧ SamePorts s t ∧ t.map = s.map ∧ t.pool = s.pool := by
  let w2 : Walk := { w with run := .running, line := some l, stage := .ready }
  let x := ((s.resumed w).pin l).setWalk (some w2)
  obtain ⟨n, hread, hn⟩ := x.startRead_eq w2
  have hrun2 := (State.resumed_reads hstage hline hvisits hhold hcopy).trans hread
  generalize hu : ({ x with
      arb := x.arb ++ (List.range' 0 n).map fun j => x.walkChunk w2.key j,
      walk := { x.walk with cur := some { w2 with stage := .reading n } } } : State) = u at hrun2
  have hudir : u.dir = s.dir := by rw [← hu]; rfl
  have hupin : ∀ k, u.line k = ((s.resumed w).pin l).line k := fun k => by rw [← hu]; rfl
  have huwalk : u.walk = { s.walk with cur := some { w2 with stage := .reading n } } := by rw [← hu]; rfl
  have huports : SamePorts s u := by rw [← hu]; exact ⟨rfl, rfl, rfl, rfl, rfl⟩
  have humap : u.map = s.map := by rw [← hu]; rfl
  have hupool : u.pool = s.pool := by rw [← hu]; rfl
  have hchunk : (⟨.walkChunk w.key 0, .read, (s.extent w.extent).blockAddr w.copy w.frame 0, (s.extent w.extent).chunkLen 0⟩ :
      InjRequest) ∈ u.arb := by
    obtain ⟨-, -, -, -, -, -, hspan, hdepth⟩ := hvisits
    have hpos : 0 < n := by
      have hchunks : 0 < (x.extent w2.extent).chunks := Extent.chunks_pos (e := s.extent w.extent) hspan
      have hhand : x.inHand Owner.isWalk = s.inHand Owner.isWalk := rfl
      rw [hn, hhand, show x.cfg = s.cfg from rfl]
      omega
    rw [← hu]
    exact List.mem_append_right _ (List.mem_map.mpr ⟨0, by simp [List.mem_range'_1, hpos], rfl⟩)
  obtain ⟨hexec, hgain, hrec⟩ := resumeWalk_runs h hw hrun hrun2 (congrArg DirectiveUnit.batch hudir)
  obtain ⟨htmap, htpool, htstore, htwalk, -⟩ := hrec.shelf
  have hlines : ∀ k, (State.syncStatusTimer (u.addResult .done)).line k = ((s.resumed w).pin l).line k := fun k =>
    (State.line_congr htstore k).trans (hupin k)
  have hcur := congrArg WalkEngine.cur (htwalk.trans huwalk)
  refine ⟨_, { w2 with stage := .reading n }, hexec, hgain, ⟨⟨n, _, hcur, rfl, rfl, rfl, rfl, rfl, rfl, rfl⟩, hrec.queue.mem hchunk⟩,
    hcur, rfl, rfl, (hlines l).trans (State.pin_line (s.resumed w) l), fun k hk => ?_, ?_, huports.trans hrec.ports,
    htmap.trans humap, htpool.trans hupool⟩
  · exact (hlines k).trans ((State.pin_onLine (s.resumed w) l).lines k hk)
  · exact (congrArg WalkEngine.saved (htwalk.trans huwalk)).trans rfl

theorem resumeWalk_waits {l : Fin 64} (hvisits : w.visits s)
    (hfind : s.findLine ((s.extent w.extent).digestBlock w.frame) = none) (hq : s.store.queue = []) (hv : s.victim? = some l)
    (hmore : ∀ b ∈ s.dir.batch, b.results.length + 1 < b.records) :
    ∃ t, exec (.resumeWalk none) s = .next t ∧ Gained s t .done ∧
      TakenForFill s t l ((s.extent w.extent).digestBlock w.frame) w.extent ∧
      t.walk = { s.walk with cur := some { w with run := .running, line := some l, stage := .waitFill } } ∧
      SamePorts s t ∧ t.map = s.map ∧ t.pool = s.pool := by
  have hrun2 := State.resumed_waits hstage hline hvisits hfind hq hv
  generalize hu : ((s.resumed w).takeForFill l ((s.extent w.extent).digestBlock w.frame) w.extent).setWalk
      (some { w with run := .running, line := some l, stage := .waitFill }) = u at hrun2
  have hudir : u.dir = s.dir := by rw [← hu]; simp [State.setWalk, State.resumed]
  obtain ⟨hexec, hgain, hrec⟩ := resumeWalk_runs h hw hrun hrun2 (congrArg DirectiveUnit.batch hudir)
  obtain ⟨htmap, htpool, htstore, htwalk, -⟩ := hrec.shelf
  obtain ⟨b, hbatch⟩ := State.executes_batch h
  have harb : (State.syncStatusTimer (u.addResult .done)).arb = u.arb := by
    rw [State.addResult_of_more (s := u) (b := b) (by rw [hudir]; exact hbatch) (hmore b hbatch)]
    simp [State.setBatch]
  refine ⟨_, hexec, hgain, ?_, ?_, ?_, ?_, ?_⟩
  · have hstored : TakenForFill (s.resumed w) u l ((s.extent w.extent).digestBlock w.frame) w.extent := by
      rw [← hu]
      exact .of_take (fun _ => rfl) rfl
    obtain ⟨htag, hext, hstate, hpins, hwait, hothers, hqueued⟩ := hstored
    have hl : ∀ k, (State.syncStatusTimer (u.addResult .done)).line k = u.line k := State.line_congr htstore
    refine ⟨?_, ?_, ?_, ?_, ?_, fun k hk => (hl k).trans (hothers k hk), harb.trans hqueued⟩ <;> rw [hl l]
    · exact htag
    · exact hext
    · exact hstate
    · exact hpins
    · exact hwait
  · rw [htwalk, ← hu]
    simp [State.setWalk, State.resumed]
  · exact SamePorts.trans (by rw [← hu]; simp [SamePorts, State.setWalk, State.resumed]) hrec.ports
  · rw [htmap, ← hu]
    simp [State.setWalk, State.resumed]
  · rw [htpool, ← hu]
    simp [State.setWalk, State.resumed]

/-! ### A walk that ends as it resumes -/

variable (hsaved : s.walk.saved = []) (hrestart : s.map.restart = []) (hdue : s.walk.passDue = false)
include hsaved hrestart hdue

/-- A CHECK walk past its last unit ends (R111). -/
theorem resumeWalk_ends (hk : w.kind = .check) (hpast : w.past = true) :
    ∃ t, exec (.resumeWalk none) s = .next t ∧ Gained s t .done ∧ t.walk.cur = none ∧ (t.flag .walkEnd).isSet = true ∧
      SamePorts s t ∧ t.map = s.map ∧ t.pool = s.pool ∧
      Logged s t (s.findingNow .checkDone (some w.extent.val) (some w.first) (some (if w.incomplete = true then 1 else 0))
        w.checked w.mismatches w.skipped) := by
  let w1 : Walk := { w with run := .running }
  have hp : s.ldr.part = .running := s.running_iff.mp h.1
  have hover := State.endWalk_over (s := s.resumed w) (w := w1) (by simp [w1, hk]) hline hsaved hrestart hdue hp
    (show (s.resumed w).logWalkEnd w1 = _ from by simp only [State.logWalkEnd, w1, hk]; rfl)
  have hmove : (s.resumed w).walkMove = some ((s.resumed w).endWalk w1) := by
    rw [State.walkMove_of_running (w := w1) rfl hstage rfl (Walk.spent_of_past hpast)]
    exact congrArg some (if_pos hpast)
  have hruns : (s.resumed w).walkRun = (s.resumed w).endWalk w1 := State.walkRun_of_movesTo
    (State.movesTo_succ hmove (State.movesTo_zero _)) (by decide) (State.walkMove_of_none hover.cur)
  obtain ⟨hexec, hgain, hrec⟩ := resumeWalk_runs h hw hrun hruns (congrArg DirectiveUnit.batch hover.dir)
  obtain ⟨htmap, htpool, -, htwalk, -⟩ := hrec.shelf
  refine ⟨_, hexec, hgain, (congrArg WalkEngine.cur htwalk).trans hover.cur, ?_, hover.ports.trans hrec.ports,
    htmap.trans hover.map, htpool.trans hover.pool, hover.logged.sameLog hrec.log⟩
  obtain ⟨-, -, -, -, hflags⟩ := hrec.log
  rw [State.flag_congr hflags]
  exact hover.flag

/-! ### A walk whose extent is not, or was not throughout, in its state (R118, R137) -/

/-- The walk as it skips the rest of its range: past its work, a CHECK walk incomplete (R118). -/
def Walk.gaveUp (w : Walk) : Walk :=
  { w with run := .running, line := none, stage := .ready, inFlight := false, plan := none, past := true,
           incomplete := w.incomplete || decide (w.kind = .check) }

omit h hw hrun hsaved hrestart hdue in
theorem State.resumed_skips (hchanged : w.changed = true ∨ (s.extent w.extent).state ≠ .sealed) (hpast : w.past = false)
    (hlast : w.frame ≤ w.last) (hkind : w.kind = .check ∨ (w.kind = .seal ∧ w.source.isSome = true)) :
    (s.resumed w).walkMove = some ((s.resumed w).clearWalk.setWalk (some w.gaveUp)) := by
  let w1 : Walk := { w with run := .running }
  have hrequires : w1.requires = .sealed := by
    rcases hkind with hk | ⟨hk, hsource⟩
    · simp [Walk.requires, w1, hk]
    · obtain ⟨c, hc⟩ := Option.isSome_iff_exists.mp hsource
      simp [Walk.requires, w1, hk, hc]
  have hfound : (s.resumed w).walkChanged w1 = true := by
    have hext : (s.resumed w).extent w1.extent = s.extent w.extent := rfl
    simp only [State.walkChanged, hrequires, hext, Bool.or_eq_true, decide_eq_true_eq]
    exact hchanged
  have hskip : (s.resumed w).visit w1 = (s.resumed w).skipRest w1 := by
    rcases hkind with hk | ⟨hk, hsource⟩
    · have hk1 : w1.kind = .check := hk
      simp [State.visit, hk1, State.visitFull, State.visitAudit, hfound]
    · have hk1 : w1.kind = .seal := hk
      obtain ⟨c, hc⟩ := Option.isSome_iff_exists.mp hsource
      have hc1 : w1.source = some c := hc
      simp [State.visit, hk1, State.visitSeal, hc1, hfound]
  have hmove : (s.resumed w).walkMove = some ((s.resumed w).visit w1) := by
    rw [State.walkMove_of_running (w := w1) rfl hstage rfl (Walk.spent_of_within hlast)]
    exact congrArg some (if_neg (by simp [w1, hpast]))
  rw [hmove, hskip]
  rcases hkind with hk | ⟨hk, -⟩
  · simp [State.skipRest, State.unpin?, Walk.gaveUp, w1, hk, hline]
  · simp [State.skipRest, State.unpin?, Walk.gaveUp, w1, hk, hline]

theorem resumeWalk_gives_up (hchanged : w.changed = true ∨ (s.extent w.extent).state ≠ .sealed) (hpast : w.past = false)
    (hlast : w.frame ≤ w.last) (hkind : w.kind = .check ∨ (w.kind = .seal ∧ w.source.isSome = true)) :
    ∃ t, exec (.resumeWalk none) s = .next t ∧ Gained s t .done ∧ t.walk.cur = none ∧
      (t.flag .walkEnd).isSet = true ∧ NoneQueued t Owner.isWalk ∧ t.ports = s.ports ∧ t.up = s.up ∧ t.map = s.map ∧
      t.pool = s.pool ∧ (∀ l, (t.line l).entries = (s.line l).entries) ∧
      (w.kind = .check → Logged s t (s.findingNow .checkDone (some w.extent.val) (some w.first) (some 1) w.checked
        w.mismatches w.skipped)) ∧
      (∀ c : CopyId, w.kind = .seal → w.source = some c → Logged s t (s.findingNow .sealDone (some w.extent.val)
        (some w.first) (some c.num) w.checked w.mismatches w.skipped)) := by
  have hmove := State.resumed_skips hstage hline hchanged hpast hlast hkind
  let c := (s.resumed w).clearWalk.setWalk (some w.gaveUp)
  have hp : s.ldr.part = .running := s.running_iff.mp h.1
  have hcldr : c.ldr = s.ldr := by simp [c, State.setWalk, State.clearWalk, State.resumed]
  have hcrep : c.rep = s.rep := by simp [c, State.setWalk, State.clearWalk, State.resumed]
  have hccfg : c.cfg = s.cfg := by simp [c, State.setWalk, State.clearWalk, State.resumed]
  have hcmap : c.map = s.map := by simp [c, State.setWalk, State.clearWalk, State.resumed]
  have hcpool : c.pool = s.pool := by simp [c, State.setWalk, State.clearWalk, State.resumed]
  have hcwalk : c.walk = { s.walk with cur := some w.gaveUp } := by simp [c, State.setWalk, State.clearWalk, State.resumed]
  have hcdir : c.dir = s.dir := by simp [c, State.setWalk, State.clearWalk, State.resumed]
  have hcports : c.ports = s.ports ∧ c.up = s.up := by simp [c, State.setWalk, State.clearWalk, State.resumed]
  have hends : c.walkMove = some (c.endWalk w.gaveUp) := by
    rw [State.walkMove_of_running (w := w.gaveUp) rfl rfl rfl (Walk.spent_of_past rfl)]
    exact congrArg some (if_pos rfl)
  have hres : ∀ {k : FindingKind} {n : Nat}, c.logWalkEnd w.gaveUp = c.log k (some w.extent.val) (some w.first) (some n) w.checked
      w.mismatches w.skipped → ∃ t, exec (.resumeWalk none) s = .next t ∧ Gained s t .done ∧ t.walk.cur = none ∧
        (t.flag .walkEnd).isSet = true ∧ NoneQueued t Owner.isWalk ∧ t.ports = s.ports ∧ t.up = s.up ∧ t.map = s.map ∧
        t.pool = s.pool ∧ (∀ l, (t.line l).entries = (s.line l).entries) ∧
        Logged s t (s.findingNow k (some w.extent.val) (some w.first) (some n) w.checked w.mismatches w.skipped) := by
    intro k n hlog
    have hnotPass : w.gaveUp.kind ≠ .pass := by
      rcases hkind with hk | ⟨hk, -⟩ <;> simp [Walk.gaveUp, hk]
    have hover := State.endWalk_over (s := c) hnotPass rfl (by rw [hcwalk]; exact hsaved) (by rw [hcmap]; exact hrestart)
      (by rw [hcwalk]; exact hdue) (by rw [hcldr]; exact hp) hlog
    have hruns : (s.resumed w).walkRun = c.endWalk w.gaveUp := State.walkRun_of_movesTo
      (State.movesTo_succ hmove (State.movesTo_succ hends (State.movesTo_zero _))) (by decide) (State.walkMove_of_none hover.cur)
    obtain ⟨hexec, hgain, hrec⟩ := resumeWalk_runs h hw hrun hruns (congrArg DirectiveUnit.batch (hover.dir.trans hcdir))
    obtain ⟨htmap, htpool, htstore, htwalk, -⟩ := hrec.shelf
    obtain ⟨-, htports, htup, -⟩ := hrec.ports
    obtain ⟨-, hoports, houp, -⟩ := hover.ports
    have hfinding : c.findingNow = s.findingNow := by
      funext
      simp only [State.findingNow, hccfg, hcrep]
    refine ⟨_, hexec, hgain, (congrArg WalkEngine.cur htwalk).trans hover.cur, ?_,
      State.recorded_noneQueued (fun r hr => ?_) .done rfl rfl, htports.trans (hoports.trans hcports.1), htup.trans (houp.trans hcports.2),
      htmap.trans (hover.map.trans hcmap), htpool.trans (hover.pool.trans hcpool), fun l => ?_, ?_⟩
    · obtain ⟨-, -, -, -, hflags⟩ := hrec.log
      rw [State.flag_congr hflags]
      exact hover.flag
    · rcases hover.queued r hr with hmem | hno
      · exact (s.resumed w).clearWalk_noneQueued r hmem
      · exact hno
    · rw [State.line_congr (htstore.trans hover.store)]
      rfl
    · rw [← hfinding]
      exact (hover.logged.of_rep hcrep).sameLog hrec.log
  rcases hkind with hk | ⟨hk, hsource⟩
  · obtain ⟨t, hexec, hgain, hcur, hflag, hnone, hports, hup, hmap, hpool, hlines, hlogged⟩ := hres (k := .checkDone) (n := 1) (by
      have hkw : w.gaveUp.kind = .check := hk
      simp only [State.logWalkEnd, hkw]
      simp [Walk.gaveUp, hk, bit])
    exact ⟨t, hexec, hgain, hcur, hflag, hnone, hports, hup, hmap, hpool, hlines, fun _ => hlogged, fun _ hks => by
      rw [hk] at hks
      cases hks⟩
  · obtain ⟨d, hd⟩ := Option.isSome_iff_exists.mp hsource
    obtain ⟨t, hexec, hgain, hcur, hflag, hnone, hports, hup, hmap, hpool, hlines, hlogged⟩ := hres (k := .sealDone) (n := d.num) (by
      have hkw : w.gaveUp.kind = .seal := hk
      have hdw : w.gaveUp.source = some d := hd
      simp only [State.logWalkEnd, hkw, hdw]
      rfl)
    refine ⟨t, hexec, hgain, hcur, hflag, hnone, hports, hup, hmap, hpool, hlines, fun hkc => ?_, fun d' _ hd' => ?_⟩
    · rw [hk] at hkc
      cases hkc
    · rw [hd] at hd'
      cases hd'
      exact hlogged

end

/-- Settles O48: the two directives by the run state of the current walk, and the resumed walk's next unit. -/
theorem suspendAndResume : Obligations.SuspendAndResume := by
  refine fun s => ⟨fun h => ?_, fun h hnot => ?_, fun w h hw hrun hstage hline => ⟨?_, ?_, ?_, ?_⟩⟩
  · obtain ⟨hnone, hsome⟩ := suspendWalk_by_run h
    cases hw : s.walk.cur with
    | none =>
      obtain ⟨t, hexec, a, hrest⟩ := hnone hw
      exact ⟨t, hexec, a.ports, a.up, a.map, a.pool, a.mend, a.cfg, a.ldr, a.saved, a.incoming, hrest⟩
    | some w =>
      obtain ⟨hrunning, hstopped, hsaving⟩ := hsome w hw
      cases hrun : w.run with
      | running =>
        obtain ⟨t, hexec, a, hrest⟩ := hrunning hrun
        refine ⟨t, hexec, a.ports, a.up, a.map, a.pool, a.mend, a.cfg, a.ldr, a.saved, a.incoming, ?_⟩
        simp only [hrun]
        exact hrest
      | suspending =>
        obtain ⟨t, hexec, a, hrest⟩ := hstopped (.inl hrun)
        exact ⟨t, hexec, a.ports, a.up, a.map, a.pool, a.mend, a.cfg, a.ldr, a.saved, a.incoming, by simpa only [hrun] using hrest⟩
      | suspended =>
        obtain ⟨t, hexec, a, hrest⟩ := hstopped (.inr hrun)
        exact ⟨t, hexec, a.ports, a.up, a.map, a.pool, a.mend, a.cfg, a.ldr, a.saved, a.incoming, by simpa only [hrun] using hrest⟩
      | saving =>
        obtain ⟨t, hexec, a, hrest⟩ := hsaving hrun
        exact ⟨t, hexec, a.ports, a.up, a.map, a.pool, a.mend, a.cfg, a.ldr, a.saved, a.incoming, by simpa only [hrun] using hrest⟩
  · obtain ⟨hnone, hsome⟩ := resumeWalk_by_run h
    have hshelf : ∀ {u t : State}, Recorded u t → SamePorts s u → u.map = s.map → u.pool = s.pool → u.store = s.store →
        u.mend = s.mend → u.cfg = s.cfg → u.ldr = s.ldr → SamePorts s t ∧ t.map = s.map ∧ t.pool = s.pool ∧ t.store = s.store ∧
          t.mend = s.mend ∧ t.cfg = s.cfg ∧ t.ldr = s.ldr := fun hrec hports hmap hpool hstore hmend hcfg hldr => by
      obtain ⟨hm, hp, hst, -, hme⟩ := hrec.shelf
      exact ⟨hports.trans hrec.ports, hm.trans hmap, hp.trans hpool, hst.trans hstore, hme.trans hmend, hrec.cfg.trans hcfg,
        hrec.ldr.trans hldr⟩
    have hports : SamePorts s s := ⟨rfl, rfl, rfl, rfl, rfl⟩
    cases hw : s.walk.cur with
    | none =>
      obtain ⟨t, hexec, hrec, hgain⟩ := hnone hw
      obtain ⟨h1, h2, h3, h4, h5, h6, h7⟩ := hshelf hrec hports rfl rfl rfl rfl rfl rfl
      exact ⟨t, hexec, h1, h2, h3, h4, h5, h6, h7, congrArg WalkEngine.saved hrec.walk, hgain, hrec.walk⟩
    | some w =>
      obtain ⟨hrunning, hsuspending, hsaving⟩ := hsome w hw
      cases hrun : w.run with
      | running =>
        obtain ⟨t, hexec, hrec, hgain⟩ := hrunning hrun
        obtain ⟨h1, h2, h3, h4, h5, h6, h7⟩ := hshelf hrec hports rfl rfl rfl rfl rfl rfl
        refine ⟨t, hexec, h1, h2, h3, h4, h5, h6, h7, congrArg WalkEngine.saved hrec.walk, ?_⟩
        simpa only [hrun] using ⟨hgain, hrec.walk⟩
      | suspending =>
        obtain ⟨t, hexec, hrec, hgain⟩ := hsuspending hrun
        obtain ⟨h1, h2, h3, h4, h5, h6, h7⟩ := hshelf hrec (u := s.resumed w) hports rfl rfl rfl rfl rfl rfl
        refine ⟨t, hexec, h1, h2, h3, h4, h5, h6, h7, (congrArg WalkEngine.saved hrec.walk).trans rfl, ?_⟩
        simpa only [hrun] using ⟨hgain, congrArg WalkEngine.cur hrec.walk⟩
      | suspended => exact absurd hrun (hnot w hw)
      | saving =>
        obtain ⟨t, hexec, hrec, hgain⟩ := hsaving hrun
        obtain ⟨h1, h2, h3, h4, h5, h6, h7⟩ := hshelf hrec hports rfl rfl rfl rfl rfl rfl
        refine ⟨t, hexec, h1, h2, h3, h4, h5, h6, h7, congrArg WalkEngine.saved hrec.walk, ?_⟩
        simpa only [hrun] using ⟨hgain, hrec.walk⟩
  · exact fun l hvisits hhold hpace hcopy => resumeWalk_reads h hw hrun hstage hline hvisits hhold hpace hcopy
  · exact fun v hvisits hfind hq hv hmore => resumeWalk_waits h hw hrun hstage hline hvisits hfind hq hv hmore
  · exact fun hk hpast hsaved hrestart hdue => resumeWalk_ends h hw hrun hstage hline hsaved hrestart hdue hk hpast
  · exact fun hchanged hpast hlast hsaved hrestart hdue hkind =>
      resumeWalk_gives_up h hw hrun hstage hline hsaved hrestart hdue hchanged hpast hlast hkind

end Sys2Proof.Machine

/-!
PROOFS. A free line goes to the oldest request of the line queue (R48, R49, R53, R114, R119, R142, R144).
-/

namespace Sys2Proof.Machine

/-! ### The grant -/

/-- The oldest request has left the line queue. -/
def State.unqueued (s : State) (rest : List LineRequest) : State := { s with store := { s.store with queue := rest } }

/-- The line `v` taken for the oldest request (R48). -/
def State.grantedLine (s : State) (v : Fin 64) (tag : Nat) (e : Fin 1024) (rest : List LineRequest) : State :=
  (s.unqueued rest).takeForFill v tag e

section

variable {s : State} {user : LineUser} {tag : Nat} {e : Fin 1024} {rest : List LineRequest} {v : Fin 64}
  (hq : s.store.queue = ⟨user, tag, e, false⟩ :: rest) (hv : s.victim? = some v)
include hq hv

theorem exec_lineQueueGrant_found {l : Fin 64} (hfind : s.findLine tag = some l) :
    exec (.lineQueueGrant none) s = .next (((s.unqueued rest).pin l).lineGranted user l).syncStatusTimer := by
  have hgrant : s.grantLine = some (((s.unqueued rest).pin l).lineGranted user l) := by
    have hfind' : ({ s with store := { s.store with queue := rest } } : State).findLine tag = some l := hfind
    unfold State.grantLine
    rw [hq, hv]
    simp only [hfind']
    rfl
  change (s.grantLine.getD s).done = _
  rw [hgrant]
  rfl

theorem exec_lineQueueGrant_taken (hfind : s.findLine tag = none) :
    exec (.lineQueueGrant none) s = .next ((s.grantedLine v tag e rest).lineGranted user v).syncStatusTimer := by
  have hgrant : s.grantLine = some ((s.grantedLine v tag e rest).lineGranted user v) := by
    have hfind' : ({ s with store := { s.store with queue := rest } } : State).findLine tag = none := hfind
    unfold State.grantLine
    rw [hq, hv]
    simp only [hfind', State.takeLine, Bool.false_eq_true, if_false]
    rfl
  change (s.grantLine.getD s).done = _
  rw [hgrant]
  rfl

end

theorem exec_lineQueueGrant_idle {s : State} (h : s.store.queue = [] ∨ s.victim? = none) :
    exec (.lineQueueGrant none) s = .next s.syncStatusTimer := by
  have hgrant : s.grantLine = none := by
    rcases h with h | h
    · simp [State.grantLine, h]
    · unfold State.grantLine
      rw [h]
      cases s.store.queue <;> rfl
  change (s.grantLine.getD s).done = _
  rw [hgrant]
  rfl

/-! ### What the requester does with its line -/

theorem State.grantedLine_line (s : State) (v : Fin 64) (tag : Nat) (e : Fin 1024) (rest : List LineRequest) :
    (s.grantedLine v tag e rest).line v = { Line.blank with tag := tag, extent := e, state := .filling, pins := 1 } :=
  (s.unqueued rest).takeForFill_line_self v tag e

/-- A state that differs from the one in which the line was taken in nothing that the line's taking concerns. -/
theorem TakenForFill.granted {s t : State} {v : Fin 64} {tag : Nat} {e : Fin 1024} {rest : List LineRequest}
    (hstore : t.store = (s.grantedLine v tag e rest).store) (harb : t.arb = (s.grantedLine v tag e rest).arb) :
    TakenForFill s t v tag e :=
  .of_take (s := s.unqueued rest) (fun k => State.line_congr hstore k) harb

/-- The head write notes its pin (R53). -/
theorem State.lineGranted_write {s : State} {r : Request} {i : Fin 256} (h : s.up.head = some ⟨r, false, .lines i⟩) (l : Fin 64) :
    s.lineGranted .write l = s.addPin i l := by
  simp [State.lineGranted, h]

/-- A walk at a unit of the block waits for the fill, or for the verification in flight (R114, R119). -/
theorem State.lineGranted_walk {s : State} {w : Walk} {l : Fin 64} (hw : s.walk.cur = some w) (hrun : w.run = .running)
    (hunit : w.atUnit s) (htag : (s.line l).tag = (s.extent w.extent).digestBlock w.frame) (hfill : (s.line l).state = .filling) :
    ∃ x, s.lineGranted .walk l = s.setWalk (some x) ∧
      (w.depth = .full → x = { w with line := some l, stage := .waitFill }) ∧
      (w.depth = .audit → x = { w with line := some l, stage := .auditing, inFlight := true }) := by
  let w1 : Walk := { w with line := some l, stage := .ready }
  have hunit1 : w1.atUnit (s.setWalk (some w1)) := hunit
  obtain ⟨x, hmove, hne, hfull, haudit⟩ := State.walkMove_waits hunit1 rfl rfl hrun rfl htag hfill
  refine ⟨x, ?_, hfull, haudit⟩
  have hruns : (s.setWalk (some w1)).walkRun = (s.setWalk (some w1)).setWalk (some x) :=
    State.walkRun_of_movesTo (State.movesTo_succ hmove (State.movesTo_zero _)) (by decide)
      (State.walkMove_of_stage (w := x) rfl hne)
  simp only [State.lineGranted, hw]
  exact hruns

/-- A mend waits for the fill (R144). -/
theorem State.lineGranted_mend {s : State} {m : Mend} {l : Fin 64} (hm : s.mend.active = some m)
    (hfill : (s.line l).state = .filling) : s.lineGranted .mend l = s.setMend (some { m with line := some l, stage := .lineFill }) := by
  simp only [State.lineGranted, hm, State.mendGotLine]
  exact if_pos hfill

/-- A MEND_FRAME record waits for the fill (R142). -/
theorem State.lineGranted_mendFrame {s : State} {q : FrameAsk} {l : Fin 64} (hm : s.dir.mendFrame = some q)
    (hfill : (s.line l).state = .filling) : s.lineGranted .mendFrame l = s.setAsk { q with line := some l, wait := .fill } := by
  simp only [State.lineGranted, hm, State.frameGotLine]
  exact if_pos hfill

/-- With the write's pin noted in its slot all else is as it was. -/
theorem State.headPinned_kept (s : State) (i : Fin 256) (l : Fin 64) :
    (s.addPin i l).syncStatusTimer.store = s.store ∧ (s.addPin i l).syncStatusTimer.ports = s.ports ∧
      (s.addPin i l).syncStatusTimer.up = s.up ∧ OtherSlots s (s.addPin i l).syncStatusTimer i ∧
      (s.addPin i l).syncStatusTimer.slot i = { s.slot i with pins := (s.slot i).pins ++ [l] } ∧
      (s.addPin i l).syncStatusTimer.map = s.map ∧ (s.addPin i l).syncStatusTimer.pool = s.pool ∧
      (s.addPin i l).syncStatusTimer.walk = s.walk ∧ (s.addPin i l).syncStatusTimer.mend = s.mend ∧
      (s.addPin i l).syncStatusTimer.dir = s.dir ∧ (s.addPin i l).syncStatusTimer.ldr = s.ldr ∧
      (s.addPin i l).syncStatusTimer.cfg = s.cfg ∧ (s.addPin i l).syncStatusTimer.arb = s.arb := by
  obtain ⟨x, hx⟩ := (s.addPin i l).syncStatusTimer_eq
  rw [hx]
  exact ⟨rfl, rfl, rfl, s.otherSlots_setSlot i _, State.slot_setSlot_self .., rfl, rfl, rfl, rfl, rfl, rfl, rfl, rfl⟩

/-! ### The settlement -/

/-- What the grant leaves for every requester. -/
structure LineGiven (s t : State) (v : Fin 64) (tag : Nat) (e : Fin 1024) (rest : List LineRequest) : Prop where
  taken : TakenForFill s t v tag e
  queue : t.store.queue = rest
  ports : SamePorts s t
  map : t.map = s.map
  pool : t.pool = s.pool
  unlogged : Unlogged s t

theorem LineGiven.of_granted {s t : State} {v : Fin 64} {tag : Nat} {e : Fin 1024} {rest : List LineRequest}
    (hstore : t.store = (s.grantedLine v tag e rest).store) (harb : t.arb = (s.grantedLine v tag e rest).arb)
    (hports : SamePorts (s.grantedLine v tag e rest) t) (hmap : t.map = (s.grantedLine v tag e rest).map)
    (hpool : t.pool = (s.grantedLine v tag e rest).pool) (hrep : t.rep = (s.grantedLine v tag e rest).rep) :
    LineGiven s t.syncStatusTimer v tag e rest where
  taken := .granted (by simpa using hstore) (by simpa using harb)
  queue := by
    rw [State.syncStatusTimer_store, hstore]
    simp [State.grantedLine, State.unqueued]
  ports := SamePorts.trans (by simp [SamePorts, State.grantedLine, State.unqueued]) (hports.trans (by simp [SamePorts]))
  map := by simpa [State.grantedLine, State.unqueued] using hmap
  pool := by simpa [State.grantedLine, State.unqueued] using hpool
  unlogged := (SameLog.of_rep (hrep.trans (by simp [State.grantedLine, State.unqueued]))).sync.unlogged

/-- Settles O39: the line that the grant takes, and what each requester does with it. -/
theorem lineQueueGranted : Obligations.LineQueueGranted := by
  refine fun s => ⟨fun tag e rest v q i hq hv hhead => ?_, fun user tag e rest v hq hv hfind => ?_, fun h => ?_⟩
  · cases hfind : s.findLine tag with
    | some l =>
      let g := (s.unqueued rest).pin l
      have hexec := exec_lineQueueGrant_found hq hv hfind
      rw [State.lineGranted_write (show g.up.head = _ from hhead)] at hexec
      obtain ⟨hstore, hports, hup, hothers, hslot, hmap, hpool, hwalk, hmend, hdir, hldr, hcfg, harb⟩ := g.headPinned_kept i l
      have hline := State.line_congr hstore
      exact ⟨_, hexec, congrArg Store.queue hstore, hports, hup, hothers, hmap, hpool, hwalk, hmend, hdir, hldr, hcfg,
        (hline l).trans (State.pin_line (s.unqueued rest) l),
        fun k hk => (hline k).trans ((State.pin_onLine (s.unqueued rest) l).lines k hk), harb, hslot⟩
    | none =>
      let g := s.grantedLine v tag e rest
      have hexec := exec_lineQueueGrant_taken hq hv hfind
      have hup : g.up.head = some ⟨q, false, .lines i⟩ := by simpa [g, State.grantedLine, State.unqueued] using hhead
      rw [State.lineGranted_write hup] at hexec
      obtain ⟨hstore, hports, hup, hothers, hslot, hmap, hpool, hwalk, hmend, hdir, hldr, hcfg, harb⟩ := g.headPinned_kept i v
      have hg : g.store.queue = rest ∧ g.ports = s.ports ∧ g.up = s.up ∧ g.slots = s.slots ∧ g.map = s.map ∧ g.pool = s.pool ∧
          g.walk = s.walk ∧ g.mend = s.mend ∧ g.dir = s.dir ∧ g.ldr = s.ldr ∧ g.cfg = s.cfg := by
        simp [g, State.grantedLine, State.unqueued]
      obtain ⟨gqueue, gports, gup, gslots, gmap, gpool, gwalk, gmend, gdir, gldr, gcfg⟩ := hg
      rw [State.slot_congr gslots] at hslot
      exact ⟨_, hexec, (congrArg Store.queue hstore).trans gqueue, hports.trans gports, hup.trans gup,
        fun j hj => (hothers j hj).trans (State.slot_congr gslots j), hmap.trans gmap, hpool.trans gpool, hwalk.trans gwalk,
        hmend.trans gmend, hdir.trans gdir, hldr.trans gldr, hcfg.trans gcfg, .granted hstore harb, hslot⟩
  · have hexec := exec_lineQueueGrant_taken hq hv hfind
    let g := s.grantedLine v tag e rest
    have hline : g.line v = { Line.blank with tag := tag, extent := e, state := .filling, pins := 1 } := s.grantedLine_line v tag e rest
    have hfill : (g.line v).state = .filling := by rw [hline]
    refine ⟨_, hexec, fun w huser hw hrun hunit hext htag => ?_, fun m huser hm => ?_, fun q huser hm => ?_⟩
    · have hgmap : g.map = s.map := by simp [g, State.grantedLine, State.unqueued]
      have hgcfg : g.cfg = s.cfg := by simp [g, State.grantedLine, State.unqueued]
      have hgwalk : g.walk = s.walk := by simp [g, State.grantedLine, State.unqueued]
      obtain ⟨x, hgranted, hfull, haudit⟩ := State.lineGranted_walk (s := g) (l := v) (by rw [hgwalk]; exact hw) hrun
        (hunit.congr hgmap hgcfg) (by rw [hline, State.extent_congr hgmap, hext]; exact htag.symm) hfill
      rw [huser, hgranted]
      have hgiven : LineGiven s (g.setWalk (some x)).syncStatusTimer v tag e rest :=
        .of_granted rfl rfl ⟨rfl, rfl, rfl, rfl, rfl⟩ rfl rfl rfl
      have hwalk : (g.setWalk (some x)).syncStatusTimer.walk = { s.walk with cur := some x } := by
        rw [State.syncStatusTimer_walk, ← hgwalk]
        rfl
      refine ⟨hgiven.taken, hgiven.queue, hgiven.ports, hgiven.map, hgiven.pool, ?_, ?_, hgiven.unlogged, fun hd => ?_, fun hd => ?_⟩
      · simp [State.setWalk, g, State.grantedLine, State.unqueued]
      · simp [State.setWalk, g, State.grantedLine, State.unqueued]
      · rw [hwalk, hfull hd]
      · rw [hwalk, haudit hd]
    · have hgmend : g.mend = s.mend := by simp [g, State.grantedLine, State.unqueued]
      rw [huser, State.lineGranted_mend (s := g) (m := m) (by rw [hgmend]; exact hm) hfill]
      have hgiven : LineGiven s (g.setMend (some { m with line := some v, stage := .lineFill })).syncStatusTimer v tag e rest :=
        .of_granted rfl rfl ⟨rfl, rfl, rfl, rfl, rfl⟩ rfl rfl rfl
      refine ⟨hgiven.taken, hgiven.queue, hgiven.ports, hgiven.map, hgiven.pool, ?_, ?_, hgiven.unlogged, ?_⟩
      · simp [State.setMend, g, State.grantedLine, State.unqueued]
      · simp [State.setMend, g, State.grantedLine, State.unqueued]
      · rw [State.syncStatusTimer_mend, ← hgmend]
        rfl
    · have hgdir : g.dir = s.dir := by simp [g, State.grantedLine, State.unqueued]
      rw [huser, State.lineGranted_mendFrame (s := g) (q := q) (by rw [hgdir]; exact hm) hfill]
      have hgiven : LineGiven s (g.setAsk { q with line := some v, wait := .fill }).syncStatusTimer v tag e rest :=
        .of_granted rfl rfl ⟨rfl, rfl, rfl, rfl, rfl⟩ rfl rfl rfl
      refine ⟨hgiven.taken, hgiven.queue, hgiven.ports, hgiven.map, hgiven.pool, ?_, ?_, hgiven.unlogged, ?_⟩
      · simp [State.setAsk, g, State.grantedLine, State.unqueued]
      · simp [State.setAsk, g, State.grantedLine, State.unqueued]
      · rw [State.syncStatusTimer_dir, ← hgdir]
        rfl
  · exact ⟨_, exec_lineQueueGrant_idle h, by simp [SamePorts], by simp, by simp [SameShelf]⟩

end Sys2Proof.Machine

/-!
PROOFS. A write that has its slot in RUNNING: it is sent, waits for its lines or the unit, or is refused (R18, R90, R126, R156).
-/

namespace Sys2Proof.Machine

/-! ### What depends on the lines alone -/

theorem State.findLine_of_store {s t : State} (h : t.store = s.store) (tag : Nat) : t.findLine tag = s.findLine tag := by
  have hl := State.line_congr h
  exact State.findLine_congr (fun k => by rw [hl]) (fun k => by rw [hl]) tag

theorem State.victim?_of_store {s t : State} (h : t.store = s.store) : t.victim? = s.victim? := by
  have hl : t.line = s.line := funext (State.line_congr h)
  simp only [State.victim?, h, hl]

theorem State.pin_of_store {s t : State} (h : t.store = s.store) (l : Fin 64) : (t.pin l).store = (s.pin l).store := by
  simp only [State.pin, State.setLine, State.line, h]

theorem State.takeForFill_of_store {s t : State} (h : t.store = s.store) (l : Fin 64) (tag : Nat) (e : Fin 1024) :
    (t.takeForFill l tag e).store = (s.takeForFill l tag e).store := by
  simp only [State.takeForFill, State.enqueue, State.pin, State.setLine, State.leaveDirty, State.line, h]

theorem State.findLine_pin (s : State) (l : Fin 64) (tag : Nat) : (s.pin l).findLine tag = s.findLine tag := by
  refine State.findLine_congr (fun k => ?_) (fun k => ?_) tag
  all_goals
    by_cases hk : k = l
    · rw [hk, State.pin_line]
    · rw [(s.pin_onLine l).lines k hk]

/-- An eviction marks its victim, and queues its writeback (R49). -/
theorem State.queueEviction_line (s : State) (but : Option (Fin 64)) (k : Fin 64) :
    ∃ b, (s.queueEviction but).line k = { s.line k with victim := b } := by
  unfold State.queueEviction
  split
  · exact ⟨(s.line k).victim, rfl⟩
  next l _ =>
    rw [State.line_congr (State.queueWriteback_store _ l), State.line_setLine]
    split
    next h => exact ⟨true, by rw [h]⟩
    · exact ⟨(s.line k).victim, rfl⟩

theorem State.findLine_queueEviction (s : State) (but : Option (Fin 64)) (tag : Nat) :
    (s.queueEviction but).findLine tag = s.findLine tag := by
  refine State.findLine_congr (fun k => ?_) (fun k => ?_) tag <;> obtain ⟨b, hb⟩ := s.queueEviction_line but k <;> rw [hb]

/-! ### The write asks for a line (R126) -/

/-- A request has joined the line queue, and an eviction was asked for (R49). -/
def State.queuedLine (s : State) (b : Nat × Fin 1024) : State :=
  State.queueEviction { s with store := { s.store with queue := s.store.queue ++ [⟨.write, b.1, b.2, false⟩] } } none

theorem State.queuedLine_line (s : State) (b : Nat × Fin 1024) (k : Fin 64) :
    ∃ x, (s.queuedLine b).line k = { s.line k with victim := x } := State.queueEviction_line _ none k

theorem State.findLine_queuedLine (s : State) (b : Nat × Fin 1024) (tag : Nat) :
    (s.queuedLine b).findLine tag = s.findLine tag := State.findLine_queueEviction _ none tag

/-- The head write in slot `i` has gained pins and requests; all else about its link is as it was. -/
structure LineAsked (i : Fin 256) (s t : State) (pins : List (Fin 64)) (asks : List LineRequest) : Prop where
  up : t.up = s.up
  slot : t.slot i = { s.slot i with pins := (s.slot i).pins ++ pins }
  others : OtherSlots s t i
  ports : t.ports = s.ports
  queue : t.store.queue = s.store.queue ++ asks

theorem LineAsked.trans {i : Fin 256} {s t u : State} {p q : List (Fin 64)} {a b : List LineRequest} (h : LineAsked i s t p a)
    (k : LineAsked i t u q b) : LineAsked i s u (p ++ q) (a ++ b) where
  up := k.up.trans h.up
  slot := by rw [k.slot, h.slot, List.append_assoc]
  others j hj := (k.others j hj).trans (h.others j hj)
  ports := k.ports.trans h.ports
  queue := by rw [k.queue, h.queue, List.append_assoc]

section

variable {s : State} (i : Fin 256) {b : Nat × Fin 1024}

theorem State.askWriteLine_found {l : Fin 64} (h : s.findLine b.1 = some l) :
    s.askWriteLine i b = (s.pin l).addPin i l ∧ LineAsked i s ((s.pin l).addPin i l) [l] [] := by
  refine ⟨by simp only [State.askWriteLine, State.requestLine_of_found h], rfl, State.slot_setSlot_self ..,
    (s.pin l).otherSlots_setSlot i _, rfl, (List.append_nil _).symm⟩

theorem State.askWriteLine_taken {v : Fin 64} (h : s.findLine b.1 = none) (hq : s.store.queue = []) (hv : s.victim? = some v) :
    s.askWriteLine i b = (s.takeForFill v b.1 b.2).addPin i v ∧ LineAsked i s ((s.takeForFill v b.1 b.2).addPin i v) [v] [] := by
  have hslots : (s.takeForFill v b.1 b.2).slots = s.slots := by simp
  refine ⟨by simp only [State.askWriteLine, State.requestLine_of_victim h hq hv], by simp [State.addPin], ?_, fun j hj => ?_,
    by simp [State.addPin], by simp [State.addPin]⟩
  · rw [← State.slot_congr hslots]
    exact State.slot_setSlot_self ..
  · rw [← State.slot_congr hslots]
    exact (s.takeForFill v b.1 b.2).otherSlots_setSlot i _ j hj

theorem State.askWriteLine_queued (h : s.findLine b.1 = none) (hno : s.store.queue ≠ [] ∨ s.victim? = none) :
    s.askWriteLine i b = s.queuedLine b ∧ LineAsked i s (s.queuedLine b) [] [⟨.write, b.1, b.2, false⟩] := by
  have hrequest : s.requestLine .write b.1 b.2 false = (s.queuedLine b, none) := by
    unfold State.requestLine
    rw [h]
    cases hq : s.store.queue with
    | nil =>
      rw [hno.resolve_left fun c => c hq]
      simp only [State.queuedLine, hq]
    | cons q qs => simp only [State.queuedLine, hq]
  have hslots : (s.queuedLine b).slots = s.slots := by simp [State.queuedLine]
  refine ⟨by simp only [State.askWriteLine, hrequest], by simp [State.queuedLine], ?_,
    fun j _ => State.slot_congr hslots j, by simp [State.queuedLine], by simp [State.queuedLine]⟩
  rw [State.slot_congr hslots, List.append_nil]

end

/-! ### The head request's answer (R84, R126) -/

/-- The head request in slot `i` is answered: its slot is free, and its return is the next upstream. -/
structure HeadAnswered (i : Fin 256) (status : UpStatus) (s t : State) : Prop where
  up : t.up = { s.up with head := none }
  free : t.slot i = Slot.freeSlot
  others : OtherSlots s t i
  ports : Returned s t (s.slot i).requester (s.slot i).tag status []
  arb : t.arb = s.arb
  rep : t.rep = s.rep

theorem State.answerHead_lines {s : State} {r : Request} {exact : Bool} {i : Fin 256} (h : s.up.head = some ⟨r, exact, .lines i⟩)
    (status : UpStatus) : HeadAnswered i status s (s.answerHead status) := by
  let u : State := ({ s with up := { s.up with head := none } } : State).dropRequests .write
  have hanswer : s.answerHead status = u.endSlot i status [] := by simp only [State.answerHead, h, u]
  rw [hanswer]
  refine ⟨by simp [u], ?_, u.otherSlots_endSlot i status [], u.endSlot_upstream i status [], by simp [u], by simp [u]⟩
  rw [State.slot_endSlot, if_pos rfl]

/-! ### The write in its slot -/

/-- The write has taken slot `i` and waits there for its lines (R90, R126). -/
def State.inSlot (s : State) (i : Fin 256) (r : Request) : State :=
  (s.setSlot i (Slot.assigned r)).setHead (some ⟨r, false, .lines i⟩)

section

variable (s : State) (i : Fin 256) (r : Request)

theorem State.inSlot_slot : (s.inSlot i r).slot i = Slot.assigned r := State.slot_setSlot_self s i _

theorem State.inSlot_others : OtherSlots s (s.inSlot i r) i := s.otherSlots_setSlot i _

end

/-- What the write's lines leave once they are asked for, seen from the state before it took its slot. -/
structure WriteLined (s t : State) (r : Request) (i : Fin 256) (pins : List (Fin 64)) (asks : List LineRequest) : Prop where
  up : t.up = { s.up with head := some ⟨r, false, .lines i⟩ }
  slot : t.slot i = { Slot.assigned r with pins := pins }
  others : OtherSlots s t i
  ports : t.ports = s.ports
  queue : t.store.queue = s.store.queue ++ asks

theorem LineAsked.lined {s t : State} {r : Request} {i : Fin 256} {pins : List (Fin 64)} {asks : List LineRequest}
    (h : LineAsked i (s.inSlot i r) t pins asks) : WriteLined s t.syncStatusTimer r i pins asks where
  up := by
    rw [State.syncStatusTimer_up, h.up]
    rfl
  slot := by
    rw [State.slot_congr t.syncStatusTimer_slots, h.slot, State.inSlot_slot]
    rfl
  others := OtherSlots.sync fun j hj => (h.others j hj).trans (s.inSlot_others i r j hj)
  ports := by
    rw [State.syncStatusTimer_ports, h.ports]
    rfl
  queue := by
    rw [State.syncStatusTimer_store, h.queue]
    rfl

theorem HeadAnswered.answered {s t : State} {r : Request} {i : Fin 256} {status : UpStatus} {u : State}
    (h : HeadAnswered i status u t) (hup : u.up = (s.inSlot i r).up) (hslots : u.slots = (s.inSlot i r).slots)
    (hports : u.ports = s.ports) : t.syncStatusTimer.up = { s.up with head := none } ∧ t.syncStatusTimer.slot i = Slot.freeSlot ∧
      OtherSlots s t.syncStatusTimer i ∧ Returned s t.syncStatusTimer r.requester r.tag status [] := by
  have hslot := State.slot_congr hslots
  refine ⟨?_, ?_, OtherSlots.sync fun j hj => ?_, ?_⟩
  · rw [State.syncStatusTimer_up, h.up, hup]
    rfl
  · rw [State.slot_congr t.syncStatusTimer_slots, h.free]
  · exact (h.others j hj).trans ((hslot j).trans (s.inSlot_others i r j hj))
  · have hreturn := h.ports
    unfold Returned at hreturn ⊢
    rw [State.syncStatusTimer_ports, hreturn, hslot, State.inSlot_slot, hports]
    rfl

/-- The write's step in RUNNING: it is judged in its slot (R90, R126). -/
theorem exec_write_inRunning {s : State} {r : Request} {i : Fin 256} {exact : Bool} {c : Instr} (hp : s.ldr.part = .running)
    (hk : r.kind = .write) (hslot : s.passSlot? = some i)
    (hc : (c = .controllerRequest r none ∧ s.takesHeader = true ∧ s.formFails r = false ∧ s.mediaUp = true ∧
        s.hasRight r = true ∧ exact = s.isExact r ∧ s.judge exact r.addr r.count = .allowed) ∨
      (c = .passthroughSlotTaken none ∧ s.up.head = some ⟨r, exact, .slot true⟩)) :
    exec c s = .next ((s.setSlot i (Slot.assigned r)).writeHasSlot i r exact).syncStatusTimer := by
  have hrun : s.running = true := s.running_iff.mpr hp
  have htake : s.takeSlot r exact true = (s.setSlot i (Slot.assigned r)).writeHasSlot i r exact := by
    have hrun' : (s.setSlot i (Slot.assigned r)).running = true := hrun
    simp only [State.takeSlot, hslot, State.hasSlot, hk, hrun', if_true]
  rcases hc with ⟨rfl, htakes, hform, hm, hright, hexact, hjudge⟩ | ⟨rfl, hhead⟩
  · have hdecide : s.decideRequest r = .forward := by
      rw [hexact] at hjudge
      simp [State.decideRequest, hform, State.decideRest, hm, hp, hright, State.decideProtection, hk, hjudge]
    have hstep := exec_controllerRequest_taken r htakes
    rw [hdecide] at hstep
    have hcarry : s.carryOut r .forward = s.takeSlot r exact true := by simp only [State.carryOut, hrun, Bool.true_and, hexact]
    rw [hcarry, htake] at hstep
    exact hstep
  · have htaken : s.slotTaken = s.takeSlot r exact true := by simp only [State.slotTaken, hhead]
    exact congrArg State.done (htaken.trans htake)

section

variable {s : State} (i : Fin 256) {r : Request}

/-- The exact directive-block write waits for the unit (R156). -/
theorem State.writeHasSlot_exact :
    (s.setSlot i (Slot.assigned r)).writeHasSlot i r true = (s.setSlot i (Slot.assigned r)).setHead (some ⟨r, true, .unit i⟩) := rfl

/-- A write that may not be sent as it is judged (R18, R19). -/
theorem State.writeHasSlot_judged (hj : s.judge false r.addr r.count ≠ .allowed) :
    (s.setSlot i (Slot.assigned r)).writeHasSlot i r false = (s.inSlot i r).writeJudged i r := by
  have hj' : ((s.setSlot i (Slot.assigned r)).setHead (some ⟨r, false, .lines i⟩)).judge false r.addr r.count ≠ .allowed := hj
  simp only [State.writeHasSlot, Bool.false_eq_true, if_false]
  split
  all_goals first
    | next h _ => exact absurd h hj'
    | rfl

theorem State.writeHasSlot_none (hj : s.judge false r.addr r.count = .allowed) (hn : s.neededBlocks r.addr r.count = []) :
    (s.setSlot i (Slot.assigned r)).writeHasSlot i r false = (s.inSlot i r).writeJudged i r := by
  have hj' : ((s.setSlot i (Slot.assigned r)).setHead (some ⟨r, false, .lines i⟩)).judge false r.addr r.count = .allowed := hj
  have hn' : ((s.setSlot i (Slot.assigned r)).setHead (some ⟨r, false, .lines i⟩)).neededBlocks r.addr r.count = [] := hn
  simp only [State.writeHasSlot, Bool.false_eq_true, if_false, hj', hn']
  rfl

theorem State.writeHasSlot_one (hj : s.judge false r.addr r.count = .allowed) {b : Nat × Fin 1024}
    (hn : s.neededBlocks r.addr r.count = [b]) :
    (s.setSlot i (Slot.assigned r)).writeHasSlot i r false = (s.inSlot i r).askWriteLine i b := by
  have hj' : ((s.setSlot i (Slot.assigned r)).setHead (some ⟨r, false, .lines i⟩)).judge false r.addr r.count = .allowed := hj
  have hn' : ((s.setSlot i (Slot.assigned r)).setHead (some ⟨r, false, .lines i⟩)).neededBlocks r.addr r.count = [b] := hn
  simp only [State.writeHasSlot, Bool.false_eq_true, if_false, hj', hn']
  rfl

theorem State.writeHasSlot_two (hj : s.judge false r.addr r.count = .allowed) {b c : Nat × Fin 1024}
    (hn : s.neededBlocks r.addr r.count = [b, c]) :
    (s.setSlot i (Slot.assigned r)).writeHasSlot i r false = ((s.inSlot i r).askWriteLine i b).askWriteLine i c := by
  have hj' : ((s.setSlot i (Slot.assigned r)).setHead (some ⟨r, false, .lines i⟩)).judge false r.addr r.count = .allowed := hj
  have hn' : ((s.setSlot i (Slot.assigned r)).setHead (some ⟨r, false, .lines i⟩)).neededBlocks r.addr r.count = [b, c] := hn
  simp only [State.writeHasSlot, Bool.false_eq_true, if_false, hj', hn']
  rfl

theorem State.writeHasSlot_three (hj : s.judge false r.addr r.count = .allowed) {b c d : Nat × Fin 1024}
    {rest : List (Nat × Fin 1024)} (hn : s.neededBlocks r.addr r.count = b :: c :: d :: rest) :
    (s.setSlot i (Slot.assigned r)).writeHasSlot i r false =
      ((s.inSlot i r).logRefused r (s.firstInBlock r d.1)).answerHead .refused := by
  have hj' : ((s.setSlot i (Slot.assigned r)).setHead (some ⟨r, false, .lines i⟩)).judge false r.addr r.count = .allowed := hj
  have hn' : ((s.setSlot i (Slot.assigned r)).setHead (some ⟨r, false, .lines i⟩)).neededBlocks r.addr r.count =
      b :: c :: d :: rest := hn
  simp only [State.writeHasSlot, Bool.false_eq_true, if_false, hj', hn']
  rfl

/-- What the judgment of a write that waits for its lines comes to (R19, R127). -/
theorem State.writeJudged_eq (s : State) (i : Fin 256) (r : Request) :
    (s.judge false r.addr r.count = .refused →
      s.writeJudged i r = (s.logRefused r (s.firstRefused false r.addr r.count)).answerHead .refused) ∧
    (s.judge false r.addr r.count = .busy → s.writeJudged i r = s.answerHead .busy) ∧
    (s.judge false r.addr r.count = .allowed → s.ingestTouched r.addr r.count = [] → s.writeJudged i r =
      (((s.unpinSlot i).setSlot i { (s.unpinSlot i).slot i with pins := [] }).setHead none).sendSlot i r) ∧
    (s.judge false r.addr r.count = .allowed → s.ingestTouched r.addr r.count ≠ [] → s.writeJudged i r = s.ingest i r) := by
  refine ⟨fun h => ?_, fun h => ?_, fun h hn => ?_, fun h hn => ?_⟩ <;> simp only [State.writeJudged, h]
  · rw [hn]
    rfl
  · rw [if_neg (by simpa using hn)]

end

end Sys2Proof.Machine

/-!
PROOFS. The settlement of a write that has its slot in RUNNING (R18, R90, R126, R156).
-/

namespace Sys2Proof.Machine

/-! ### The lines of a write that has asked -/

theorem State.victim?_takeable {s : State} {l : Fin 64} (h : s.victim? = some l) : (s.line l).takeable = true := by
  simpa using List.find?_some h

theorem State.pin_pins (s : State) (l k : Fin 64) : ((s.pin l).line k).pins = (s.line k).pins + if k = l then 1 else 0 := by
  by_cases hk : k = l
  · rw [hk, State.pin_line, if_pos rfl]
  · rw [(s.pin_onLine l).lines k hk, if_neg hk]
    rfl

/-- A line that is taken in a state like `s`, then pinned for the write, and the step is over. -/
theorem TakenForFill.asked {s u : State} (hstore : u.store = s.store) (harb : u.arb = s.arb) (i : Fin 256) (v : Fin 64) (tag : Nat)
    (e : Fin 1024) : TakenForFill s ((u.takeForFill v tag e).addPin i v).syncStatusTimer v tag e := by
  have hlike : (State.syncStatusTimer ((u.takeForFill v tag e).addPin i v)).store = (s.takeForFill v tag e).store := by
    rw [State.syncStatusTimer_store]
    exact State.takeForFill_of_store hstore v tag e
  refine .of_take (State.line_congr hlike) ?_
  rw [State.syncStatusTimer_arb, State.takeForFill_arb, ← harb]
  exact u.takeForFill_arb v tag e

section

variable {s : State} {r : Request} {i : Fin 256}

/-- A block whose line is there: one pin more, on that line (R126). -/
theorem WriteLined.one_found {b : Nat × Fin 1024} {l : Fin 64} (hfind : s.findLine b.1 = some l) :
    let t := ((s.inSlot i r).askWriteLine i b).syncStatusTimer
    WriteLined s t r i [l] [] ∧ t.arb = s.arb ∧ ∀ k, t.line k = (s.pin l).line k := by
  obtain ⟨hask, hasked⟩ := State.askWriteLine_found (s := s.inSlot i r) i (b := b) hfind
  rw [hask]
  refine ⟨hasked.lined, ?_, State.line_congr ?_⟩
  · rw [State.syncStatusTimer_arb]
    rfl
  · rw [State.syncStatusTimer_store]
    exact State.pin_of_store (s := s) rfl l

theorem WriteLined.one_taken {b : Nat × Fin 1024} {v : Fin 64} (hfind : s.findLine b.1 = none) (hq : s.store.queue = [])
    (hv : s.victim? = some v) :
    let t := ((s.inSlot i r).askWriteLine i b).syncStatusTimer
    WriteLined s t r i [v] [] ∧ TakenForFill s t v b.1 b.2 := by
  obtain ⟨hask, hasked⟩ := State.askWriteLine_taken (s := s.inSlot i r) i (b := b) hfind hq hv
  rw [hask]
  exact ⟨hasked.lined, TakenForFill.asked (u := s.inSlot i r) rfl rfl i v b.1 b.2⟩

theorem WriteLined.one_queued {b : Nat × Fin 1024} (hfind : s.findLine b.1 = none)
    (hno : s.store.queue ≠ [] ∨ s.victim? = none) :
    WriteLined s ((s.inSlot i r).askWriteLine i b).syncStatusTimer r i [] [⟨.write, b.1, b.2, false⟩] := by
  obtain ⟨hask, hasked⟩ := State.askWriteLine_queued (s := s.inSlot i r) i (b := b) hfind hno
  rw [hask]
  exact hasked.lined

/-! ### Two blocks (R126): the lower one first -/

variable {b c : Nat × Fin 1024}

/-- The lower block's line is there: the write has its pin as it asks for the higher one. -/
theorem WriteLined.after_found {l : Fin 64} (hfind : s.findLine b.1 = some l) :
    (∀ k, s.findLine c.1 = some k →
      let t := (((s.inSlot i r).askWriteLine i b).askWriteLine i c).syncStatusTimer
      WriteLined s t r i [l, k] [] ∧ t.arb = s.arb ∧
        ∀ x, (t.line x).pins = (s.line x).pins + (if x = l then 1 else 0) + (if x = k then 1 else 0)) ∧
    (∀ v, s.findLine c.1 = none → s.store.queue = [] → (s.pin l).victim? = some v →
      let t := (((s.inSlot i r).askWriteLine i b).askWriteLine i c).syncStatusTimer
      WriteLined s t r i [l, v] [] ∧ TakenForFill (s.pin l) t v c.1 c.2) ∧
    (s.findLine c.1 = none → (s.store.queue ≠ [] ∨ (s.pin l).victim? = none) →
      let t := (((s.inSlot i r).askWriteLine i b).askWriteLine i c).syncStatusTimer
      WriteLined s t r i [l] [⟨.write, c.1, c.2, false⟩] ∧ (t.line l).pins = (s.line l).pins + 1) := by
  obtain ⟨hask, hasked⟩ := State.askWriteLine_found (s := s.inSlot i r) i (b := b) hfind
  let u := ((s.inSlot i r).pin l).addPin i l
  have hstore : u.store = (s.pin l).store := State.pin_of_store (s := s) rfl l
  have hfindu : ∀ tag, u.findLine tag = s.findLine tag := fun tag => (State.findLine_of_store hstore tag).trans (s.findLine_pin l tag)
  have hqueue : u.store.queue = s.store.queue := rfl
  have hline : ∀ k, u.line k = (s.pin l).line k := State.line_congr hstore
  rw [hask]
  refine ⟨fun k hk => ?_, fun v hnone hq hv => ?_, fun hnone hno => ?_⟩
  · obtain ⟨hask2, hasked2⟩ := State.askWriteLine_found (s := u) i (b := c) ((hfindu _).trans hk)
    have hline2 : ∀ x, (State.syncStatusTimer ((u.pin k).addPin i k)).line x = (u.pin k).line x :=
      State.line_congr (by rw [State.syncStatusTimer_store]; rfl)
    rw [hask2]
    refine ⟨(hasked.trans hasked2).lined, ?_, fun x => ?_⟩
    · rw [State.syncStatusTimer_arb]
      rfl
    · rw [hline2, State.pin_pins, hline, State.pin_pins]
  · obtain ⟨hask2, hasked2⟩ := State.askWriteLine_taken (s := u) i (b := c) ((hfindu _).trans hnone) (hqueue.trans hq)
      ((State.victim?_of_store hstore).trans hv)
    rw [hask2]
    exact ⟨(hasked.trans hasked2).lined, TakenForFill.asked (u := u) hstore rfl i v c.1 c.2⟩
  · obtain ⟨hask2, hasked2⟩ := State.askWriteLine_queued (s := u) i (b := c) ((hfindu _).trans hnone)
      (by rw [hqueue, State.victim?_of_store hstore]; exact hno)
    rw [hask2]
    refine ⟨(hasked.trans hasked2).lined, ?_⟩
    obtain ⟨x, hx⟩ := u.queuedLine_line c l
    rw [State.line_congr (State.syncStatusTimer_store _), hx]
    exact (congrArg Line.pins (hline l)).trans (by rw [State.pin_line])

/-- A line was taken for the lower block, and FILLING holds it as the write asks for the higher one. -/
theorem WriteLined.after_taken {v : Fin 64} (hne : b.1 ≠ c.1) (hfind : s.findLine b.1 = none) (hq : s.store.queue = [])
    (hv : s.victim? = some v) :
    (∀ k, (s.takeForFill v b.1 b.2).findLine c.1 = some k →
      let t := (((s.inSlot i r).askWriteLine i b).askWriteLine i c).syncStatusTimer
      WriteLined s t r i [v, k] [] ∧ (t.line k).pins = (s.line k).pins + 1 ∧ (t.line v).tag = b.1 ∧
        (t.line v).state = .filling ∧ t.arb = s.arb ++ [readOf (.fill v) b.1]) ∧
    (∀ w, (s.takeForFill v b.1 b.2).findLine c.1 = none → (s.takeForFill v b.1 b.2).victim? = some w →
      let t := (((s.inSlot i r).askWriteLine i b).askWriteLine i c).syncStatusTimer
      WriteLined s t r i [v, w] [] ∧ TakenForFill (s.takeForFill v b.1 b.2) t w c.1 c.2 ∧ (t.line v).state = .filling ∧
        (t.line v).tag = b.1) ∧
    ((s.takeForFill v b.1 b.2).findLine c.1 = none → (s.takeForFill v b.1 b.2).victim? = none →
      let t := (((s.inSlot i r).askWriteLine i b).askWriteLine i c).syncStatusTimer
      WriteLined s t r i [v] [⟨.write, c.1, c.2, false⟩] ∧ (t.line v).state = .filling ∧ (t.line v).tag = b.1) := by
  obtain ⟨hask, hasked⟩ := State.askWriteLine_taken (s := s.inSlot i r) i (b := b) hfind hq hv
  let u := ((s.inSlot i r).takeForFill v b.1 b.2).addPin i v
  have hstore : u.store = (s.takeForFill v b.1 b.2).store := State.takeForFill_of_store (s := s) rfl v b.1 b.2
  have harb : u.arb = (s.takeForFill v b.1 b.2).arb :=
    ((s.inSlot i r).takeForFill_arb v b.1 b.2).trans (s.takeForFill_arb v b.1 b.2).symm
  have hqueue : u.store.queue = [] := by
    rw [hstore, State.takeForFill_store_queue]
    exact hq
  have hself := s.takeForFill_line_self v b.1 b.2
  have hline : ∀ k, u.line k = (s.takeForFill v b.1 b.2).line k := State.line_congr hstore
  rw [hask]
  refine ⟨fun k hk => ?_, fun w hnone hw => ?_, fun hnone hno => ?_⟩
  · have hkv : k ≠ v := fun hkv => by
      have htag := (State.findLine_spec hk).1
      rw [hkv, hself] at htag
      exact hne htag
    obtain ⟨hask2, hasked2⟩ := State.askWriteLine_found (s := u) i (b := c) ((State.findLine_of_store hstore _).trans hk)
    have hline2 : ∀ x, (State.syncStatusTimer ((u.pin k).addPin i k)).line x = (u.pin k).line x :=
      State.line_congr (by rw [State.syncStatusTimer_store]; rfl)
    have hlinev : (u.pin k).line v = (s.takeForFill v b.1 b.2).line v := ((u.pin_onLine k).lines v hkv.symm).trans (hline v)
    rw [hask2]
    refine ⟨(hasked.trans hasked2).lined, ?_, ?_, ?_, ?_⟩
    · rw [hline2, State.pin_line, hline, s.takeForFill_otherLines v b.1 b.2 k hkv]
    · rw [hline2, hlinev, hself]
    · rw [hline2, hlinev, hself]
    · rw [State.syncStatusTimer_arb]
      exact harb.trans (s.takeForFill_arb v b.1 b.2)
  · have hwv : v ≠ w := fun hvw => by
      have htakeable := State.victim?_takeable hw
      rw [← hvw, hself] at htakeable
      simp [Line.takeable] at htakeable
    obtain ⟨hask2, hasked2⟩ := State.askWriteLine_taken (s := u) i (b := c) ((State.findLine_of_store hstore _).trans hnone) hqueue
      ((State.victim?_of_store hstore).trans hw)
    have htaken := TakenForFill.asked (u := u) hstore harb i w c.1 c.2
    rw [hask2]
    refine ⟨(hasked.trans hasked2).lined, htaken, ?_, ?_⟩
    all_goals
      obtain ⟨-, -, -, -, -, hothers, -⟩ := htaken
      rw [hothers v hwv, hself]
  · obtain ⟨hask2, hasked2⟩ := State.askWriteLine_queued (s := u) i (b := c) ((State.findLine_of_store hstore _).trans hnone)
      (.inr ((State.victim?_of_store hstore).trans hno))
    obtain ⟨x, hx⟩ := u.queuedLine_line c v
    rw [hask2]
    refine ⟨(hasked.trans hasked2).lined, ?_, ?_⟩ <;> rw [State.line_congr (State.syncStatusTimer_store _), hx]
    · exact congrArg Line.state ((hline v).trans hself)
    · exact congrArg Line.tag ((hline v).trans hself)

/-- The lower block waits in the line queue as the write asks for the higher one. -/
theorem WriteLined.after_queued (hfind : s.findLine b.1 = none) (hno : s.store.queue ≠ [] ∨ s.victim? = none) :
    (∀ k, s.findLine c.1 = some k →
      let t := (((s.inSlot i r).askWriteLine i b).askWriteLine i c).syncStatusTimer
      WriteLined s t r i [k] [⟨.write, b.1, b.2, false⟩] ∧ (t.line k).pins = (s.line k).pins + 1) ∧
    (s.findLine c.1 = none →
      WriteLined s (((s.inSlot i r).askWriteLine i b).askWriteLine i c).syncStatusTimer r i []
        [⟨.write, b.1, b.2, false⟩, ⟨.write, c.1, c.2, false⟩]) := by
  obtain ⟨hask, hasked⟩ := State.askWriteLine_queued (s := s.inSlot i r) i (b := b) hfind hno
  let u := (s.inSlot i r).queuedLine b
  have hfindu : ∀ tag, u.findLine tag = s.findLine tag := fun tag => (s.inSlot i r).findLine_queuedLine b tag
  rw [hask]
  refine ⟨fun k hk => ?_, fun hnone => ?_⟩
  · obtain ⟨hask2, hasked2⟩ := State.askWriteLine_found (s := u) i (b := c) ((hfindu _).trans hk)
    obtain ⟨x, hx⟩ := (s.inSlot i r).queuedLine_line b k
    rw [hask2]
    refine ⟨(hasked.trans hasked2).lined, ?_⟩
    have hline2 : (State.syncStatusTimer ((u.pin k).addPin i k)).line k = (u.pin k).line k :=
      State.line_congr (by rw [State.syncStatusTimer_store]; rfl) k
    rw [hline2, State.pin_line, hx]
    rfl
  · have hqueue : u.store.queue ≠ [] := by
      rw [hasked.queue]
      simp
    obtain ⟨hask2, hasked2⟩ := State.askWriteLine_queued (s := u) i (b := c) ((hfindu _).trans hnone) (.inl hqueue)
    rw [hask2]
    exact (hasked.trans hasked2).lined

end

end Sys2Proof.Machine

/-!
PROOFS. The settlement of a write that has its slot in RUNNING (R18, R90, R126, R156).
-/

namespace Sys2Proof.Machine

section

variable {s : State} {r : Request} {i : Fin 256}

/-- The write is refused or answered BUSY where it stands in its slot (R18, R126). -/
theorem write_refused (hp : s.ldr.part = .running) (block : Nat) :
    let t := (((s.inSlot i r).logRefused r block).answerHead .refused).syncStatusTimer
    t.up = { s.up with head := none } ∧ t.slot i = Slot.freeSlot ∧ OtherSlots s t i ∧ Returned s t r.requester r.tag .refused [] ∧
      Logged s t (s.findingNow .writeRefused none none none r.requester.val (block % 2 ^ 32) (block / 2 ^ 32)) := by
  let u := (s.inSlot i r).logRefused r block
  have hup : u.up = (s.inSlot i r).up := by simp [u, State.logRefused]
  have hslots : u.slots = (s.inSlot i r).slots := by simp [u, State.logRefused]
  have hports : u.ports = s.ports := by simp [u, State.logRefused, State.inSlot, State.setHead]
  have hans := State.answerHead_lines (s := u) (by rw [hup]; rfl) .refused
  obtain ⟨htup, hfree, hothers, hreturn⟩ := hans.answered hup hslots hports
  have hlog : Logged s u (s.findingNow .writeRefused none none none r.requester.val (block % 2 ^ 32) (block / 2 ^ 32)) :=
    State.logged_log (s := s.inSlot i r) ((s.inSlot i r).running_iff.mpr hp) .writeRefused none none none r.requester.val
      (block % 2 ^ 32) (block / 2 ^ 32)
  exact ⟨htup, hfree, hothers, hreturn, (hlog.sameLog (.of_rep hans.rep)).sync⟩

theorem write_busy :
    let t := ((s.inSlot i r).answerHead .busy).syncStatusTimer
    t.up = { s.up with head := none } ∧ t.slot i = Slot.freeSlot ∧ OtherSlots s t i ∧ t.arb = s.arb ∧
      Returned s t r.requester r.tag .busy [] ∧ Unlogged s t := by
  have hans := State.answerHead_lines (s := s.inSlot i r) rfl .busy
  obtain ⟨htup, hfree, hothers, hreturn⟩ := hans.answered (s := s) (r := r) rfl rfl rfl
  exact ⟨htup, hfree, hothers, by rw [State.syncStatusTimer_arb, hans.arb]; rfl, hreturn,
    (SameLog.of_rep (s := s) hans.rep).sync.unlogged⟩

/-- A write into no DEFINED or OPEN extent goes to the media (R19). -/
theorem write_plain (hj : s.judge false r.addr r.count = .allowed) (hn : s.ingestTouched r.addr r.count = []) :
    let t := ((s.inSlot i r).writeJudged i r).syncStatusTimer
    SentWith s t r i ∧ (t.slot i).contribs = [] ∧ (t.slot i).pins = [] ∧ OtherSlots s t i ∧ t.arb = s.arb ∧ SameShelf s t ∧
      Unlogged s t := by
  obtain ⟨-, -, hplain, -⟩ := (s.inSlot i r).writeJudged_eq i r
  have hunpin : (s.inSlot i r).unpinSlot i = s.inSlot i r := by
    unfold State.unpinSlot
    rw [State.inSlot_slot]
    rfl
  let u := ((s.inSlot i r).setSlot i { (s.inSlot i r).slot i with pins := [] }).setHead none
  have hsent : (s.inSlot i r).writeJudged i r = u.sendSlot i r := by
    rw [hplain hj hn, hunpin]
  have hu : u.slot i = Slot.assigned r := by
    have hself : u.slot i = { (s.inSlot i r).slot i with pins := [] } := State.slot_setSlot_self ..
    rw [hself, State.inSlot_slot]
    rfl
  have hothers : OtherSlots s u i := fun j hj =>
    ((s.inSlot i r).otherSlots_setSlot i _ j hj).trans (s.inSlot_others i r j hj)
  have hslot : ∀ j, (u.sendSlot i r).syncStatusTimer.slot j = (u.sendSlot i r).slot j := State.slot_congr (State.syncStatusTimer_slots _)
  rw [hsent]
  refine ⟨(State.sentWith_sendSlot rfl rfl rfl (by rw [hu]; exact Slot.assigned_isFor r)).sync, ?_, ?_,
    (State.otherSlots_sendSlot hothers).sync, ?_, SameShelf.sync ⟨rfl, rfl, rfl, rfl, rfl⟩, (SameLog.of_rep rfl).sync.unlogged⟩
  · rw [hslot, State.sendSlot_slot, if_pos rfl, hu]
    rfl
  · rw [hslot, State.sendSlot_slot, if_pos rfl, hu]
    rfl
  · rw [State.syncStatusTimer_arb]
    rfl

end

theorem neededBlocks_of_none {s : State} {addr count : Nat} (h : s.ingestTouched addr count = []) : s.neededBlocks addr count = [] := by
  rw [State.neededBlocks, h]
  rfl

/-- Settles O24: by the judgment, and by the number of digest blocks that the write needs. -/
theorem writeInRunning : Obligations.WriteInRunning := by
  intro s r i exact c hp hk hslot hc waits held refusal
  have hexec := exec_write_inRunning hp hk hslot hc
  refine ⟨fun hexact => ?_, fun hexact hj => ?_, fun hexact hj => ?_, fun hexact hj => ⟨fun hn => ?_, ?_⟩⟩
  all_goals rw [hexact] at hexec
  · rw [State.writeHasSlot_exact] at hexec
    refine ⟨_, hexec, ?_, ?_, OtherSlots.sync (s.otherSlots_setSlot i _), ?_, ?_, SameShelf.sync ⟨rfl, rfl, rfl, rfl, rfl⟩, ?_⟩
    · rw [State.syncStatusTimer_up]; rfl
    · rw [State.slot_congr (State.syncStatusTimer_slots _)]
      exact State.slot_setSlot_self ..
    · rw [State.syncStatusTimer_ports]; rfl
    · rw [State.syncStatusTimer_arb]; rfl
    · rw [State.syncStatusTimer_dir]; rfl
  · obtain ⟨hrefused, -⟩ := (s.inSlot i r).writeJudged_eq i r
    rw [State.writeHasSlot_judged i (by rw [hj]; simp), hrefused hj] at hexec
    exact ⟨_, hexec, write_refused hp _⟩
  · obtain ⟨-, hbusy, -⟩ := (s.inSlot i r).writeJudged_eq i r
    rw [State.writeHasSlot_judged i (by rw [hj]; simp), hbusy hj] at hexec
    exact ⟨_, hexec, write_busy⟩
  · rw [State.writeHasSlot_none i hj (neededBlocks_of_none hn)] at hexec
    exact ⟨_, hexec, write_plain hj hn⟩
  · refine ⟨fun block e l hn hfind => ?_, fun block e v hn hfind hq hv => ?_, fun block e hn hfind hno => ?_,
      fun b1 e1 b2 e2 hn hne => ?_, fun b1 b2 b3 rest hn => ?_⟩
    · rw [State.writeHasSlot_one i hj hn] at hexec
      obtain ⟨h, harb, hline⟩ := WriteLined.one_found (r := r) (i := i) (b := (block, e)) hfind
      exact ⟨_, hexec, h.up, h.slot, h.others, h.ports, harb, (hline l).trans (s.pin_line l),
        fun k hk => (hline k).trans ((s.pin_onLine l).lines k hk), h.queue.trans (List.append_nil _)⟩
    · rw [State.writeHasSlot_one i hj hn] at hexec
      obtain ⟨h, htaken⟩ := WriteLined.one_taken (r := r) (i := i) (b := (block, e)) hfind hq hv
      exact ⟨_, hexec, h.up, h.slot, h.others, h.ports, htaken, h.queue.trans (by rw [hq]; rfl)⟩
    · rw [State.writeHasSlot_one i hj hn] at hexec
      have h := WriteLined.one_queued (r := r) (i := i) (b := (block, e)) hfind hno
      exact ⟨_, hexec, h.up, h.slot, h.others, h.ports, h.queue⟩
    · intro lined asks
      rw [State.writeHasSlot_two i hj hn] at hexec
      have hlined : ∀ {pins : List (Fin 64)} {qs : List LineRequest},
          WriteLined s (((s.inSlot i r).askWriteLine i (b1, e1)).askWriteLine i (b2, e2)).syncStatusTimer r i pins qs →
            lined _ pins (s.store.queue ++ qs) := fun h => ⟨hexec, h.up, h.slot, h.others, h.ports, h.queue⟩
      refine ⟨fun l k hl hk => ?_, fun l v hl hnone hq hv => ?_, fun l hl hnone hno => ?_, fun v k hnone hq hv hk => ?_,
        fun v w hnone hq hv hnone2 hw => ?_, fun v hnone hq hv hnone2 hno => ?_, fun k hnone hno hk => ?_,
        fun hnone hnone2 hno => ?_⟩
      · obtain ⟨hfound, -, -⟩ := WriteLined.after_found (r := r) (i := i) (b := (b1, e1)) (c := (b2, e2)) hl
        obtain ⟨h, harb, hpins⟩ := hfound k hk
        exact ⟨_, List.append_nil s.store.queue ▸ hlined h, harb, hpins⟩
      · obtain ⟨-, htaken, -⟩ := WriteLined.after_found (r := r) (i := i) (b := (b1, e1)) (c := (b2, e2)) hl
        obtain ⟨h, ht⟩ := htaken v hnone hq hv
        have hl := hlined h
        rw [hq] at hl
        exact ⟨_, hl, ht⟩
      · obtain ⟨-, -, hqueued⟩ := WriteLined.after_found (r := r) (i := i) (b := (b1, e1)) (c := (b2, e2)) hl
        obtain ⟨h, hpins⟩ := hqueued hnone hno
        exact ⟨_, hlined h, hpins⟩
      · obtain ⟨hfound, -, -⟩ := WriteLined.after_taken (r := r) (i := i) (b := (b1, e1)) (c := (b2, e2)) hne hnone hq hv
        obtain ⟨h, hpins, htag, hstate, harb⟩ := hfound k hk
        have hl := hlined h
        rw [hq] at hl
        exact ⟨_, hl, hpins, htag, hstate, harb⟩
      · obtain ⟨-, htaken, -⟩ := WriteLined.after_taken (r := r) (i := i) (b := (b1, e1)) (c := (b2, e2)) hne hnone hq hv
        obtain ⟨h, ht, hstate, htag⟩ := htaken w hnone2 hw
        have hl := hlined h
        rw [hq] at hl
        exact ⟨_, hl, ht, hstate, htag⟩
      · obtain ⟨-, -, hqueued⟩ := WriteLined.after_taken (r := r) (i := i) (b := (b1, e1)) (c := (b2, e2)) hne hnone hq hv
        obtain ⟨h, hstate, htag⟩ := hqueued hnone2 hno
        have hl := hlined h
        rw [hq] at hl
        exact ⟨_, hl, hstate, htag⟩
      · obtain ⟨hfound, -⟩ := WriteLined.after_queued (r := r) (i := i) (b := (b1, e1)) (c := (b2, e2)) hnone hno
        obtain ⟨h, hpins⟩ := hfound k hk
        exact ⟨_, hlined h, hpins⟩
      · obtain ⟨-, hqueued⟩ := WriteLined.after_queued (r := r) (i := i) (b := (b1, e1)) (c := (b2, e2)) hnone hno
        exact ⟨_, hlined (hqueued hnone2)⟩
    · rw [State.writeHasSlot_three i hj hn] at hexec
      obtain ⟨hup, hfree, hothers, hreturn, hlog⟩ := write_refused (s := s) (r := r) (i := i) hp (s.firstInBlock r b3.1)
      exact ⟨_, hexec, hup, hfree, hothers, hreturn, hlog⟩

end Sys2Proof.Machine

/-!
PROOFS. What a state change of one frame copy leaves while no mend is active, and what the pool's steps leave of the lines.
-/

namespace Sys2Proof.Machine

/-! ### A state change that the store is told of (R42, R45) -/

/-- The store's own part of a state change: nothing, or the entry with the copy's new state (R42). -/
theorem State.applyCore_state (s : State) (l : Fin 64) (frame : Nat) (c : CopyId) (sources : List CopyState) (target : CopyState) :
    OnLine l s (s.applyCore l frame (.state c sources target)).1 ∧ (s.applyCore l frame (.state c sources target)).1.rep = s.rep ∧
      ((s.applyCore l frame (.state c sources target)).1.line l = s.line l ∨ ∃ st timer,
        (s.applyCore l frame (.state c sources target)).1.line l =
          (s.line l).given frame ((s.entryIn l frame).setCopy c target) st timer ∧ st.holds = true ∧
            (s.line l).state.holds = true) := by
  let e := s.entryIn l frame
  cases hst : (s.line l).state.holds with
  | false =>
    have hcore : s.applyCore l frame (.state c sources target) = (s, .notHad, e, e) := by simp [State.applyCore, hst, State.entryIn, e]
    rw [hcore]
    exact ⟨.refl l s, rfl, .inl rfl⟩
  | true =>
    by_cases hno : (s.extent (s.line l).extent).state = .preparing ∨ (s.extent (s.line l).extent).frames ≤ frame
    · have hcore : s.applyCore l frame (.state c sources target) = (s, .notApplied, e, e) := by
        simp [State.applyCore, hst, hno, State.entryIn, e]
      rw [hcore]
      exact ⟨.refl l s, rfl, .inl rfl⟩
    · let r := e.apply (s.extent (s.line l).extent).hasReplica (.state c sources target)
      have htouch : ∀ u : State, OnLine l s u → u.rep = s.rep → (u.line l = s.line l ∨ ∃ st timer,
          u.line l = (s.line l).given frame (e.setCopy c target) st timer ∧ st.holds = true ∧ true = true) →
          OnLine l s (if r.2.isApplied then { u with store := u.store.touch l } else u) ∧
            (if r.2.isApplied then { u with store := u.store.touch l } else u).rep = s.rep ∧
            ((if r.2.isApplied then { u with store := u.store.touch l } else u).line l = s.line l ∨ ∃ st timer,
              (if r.2.isApplied then { u with store := u.store.touch l } else u).line l =
                (s.line l).given frame (e.setCopy c target) st timer ∧ st.holds = true ∧ true = true) := by
        intro u hu hrep hline
        split
        · exact ⟨⟨hu.pending, hu.ports, hu.up, hu.mediaUp, hu.slots, hu.map, hu.pool, hu.walk, hu.mend, hu.dir, hu.cfg, hu.ldr, hu.queue,
            hu.lines⟩, hrep, hline⟩
        · exact ⟨hu, hrep, hline⟩
      have hcore : (s.applyCore l frame (.state c sources target)).1 =
          (let u := if r.1 = e then s else
            (s.setLine l { s.line l with entries := (s.line l).entries.set (frame % 256) r.1 }).dirtyLine l
          if r.2.isApplied then { u with store := u.store.touch l } else u) := by
        simp only [State.applyCore, hst, Bool.not_true, Bool.false_eq_true, if_false, hno]
        rfl
      rw [hcore]
      dsimp only
      by_cases hsame : r.1 = e
      · rw [if_pos hsame]
        exact htouch s (.refl l s) rfl (.inl rfl)
      · rw [if_neg hsame]
        have hnew : r.1 = e.setCopy c target := by
          have happ : r = e.change (s.extent (s.line l).extent).hasReplica c sources target := rfl
          unfold Entry.change at happ
          split at happ
          · exact absurd (congrArg Prod.fst happ) hsame
          · split at happ
            · exact congrArg Prod.fst happ
            · exact absurd (congrArg Prod.fst happ) hsame
        have hgiven := State.dirtyLine_given (s := s) (l := l) hst frame r.1
        obtain ⟨st, timer, hline, hholds⟩ := hgiven.line
        exact htouch _ hgiven.on hgiven.rep (.inr ⟨st, timer, by rw [hline, hnew], hholds, rfl⟩)

/-- What a state change of a frame copy leaves where no mend is active: all but its line, the mend queue and the line orders; each
line keeps its block and its pins, and each entry its copies but the one that takes the new state. -/
structure Told (c : CopyId) (target : CopyState) (s t : State) : Prop where
  ports : t.ports = s.ports
  up : t.up = s.up
  slots : t.slots = s.slots
  map : t.map = s.map
  pool : t.pool = s.pool
  cfg : t.cfg = s.cfg
  active : t.mend.active = none
  tags : ∀ k, (t.line k).tag = (s.line k).tag ∧ (t.line k).extent = (s.line k).extent
  pins : ∀ k, (t.line k).pins = (s.line k).pins
  length : ∀ k, (t.line k).entries.length = (s.line k).entries.length
  valid : ∀ k, (t.line k).state = .invalid ↔ (s.line k).state = .invalid
  holds : ∀ k, (s.line k).state.holds = true → (t.line k).state.holds = true
  waits : ∀ k, (s.line k).waits = false → (t.line k).waits = false
  entries : ∀ k f, t.entryIn k f = s.entryIn k f ∨ t.entryIn k f = (s.entryIn k f).setCopy c target

theorem Told.refl (c : CopyId) (target : CopyState) {s : State} (h : s.mend.active = none) : Told c target s s :=
  ⟨rfl, rfl, rfl, rfl, rfl, rfl, h, fun _ => ⟨rfl, rfl⟩, fun _ => rfl, fun _ => rfl, fun _ => Iff.rfl, fun _ h => h, fun _ h => h,
    fun _ _ => .inl rfl⟩

/-- A step on line `l` alone that changes there what `Told` speaks of as it says. -/
theorem Told.of_line {c : CopyId} {target : CopyState} {l : Fin 64} {s t : State} (hon : OnLine l s t) (hm : s.mend.active = none)
    (htag : (t.line l).tag = (s.line l).tag ∧ (t.line l).extent = (s.line l).extent) (hpins : (t.line l).pins = (s.line l).pins)
    (hlength : (t.line l).entries.length = (s.line l).entries.length)
    (hvalid : (t.line l).state = .invalid ↔ (s.line l).state = .invalid)
    (hholds : (s.line l).state.holds = true → (t.line l).state.holds = true)
    (hwaits : (s.line l).waits = false → (t.line l).waits = false)
    (hentries : ∀ f, t.entryIn l f = s.entryIn l f ∨ t.entryIn l f = (s.entryIn l f).setCopy c target) : Told c target s t := by
  have hcases : ∀ {P : Fin 64 → Prop}, P l → (∀ k, k ≠ l → t.line k = s.line k → P k) → ∀ k, P k := fun hl hk k => by
    by_cases h : k = l
    · rw [h]
      exact hl
    · exact hk k h (hon.lines k h)
  refine ⟨hon.ports, hon.up, hon.slots, hon.map, hon.pool, hon.cfg, by rw [hon.mend]; exact hm, hcases htag fun k _ h => ?_,
    hcases hpins fun k _ h => ?_, hcases hlength fun k _ h => ?_, hcases hvalid fun k _ h => ?_, hcases hholds fun k _ h => ?_,
    hcases hwaits fun k _ h => ?_, hcases hentries fun k _ h f => ?_⟩
  · rw [h]
    exact ⟨rfl, rfl⟩
  · rw [h]
  · rw [h]
  · rw [h]
  · rw [h]
    exact id
  · rw [h]
    exact id
  · unfold State.entryIn
    rw [h]
    exact .inl rfl

theorem State.addWaiting_told {s : State} (hm : s.mend.active = none) (c : CopyId) (target : CopyState) {l : Fin 64}
    (hw : (s.line l).waits = true) (w : Waiting) : Told c target s (s.addWaiting l w) := by
  have hline : (s.addWaiting l w).line l = { s.line l with waiting := (s.line l).waiting ++ [w] } := State.line_setLine_self ..
  refine .of_line (s.setLine_onLine l _) hm ?_ ?_ ?_ ?_ ?_ (fun h => ?_) fun f => .inl ?_
  · rw [hline]
    exact ⟨rfl, rfl⟩
  · rw [hline]
  · rw [hline]
  · rw [hline]
  · rw [hline]
    exact id
  · rw [hw] at h
    cases h
  · unfold State.entryIn
    rw [hline]
    rfl

/-- A line that has taken an entry of one frame holds every other as before. -/
theorem Line.given_entries (x : Line) (frame f : Nat) (e : Entry) (st : LineState) (timer : Option Timer) :
    (x.given frame e st timer).entry f = x.entry f ∨ (f % 256 = frame % 256 ∧ (x.given frame e st timer).entry f = e) := by
  simp only [Line.given, Line.entry, List.getD_eq_getElem?_getD, List.getElem?_set]
  by_cases hf : frame % 256 = f % 256
  · rw [if_pos hf]
    split
    · exact .inr ⟨hf.symm, rfl⟩
    next hlen =>
      left
      rw [List.getElem?_eq_none (by omega)]
  · rw [if_neg hf]
    exact .inl rfl

theorem State.applyCore_told {s : State} (hm : s.mend.active = none) (l : Fin 64) (frame : Nat) (c : CopyId)
    (sources : List CopyState) (target : CopyState) : Told c target s (s.applyCore l frame (.state c sources target)).1 := by
  obtain ⟨hon, -, hline | ⟨st, timer, hline, hst, hs⟩⟩ := s.applyCore_state l frame c sources target
  · refine .of_line hon hm ?_ ?_ ?_ ?_ ?_ ?_ fun f => .inl ?_
    · rw [hline]
      exact ⟨rfl, rfl⟩
    · rw [hline]
    · rw [hline]
    · rw [hline]
    · rw [hline]
      exact id
    · rw [hline]
      exact id
    · unfold State.entryIn
      rw [hline]
  · have hvalid : ∀ x : LineState, x.holds = true → x ≠ .invalid ∧ x ≠ .filling := fun x hx =>
      ⟨fun h => by (rw [h] at hx; cases hx), fun h => by (rw [h] at hx; cases hx)⟩
    refine .of_line hon hm ?_ ?_ ?_ ?_ (fun _ => ?_) (fun hw => ?_) fun f => ?_
    · rw [hline]
      exact ⟨rfl, rfl⟩
    · rw [hline]
      rfl
    · rw [hline]
      simp [Line.given]
    · rw [hline]
      exact ⟨fun h => absurd h (hvalid _ hst).1, fun h => absurd h (hvalid _ hs).1⟩
    · rw [hline]
      exact hst
    · rw [hline]
      simp only [Line.waits, Line.given, Bool.or_eq_false_iff] at hw ⊢
      obtain ⟨⟨-, hrefill⟩, hwaiting⟩ := hw
      exact ⟨⟨decide_eq_false (hvalid _ hst).2, hrefill⟩, hwaiting⟩
    · unfold State.entryIn
      rw [hline]
      rcases (s.line l).given_entries frame f ((s.entryIn l frame).setCopy c target) st timer with h | ⟨hf, h⟩
      · exact .inl h
      · refine .inr (h.trans ?_)
        unfold State.entryIn Line.entry
        rw [hf]

theorem Told.setQueue {c : CopyId} {target : CopyState} {s t : State} (h : Told c target s t) (q : List FrameKey) :
    Told c target s { t with mend := { t.mend with queue := q } } :=
  ⟨h.ports, h.up, h.slots, h.map, h.pool, h.cfg, h.active, h.tags, h.pins, h.length, h.valid, h.holds, h.waits, h.entries⟩

theorem State.tell_told {s : State} (hm : s.mend.active = none) (e : Fin 1024) (frame : Nat) (c : CopyId)
    (sources : List CopyState) (target : CopyState) : Told c target s (s.tell e frame (.state c sources target)) := by
  unfold State.tell State.submit
  split
  · exact .refl c target hm
  next l _ =>
    split
    next hw => exact State.addWaiting_told hm c target hw _
    next hw =>
      have hcore := State.applyCore_told hm l frame c sources target
      have hquiet : ∀ (t : State) (x : Fin 1024) (f : Nat) (after : Entry), t.mend.active = none →
          t.reportMend x f .nobody after = t := fun t x f after ht => by simp [State.reportMend, ht]
      simp only [State.applyNow]
      split
      · obtain ⟨q, hq⟩ := (s.applyCore l frame (.state c sources target)).1.reportEntry_queue (s.line l).extent frame
          (s.applyCore l frame (.state c sources target)).2.2.1 (s.applyCore l frame (.state c sources target)).2.2.2
        rw [hq]
        have hqueue := hcore.setQueue q
        rw [hquiet _ _ _ _ hqueue.active]
        exact hqueue
      · exact hcore

/-- A change that its line is ready for is taken at once (R42, R45). -/
theorem State.tell_applies {s : State} (hm : s.mend.active = none) {k : FrameKey} {sources : List CopyState} {target : CopyState}
    {l : Fin 64} (hline : s.lineOf k.extent k.frame = some l) (hwaits : (s.line l).waits = false)
    (hholds : (s.line l).state.holds = true) (hlen : (s.line l).entries.length = 256)
    (hstate : (s.extent k.extent).state ≠ .preparing) (hframe : k.frame < (s.extent k.extent).frames)
    (hin : (s.entryIn l k.frame).copyState k.copy ∈ sources) (hrep : k.copy = .copy1 → (s.extent k.extent).hasReplica = true)
    (htarget : target ≠ .absent) :
    ∃ u q, EntryGiven l k.frame ((s.entryIn l k.frame).setCopy k.copy target) s u ∧
      s.tell k.extent k.frame (.state k.copy sources target) = { u with mend := { u.mend with queue := q } } := by
  have hext : (s.line l).extent = k.extent := State.lineOf_extent hline
  have hfits : ¬((k.copy = .copy1 ∧ (s.extent k.extent).hasReplica = false) ∨ target = .absent) := by
    rintro (⟨hc, hno⟩ | h)
    · rw [hrep hc] at hno
      cases hno
    · exact htarget h
  have happ : (s.entryIn l k.frame).apply (s.extent (s.line l).extent).hasReplica (.state k.copy sources target) =
      ((s.entryIn l k.frame).setCopy k.copy target, .applied) := by
    rw [hext]
    simp only [Entry.apply, Entry.change, if_neg hfits, if_pos hin]
  obtain ⟨u, hgiven, hcore⟩ := State.applyCore_takes (s := s) (l := l) hholds hlen (by rw [hext]; exact hstate)
    (frame := k.frame) (by rw [hext]; exact hframe) (.state k.copy sources target) happ
  have hquiet : u.logChange (s.line l).extent k.frame (.state k.copy sources target) .applied = u := rfl
  rw [hquiet] at hcore
  obtain ⟨q, hq⟩ := u.reportEntry_queue (s.line l).extent k.frame (s.entryIn l k.frame) ((s.entryIn l k.frame).setCopy k.copy target)
  refine ⟨u, q, hgiven, ?_⟩
  have hactive : u.mend.active = none := by
    rw [hgiven.on.mend]
    exact hm
  unfold State.tell
  rw [State.submit_of_ready hline hwaits]
  simp only [State.applyNow, hcore, Answer.isApplied, if_true, hq]
  simp [State.reportMend, hactive]

end Sys2Proof.Machine

/-!
PROOFS. What the pool's steps leave of the digest lines, and what a write's decision leaves of the links (R64, R69, R80, R127).
-/

namespace Sys2Proof.Machine

/-! ### The lines beside the pool -/

/-- Each line keeps its block, its state and its entries, and no change begins to wait; its pins may go. -/
structure Shelved (s t : State) : Prop where
  entries : ∀ k, (t.line k).entries = (s.line k).entries
  state : ∀ k, (t.line k).state = (s.line k).state
  tags : ∀ k, (t.line k).tag = (s.line k).tag ∧ (t.line k).extent = (s.line k).extent
  waits : ∀ k, (s.line k).waits = false → (t.line k).waits = false

theorem Shelved.of_lines {s t : State} (h : ∀ k, t.line k = s.line k) : Shelved s t :=
  ⟨fun k => by rw [h], fun k => by rw [h], fun k => by rw [h]; exact ⟨rfl, rfl⟩, fun k => by rw [h]; exact id⟩

theorem Shelved.of_store {s t : State} (h : t.store = s.store) : Shelved s t := .of_lines (State.line_congr h)

theorem Shelved.refl (s : State) : Shelved s s := .of_store rfl

theorem Shelved.trans {s t u : State} (h : Shelved s t) (k : Shelved t u) : Shelved s u :=
  ⟨fun l => (k.entries l).trans (h.entries l), fun l => (k.state l).trans (h.state l),
    fun l => ⟨(k.tags l).1.trans (h.tags l).1, (k.tags l).2.trans (h.tags l).2⟩, fun l hw => k.waits l (h.waits l hw)⟩

theorem State.unpin_shelved (s : State) (l : Fin 64) : Shelved s (s.unpin l) := by
  have hline : ∀ k, (s.unpin l).line k = { s.line k with pins := (s.line k).pins - if some l = some k then 1 else 0 } :=
    s.unpin?_line (some l)
  refine ⟨fun k => ?_, fun k => ?_, fun k => ?_, fun k hw => ?_⟩ <;> rw [hline]
  · exact ⟨rfl, rfl⟩
  · exact hw

theorem State.unpin?_shelved (s : State) (o : Option (Fin 64)) : Shelved s (s.unpin? o) := by
  cases o with
  | none => exact .refl s
  | some l => exact s.unpin_shelved l

theorem State.pin_shelved (s : State) (l : Fin 64) : Shelved s (s.pin l) := by
  have hline : ∀ k, ∃ n, (s.pin l).line k = { s.line k with pins := n } := fun k => by
    by_cases hk : k = l
    · rw [hk, State.pin_line]
      exact ⟨_, rfl⟩
    · rw [(s.pin_onLine l).lines k hk]
      exact ⟨_, rfl⟩
  refine ⟨fun k => ?_, fun k => ?_, fun k => ?_, fun k hw => ?_⟩ <;> obtain ⟨n, hn⟩ := hline k <;> rw [hn]
  · exact ⟨rfl, rfl⟩
  · exact hw

theorem State.dropWaiting_shelved (s : State) (who : Submitter) : Shelved s (s.dropWaiting who) := by
  refine ⟨fun k => ?_, fun k => ?_, fun k => ?_, fun k hw => (s.dropWaiting_aside k who).waits hw⟩ <;> rw [s.dropWaiting_line]
  exact ⟨rfl, rfl⟩

theorem State.unpinSlot_shelved (s : State) (i : Fin 256) : Shelved s (s.unpinSlot i) :=
  forEach_induct Shelved.refl Shelved.trans (fun l t => t.unpin_shelved l) (s.slot i).pins s

theorem State.endSlot_shelved (s : State) (i : Fin 256) (status : UpStatus) (data : List Byte) :
    Shelved s (s.endSlot i status data) :=
  ((Shelved.of_store rfl : Shelved s (s.sendUp ⟨(s.slot i).requester, (s.slot i).tag, status, data⟩)).trans
    (State.unpinSlot_shelved _ i)).trans (.of_store rfl)

theorem State.giveOutcome_shelved (s : State) (o : SlotOutcome) (i : Fin 256) : Shelved s (s.giveOutcome o i) := by
  have hset : Shelved s (s.setSlot i { s.slot i with outcomes := (s.slot i).outcomes ++ [o] }) := .of_store rfl
  refine hset.trans ?_
  unfold State.giveOutcome State.tryRelease
  dsimp only
  split
  · exact State.endSlot_shelved _ i _ _
  · exact .refl _

theorem State.endAccum_shelved (s : State) (p : Fin 32) (o : SlotOutcome) : Shelved s (s.endAccum p o) := by
  unfold State.endAccum
  split
  · exact .refl s
  next a _ =>
    have hset : Shelved s ((s.mapSlots fun x => x.dropWatch p).setAccum p none) := .of_store rfl
    exact (hset.trans (State.unpin?_shelved _ a.line)).trans
      (forEach_induct Shelved.refl Shelved.trans (fun i t => t.giveOutcome_shelved o i) a.holding _)

theorem State.abandon_shelved (s : State) (p : Fin 32) : Shelved s (s.abandon p) := by
  unfold State.abandon
  split
  · exact .refl s
  · have hmap : Shelved s (s.mapSlots fun x => x.dropAccum p) := .of_store rfl
    exact (hmap.trans (State.dropWaiting_shelved _ _)).trans (State.endAccum_shelved _ p _)

theorem State.joinSeal_shelved (s : State) (p : Fin 32) (i : Fin 256) (t : Touched) (data : List Byte) :
    Shelved s (s.joinSeal p i t data) := by
  unfold State.joinSeal
  split
  · exact .refl s
  · dsimp only
    split
    · exact s.abandon_shelved p
    · exact .of_store rfl

theorem State.offerSeal_shelved (s : State) (i : Fin 256) (data : List Byte) (t : Touched) : Shelved s (s.offerSeal i data t) := by
  unfold State.offerSeal
  split
  next p _ => exact s.joinSeal_shelved p i t data
  · split
    next p l _ _ =>
      have hopen : Shelved (s.pin l) ((s.pin l).openAccum p .seal t.key (some l)) := .of_store rfl
      exact ((s.pin_shelved l).trans hopen).trans (State.joinSeal_shelved _ p i t data)
    next p _ _ =>
      have hopen : Shelved s (s.openAccum p .seal t.key none) := .of_store rfl
      exact hopen.trans (State.joinSeal_shelved _ p i t data)
    · exact .refl s

/-! ### What reaches neither link (R83, R127) -/

/-- The head, the settings, the map and what has gone to the media are as they were. -/
structure LinksKept (s t : State) : Prop where
  up : t.up = s.up
  media : t.ports.media = s.ports.media
  cfg : t.cfg = s.cfg
  map : t.map = s.map

theorem LinksKept.refl (s : State) : LinksKept s s := ⟨rfl, rfl, rfl, rfl⟩

theorem LinksKept.trans {s t u : State} (h : LinksKept s t) (k : LinksKept t u) : LinksKept s u :=
  ⟨k.up.trans h.up, k.media.trans h.media, k.cfg.trans h.cfg, k.map.trans h.map⟩

theorem State.abandon_links (s : State) (p : Fin 32) : LinksKept s (s.abandon p) := by
  constructor <;> simp

theorem State.joinSeal_links (s : State) (p : Fin 32) (i : Fin 256) (t : Touched) (data : List Byte) :
    LinksKept s (s.joinSeal p i t data) := by
  constructor <;> simp

theorem State.offerSeal_links (s : State) (i : Fin 256) (data : List Byte) (t : Touched) : LinksKept s (s.offerSeal i data t) := by
  unfold State.offerSeal
  split
  next p _ => exact s.joinSeal_links p i t data
  · split
    next p l _ _ =>
      have hopen : LinksKept s ((s.pin l).openAccum p .seal t.key (some l)) := by constructor <;> simp
      exact hopen.trans (State.joinSeal_links _ p i t data)
    next p _ _ =>
      have hopen : LinksKept s (s.openAccum p .seal t.key none) := by constructor <;> simp
      exact hopen.trans (State.joinSeal_links _ p i t data)
    · exact .refl s

theorem State.finishMend_links (s : State) (m : Mend) (c : MendClose) : LinksKept s (s.finishMend m c) := by
  cases c <;> constructor <;> simp [State.finishMend, State.logCopy]

theorem State.stopMendWork_links (s : State) : LinksKept s s.stopMendWork := by
  constructor <;> simp [State.stopMendWork]

theorem State.applyCore_links (s : State) (l : Fin 64) (frame : Nat) (ch : Change) : LinksKept s (s.applyCore l frame ch).1 := by
  constructor <;> simp

theorem State.setMend_links (s : State) (m : Option Mend) : LinksKept s (s.setMend m) := ⟨rfl, rfl, rfl, rfl⟩

theorem State.reportEntry_links (s : State) (e : Fin 1024) (frame : Nat) (before after : Entry) :
    LinksKept s (s.reportEntry e frame before after) := by
  obtain ⟨q, hq⟩ := s.reportEntry_queue e frame before after
  rw [hq]
  exact ⟨rfl, rfl, rfl, rfl⟩

theorem State.submitClosing_links (s : State) (m : Mend) (reason : Nat) (target : CopyState) :
    LinksKept s (s.submitClosing m reason target) := by
  unfold State.submitClosing
  dsimp only
  split
  · exact (s.setMend_links none).trans (State.finishMend_links _ m _)
  next l _ =>
    split
    · exact ⟨rfl, rfl, rfl, rfl⟩
    · have hcore := (s.applyCore_links l m.frame (.state m.target [.mending] target)).trans (State.setMend_links _ none)
      unfold State.applyClosing
      dsimp only
      split
      · exact (hcore.trans (State.reportEntry_links _ _ _ _ _)).trans (State.finishMend_links _ m _)
      · exact hcore.trans (State.finishMend_links _ m _)

theorem State.endMend_links (s : State) (m : Mend) : LinksKept s (s.endMend m) := by
  have hstop : LinksKept s (s.stopMendWork.dropRequests .mend) := s.stopMendWork_links.trans ⟨rfl, rfl, rfl, rfl⟩
  unfold State.endMend
  dsimp only
  split
  · exact hstop.trans (State.submitClosing_links _ _ _ _)
  · exact (hstop.trans (State.setMend_links _ none)).trans (State.finishMend_links _ _ _)

theorem State.reportMend_links (s : State) (e : Fin 1024) (frame : Nat) (who : Submitter) (after : Entry) :
    LinksKept s (s.reportMend e frame who after) := by
  unfold State.reportMend
  split
  · exact .refl s
  next m _ =>
    split
    · exact s.endMend_links m
    · exact .refl s

theorem State.tell_links (s : State) (e : Fin 1024) (frame : Nat) (ch : Change) : LinksKept s (s.tell e frame ch) := by
  unfold State.tell State.submit
  split
  · exact .refl s
  next l _ =>
    split
    · exact ⟨rfl, rfl, rfl, rfl⟩
    · have hcore := s.applyCore_links l frame ch
      simp only [State.applyNow]
      split
      · exact (hcore.trans (State.reportEntry_links _ _ _ _ _)).trans (State.reportMend_links _ _ _ _ _)
      · exact hcore

/-! ### The decision of a write (R127) -/

/-- The write's frame copies have been offered to the pool, and those past the fourth have lost their accumulators (R64, R127). -/
def State.offered (s : State) (i : Fin 256) (r : Request) : State :=
  forEach (((s.touched r.addr r.count).drop 4).filter (s.inState ExtentState.ingest))
    (fun t u => (u.findAccum .seal t.key).elim u fun p => u.abandon p)
    (forEach (((s.touched r.addr r.count).take 4).filter (s.inState ExtentState.ingest)) (fun t u => u.offerSeal i r.data t) s)

/-- The write's frame copies have been accepted (R127). -/
def State.accepted (s : State) (i : Fin 256) (r : Request) : State :=
  forEach (s.ingestTouched r.addr r.count) (fun t u => u.acceptCopy t.key) (s.offered i r)

theorem State.ingest_eq (s : State) (i : Fin 256) (r : Request) : s.ingest i r = ((s.accepted i r).setHead none).sendSlot i r := by
  have hdrop : (fun (t : Touched) (u : State) => match u.findAccum .seal t.key with
      | none => u
      | some p => u.abandon p) = fun t u => (u.findAccum .seal t.key).elim u fun p => u.abandon p := by
    funext t u
    cases u.findAccum .seal t.key <;> rfl
  unfold State.accepted State.offered
  rw [← hdrop]
  rfl

theorem State.dropSeal_keeps (u : State) (t : Touched) :
    LinksKept u ((u.findAccum .seal t.key).elim u fun p => u.abandon p) ∧
      Shelved u ((u.findAccum .seal t.key).elim u fun p => u.abandon p) ∧
      ((u.findAccum .seal t.key).elim u fun p => u.abandon p).mend = u.mend := by
  cases u.findAccum .seal t.key with
  | none => exact ⟨.refl u, .refl u, rfl⟩
  | some p => exact ⟨u.abandon_links p, u.abandon_shelved p, u.abandon_mend p⟩

theorem State.offerSeal_mend (s : State) (i : Fin 256) (data : List Byte) (t : Touched) : (s.offerSeal i data t).mend = s.mend := by
  unfold State.offerSeal
  split
  · simp
  · split <;> simp

/-- What the pool is offered reaches neither link, no entry and no mend. -/
theorem State.offered_keeps (s : State) (i : Fin 256) (r : Request) :
    LinksKept s (s.offered i r) ∧ Shelved s (s.offered i r) ∧ (s.offered i r).mend = s.mend := by
  have htrans : ∀ {a b c : State}, (LinksKept a b ∧ Shelved a b ∧ b.mend = a.mend) → (LinksKept b c ∧ Shelved b c ∧ c.mend = b.mend) →
      LinksKept a c ∧ Shelved a c ∧ c.mend = a.mend := fun ⟨h1, h2, h3⟩ ⟨k1, k2, k3⟩ => ⟨h1.trans k1, h2.trans k2, k3.trans h3⟩
  have hrefl : ∀ a : State, LinksKept a a ∧ Shelved a a ∧ a.mend = a.mend := fun a => ⟨.refl a, .refl a, rfl⟩
  have hjoin := forEach_induct (P := fun a b => LinksKept a b ∧ Shelved a b ∧ b.mend = a.mend) hrefl htrans
    (fun t u => ⟨State.offerSeal_links u i r.data t, State.offerSeal_shelved u i r.data t, State.offerSeal_mend u i r.data t⟩)
    (((s.touched r.addr r.count).take 4).filter (s.inState ExtentState.ingest)) s
  exact htrans hjoin (forEach_induct (P := fun a b => LinksKept a b ∧ Shelved a b ∧ b.mend = a.mend) hrefl htrans
    (fun t u => u.dropSeal_keeps t) (((s.touched r.addr r.count).drop 4).filter (s.inState ExtentState.ingest)) _)

theorem State.accepted_links (s : State) (i : Fin 256) (r : Request) : LinksKept s (s.accepted i r) :=
  (s.offered_keeps i r).1.trans (forEach_induct LinksKept.refl LinksKept.trans (fun _ u => u.tell_links _ _ _)
    (s.ingestTouched r.addr r.count) (s.offered i r))

end Sys2Proof.Machine

/-!
PROOFS. The settlement of a write whose lines are present (R19, R64, R66, R69, R127).
-/

namespace Sys2Proof.Machine

/-! ### Acceptance (R127) -/

/-- Line `l` is ready to accept the frame copy: it holds its entry, and the copy is not ABSENT. -/
structure Accepts (k : FrameKey) (l : Fin 64) (s : State) : Prop where
  idle : s.mend.active = none
  line : s.lineOf k.extent k.frame = some l
  waits : (s.line l).waits = false
  holds : (s.line l).state.holds = true
  length : (s.line l).entries.length = 256
  state : (s.extent k.extent).state ≠ .preparing
  frames : k.frame < (s.extent k.extent).frames
  copy : (s.entryIn l k.frame).copyState k.copy ≠ .absent
  replica : k.copy = .copy1 → (s.extent k.extent).hasReplica = true

theorem Accepts.shelved {k : FrameKey} {l : Fin 64} {s t : State} (h : Accepts k l s) (hlines : Shelved s t) (hlinks : LinksKept s t)
    (hmend : t.mend = s.mend) : Accepts k l t := by
  have hext : t.extent k.extent = s.extent k.extent := State.extent_congr hlinks.map k.extent
  refine ⟨by rw [hmend]; exact h.idle, ?_, hlines.waits l h.waits, by rw [hlines.state]; exact h.holds, by
    rw [hlines.entries]; exact h.length, by rw [hext]; exact h.state, by rw [hext]; exact h.frames, ?_, by rw [hext]; exact h.replica⟩
  · rw [State.lineOf_congr hlinks.map hlines.tags (fun j => by rw [hlines.state])]
    exact h.line
  · have hentry : t.entryIn l k.frame = s.entryIn l k.frame := by
      unfold State.entryIn Line.entry
      rw [hlines.entries]
    rw [hentry]
    exact h.copy

/-- Whatever copies are accepted, the line stays ready, and a copy that is UNSEALED stays so. -/
theorem Accepts.told {k : FrameKey} {l : Fin 64} {c : CopyId} {s t : State} (h : Accepts k l s) (ht : Told c .unsealed s t) :
    Accepts k l t ∧ ((s.entryIn l k.frame).copyState k.copy = .unsealed → (t.entryIn l k.frame).copyState k.copy = .unsealed) := by
  have hext : t.extent k.extent = s.extent k.extent := State.extent_congr ht.map k.extent
  have hcopy : (t.entryIn l k.frame).copyState k.copy = .unsealed ∨
      (t.entryIn l k.frame).copyState k.copy = (s.entryIn l k.frame).copyState k.copy := by
    rcases ht.entries l k.frame with he | he
    · exact .inr (by rw [he])
    · rw [he]
      rcases CopyId.eq_or_other k.copy c with hc | hc
      · left
        rw [hc, Entry.setCopy_copyState]
      · right
        rw [hc, Entry.setCopy_copyState_other]
  refine ⟨⟨ht.active, ?_, ht.waits l h.waits, ht.holds l h.holds, (ht.length l).trans h.length, by rw [hext]; exact h.state, by
    rw [hext]; exact h.frames, ?_, by rw [hext]; exact h.replica⟩, fun hu => ?_⟩
  · rw [State.lineOf_congr ht.map ht.tags ht.valid]
    exact h.line
  · rcases hcopy with hc | hc <;> rw [hc]
    · simp
    · exact h.copy
  · rcases hcopy with hc | hc <;> rw [hc]
    exact hu

theorem mem_acceptFrom {c : CopyState} (h : c ≠ .absent) : c ∈ acceptFrom := by
  cases c <;> first | exact absurd rfl h | simp [acceptFrom]

theorem Accepts.accepted {k : FrameKey} {l : Fin 64} {s : State} (h : Accepts k l s) :
    ((s.acceptCopy k).entryIn l k.frame).copyState k.copy = .unsealed := by
  obtain ⟨u, q, hgiven, htell⟩ := State.tell_applies h.idle h.line h.waits h.holds h.length h.state h.frames (mem_acceptFrom h.copy)
    h.replica (target := .unsealed) (by simp)
  have hentry : (s.acceptCopy k).entryIn l k.frame = u.entryIn l k.frame := by
    unfold State.acceptCopy
    rw [htell]
    rfl
  rw [hentry, hgiven.entryIn h.length, Entry.setCopy_copyState]

/-- A copy among those that are accepted is UNSEALED in the end. -/
theorem Accepts.loop {k : FrameKey} {l : Fin 64} (ts : List Touched) {s : State} (h : Accepts k l s) :
    (k ∈ ts.map Touched.key ∨ (s.entryIn l k.frame).copyState k.copy = .unsealed) →
      ((forEach ts (fun t u => u.acceptCopy t.key) s).entryIn l k.frame).copyState k.copy = .unsealed := by
  induction ts generalizing s with
  | nil =>
    intro hor
    exact hor.resolve_left (by simp)
  | cons t ts ih =>
    intro hor
    have htold : Told t.key.copy .unsealed s (s.acceptCopy t.key) := State.tell_told h.idle ..
    obtain ⟨hnext, hstay⟩ := h.told htold
    refine ih hnext ?_
    rcases hor with hmem | hu
    · rcases List.mem_cons.mp hmem with hk | hmem
      · subst hk
        exact .inr h.accepted
      · exact .inl hmem
    · exact .inr (hstay hu)

/-! ### The one frame copy that is offered (R64, R66, R69) -/

section

variable {s : State} {i : Fin 256} {data : List Byte} {u : Touched} {p : Fin 32}

theorem State.joinSeal_over {a : Accum} (ha : s.accum p = some a)
    (h : overlapsRuns a.runs u.first u.last = true ∨ 8 < (insertRun u.first u.last a.runs).length) :
    s.joinSeal p i u data = s.abandon p := by
  simp only [State.joinSeal, ha]
  rw [if_pos (by simpa using h)]

/-- The contribution with which the write joins the accumulator at `p` (R69, R71). -/
def State.sealContribution (s : State) (p : Fin 32) (u : Touched) (data : List Byte) : Contribution :=
  let d := Contribution.digest (s.extent u.key.extent) ⟨p, u.first, u.start, [(u.first, u.last)], 0, 0⟩ data
  ⟨p, u.first, u.start, [(u.first, u.last)], d.1, d.2⟩

theorem State.joinSeal_fits {a : Accum} (ha : s.accum p = some a) (hover : overlapsRuns a.runs u.first u.last = false)
    (hlen : (insertRun u.first u.last a.runs).length ≤ 8) :
    s.joinSeal p i u data = (s.setAccum p (some { a with
      runs := insertRun u.first u.last a.runs, pendingCount := a.pendingCount + 1, idle := none })).addContribution i
        (s.sealContribution p u data) := by
  simp only [State.joinSeal, ha]
  rw [if_neg (by simpa [hover] using hlen)]
  rfl

/-- What the pool and the write's slot are once the write has joined accumulator `p`. -/
theorem State.joinSeal_fits_pool {a : Accum} (ha : s.accum p = some a) (hover : overlapsRuns a.runs u.first u.last = false)
    (hlen : (insertRun u.first u.last a.runs).length ≤ 8) (hnone : (s.slot i).contribs = []) :
    OtherAccums s (s.joinSeal p i u data) p ∧
      (s.joinSeal p i u data).accum p = some { a with
        runs := insertRun u.first u.last a.runs, pendingCount := a.pendingCount + 1, idle := none } ∧
      ((s.joinSeal p i u data).slot i).contribs = [s.sealContribution p u data] ∧ (s.joinSeal p i u data).store = s.store := by
  rw [State.joinSeal_fits ha hover hlen]
  refine ⟨fun q hq => (State.accum_setAccum s p q _).trans (if_neg hq), State.accum_setAccum_self .., ?_, rfl⟩
  have hslot : ((s.setAccum p (some { a with
      runs := insertRun u.first u.last a.runs, pendingCount := a.pendingCount + 1, idle := none })).addContribution i
        (s.sealContribution p u data)).slot i =
      { s.slot i with contribs := (s.slot i).contribs ++ [s.sealContribution p u data] } := State.slot_setSlot_self ..
  rw [hslot, hnone]
  rfl

theorem State.abandon_pool {a : Accum} (ha : s.accum p = some a) (hold : a.holding = []) (hnone : (s.slot i).contribs = []) :
    OtherAccums s (s.abandon p) p ∧ (s.abandon p).accum p = none ∧ ((s.abandon p).slot i).contribs = [] := by
  have hh : s.unheld p := fun b hb => by
    rw [ha] at hb
    cases hb
    exact hold
  refine ⟨fun q hq => ?_, State.abandon_accum hh, ?_⟩
  · rw [State.abandon_of_unheld ha hold, State.accum_congr (State.unpin?_pool _ _), State.accum_setAccum, if_neg hq]
    rfl
  · have hslot : (s.abandon p).slot i = ((s.slot i).dropAccum p).dropWatch p := by
      rw [State.abandon_of_unheld ha hold, State.slot_congr (State.unpin?_slots _ _), State.slot_congr (State.setAccum_slots _ _ _),
        State.slot_mapSlots]
      exact congrArg (fun x : Slot => x.dropWatch p) (State.slot_mapSlots s _ i)
    rw [hslot]
    simp [Slot.dropWatch, Slot.dropAccum, hnone]

end

end Sys2Proof.Machine

/-!
PROOFS. The settlement of a write whose lines are present (R19, R64, R66, R69, R127).
-/

namespace Sys2Proof.Machine

/-! ### The write's offer to the pool (R64, R66, R69) -/

section

variable {s : State} {i : Fin 256} {data : List Byte} {u : Touched} {p : Fin 32}

theorem State.offerSeal_found (h : s.findAccum .seal u.key = some p) : s.offerSeal i data u = s.joinSeal p i u data := by
  simp only [State.offerSeal, h]

/-- Without an accumulator of the copy one is opened, at the first free traffic position, on the line that holds the entry. -/
theorem State.offerSeal_opens {l : Fin 64} (h : s.findAccum .seal u.key = none) (hfree : s.freeTraffic? = some p)
    (hl : s.lineOf u.key.extent u.key.frame = some l) :
    s.offerSeal i data u = ((s.pin l).openAccum p .seal u.key (some l)).joinSeal p i u data := by
  simp only [State.offerSeal, h, hfree, hl]

theorem State.offerSeal_full (h : s.findAccum .seal u.key = none) (hfree : s.freeTraffic? = none) : s.offerSeal i data u = s := by
  simp only [State.offerSeal, h, hfree]

theorem State.offerSeal_opens_pool {l : Fin 64} (h : s.findAccum .seal u.key = none) (hfree : s.freeTraffic? = some p)
    (hl : s.lineOf u.key.extent u.key.frame = some l) (hnone : (s.slot i).contribs = []) :
    OtherAccums s (s.offerSeal i data u) p ∧
      (s.offerSeal i data u).accum p = some { Accum.opened .seal u.key (some l) with
        runs := [(u.first, u.last)], pendingCount := 1 } ∧
      ((s.offerSeal i data u).slot i).contribs = [s.sealContribution p u data] ∧
      ((s.offerSeal i data u).line l).pins = (s.line l).pins + 1 := by
  let v := (s.pin l).openAccum p .seal u.key (some l)
  have hv : v.accum p = some (Accum.opened .seal u.key (some l)) := State.accum_setAccum_self ..
  have hslot : (v.slot i).contribs = [] := by
    rw [State.slot_congr (by simp [v] : v.slots = s.slots)]
    exact hnone
  obtain ⟨hothers, haccum, hcontribs, hstore⟩ := State.joinSeal_fits_pool (u := u) (data := data) hv rfl (Nat.one_le_ofNat) hslot
  rw [State.offerSeal_opens h hfree hl]
  refine ⟨fun q hq => (hothers q hq).trans ?_, haccum, hcontribs, ?_⟩
  · exact ((s.pin l).accum_setAccum p q _).trans (if_neg hq)
  · rw [State.line_congr hstore]
    exact congrArg Line.pins (s.pin_line l)

end

/-! ### The step -/

theorem exec_writeLinesReady {s : State} {r : Request} {exact : Bool} {i : Fin 256} (hhead : s.up.head = some ⟨r, exact, .lines i⟩)
    (hready : s.linesReady i = true) : exec (.writeLinesReady none) s = .next (s.writeJudged i r).syncStatusTimer := by
  have hwrite : s.writeReady = s.writeJudged i r := by simp only [State.writeReady, hhead, hready, if_true]
  exact congrArg State.done hwrite

/-- A write that is sent once its decision has kept the links: its request is the next to the media. -/
theorem LinksKept.sent {s u : State} (h : LinksKept s u) (r : Request) (i : Fin 256) :
    let t := ((u.setHead none).sendSlot i r).syncStatusTimer
    t.up.head = none ∧ t.ports.media = s.ports.media ++ [.request r.kind r.requester i r.addr r.count r.data] ∧
      (t.slot i).life = .outstanding ∧ (t.slot i).timer = some ⟨s.cfg.returnTimeout, 0⟩ ∧
      (t.slot i).contribs = (u.slot i).contribs ∧ t.pool = u.pool ∧ t.store = u.store := by
  obtain ⟨x, hx⟩ := ((u.setHead none).sendSlot i r).syncStatusTimer_eq
  have hslot := (u.setHead none).sendSlot_slot i r i
  rw [if_pos rfl] at hslot
  rw [hx]
  refine ⟨rfl, ?_, congrArg Slot.life hslot, (congrArg Slot.timer hslot).trans ?_, (congrArg Slot.contribs hslot).trans rfl, rfl, rfl⟩
  · change u.ports.media ++ _ = _
    rw [h.media]
  · change some (Timer.start u.cfg.returnTimeout) = _
    rw [h.cfg]
    rfl

section

variable {s : State} {r : Request} {i : Fin 256}

/-- Each copy that an allowed write touches in a DEFINED or OPEN extent, whose line takes changes, is UNSEALED (R127). -/
theorem State.accepted_unsealed {u : Touched} (hu : u ∈ s.ingestTouched r.addr r.count) {l : Fin 64} (h : Accepts u.key l s) :
    ((s.accepted i r).entryIn l u.key.frame).copyState u.key.copy = .unsealed := by
  obtain ⟨hlinks, hlines, hmend⟩ := s.offered_keeps i r
  exact (h.shelved hlines hlinks hmend).loop _ (.inl (List.mem_map_of_mem hu))

/-- The one copy of a write that touches no other: its acceptance follows its offer, and leaves the pool, the slots and the pins. -/
theorem State.accepted_of_one {u : Touched} (hone : s.touched r.addr r.count = [u])
    (hstate : (s.extent u.key.extent).state.ingest = true) (hidle : s.mend.active = none) :
    Told u.key.copy .unsealed (s.offerSeal i r.data u) (s.accepted i r) := by
  have hin : s.inState ExtentState.ingest u = true := hstate
  have haccepted : s.accepted i r = (s.offerSeal i r.data u).acceptCopy u.key := by
    simp [State.accepted, State.offered, State.ingestTouched, hone, hin, forEach]
  rw [haccepted]
  exact State.tell_told (by rw [State.offerSeal_mend]; exact hidle) ..

end

/-- Settles O27: by the judgment; each copy is accepted, and the copy that is offered alone meets the pool as it stands. -/
theorem writeWithItsLines : Obligations.WriteWithItsLines := by
  intro s r exact i hhead hready
  have hexec := exec_writeLinesReady hhead hready
  obtain ⟨hrefused, hbusy, hplain, hingest⟩ := s.writeJudged_eq i r
  refine ⟨fun hj => ?_, fun hj => ?_⟩
  · by_cases hn : s.ingestTouched r.addr r.count = []
    · let w := (s.unpinSlot i).setSlot i { (s.unpinSlot i).slot i with pins := [] }
      have hw : LinksKept s w := ⟨by simp [w], by simp [w], by simp [w], by simp [w]⟩
      obtain ⟨hup, hmedia, hlife, htimer, -⟩ := hw.sent r i
      rw [hplain hj hn] at hexec
      refine ⟨_, hexec, hup, hmedia, hlife, htimer, fun u hu => ?_, fun u hone hstate => ?_⟩
      · rw [hn] at hu
        cases hu
      · have hin : s.inState ExtentState.ingest u = true := hstate
        simp [State.ingestTouched, hone, hin] at hn
    · obtain ⟨hup, hmedia, hlife, htimer, hcontribs, hpool, hstore⟩ := (s.accepted_links i r).sent r i
      rw [hingest hj hn, State.ingest_eq] at hexec
      refine ⟨_, hexec, hup, hmedia, hlife, htimer, fun u hu l hidle hl hwaits hholds hlen hframe hcopy hrep => ?_,
        fun u hone hstate hidle hnone => ?_⟩
      · have hstate : (s.extent u.key.extent).state.ingest = true := (List.mem_filter.mp hu).2
        have haccepts : Accepts u.key l s := ⟨hidle, hl, hwaits, hholds, hlen, fun c => by simp [c, ExtentState.ingest] at hstate, hframe,
          hcopy, hrep⟩
        have hunsealed := State.accepted_unsealed (i := i) hu haccepts
        unfold State.entryIn at hunsealed ⊢
        rw [State.line_congr hstore]
        exact hunsealed
      · intro d joined
        have htold := State.accepted_of_one (r := r) (i := i) hone hstate hidle
        have haccum := State.accum_congr (hpool.trans htold.pool)
        have hcontribs' := hcontribs.trans (congrArg Slot.contribs (State.slot_congr htold.slots i))
        refine ⟨fun p a hfind ha hold => ?_, fun p l hfind hfree hl => ?_, fun hfind hfree => ?_⟩
        · have hoffer := State.offerSeal_found (i := i) (data := r.data) hfind
          by_cases hover : overlapsRuns a.runs u.first u.last = true ∨ 8 < (insertRun u.first u.last a.runs).length
          · obtain ⟨hothers, hgone, hempty⟩ := State.abandon_pool (i := i) ha hold hnone
            rw [← State.joinSeal_over (i := i) (data := r.data) ha hover, ← hoffer] at hothers hgone hempty
            refine ⟨fun q hq => (haccum q).trans (hothers q hq), fun _ => ⟨(haccum p).trans hgone, hcontribs'.trans hempty⟩,
              fun hno hlen => absurd hover ?_⟩
            simp [hno, hlen]
          · rw [not_or, Bool.not_eq_true, not_lt] at hover
            obtain ⟨hothers, hjoined, hhas, -⟩ := State.joinSeal_fits_pool (data := r.data) ha hover.1 hover.2 hnone
            rw [← hoffer] at hothers hjoined hhas
            refine ⟨fun q hq => (haccum q).trans (hothers q hq), fun hbad => ?_,
              fun _ _ => ⟨(haccum p).trans hjoined, hcontribs'.trans hhas⟩⟩
            rcases hbad with hbad | hbad
            · simp [hover.1] at hbad
            · exact absurd hbad (not_lt.mpr hover.2)
        · obtain ⟨hothers, hopened, hhas, hpins⟩ := State.offerSeal_opens_pool (data := r.data) hfind hfree hl hnone
          refine ⟨fun q hq => (haccum q).trans (hothers q hq), (haccum p).trans hopened, hcontribs'.trans hhas, ?_⟩
          rw [State.line_congr hstore, htold.pins, hpins]
        · have hoffer := State.offerSeal_full (i := i) (data := r.data) hfind hfree
          rw [hoffer] at htold hcontribs'
          exact ⟨hpool.trans htold.pool, hcontribs'.trans hnone⟩
  · have hanswered : ∀ {u : State} {status : UpStatus}, u.up = s.up → u.slots = s.slots → u.ports = s.ports →
        s.writeJudged i r = u.answerHead status →
        ∃ t, exec (.writeLinesReady none) s = .next t ∧ t.up.head = none ∧ t.ports.media = s.ports.media ∧
          (t.slot i).life = .free ∧ t.ports.upstream = s.ports.upstream ++ [⟨(s.slot i).requester, (s.slot i).tag, status, []⟩] := by
      intro u status hup hslots hports hjudged
      have hans := State.answerHead_lines (s := u) (by rw [hup]; exact hhead) status
      have hreturn := hans.ports
      unfold Returned at hreturn
      rw [State.slot_congr hslots, hports] at hreturn
      rw [hjudged] at hexec
      refine ⟨_, hexec, ?_, ?_, ?_, ?_⟩
      · rw [State.syncStatusTimer_up, hans.up]
      · rw [State.syncStatusTimer_ports, hreturn]
      · rw [State.slot_congr (State.syncStatusTimer_slots _), hans.free]
        rfl
      · rw [State.syncStatusTimer_ports, hreturn]
    cases hjudge : s.judge false r.addr r.count with
    | allowed => exact absurd hjudge hj
    | busy =>
      obtain ⟨t, hstep, hup, hmedia, hlife, hupstream⟩ := hanswered rfl rfl rfl (hbusy hjudge)
      exact ⟨t, hstep, hup, hmedia, hlife, _, hupstream, rfl, rfl, rfl, rfl⟩
    | refused =>
      obtain ⟨t, hstep, hup, hmedia, hlife, hupstream⟩ := hanswered (by simp [State.logRefused]) (by simp [State.logRefused])
        (by simp [State.logRefused]) (hrefused hjudge)
      exact ⟨t, hstep, hup, hmedia, hlife, _, hupstream, rfl, rfl, rfl, by simp⟩

end Sys2Proof.Machine

/-!
PROOFS. A read's frame copy is offered as CHECK (R64, R65, R70).
-/

namespace Sys2Proof.Machine

/-! ### What an offer leaves of the links and the request -/

/-- The links, the settings and the map are as they were, and slot `i` is the same request's. -/
structure Offering (i : Fin 256) (s t : State) : Prop where
  up : t.up = s.up
  ports : t.ports = s.ports
  cfg : t.cfg = s.cfg
  map : t.map = s.map
  request : (t.slot i).kind = (s.slot i).kind ∧ (t.slot i).requester = (s.slot i).requester ∧ (t.slot i).tag = (s.slot i).tag ∧
    (t.slot i).addr = (s.slot i).addr ∧ (t.slot i).count = (s.slot i).count

theorem Offering.trans {i : Fin 256} {s t u : State} (h : Offering i s t) (k : Offering i t u) : Offering i s u := by
  obtain ⟨h1, h2, h3, h4, h5⟩ := h.request
  obtain ⟨k1, k2, k3, k4, k5⟩ := k.request
  exact ⟨k.up.trans h.up, k.ports.trans h.ports, k.cfg.trans h.cfg, k.map.trans h.map, k1.trans h1, k2.trans h2, k3.trans h3,
    k4.trans h4, k5.trans h5⟩

theorem Offering.of_slots {i : Fin 256} {s t : State} (hup : t.up = s.up) (hports : t.ports = s.ports) (hcfg : t.cfg = s.cfg)
    (hmap : t.map = s.map) (hslots : t.slots = s.slots) : Offering i s t := by
  refine ⟨hup, hports, hcfg, hmap, ?_⟩
  rw [State.slot_congr hslots]
  exact ⟨rfl, rfl, rfl, rfl, rfl⟩

theorem Offering.refl (i : Fin 256) (s : State) : Offering i s s := .of_slots rfl rfl rfl rfl rfl

/-- The accumulator at `p` is now `b`, and the read in slot `i` contributes `c` to it. -/
structure Checked (p : Fin 32) (b : Accum) (i : Fin 256) (c : Contribution) (s t : State) : Prop extends Offering i s t where
  accum : t.accum p = some b
  accums : OtherAccums s t p
  slots : OtherSlots s t i
  contribs : (t.slot i).contribs = (s.slot i).contribs ++ [c]
  watches : (t.slot i).watches = (s.slot i).watches

section

variable {s : State} {i : Fin 256} {u : Touched} {p : Fin 32}

/-! ### A read meets an accumulator (R70) -/

theorem State.joinRead_over {a : Accum} (ha : s.accum p = some a) (h : 8 < (insertRun u.first u.last a.runs).length) :
    s.joinRead p i u = s.abandon p := by
  simp only [State.joinRead, ha, if_pos h]

theorem State.joinRead_watches {a : Accum} (ha : s.accum p = some a) (hlen : (insertRun u.first u.last a.runs).length ≤ 8)
    (hnew : gaps a.runs u.first u.last = []) (hm : a.mode = .check) :
    s.joinRead p i u = s.setSlot i { s.slot i with watches := (s.slot i).watches ++ [p] } := by
  simp [State.joinRead, ha, hnew, Nat.not_lt.mpr hlen, hm]

/-- The contribution with which a read joins the accumulator at `p`: the blocks not reserved yet. -/
def Accum.checkContribution (a : Accum) (p : Fin 32) (u : Touched) : Contribution :=
  ⟨p, u.first, u.start, gaps a.runs u.first u.last, 0, 0⟩

theorem State.joinRead_checked {a : Accum} (ha : s.accum p = some a) (hlen : (insertRun u.first u.last a.runs).length ≤ 8)
    (hnew : gaps a.runs u.first u.last ≠ []) :
    Checked p (a.reserving u.first u.last) i (a.checkContribution p u) s (s.joinRead p i u) ∧
      (s.joinRead p i u).store = s.store ∧ (s.joinRead p i u).arb = s.arb := by
  rw [State.joinRead_reserves ha i hlen hnew]
  have hslot : ((s.setAccum p (some (a.reserving u.first u.last))).addContribution i (a.checkContribution p u)).slot i =
      { s.slot i with contribs := (s.slot i).contribs ++ [a.checkContribution p u] } := State.slot_setSlot_self ..
  refine ⟨⟨⟨rfl, rfl, rfl, rfl, ?_⟩, State.accum_setAccum_self s p _, fun q hq => (State.accum_setAccum s p q _).trans (if_neg hq),
    fun j hj => (State.addContribution_slot _ i _ j).trans (if_neg hj), congrArg Slot.contribs hslot,
    (congrArg Slot.watches hslot).trans rfl⟩, rfl, rfl⟩
  exact ⟨(congrArg Slot.kind hslot).trans rfl, (congrArg Slot.requester hslot).trans rfl, (congrArg Slot.tag hslot).trans rfl,
    (congrArg Slot.addr hslot).trans rfl, (congrArg Slot.count hslot).trans rfl⟩

/-- The accumulator that a read opens on line `l`, with its run reserved. -/
def Accum.checking (u : Touched) (l : Fin 64) : Accum :=
  { Accum.opened .check u.key (some l) with runs := [(u.first, u.last)], pendingCount := 1 }

theorem gaps_nil {a b : Nat} (h : a ≤ b) : gaps [] a b = [(a, b)] := if_pos h

/-- An accumulator opened on a line that was pinned for it takes the read's run. -/
theorem State.opens_checked {v : State} (l : Fin 64) (hv : Offering i s v) (hpool : v.pool = s.pool) (hslots : v.slots = s.slots)
    (hrun : u.first ≤ u.last) :
    Checked p (Accum.checking u l) i ⟨p, u.first, u.start, [(u.first, u.last)], 0, 0⟩ s
        ((v.openAccum p .check u.key (some l)).joinRead p i u) ∧
      ((v.openAccum p .check u.key (some l)).joinRead p i u).store = v.store ∧
      ((v.openAccum p .check u.key (some l)).joinRead p i u).arb = v.arb := by
  have ha : (v.openAccum p .check u.key (some l)).accum p = some (Accum.opened .check u.key (some l)) :=
    State.accum_setAccum_self ..
  have hgaps : gaps (Accum.opened .check u.key (some l)).runs u.first u.last = [(u.first, u.last)] := gaps_nil hrun
  obtain ⟨h, hstore, harb⟩ := State.joinRead_checked (i := i) (u := u) ha (Nat.one_le_ofNat) (by rw [hgaps]; simp)
  have hslot := State.slot_congr hslots
  have hcontribution : (Accum.opened .check u.key (some l)).checkContribution p u =
      ⟨p, u.first, u.start, [(u.first, u.last)], 0, 0⟩ := by
    simp only [Accum.checkContribution, hgaps]
  rw [hcontribution] at h
  refine ⟨⟨hv.trans ((Offering.of_slots rfl rfl rfl rfl rfl : Offering i v (v.openAccum p .check u.key (some l))).trans h.toOffering),
    h.accum, fun q hq => (h.accums q hq).trans ?_, fun j hj => (h.slots j hj).trans (hslot j), ?_, ?_⟩, hstore, harb⟩
  · exact ((v.accum_setAccum p q _).trans (if_neg hq)).trans (State.accum_congr hpool q)
  · rw [← hslot i]
    exact h.contribs
  · rw [← hslot i]
    exact h.watches

/-! ### The offer (R64, R65) -/

theorem State.offerCheck_unsealed (h : (s.extent u.key.extent).state ≠ .sealed) : s.offerCheck i u = s := by
  simp only [State.offerCheck, h, ne_eq, not_false_eq_true, if_true]

variable (hs : (s.extent u.key.extent).state = .sealed)
include hs

theorem State.offerCheck_found (h : s.findAccum .check u.key = some p) : s.offerCheck i u = s.joinRead p i u := by
  simp [State.offerCheck, hs, h]

theorem State.offerCheck_full (h : s.findAccum .check u.key = none) (hfree : s.freeTraffic? = none) : s.offerCheck i u = s := by
  simp [State.offerCheck, hs, h, hfree]

variable (h : s.findAccum .check u.key = none) (hfree : s.freeTraffic? = some p)
include h hfree

/-- No line holds the block and none may be taken: the read goes unchecked. -/
theorem State.offerCheck_noLine (hfind : s.findLine ((s.extent u.key.extent).digestBlock u.key.frame) = none)
    (hv : s.victim? = none) : s.offerCheck i u = s.queueEviction none := by
  simp [State.offerCheck, hs, h, hfree, State.requestLineNow, hfind, hv]

/-- A line is taken for the block, and will be filled. -/
theorem State.offerCheck_taken {v : Fin 64} (hfind : s.findLine ((s.extent u.key.extent).digestBlock u.key.frame) = none)
    (hv : s.victim? = some v) :
    s.offerCheck i u = ((s.takeForFill v ((s.extent u.key.extent).digestBlock u.key.frame) u.key.extent).openAccum p .check u.key
      (some v)).joinRead p i u := by
  have hfill : ((s.takeForFill v ((s.extent u.key.extent).digestBlock u.key.frame) u.key.extent).line v).state.holds = false := by
    rw [State.takeForFill_line_self]
    rfl
  simp [State.offerCheck, hs, h, hfree, State.requestLineNow, hfind, hv, hfill]

variable {l : Fin 64} (hfind : s.findLine ((s.extent u.key.extent).digestBlock u.key.frame) = some l)
include hfind

/-- The line that holds the block is FILLING, or has the copy SEALED or SUSPECT: an accumulator is opened. -/
theorem State.offerCheck_opens (hline : (s.line l).state = .filling ∨ ((s.line l).state.holds = true ∧
    ((s.entryIn l u.key.frame).copyState u.key.copy = .sealed ∨ (s.entryIn l u.key.frame).copyState u.key.copy = .suspect))) :
    s.offerCheck i u = ((s.pin l).openAccum p .check u.key (some l)).joinRead p i u := by
  have hpin := s.pin_line l
  have hentry : (s.pin l).entryIn l u.key.frame = s.entryIn l u.key.frame := by
    unfold State.entryIn
    rw [hpin]
    rfl
  rcases hline with hfill | ⟨hholds, hcopy⟩
  · have hno : ((s.pin l).line l).state.holds = false := by
      rw [hpin]
      simp [hfill, LineState.holds]
    simp [State.offerCheck, hs, h, hfree, State.requestLineNow, hfind, hno]
  · have hyes : ((s.pin l).line l).state.holds = true := by
      rw [hpin]
      exact hholds
    rcases hcopy with hc | hc <;> simp [State.offerCheck, hs, h, hfree, State.requestLineNow, hfind, hyes, hentry, hc]

/-- The copy is in another state: its line's pin is released, and a MENDING copy is reported (R154). -/
theorem State.offerCheck_leaves (hholds : (s.line l).state.holds = true) :
    ((s.entryIn l u.key.frame).copyState u.key.copy ∉ [CopyState.sealed, .suspect, .mending] →
      s.offerCheck i u = (s.pin l).unpin l) ∧
    ((s.entryIn l u.key.frame).copyState u.key.copy = .mending → s.offerCheck i u = ((s.pin l).unpin l).foundMending u.key) := by
  have hpin := s.pin_line l
  have hentry : (s.pin l).entryIn l u.key.frame = s.entryIn l u.key.frame := by
    unfold State.entryIn
    rw [hpin]
    rfl
  have hyes : ((s.pin l).line l).state.holds = true := by
    rw [hpin]
    exact hholds
  refine ⟨fun hc => ?_, fun hc => by simp [State.offerCheck, hs, h, hfree, State.requestLineNow, hfind, hyes, hentry, hc]⟩
  simp only [List.mem_cons, List.not_mem_nil, or_false, not_or] at hc
  obtain ⟨hsealed, hsuspect, hmending⟩ := hc
  simp [State.offerCheck, hs, h, hfree, State.requestLineNow, hfind, hyes, hentry]

end

/-- A pin that is taken and released at once leaves its line as it was. -/
theorem State.pin_unpin_line (s : State) (l k : Fin 64) : ((s.pin l).unpin l).line k = s.line k := by
  have hline : ((s.pin l).unpin l).line k =
      { (s.pin l).line k with pins := ((s.pin l).line k).pins - if some l = some k then 1 else 0 } :=
    (s.pin l).unpin?_line (some l) k
  by_cases hk : k = l
  · rw [hline, hk, State.pin_line]
    simp
  · rw [hline, (s.pin_onLine l).lines k hk, if_neg (by simpa using Ne.symm hk)]
    rfl

end Sys2Proof.Machine

/-!
PROOFS. The read goes to the media once its frame copies were offered; an accumulator it meets (R70, R80).
-/

namespace Sys2Proof.Machine

/-! ### The step -/

/-- The read's slot is taken. -/
def State.readSlot (s : State) (i : Fin 256) (r : Request) : State := s.setSlot i (Slot.assigned r)

/-- The read goes to the media with its slot, and the head is empty. -/
def State.readSent (s : State) (i : Fin 256) (r : Request) : State := ((s.setHead none).sendSlot i r).syncStatusTimer

theorem exec_read_inRunning {s : State} {r : Request} {i : Fin 256} {c : Instr} (hp : s.ldr.part = .running)
    (hk : r.kind = .read) (hslot : s.passSlot? = some i)
    (hc : (c = .controllerRequest r none ∧ s.takesHeader = true ∧ s.formFails r = false ∧ s.mediaUp = true ∧
        s.hasRight r = true) ∨ ∃ exact, c = .passthroughSlotTaken none ∧ s.up.head = some ⟨r, exact, .slot true⟩) :
    exec c s = .next ((forEach ((s.touched r.addr r.count).take 4) (fun u t => t.offerCheck i u) (s.readSlot i r)).readSent i r) := by
  have hrun : s.running = true := s.running_iff.mpr hp
  have htake : ∀ exact, s.takeSlot r exact true =
      ((forEach ((s.touched r.addr r.count).take 4) (fun u t => t.offerCheck i u) (s.readSlot i r)).setHead none).sendSlot i r := by
    intro exact
    have hrun' : (s.setSlot i (Slot.assigned r)).running = true := hrun
    simp only [State.takeSlot, hslot, State.hasSlot, hk, State.readProceeds, hrun', Bool.and_self, if_true]
    rfl
  rcases hc with ⟨rfl, htakes, hform, hm, hright⟩ | ⟨exact, rfl, hhead⟩
  · have hdecide : s.decideRequest r = .forward := by
      simp [State.decideRequest, hform, State.decideRest, hm, hp, hright, State.decideProtection, hk]
    have hstep := exec_controllerRequest_taken r htakes
    rw [hdecide] at hstep
    have hcarry : s.carryOut r .forward = s.takeSlot r (s.isExact r) true := by
      simp only [State.carryOut, hrun, Bool.true_and]
    rw [hcarry, htake] at hstep
    exact hstep
  · have htaken : s.slotTaken = s.takeSlot r exact true := by simp only [State.slotTaken, hhead]
    exact congrArg State.done (htaken.trans (htake exact))

section

variable (s : State) (i : Fin 256) (r : Request)

@[simp] theorem State.readSent_arb : (s.readSent i r).arb = s.arb := by simp [State.readSent]
@[simp] theorem State.readSent_map : (s.readSent i r).map = s.map := by simp [State.readSent]
@[simp] theorem State.readSent_pool : (s.readSent i r).pool = s.pool := by simp [State.readSent]
@[simp] theorem State.readSent_store : (s.readSent i r).store = s.store := by simp [State.readSent]
@[simp] theorem State.readSent_walk : (s.readSent i r).walk = s.walk := by simp [State.readSent]
@[simp] theorem State.readSent_mend : (s.readSent i r).mend = s.mend := by simp [State.readSent]

theorem State.readSent_ports : (s.readSent i r).ports =
    { s.ports with media := s.ports.media ++ [.request r.kind r.requester i r.addr r.count r.data] } := by
  simp [State.readSent]

theorem State.readSent_accum (p : Fin 32) : (s.readSent i r).accum p = s.accum p := State.accum_congr (s.readSent_pool i r) p

theorem State.readSent_line (l : Fin 64) : (s.readSent i r).line l = s.line l := State.line_congr (s.readSent_store i r) l

theorem State.readSent_slot (j : Fin 256) : (s.readSent i r).slot j =
    if j = i then { s.slot i with life := .outstanding, timer := some (Timer.start s.cfg.returnTimeout) } else s.slot j := by
  rw [State.readSent, State.slot_congr (State.syncStatusTimer_slots _), State.sendSlot_slot]
  rfl

theorem State.readSent_self : ((s.readSent i r).slot i).life = .outstanding ∧
    ((s.readSent i r).slot i).contribs = (s.slot i).contribs ∧ ((s.readSent i r).slot i).watches = (s.slot i).watches := by
  rw [State.readSent_slot, if_pos rfl]
  exact ⟨rfl, rfl, rfl⟩

theorem State.readSlot_self : (s.readSlot i r).slot i = Slot.assigned r := State.slot_setSlot_self ..

end

section

variable {s x : State} {i : Fin 256} {r : Request}

theorem Offering.sent (h : Offering i (s.readSlot i r) x) : SentWith s (x.readSent i r) r i := by
  have hslot := s.readSlot_self i r
  refine (State.sentWith_sendSlot (by rw [State.setHead, h.up]) ((State.setHead_ports x none).trans h.ports)
    ((State.setHead_cfg x none).trans h.cfg) ?_).sync
  have hreq := h.request
  rw [hslot] at hreq
  exact hreq

theorem OtherSlots.readSent (h : OtherSlots (s.readSlot i r) x i) : OtherSlots s (x.readSent i r) i := by
  intro j hj
  rw [State.readSent_slot, if_neg hj, h j hj]
  exact (s.slot_setSlot i j _).trans (if_neg hj)

theorem OtherAccums.readSent {p : Fin 32} (h : OtherAccums (s.readSlot i r) x p) : OtherAccums s (x.readSent i r) p :=
  fun q hq => (x.readSent_accum i r q).trans (h q hq)

/-! ### What a read's accumulator takes -/

/-- The read's new slot holds nothing. -/
theorem State.readSlot_empty (s : State) (i : Fin 256) (r : Request) : ((s.readSlot i r).slot i).contribs = [] ∧
    ((s.readSlot i r).slot i).watches = [] := by
  rw [s.readSlot_self i r]
  exact ⟨rfl, rfl⟩

theorem Checked.sends {p : Fin 32} {b : Accum} {c : Contribution} (h : Checked p b i c (s.readSlot i r) x) :
    SentWith s (x.readSent i r) r i ∧ OtherSlots s (x.readSent i r) i ∧ OtherAccums s (x.readSent i r) p ∧
      (x.readSent i r).accum p = some b ∧ ((x.readSent i r).slot i).contribs = [c] ∧ ((x.readSent i r).slot i).watches = [] := by
  obtain ⟨-, hcontribs, hwatches⟩ := x.readSent_self i r
  obtain ⟨hnone, hnowatch⟩ := s.readSlot_empty i r
  exact ⟨h.toOffering.sent, h.slots.readSent, h.accums.readSent, (x.readSent_accum i r p).trans h.accum,
    hcontribs.trans (by rw [h.contribs, hnone]; rfl), hwatches.trans (by rw [h.watches, hnowatch])⟩

/-- A step that leaves the slots leaves the read's slot empty, and the others. -/
theorem Offering.sends_empty (h : Offering i (s.readSlot i r) x) (hslots : x.slots = (s.readSlot i r).slots) :
    SentWith s (x.readSent i r) r i ∧ ((x.readSent i r).slot i).contribs = [] ∧ ((x.readSent i r).slot i).watches = [] ∧
      OtherSlots s (x.readSent i r) i := by
  obtain ⟨-, hcontribs, hwatches⟩ := x.readSent_self i r
  obtain ⟨hnone, hnowatch⟩ := s.readSlot_empty i r
  have hslot := State.slot_congr hslots
  exact ⟨h.sent, hcontribs.trans (by rw [hslot, hnone]), hwatches.trans (by rw [hslot, hnowatch]),
    OtherSlots.readSent fun j _ => hslot j⟩

end

section

variable {s : State} {i : Fin 256} {p : Fin 32} {a : Accum}

theorem State.abandon_slot (ha : s.accum p = some a) (hold : a.holding = []) (j : Fin 256) :
    (s.abandon p).slot j = ((s.slot j).dropAccum p).dropWatch p := by
  rw [State.abandon_of_unheld ha hold, State.slot_congr (State.unpin?_slots _ _), State.slot_congr (State.setAccum_slots _ _ _),
    State.slot_mapSlots]
  exact congrArg (fun x : Slot => x.dropWatch p) (State.slot_mapSlots s _ j)

/-- An accumulator that holds no return is abandoned with nothing sent upstream (R80). -/
theorem State.abandon_offering (ha : s.accum p = some a) (hold : a.holding = []) : Offering i s (s.abandon p) := by
  have hh : s.unheld p := fun b hb => by
    rw [ha] at hb
    cases hb
    exact hold
  refine ⟨State.abandon_up s p, (State.abandon_granting hh).ports, State.abandon_cfg s p, State.abandon_map s p, ?_⟩
  rw [State.abandon_slot ha hold]
  exact ⟨rfl, rfl, rfl, rfl, rfl⟩

end

/-! ### An abandoned accumulator's held return (R77, R80) -/

theorem heldStatus_noVerdict (outcomes : List SlotOutcome) : heldStatus (outcomes ++ [.noVerdict]) = heldStatus outcomes := by
  simp [heldStatus]

section

variable {s : State} {p : Fin 32} {j : Fin 256}

theorem State.standing_false (h : ∀ q b, s.accum q = some b → j ∉ b.holding) : s.standing j = false := by
  rw [State.standing, List.any_eq_false]
  intro q _
  cases hq : s.accum q with
  | none => simp
  | some b => simpa using h q b hq

/-- A held return that awaits no other verdict goes upstream as its accumulator ends with none. -/
theorem State.giveOutcome_noVerdict (hl : (s.slot j).life = .held) (hh : (s.slot j).held = true) (hb : (s.slot j).batch = false)
    (hst : s.standing j = false) :
    (∀ k, (s.giveOutcome .noVerdict j).slot k = if k = j then Slot.freeSlot else s.slot k) ∧
      (s.giveOutcome .noVerdict j).ports = { s.ports with upstream := s.ports.upstream ++
        [⟨(s.slot j).requester, (s.slot j).tag, heldStatus (s.slot j).outcomes, (s.slot j).data⟩] } ∧
      (s.giveOutcome .noVerdict j).pool = s.pool := by
  let u := s.setSlot j { s.slot j with outcomes := (s.slot j).outcomes ++ [.noVerdict] }
  have hslot : u.slot j = { s.slot j with outcomes := (s.slot j).outcomes ++ [.noVerdict] } := State.slot_setSlot_self ..
  have hstand : u.standing j = false := hst
  have heq : s.giveOutcome .noVerdict j = u.endSlot j (heldStatus (s.slot j).outcomes) (s.slot j).data := by
    show u.tryRelease j = _
    simp only [State.tryRelease]
    rw [hslot, if_pos ⟨hl, hh, hb, hstand⟩]
    exact congrArg (fun st => u.endSlot j st (s.slot j).data) (heldStatus_noVerdict _)
  rw [heq]
  refine ⟨fun k => ?_, ?_, by simp [u]⟩
  · rw [State.slot_endSlot]
    by_cases hk : k = j
    · rw [if_pos hk, if_pos hk]
    · rw [if_neg hk, if_neg hk]
      exact (s.slot_setSlot j k _).trans (if_neg hk)
  · rw [State.endSlot_upstream, hslot]
    rfl

/-- The accumulator that holds one return is abandoned, and the return goes upstream. -/
theorem State.abandon_held {a : Accum} (ha : s.accum p = some a) (hold : a.holding = [j]) (hl : (s.slot j).life = .held)
    (hh : (s.slot j).held = true) (hb : (s.slot j).batch = false)
    (hother : ∀ q b, q ≠ p → s.accum q = some b → j ∉ b.holding) :
    (s.abandon p).accum p = none ∧ OtherAccums s (s.abandon p) p ∧
      (∀ k, (s.abandon p).slot k = if k = j then Slot.freeSlot else ((s.slot k).dropAccum p).dropWatch p) ∧
      (s.abandon p).ports = { s.ports with upstream := s.ports.upstream ++
        [⟨(s.slot j).requester, (s.slot j).tag, heldStatus (s.slot j).outcomes, (s.slot j).data⟩] } := by
  let u := ((((s.mapSlots fun x => x.dropAccum p).dropWaiting (.accum p)).mapSlots fun x => x.dropWatch p).setAccum p none).unpin?
    a.line
  have hslot : ∀ k, u.slot k = ((s.slot k).dropAccum p).dropWatch p := fun k => by
    rw [State.slot_congr (State.unpin?_slots _ _), State.slot_congr (State.setAccum_slots _ _ _), State.slot_mapSlots]
    exact congrArg (fun x : Slot => x.dropWatch p) (State.slot_mapSlots s _ k)
  have hpool : ∀ q, u.accum q = if q = p then none else s.accum q := fun q => by
    rw [State.accum_congr (State.unpin?_pool _ _), State.accum_setAccum]
    rfl
  have hstand : u.standing j = false := State.standing_false fun q b hq => by
    rw [hpool] at hq
    split at hq
    · cases hq
    next hne => exact hother q b hne hq
  have heq : s.abandon p = u.giveOutcome .noVerdict j := by
    have hkept : ((s.mapSlots fun x => x.dropAccum p).dropWaiting (.accum p)).accum p = some a := ha
    rw [State.abandon, ha]
    dsimp only
    rw [State.endAccum, hkept]
    dsimp only
    rw [hold]
    rfl
  have hports : u.ports = s.ports := by simp [u]
  have hj := hslot j
  obtain ⟨hslots, hup, hkept⟩ := State.giveOutcome_noVerdict (s := u) (j := j) (by rw [hj]; exact hl) (by rw [hj]; exact hh)
    (by rw [hj]; exact hb) hstand
  rw [heq]
  refine ⟨?_, fun q hq => ?_, fun k => ?_, ?_⟩
  · rw [State.accum_congr hkept, hpool, if_pos rfl]
  · rw [State.accum_congr hkept, hpool, if_neg hq]
  · rw [hslots, hslot]
  · rw [hup, hj, hports]
    rfl

end

end Sys2Proof.Machine

/-!
PROOFS. A read with one frame copy to check (R64, R65, R70, R154).
-/

namespace Sys2Proof.Machine

section

variable {s : State} {i : Fin 256} {r : Request} {u : Touched} {p : Fin 32}

theorem State.readSlot_findAccum (mode : AccumMode) (k : FrameKey) : (s.readSlot i r).findAccum mode k = s.findAccum mode k :=
  State.findAccum_congr rfl mode k

theorem State.readSlot_findLine (tag : Nat) : (s.readSlot i r).findLine tag = s.findLine tag := State.findLine_of_store rfl tag

variable (hs : (s.extent u.key.extent).state = .sealed)
include hs

/-! ### An accumulator stands (R70) -/

theorem State.read_abandons {a : Accum} (hf : s.findAccum .check u.key = some p) (ha : s.accum p = some a)
    (hold : a.holding = []) (hover : 8 < (insertRun u.first u.last a.runs).length) :
    let t := ((s.readSlot i r).offerCheck i u).readSent i r
    SentWith s t r i ∧ t.arb = s.arb ∧ t.map = s.map ∧ t.walk = s.walk ∧ t.mend = s.mend ∧ OtherAccums s t p ∧
      t.accum p = none ∧ (t.slot i).contribs = [] ∧ (t.slot i).watches = [] := by
  have ha' : (s.readSlot i r).accum p = some a := ha
  have hjoin : (s.readSlot i r).offerCheck i u = (s.readSlot i r).abandon p := by
    rw [State.offerCheck_found (s := s.readSlot i r) hs ((State.readSlot_findAccum _ _).trans hf),
      State.joinRead_over ha' hover]
  obtain ⟨hnone, hnowatch⟩ := s.readSlot_empty i r
  obtain ⟨hothers, hfree, -⟩ := State.abandon_pool (i := i) ha' hold hnone
  obtain ⟨-, hcontribs, hwatches⟩ := ((s.readSlot i r).abandon p).readSent_self i r
  have hslot := State.abandon_slot ha' hold i
  rw [hjoin]
  refine ⟨(State.abandon_offering ha' hold).sent, ?_, ?_, ?_, ?_, hothers.readSent, ?_, ?_, ?_⟩
  · rw [State.readSent_arb, State.abandon_arb]; rfl
  · rw [State.readSent_map, State.abandon_map]; rfl
  · rw [State.readSent_walk, State.abandon_walk]; rfl
  · rw [State.readSent_mend, State.abandon_mend]; rfl
  · rw [State.readSent_accum, hfree]
  · rw [hcontribs, hslot]
    simp [Slot.dropWatch, Slot.dropAccum, hnone]
  · rw [hwatches, hslot]
    simp [Slot.dropWatch, Slot.dropAccum, hnowatch]

theorem State.read_watches {a : Accum} (hf : s.findAccum .check u.key = some p) (ha : s.accum p = some a)
    (hlen : (insertRun u.first u.last a.runs).length ≤ 8) (hgaps : gaps a.runs u.first u.last = []) :
    let t := ((s.readSlot i r).offerCheck i u).readSent i r
    SentWith s t r i ∧ t.arb = s.arb ∧ SameShelf s t ∧ (t.slot i).contribs = [] ∧ (t.slot i).watches = [p] ∧
      OtherSlots s t i := by
  obtain ⟨hnone, hnowatch⟩ := s.readSlot_empty i r
  let x := (s.readSlot i r).setSlot i { (s.readSlot i r).slot i with watches := ((s.readSlot i r).slot i).watches ++ [p] }
  have hmode : a.mode = .check := by
    have hfound := List.find?_some hf
    simp only [ha, Bool.and_eq_true, decide_eq_true_eq] at hfound
    exact hfound.1
  have hjoin : (s.readSlot i r).offerCheck i u = x := by
    rw [State.offerCheck_found (s := s.readSlot i r) hs ((State.readSlot_findAccum _ _).trans hf),
      State.joinRead_watches (s := s.readSlot i r) ha hlen hgaps hmode]
  have hslot : x.slot i = { (s.readSlot i r).slot i with watches := ((s.readSlot i r).slot i).watches ++ [p] } :=
    State.slot_setSlot_self ..
  have hoff : Offering i (s.readSlot i r) x := by
    refine ⟨rfl, rfl, rfl, rfl, ?_⟩
    rw [hslot]
    exact ⟨rfl, rfl, rfl, rfl, rfl⟩
  obtain ⟨-, hcontribs, hwatches⟩ := x.readSent_self i r
  rw [hjoin]
  refine ⟨hoff.sent, x.readSent_arb i r, ⟨x.readSent_map i r, x.readSent_pool i r, x.readSent_store i r, x.readSent_walk i r,
    x.readSent_mend i r⟩, ?_, ?_, OtherSlots.readSent fun j hj => ((s.readSlot i r).slot_setSlot i j _).trans (if_neg hj)⟩
  · rw [hcontribs, hslot]
    exact hnone
  · rw [hwatches, hslot]
    exact congrArg (· ++ [p]) hnowatch

theorem State.read_joins {a : Accum} (hf : s.findAccum .check u.key = some p) (ha : s.accum p = some a)
    (hlen : (insertRun u.first u.last a.runs).length ≤ 8) (hgaps : gaps a.runs u.first u.last ≠ []) :
    Checked p (a.reserving u.first u.last) i (a.checkContribution p u) (s.readSlot i r) ((s.readSlot i r).offerCheck i u) ∧
      ((s.readSlot i r).offerCheck i u).arb = s.arb ∧ ((s.readSlot i r).offerCheck i u).walk = s.walk ∧
      ((s.readSlot i r).offerCheck i u).mend = s.mend := by
  have hjoin : (s.readSlot i r).offerCheck i u = (s.readSlot i r).joinRead p i u :=
    State.offerCheck_found (s := s.readSlot i r) hs ((State.readSlot_findAccum _ _).trans hf)
  obtain ⟨h, -, harb⟩ := State.joinRead_checked (s := s.readSlot i r) (i := i) (u := u) ha hlen hgaps
  rw [hjoin]
  exact ⟨h, harb, by simp; rfl, by simp; rfl⟩

theorem State.read_releases {a : Accum} {j : Fin 256} (hslot : s.passSlot? = some i) (hf : s.findAccum .check u.key = some p)
    (ha : s.accum p = some a) (hold : a.holding = [j]) (hover : 8 < (insertRun u.first u.last a.runs).length)
    (hl : (s.slot j).life = .held) (hh : (s.slot j).held = true) (hb : (s.slot j).batch = false)
    (hother : ∀ q b, q ≠ p → s.accum q = some b → j ∉ b.holding) :
    let t := ((s.readSlot i r).offerCheck i u).readSent i r
    t.accum p = none ∧ OtherAccums s t p ∧ (t.slot i).life = .outstanding ∧ (t.slot i).contribs = [] ∧
      (t.slot i).watches = [] ∧ t.slot j = Slot.freeSlot ∧
      t.ports.media = s.ports.media ++ [.request r.kind r.requester i r.addr r.count r.data] ∧
      t.ports.upstream = s.ports.upstream ++
        [⟨(s.slot j).requester, (s.slot j).tag, heldStatus (s.slot j).outcomes, (s.slot j).data⟩] := by
  have hji : j ≠ i := by
    rintro rfl
    rw [State.freeSlot_free (State.passSlot_freeSlot hslot)] at hl
    cases hl
  have hj : (s.readSlot i r).slot j = s.slot j := (s.slot_setSlot i j _).trans (if_neg hji)
  have hjoin : (s.readSlot i r).offerCheck i u = (s.readSlot i r).abandon p := by
    rw [State.offerCheck_found (s := s.readSlot i r) hs ((State.readSlot_findAccum _ _).trans hf),
      State.joinRead_over (s := s.readSlot i r) ha hover]
  obtain ⟨hfree, hothers, hslots, hports⟩ := State.abandon_held (s := s.readSlot i r) ha hold (by rw [hj]; exact hl)
    (by rw [hj]; exact hh) (by rw [hj]; exact hb) hother
  obtain ⟨hlife, hcontribs, hwatches⟩ := ((s.readSlot i r).abandon p).readSent_self i r
  obtain ⟨hnone, hnowatch⟩ := s.readSlot_empty i r
  have hself := hslots i
  rw [if_neg hji.symm] at hself
  rw [hj] at hports
  rw [hjoin]
  refine ⟨(State.readSent_accum _ i r p).trans hfree, hothers.readSent, hlife, ?_, ?_, ?_, ?_, ?_⟩
  · rw [hcontribs, hself]
    simp [Slot.dropWatch, Slot.dropAccum, hnone]
  · rw [hwatches, hself]
    simp [Slot.dropWatch, Slot.dropAccum, hnowatch]
  · rw [State.readSent_slot, if_neg hji, hslots, if_pos rfl]
  · rw [State.readSent_ports, hports]
    rfl
  · rw [State.readSent_ports, hports]
    rfl

end

end Sys2Proof.Machine

/-!
PROOFS. A read whose frame copy no accumulator of its mode gathers (R64, R65, R154).
-/

namespace Sys2Proof.Machine

/-- A pin taken and released leaves every line, and the state about the store. -/
theorem State.pin_unpin_offering (s : State) (i : Fin 256) (l : Fin 64) : Offering i s ((s.pin l).unpin l) :=
  .of_slots (by simp) (by simp) (by simp) (by simp) (by simp)

section

variable {s : State} {i : Fin 256} {r : Request} {u : Touched} (hs : (s.extent u.key.extent).state = .sealed)
  (hf : s.findAccum .check u.key = none)
include hs hf

/-- With no free traffic position the read goes unchecked. -/
theorem State.read_full (hfree : s.freeTraffic? = none) : (s.readSlot i r).offerCheck i u = s.readSlot i r :=
  State.offerCheck_full (s := s.readSlot i r) hs ((State.readSlot_findAccum _ _).trans hf) hfree

variable {p : Fin 32} (hfree : s.freeTraffic? = some p)
include hfree

/-- The digest block's line is FILLING, or has the copy SEALED or SUSPECT: an accumulator gathers the read. -/
theorem State.read_opens {l : Fin 64} (hfind : s.findLine ((s.extent u.key.extent).digestBlock u.key.frame) = some l)
    (hline : (s.line l).state = .filling ∨ ((s.line l).state.holds = true ∧
      ((s.entryIn l u.key.frame).copyState u.key.copy = .sealed ∨ (s.entryIn l u.key.frame).copyState u.key.copy = .suspect)))
    (hrun : u.first ≤ u.last) :
    let x := (s.readSlot i r).offerCheck i u
    Checked p (Accum.checking u l) i ⟨p, u.first, u.start, [(u.first, u.last)], 0, 0⟩ (s.readSlot i r) x ∧
      x.store = (s.pin l).store ∧ x.arb = s.arb := by
  have hopen := State.offerCheck_opens (s := s.readSlot i r) (i := i) hs ((State.readSlot_findAccum _ _).trans hf) hfree
    ((State.readSlot_findLine _).trans hfind) hline
  have hv : Offering i (s.readSlot i r) ((s.readSlot i r).pin l) := .of_slots (by simp) (by simp) (by simp) (by simp) (by simp)
  obtain ⟨h, hstore, harb⟩ := State.opens_checked (p := p) (u := u) l hv (State.pin_pool _ l) (State.pin_slots _ l) hrun
  rw [hopen]
  exact ⟨h, hstore.trans (State.pin_of_store rfl l), harb.trans (by simp; rfl)⟩

/-- A line is taken for the digest block; an accumulator gathers the read. -/
theorem State.read_takes {v : Fin 64} (hfind : s.findLine ((s.extent u.key.extent).digestBlock u.key.frame) = none)
    (hv : s.victim? = some v) (hrun : u.first ≤ u.last) :
    let block := (s.extent u.key.extent).digestBlock u.key.frame
    let x := (s.readSlot i r).offerCheck i u
    Checked p (Accum.checking u v) i ⟨p, u.first, u.start, [(u.first, u.last)], 0, 0⟩ (s.readSlot i r) x ∧
      TakenForFill s x v block u.key.extent ∧ x.store.queue = s.store.queue := by
  let block := (s.extent u.key.extent).digestBlock u.key.frame
  let w := (s.readSlot i r).takeForFill v block u.key.extent
  have htaken : (s.readSlot i r).offerCheck i u = (w.openAccum p .check u.key (some v)).joinRead p i u :=
    State.offerCheck_taken (s := s.readSlot i r) (i := i) hs ((State.readSlot_findAccum _ _).trans hf) hfree
      ((State.readSlot_findLine _).trans hfind) ((State.victim?_of_store rfl).trans hv)
  have hw : Offering i (s.readSlot i r) w := .of_slots (by simp [w]) (by simp [w]) (by simp [w]) (by simp [w]) (by simp [w])
  obtain ⟨h, hstore, harb⟩ := State.opens_checked (p := p) (u := u) v hw (State.takeForFill_pool _ v _ _)
    (State.takeForFill_slots _ v _ _) hrun
  have hw_store : w.store = (s.takeForFill v block u.key.extent).store := State.takeForFill_of_store rfl v block u.key.extent
  rw [htaken]
  refine ⟨h, .of_take (fun k => State.line_congr (hstore.trans hw_store) k) ?_, ?_⟩
  · rw [harb, State.takeForFill_arb]
    exact (State.takeForFill_arb (s.readSlot i r) v block u.key.extent).trans rfl
  · rw [hstore]
    exact (State.takeForFill_store_queue (s.readSlot i r) v block u.key.extent).trans rfl

/-- No line may be taken: the read goes unchecked. -/
theorem State.read_noLine (hfind : s.findLine ((s.extent u.key.extent).digestBlock u.key.frame) = none) (hv : s.victim? = none) :
    let x := (s.readSlot i r).offerCheck i u
    Offering i (s.readSlot i r) x ∧ x.slots = (s.readSlot i r).slots ∧ x.pool = s.pool ∧ x.store.queue = s.store.queue := by
  have hno := State.offerCheck_noLine (s := s.readSlot i r) (i := i) hs ((State.readSlot_findAccum _ _).trans hf) hfree
    ((State.readSlot_findLine _).trans hfind) ((State.victim?_of_store rfl).trans hv)
  rw [hno]
  exact ⟨.of_slots (by simp) (by simp) (by simp) (by simp) (by simp), State.queueEviction_slots _ _,
    (State.queueEviction_pool _ _).trans rfl, (State.queueEviction_store_queue _ _).trans rfl⟩

variable {l : Fin 64} (hfind : s.findLine ((s.extent u.key.extent).digestBlock u.key.frame) = some l)
  (hholds : (s.line l).state.holds = true)
include hfind hholds

/-- The copy is in another state, or a mend rewrites it: nothing but the slot is touched. -/
theorem State.read_leaves (hc : (s.entryIn l u.key.frame).copyState u.key.copy ∉ [CopyState.sealed, .suspect, .mending] ∨
      ((s.entryIn l u.key.frame).copyState u.key.copy = .mending ∧
        ∃ m, s.mend.active = some m ∧ m.key = u.key ∧ m.begun = true)) :
    let x := (s.readSlot i r).offerCheck i u
    Offering i (s.readSlot i r) x ∧ x.slots = (s.readSlot i r).slots ∧ x.arb = s.arb ∧ x.pool = s.pool ∧
      ∀ k, x.line k = s.line k := by
  obtain ⟨hother, hmend⟩ := State.offerCheck_leaves (s := s.readSlot i r) (i := i) hs ((State.readSlot_findAccum _ _).trans hf) hfree
    ((State.readSlot_findLine _).trans hfind) hholds
  have hleft : (s.readSlot i r).offerCheck i u = ((s.readSlot i r).pin l).unpin l := by
    rcases hc with hc | ⟨hc, m, hm, hkey, hbegun⟩
    · exact hother hc
    · rw [hmend hc, State.foundMending]
      simp [show (s.readSlot i r).mend.active = some m from hm, hkey, hbegun]
  rw [hleft]
  refine ⟨(s.readSlot i r).pin_unpin_offering i l, by simp, by simp; rfl, by simp; rfl, fun k => ?_⟩
  exact State.pin_unpin_line _ l k

/-- A MENDING copy that no mend rewrites becomes SUSPECT (R154). -/
theorem State.read_suspects (hc : (s.entryIn l u.key.frame).copyState u.key.copy = .mending) (hm : s.mend.active = none)
    (hl : (s.line l).extent = u.key.extent) (hwaits : (s.line l).waits = false) (hlen : (s.line l).entries.length = 256)
    (hframe : u.key.frame < (s.extent u.key.extent).frames)
    (hrep : u.key.copy = .copy1 → (s.extent u.key.extent).hasReplica = true) :
    let x := (s.readSlot i r).offerCheck i u
    Offering i (s.readSlot i r) x ∧ x.slots = (s.readSlot i r).slots ∧ x.pool = s.pool ∧
      x.entryIn l u.key.frame = (s.entryIn l u.key.frame).setCopy u.key.copy .suspect ∧ OtherLines s x l ∧
      (x.line l).pins = (s.line l).pins := by
  obtain ⟨-, hmend⟩ := State.offerCheck_leaves (s := s.readSlot i r) (i := i) hs ((State.readSlot_findAccum _ _).trans hf) hfree
    ((State.readSlot_findLine _).trans hfind) hholds
  let x0 := ((s.readSlot i r).pin l).unpin l
  have hlines : ∀ k, x0.line k = s.line k := fun k => State.pin_unpin_line (s.readSlot i r) l k
  have hmap : x0.map = s.map := by simp [x0]; rfl
  have hext : ∀ e, x0.extent e = s.extent e := fun e => by simp only [State.extent, hmap]
  have hentry : ∀ f, x0.entryIn l f = s.entryIn l f := fun f => by simp only [State.entryIn, hlines]
  have hm0 : x0.mend.active = none := by simp [x0]; exact hm
  have hfound : x0.findLine ((x0.extent u.key.extent).digestBlock u.key.frame) = some l := by
    rw [hext, State.findLine_congr (s := s) (fun k => by rw [hlines]) (fun k => by rw [hlines])]
    exact hfind
  have hsuspects : (s.readSlot i r).offerCheck i u = x0.tell u.key.extent u.key.frame (.state u.key.copy [.mending] .suspect) := by
    rw [hmend hc, State.foundMending]
    simp [x0, show (s.readSlot i r).mend.active = none from hm]
  obtain ⟨y, q, hy, htell⟩ := State.tell_applies hm0 (sources := [.mending]) (target := .suspect)
    (State.lineOf_of_found hfound (by rw [hlines]; exact hl)) (by rw [hlines]; exact hwaits) (by rw [hlines]; exact hholds)
    (by rw [hlines]; exact hlen) (by rw [hext, hs]; decide) (by rw [hext]; exact hframe) (by rw [hentry, hc]; simp)
    (by rw [hext]; exact hrep) (by decide)
  have hline0 := hy.entryIn (by rw [hlines]; exact hlen)
  obtain ⟨st, timer, hline, -⟩ := hy.line
  rw [hsuspects, htell]
  have hx0 := (s.readSlot i r).pin_unpin_offering i l
  have hx0slots : x0.slots = (s.readSlot i r).slots := by simp [x0]
  refine ⟨hx0.trans (.of_slots hy.on.up hy.on.ports hy.on.cfg hy.on.map hy.on.slots), hy.on.slots.trans hx0slots,
    hy.on.pool.trans (by simp [x0]; rfl), hline0.trans (by rw [hentry]), fun k hk => (hy.on.lines k hk).trans (hlines k), ?_⟩
  exact (congrArg Line.pins hline).trans ((rfl : _ = (x0.line l).pins).trans (congrArg Line.pins (hlines l)))

end

end Sys2Proof.Machine

/-!
PROOFS. O23: reads in RUNNING.
-/

namespace Sys2Proof.Machine

/-! ### Two frame copies, offered in address order -/

section

variable {s x y : State} {i : Fin 256} {r : Request} {p q : Fin 32}

theorem Checked.both {a b : Accum} {c d : Contribution} (h : Checked p a i c (s.readSlot i r) x) (k : Checked q b i d x y)
    (hpq : p ≠ q) :
    let t := y.readSent i r
    SentWith s t r i ∧ OtherSlots s t i ∧ t.accum p = some a ∧ t.accum q = some b ∧
      (∀ z, z ≠ p → z ≠ q → t.accum z = s.accum z) ∧ (t.slot i).contribs = [c, d] := by
  obtain ⟨-, hcontribs, -⟩ := y.readSent_self i r
  obtain ⟨hnone, -⟩ := s.readSlot_empty i r
  refine ⟨(h.toOffering.trans k.toOffering).sent, OtherSlots.readSent fun j hj => (k.slots j hj).trans (h.slots j hj),
    (y.readSent_accum i r p).trans ((k.accums p hpq).trans h.accum), (y.readSent_accum i r q).trans k.accum,
    fun z hzp hzq => (y.readSent_accum i r z).trans ((k.accums z hzq).trans (h.accums z hzp)), ?_⟩
  rw [hcontribs, k.contribs, h.contribs, hnone]
  rfl

theorem State.findAccum_eq (s : State) (mode : AccumMode) (k : FrameKey) : s.findAccum mode k =
    (allFin 32).find? fun z => decide ((s.accum z).map (fun a => (a.mode, a.key)) = some (mode, k)) := by
  unfold State.findAccum
  congr 1
  funext z
  cases s.accum z <;> simp

/-- An accumulator is found by its mode and frame copy. -/
theorem State.findAccum_of_keys {t : State} (h : ∀ z, (t.accum z).map (fun a => (a.mode, a.key)) =
    (s.accum z).map (fun a => (a.mode, a.key))) (mode : AccumMode) (k : FrameKey) : t.findAccum mode k = s.findAccum mode k := by
  simp only [State.findAccum_eq, h]

theorem State.findAccum_some {mode : AccumMode} {k : FrameKey} {a : Accum} (h : s.findAccum mode k = some p)
    (ha : s.accum p = some a) : a.mode = mode ∧ a.key = k := by
  have hfound := List.find?_some h
  simpa [ha] using hfound

theorem State.findAccum_eq_none {mode : AccumMode} {k : FrameKey}
    (h : ∀ z a, s.accum z = some a → a.mode = mode → a.key ≠ k) : s.findAccum mode k = none := by
  refine List.find?_eq_none.mpr fun z _ => ?_
  cases hz : s.accum z with
  | none => simp
  | some a =>
    simp only [Bool.and_eq_true, decide_eq_true_eq, not_and]
    exact h z a hz

theorem State.freeTraffic_lowest (h : s.freeTraffic? = some p) {z : Fin 32} (hz : z < p) : s.accum z ≠ none := by
  obtain ⟨-, as, bs, hx, has⟩ := List.find?_eq_some_iff_append.mp h
  have hmem := mem_before_of_lt (List.pairwise_lt_finRange 32) hx (List.mem_finRange z) hz
  have hlow := State.freeTraffic_lt h
  have hno := has z hmem
  have hz30 : z.val < 30 := Nat.lt_trans hz hlow
  simpa [hz30, Option.isSome_iff_ne_none] using hno

theorem State.freeTraffic_eq (hq : q.val < 30) (hfree : s.accum q = none) (hlow : ∀ z, z < q → s.accum z ≠ none) :
    s.freeTraffic? = some q := by
  cases h : s.freeTraffic? with
  | none =>
    have := List.find?_eq_none.mp h q (List.mem_finRange q)
    simp [hq, hfree] at this
  | some z =>
    have hz : s.accum z = none := by
      have := List.find?_some h
      simp only [Bool.and_eq_true, Option.isNone_iff_eq_none] at this
      exact this.2
    rcases lt_trichotomy z q with hlt | rfl | hgt
    · exact absurd hz (hlow z hlt)
    · rfl
    · exact absurd hfree (State.freeTraffic_lowest h hgt)

end

section

variable {s : State} {i : Fin 256} {r : Request} {u v : Touched} {p q : Fin 32}
  (hs : (s.extent u.key.extent).state = .sealed) (hs' : (s.extent v.key.extent).state = .sealed) (hkey : u.key ≠ v.key)
include hs hs' hkey

theorem State.reads_join {a b : Accum} (hf : s.findAccum .check u.key = some p) (hg : s.findAccum .check v.key = some q)
    (ha : s.accum p = some a) (hb : s.accum q = some b) (hla : (insertRun u.first u.last a.runs).length ≤ 8)
    (hlb : (insertRun v.first v.last b.runs).length ≤ 8) (hga : gaps a.runs u.first u.last ≠ [])
    (hgb : gaps b.runs v.first v.last ≠ []) :
    let x := (s.readSlot i r).offerCheck i u
    p ≠ q ∧ Checked p (a.reserving u.first u.last) i (a.checkContribution p u) (s.readSlot i r) x ∧
      Checked q (b.reserving v.first v.last) i (b.checkContribution q v) x (x.offerCheck i v) ∧
      (x.offerCheck i v).arb = s.arb := by
  let x := (s.readSlot i r).offerCheck i u
  have hpq : p ≠ q := by
    rintro rfl
    rw [ha] at hb
    cases hb
    exact hkey ((State.findAccum_some hf ha).2.symm.trans (State.findAccum_some hg ha).2)
  obtain ⟨hx, harb, -, -⟩ := State.read_joins (i := i) (r := r) hs hf ha hla hga
  have hkeys : ∀ z, (x.accum z).map (fun a => (a.mode, a.key)) = (s.accum z).map (fun a => (a.mode, a.key)) := by
    intro z
    by_cases hz : z = p
    · rw [hz, hx.accum, ha]
      rfl
    · rw [hx.accums z hz]
      rfl
  have hfind : x.findAccum .check v.key = some q := (State.findAccum_of_keys hkeys _ _).trans hg
  have hext : (x.extent v.key.extent).state = .sealed := by
    unfold State.extent
    rw [hx.map]
    exact hs'
  have hxq : x.accum q = some b := (hx.accums q hpq.symm).trans hb
  obtain ⟨hy, -, harb'⟩ := State.joinRead_checked (i := i) (u := v) hxq hlb hgb
  have hjoin : x.offerCheck i v = x.joinRead q i v := State.offerCheck_found hext hfind
  refine ⟨hpq, hx, ?_, ?_⟩
  · rw [hjoin]
    exact hy
  · rw [hjoin, harb', harb]

theorem State.reads_open {l k : Fin 64} (hu : u.first ≤ u.last) (hv : v.first ≤ v.last)
    (hf : s.findAccum .check u.key = none) (hg : s.findAccum .check v.key = none)
    (hfree : s.freeTraffic? = some p) (hpq : p < q) (hq : q.val < 30) (hnone : s.accum q = none)
    (hbetween : ∀ z, p < z → z < q → s.accum z ≠ none)
    (hl : s.findLine ((s.extent u.key.extent).digestBlock u.key.frame) = some l)
    (hk : s.findLine ((s.extent v.key.extent).digestBlock v.key.frame) = some k)
    (hlh : (s.line l).state.holds = true) (hkh : (s.line k).state.holds = true)
    (hcu : (s.entryIn l u.key.frame).copyState u.key.copy = .sealed ∨
      (s.entryIn l u.key.frame).copyState u.key.copy = .suspect)
    (hcv : (s.entryIn k v.key.frame).copyState v.key.copy = .sealed ∨
      (s.entryIn k v.key.frame).copyState v.key.copy = .suspect) :
    let x := (s.readSlot i r).offerCheck i u
    Checked p (Accum.checking u l) i ⟨p, u.first, u.start, [(u.first, u.last)], 0, 0⟩ (s.readSlot i r) x ∧
      Checked q (Accum.checking v k) i ⟨q, v.first, v.start, [(v.first, v.last)], 0, 0⟩ x (x.offerCheck i v) ∧
      (x.offerCheck i v).arb = s.arb ∧
      ∀ z, ((x.offerCheck i v).line z).pins = (s.line z).pins + (if z = l then 1 else 0) + (if z = k then 1 else 0) := by
  let x := (s.readSlot i r).offerCheck i u
  obtain ⟨hx, hstore, harb⟩ := State.read_opens (i := i) (r := r) hs hf hfree hl (.inr ⟨hlh, hcu⟩) hu
  have hlines : ∀ z, x.line z = (s.pin l).line z := State.line_congr hstore
  have hsame : ∀ z, (x.line z).state = (s.line z).state ∧ (x.line z).entries = (s.line z).entries := by
    intro z
    rw [hlines]
    by_cases hz : z = l
    · rw [hz, State.pin_line]
      exact ⟨rfl, rfl⟩
    · rw [(s.pin_onLine l).lines z hz]
      exact ⟨rfl, rfl⟩
  have hexts : ∀ e, x.extent e = s.extent e := by
    intro e
    unfold State.extent
    rw [hx.map]
    rfl
  have haccum : ∀ z, z ≠ p → x.accum z = s.accum z := fun z hz => hx.accums z hz
  have hfind : x.findAccum .check v.key = none := State.findAccum_eq_none fun z a hz hm => by
    by_cases hzp : z = p
    · rw [hzp, hx.accum] at hz
      cases hz
      exact hkey
    · rw [haccum z hzp] at hz
      exact State.findAccum_none hg hz hm
  have hnext : x.freeTraffic? = some q := by
    refine State.freeTraffic_eq hq ((haccum q hpq.ne').trans hnone) fun z hz => ?_
    rcases lt_trichotomy z p with hlt | rfl | hgt
    · rw [haccum z hlt.ne]
      exact State.freeTraffic_lowest hfree hlt
    · rw [hx.accum]
      exact Option.some_ne_none _
    · rw [haccum z hgt.ne']
      exact hbetween z hgt hz
  have hline : x.findLine ((x.extent v.key.extent).digestBlock v.key.frame) = some k := by
    rw [hexts, State.findLine_of_store hstore, State.findLine_pin]
    exact hk
  have hentry : x.entryIn k v.key.frame = s.entryIn k v.key.frame := by
    unfold State.entryIn Line.entry
    rw [(hsame k).2]
  have hopen := State.offerCheck_opens (i := i) (u := v) (by rw [hexts]; exact hs') hfind hnext hline
    (.inr ⟨by rw [(hsame k).1]; exact hkh, by rw [hentry]; exact hcv⟩)
  have hpinned : Offering i x (x.pin k) := .of_slots (by simp) (by simp) (by simp) (by simp) (by simp)
  obtain ⟨hy, hstore', harb'⟩ := State.opens_checked (p := q) (u := v) k hpinned (State.pin_pool _ k) (State.pin_slots _ k) hv
  refine ⟨hx, ?_, ?_, fun z => ?_⟩
  · rw [hopen]
    exact hy
  · rw [hopen, harb', State.pin_arb, harb]
  · rw [hopen, State.line_congr hstore', State.pin_pins, hlines, State.pin_pins]

end

/-! ### O23 -/

section

variable {s : State} {r : Request} {i : Fin 256} {c : Instr}

/-- With no frame copy of a SEALED extent nothing is offered. -/
theorem forEach_offerCheck_unsealed {x : State} : ∀ {ts : List Touched},
    (∀ u ∈ ts, (x.extent u.key.extent).state ≠ .sealed) → forEach ts (fun u t => t.offerCheck i u) x = x
  | [], _ => rfl
  | u :: ts, h => by
    have hu : x.offerCheck i u = x := State.offerCheck_unsealed (h u (List.mem_cons_self ..))
    show forEach ts _ (x.offerCheck i u) = x
    rw [hu]
    exact forEach_offerCheck_unsealed fun w hw => h w (List.mem_cons_of_mem _ hw)

end

/-- Settles O23: the read is decided and has its slot; what its frame copies meet, case by case. -/
theorem readInRunning : Obligations.ReadInRunning := by
  unfold Obligations.ReadInRunning
  intro s r i c hp hk hslot hc
  have hstep := exec_read_inRunning hp hk hslot hc
  have hshelf : SameShelf s ((s.readSlot i r).readSent i r) := by
    refine ⟨?_, ?_, ?_, ?_, ?_⟩ <;> simp <;> rfl
  obtain ⟨hsent0, hnone0, hnowatch0, hslots0⟩ := (Offering.refl i (s.readSlot i r)).sends_empty rfl
  refine ⟨fun hno => ?_, fun u htouched hs hu => ?_, fun u v htouched hs hs' hkey hu hv => ?_⟩
  · rw [forEach_offerCheck_unsealed (x := s.readSlot i r) hno] at hstep
    exact ⟨_, hstep, hsent0, hnone0, hnowatch0, hslots0, State.readSent_arb _ i r, hshelf⟩
  · rw [htouched] at hstep
    replace hstep : exec c s = .next (((s.readSlot i r).offerCheck i u).readSent i r) := hstep
    refine ⟨fun p a hf ha hroom => ?_, fun p a j hf ha hold hover hl hh hb hother => ?_, fun hf => ?_⟩
    · by_cases hlen : (insertRun u.first u.last a.runs).length ≤ 8
      · by_cases hgaps : gaps a.runs u.first u.last = []
        · obtain ⟨hsent, harb, ⟨hmap, hpool, -, hwalk, hmend⟩, hnone, hwatch, hslots⟩ :=
            State.read_watches (i := i) (r := r) hs hf ha hlen hgaps
          exact ⟨_, hstep, hsent, harb, hmap, hwalk, hmend, fun q _ => State.accum_congr hpool q,
            fun h => absurd hlen (Nat.not_le.mpr h), fun _ _ => ⟨hpool, hnone, hwatch, hslots⟩, fun _ h => absurd hgaps h⟩
        · obtain ⟨h, harb, hwalk, hmend⟩ := State.read_joins (i := i) (r := r) hs hf ha hlen hgaps
          obtain ⟨hsent, hslots, hothers, haccum, hcontribs, hwatches⟩ := h.sends
          refine ⟨_, hstep, hsent, (State.readSent_arb _ i r).trans harb, (State.readSent_map _ i r).trans h.map,
            (State.readSent_walk _ i r).trans hwalk, (State.readSent_mend _ i r).trans hmend, hothers,
            fun h => absurd hlen (Nat.not_le.mpr h), fun _ h => absurd h hgaps, fun _ _ => ⟨haccum, hcontribs, hwatches, hslots⟩⟩
      · obtain ⟨hsent, harb, hmap, hwalk, hmend, hothers, hend⟩ :=
          State.read_abandons (i := i) (r := r) hs hf ha (hroom.resolve_right hlen) (Nat.not_le.mp hlen)
        exact ⟨_, hstep, hsent, harb, hmap, hwalk, hmend, hothers, fun _ => hend, fun h => absurd h hlen, fun h => absurd h hlen⟩
    · exact ⟨_, hstep, State.read_releases hs hslot hf ha hold hover hl hh hb hother⟩
    · intro block opened
      refine ⟨fun hfree => ?_, fun p l hfree hfind hline => ?_, fun p l hfree hfind hholds hc => ?_,
        fun p l hfree hfind hholds hc => ⟨fun hm => ?_, fun hm hl hwaits hlen hframe hrep => ?_⟩,
        fun p v hfree hfind hv => ?_, fun p hfree hfind hv => ?_⟩
      · rw [State.read_full hs hf hfree] at hstep
        exact ⟨_, hstep, hsent0, hnone0, hslots0, State.readSent_arb _ i r, hshelf⟩
      · obtain ⟨h, hstore, harb⟩ := State.read_opens (i := i) (r := r) hs hf hfree hfind hline hu
        obtain ⟨hsent, hslots, hothers, haccum, hcontribs, -⟩ := h.sends
        have hlines := fun k => (State.readSent_line _ i r k).trans (State.line_congr hstore k)
        exact ⟨_, hstep, hsent, (State.readSent_arb _ i r).trans harb, hslots, hothers, haccum, hcontribs,
          (hlines l).trans (s.pin_line l), fun k hk => (hlines k).trans ((s.pin_onLine l).lines k hk)⟩
      · obtain ⟨h, hkept, harb, hpool, hlines⟩ := State.read_leaves (i := i) (r := r) hs hf hfree hfind hholds (.inl hc)
        obtain ⟨hsent, hnone, -, hslots⟩ := h.sends_empty hkept
        exact ⟨_, hstep, hsent, (State.readSent_arb _ i r).trans harb, hslots, (State.readSent_pool _ i r).trans hpool, hnone,
          fun k => (State.readSent_line _ i r k).trans (hlines k)⟩
      · obtain ⟨h, hkept, harb, hpool, hlines⟩ := State.read_leaves (i := i) (r := r) hs hf hfree hfind hholds (.inr ⟨hc, hm⟩)
        obtain ⟨hsent, hnone, -, hslots⟩ := h.sends_empty hkept
        exact ⟨_, hstep, hsent, (State.readSent_arb _ i r).trans harb, hslots, (State.readSent_pool _ i r).trans hpool, hnone,
          fun k => (State.readSent_line _ i r k).trans (hlines k)⟩
      · obtain ⟨h, hkept, hpool, hentry, hothers, hpins⟩ :=
          State.read_suspects (i := i) (r := r) hs hf hfree hfind hholds hc hm hl hwaits hlen hframe hrep
        obtain ⟨hsent, hnone, -, hslots⟩ := h.sends_empty hkept
        have hlines := State.readSent_line ((s.readSlot i r).offerCheck i u) i r
        refine ⟨_, hstep, hsent, hslots, (State.readSent_pool _ i r).trans hpool, hnone, ?_,
          fun k hk => (hlines k).trans (hothers k hk), (congrArg Line.pins (hlines l)).trans hpins⟩
        rw [← hentry]
        unfold State.entryIn
        rw [hlines]
      · obtain ⟨h, ⟨htag, hext, hstate, hpins, hwaiting, hlines, harb⟩, hqueue⟩ :=
          State.read_takes (i := i) (r := r) hs hf hfree hfind hv hu
        obtain ⟨hsent, hslots, hothers, haccum, hcontribs, -⟩ := h.sends
        have hline := State.readSent_line ((s.readSlot i r).offerCheck i u) i r
        refine ⟨_, hstep, hsent, hslots, hothers, haccum, hcontribs, ?_, (congrArg Store.queue (State.readSent_store _ i r)).trans hqueue⟩
        unfold TakenForFill
        rw [hline]
        exact ⟨htag, hext, hstate, hpins, hwaiting, fun k hk => (hline k).trans (hlines k hk), (State.readSent_arb _ i r).trans harb⟩
      · obtain ⟨h, hkept, hpool, hqueue⟩ := State.read_noLine (i := i) (r := r) hs hf hfree hfind hv
        obtain ⟨hsent, hnone, -, hslots⟩ := h.sends_empty hkept
        exact ⟨_, hstep, hsent, hslots, (State.readSent_pool _ i r).trans hpool, hnone,
          (congrArg Store.queue (State.readSent_store _ i r)).trans hqueue⟩
  · rw [htouched] at hstep
    replace hstep : exec c s = .next ((((s.readSlot i r).offerCheck i u).offerCheck i v).readSent i r) := hstep
    refine ⟨fun p q a b hf hg ha hb hla hlb hga hgb => ?_,
      fun p q l k hf hg hfree hpq hq hnone hbetween hl hk hlh hkh hcu hcv => ?_⟩
    · obtain ⟨hpq, hx, hy, harb⟩ := State.reads_join (i := i) (r := r) hs hs' hkey hf hg ha hb hla hlb hga hgb
      obtain ⟨hsent, hslots, hp', hq', hothers, hcontribs⟩ := hx.both hy hpq
      exact ⟨_, hstep, hsent, hslots, (State.readSent_arb _ i r).trans harb, hp', hq', hothers, hcontribs⟩
    · obtain ⟨hx, hy, harb, hpins⟩ :=
        State.reads_open (i := i) (r := r) hs hs' hkey hu hv hf hg hfree hpq hq hnone hbetween hl hk hlh hkh hcu hcv
      obtain ⟨hsent, hslots, hp', hq', hothers, hcontribs⟩ := hx.both hy hpq.ne
      exact ⟨_, hstep, hsent, hslots, (State.readSent_arb _ i r).trans harb, hp', hq', hothers, hcontribs, fun z =>
        (congrArg Line.pins (State.readSent_line _ i r z)).trans (hpins z)⟩

end Sys2Proof.Machine

/-!
PROOFS. What a release does to the pool and to the extent's lines (R59, R80, R81).
-/

namespace Sys2Proof.Machine

/-! ### The SCRUB accumulator alone is abandoned (R81) -/

theorem forEach_append {α : Type} (xs ys : List α) (f : α → State → State) (s : State) :
    forEach (xs ++ ys) f s = forEach ys f (forEach xs f s) := by
  induction xs generalizing s with
  | nil => rfl
  | cons x xs ih => exact ih (f x s)

section

variable {s : State}

/-- No accumulator but the SCRUB one is in use, and it holds no return. -/
def State.scrubAlone (s : State) : Prop := ∀ p a, s.accum p = some a → p = scrubPos ∧ a.holding = []

theorem State.scrubAlone.abandoned (h : s.scrubAlone) (p : Fin 32) : (s.abandon scrubPos).accum p = none := by
  cases ha : s.accum scrubPos with
  | none =>
    rw [State.abandon, ha]
    exact Option.eq_none_iff_forall_ne_some.mpr fun a hp => by
      rw [(h p a hp).1] at hp
      rw [ha] at hp
      cases hp
  | some a =>
    obtain ⟨-, hold⟩ := h scrubPos a ha
    rw [State.abandon_of_unheld ha hold, State.accum_congr (State.unpin?_pool _ _), State.accum_setAccum]
    split
    · rfl
    next hne => exact Option.eq_none_iff_forall_ne_some.mpr fun b hb => hne (h p b hb).1

theorem State.abandonAll_of_free (h : ∀ p, s.accum p = none) (test : Accum → Bool) : s.abandonAll test = s :=
  forEach_fixed fun p _ => by rw [h p]

/-- One position's part in `State.abandonAll`. -/
def State.abandonIf (test : Accum → Bool) (p : Fin 32) (t : State) : State :=
  match t.accum p with
  | none => t
  | some a => if test a then t.abandon p else t

theorem State.abandonIf_of_free (test : Accum → Bool) {p : Fin 32} {t : State} (h : t.accum p = none) : State.abandonIf test p t = t := by
  simp only [State.abandonIf, h]

theorem State.abandonAll_eq (test : Accum → Bool) (t : State) : t.abandonAll test = forEach (allFin 32) (State.abandonIf test) t := rfl

theorem State.abandonAll_scrub (h : s.scrubAlone) {test : Accum → Bool} (htest : ∀ a, s.accum scrubPos = some a → test a = true) :
    s.abandonAll test = s.abandon scrubPos := by
  obtain ⟨before, after, hsplit⟩ := List.append_of_mem (List.mem_finRange scrubPos)
  have hnodup : (before ++ scrubPos :: after).Nodup := hsplit ▸ List.nodup_finRange 32
  have hbefore : scrubPos ∉ before := fun hmem =>
    (List.nodup_append.mp hnodup).2.2 scrubPos hmem scrubPos (List.mem_cons_self ..) rfl
  have hother : ∀ p, p ≠ scrubPos → s.accum p = none := fun p hp =>
    Option.eq_none_iff_forall_ne_some.mpr fun a ha => hp (h p a ha).1
  have hat : State.abandonIf test scrubPos s = s.abandon scrubPos := by
    unfold State.abandonIf
    cases ha : s.accum scrubPos with
    | none => rw [State.abandon, ha]
    | some a => exact if_pos (htest a ha)
  rw [State.abandonAll_eq, show allFin 32 = before ++ scrubPos :: after from hsplit, forEach_append, forEach_fixed (xs := before)
    fun p hp => State.abandonIf_of_free test (hother p fun heq => hbefore (heq ▸ hp))]
  have hstep : forEach (scrubPos :: after) (State.abandonIf test) s = forEach after (State.abandonIf test) (s.abandon scrubPos) :=
    congrArg (forEach after (State.abandonIf test)) hat
  rw [hstep]
  exact forEach_fixed fun p _ => State.abandonIf_of_free test (h.abandoned p)

theorem State.scrubAlone.unheld (h : s.scrubAlone) : s.unheld scrubPos := fun a ha => (h scrubPos a ha).2

theorem State.scrubAlone.abandon_line (h : s.scrubAlone) (l : Fin 64) :
    ((s.abandon scrubPos).line l).state = (s.line l).state ∧ ((s.abandon scrubPos).line l).extent = (s.line l).extent ∧
      ((s.line l).waiting = [] → ((s.abandon scrubPos).line l).waiting = []) := by
  cases ha : s.accum scrubPos with
  | none =>
    rw [State.abandon, ha]
    exact ⟨rfl, rfl, id⟩
  | some a =>
    rw [State.abandon_of_unheld ha (h.unheld a ha), State.unpin?_line]
    have hline : ((((s.mapSlots fun x => x.dropAccum scrubPos).dropWaiting (.accum scrubPos)).mapSlots fun x =>
        x.dropWatch scrubPos).setAccum scrubPos none).line l =
        { s.line l with waiting := (s.line l).waiting.filter fun w => decide (w.who ≠ .accum scrubPos) } :=
      State.dropWaiting_line (s.mapSlots fun x => x.dropAccum scrubPos) (.accum scrubPos) l
    rw [hline]
    exact ⟨rfl, rfl, fun hw => by simp [hw]⟩

end

/-! ### A retired extent's lines are dropped (R59) -/

/-- What the dropping of lines keeps: the links, the map, the settings, the reporter, the loader, the batch, the walks but for
the current one's line. -/
structure LinesGone (s t : State) : Prop where
  ports : t.ports = s.ports
  up : t.up = s.up
  map : t.map = s.map
  cfg : t.cfg = s.cfg
  rep : t.rep = s.rep
  ldr : t.ldr = s.ldr
  queue : t.store.queue = s.store.queue
  batch : t.dir.batch = s.dir.batch
  flush : t.dir.flush = s.dir.flush
  pool : (∀ p, s.accum p = none) → ∀ p, t.accum p = none
  walk : ∃ g : Option (Fin 64) → Option (Fin 64), t.walk = { s.walk with cur := s.walk.cur.map fun w => { w with line := g w.line } }
  arb : ∀ r ∈ t.arb, r ∈ s.arb

theorem LinesGone.refl (s : State) : LinesGone s s := by
  refine ⟨rfl, rfl, rfl, rfl, rfl, rfl, rfl, rfl, rfl, id, ⟨id, ?_⟩, fun _ h => h⟩
  cases h : s.walk.cur <;> simp [← h]

theorem LinesGone.trans {s t u : State} (h : LinesGone s t) (k : LinesGone t u) : LinesGone s u := by
  obtain ⟨g, hg⟩ := h.walk
  obtain ⟨g', hg'⟩ := k.walk
  refine ⟨k.ports.trans h.ports, k.up.trans h.up, k.map.trans h.map, k.cfg.trans h.cfg, k.rep.trans h.rep, k.ldr.trans h.ldr,
    k.queue.trans h.queue, k.batch.trans h.batch, k.flush.trans h.flush, fun hp => k.pool (h.pool hp), ⟨g' ∘ g, ?_⟩,
    fun r hr => h.arb r (k.arb r hr)⟩
  rw [hg', hg]
  simp [Function.comp_def]

/-- A line on which nothing waits is dropped, with no flush in progress. -/
theorem State.dropLine_gone {s : State} {l : Fin 64} (hw : (s.line l).waiting = []) (hf : s.dir.flush = none) :
    LinesGone s (s.dropLine l) ∧ (s.dropLine l).line l = Line.blank ∧ OtherLines s (s.dropLine l) l ∧
      NoneQueued (s.dropLine l) (Owner.isOfLine l) := by
  let u := ((s.withdraw (Owner.isOfLine l)).killOutstanding (Owner.isOfLine l)).losePins l
  let v := (u.setLine l Line.blank).leaveDirty l
  have hdrop : s.dropLine l = { v with store := v.store.sink l } := by
    have hflush : ({ v with store := v.store.sink l } : State).dir.flush = none := hf
    simp only [State.dropLine, hw, State.failWaiting, State.flushDrop, forEach]
    rw [show (({ v with store := v.store.sink l } : State)).dir.flush = none from hf]
    rfl
  have hline : ∀ k, (s.dropLine l).line k = if k = l then Line.blank else s.line k := fun k => by
    rw [hdrop]
    exact u.line_setLine l k Line.blank
  have harb : (s.dropLine l).arb = s.arb.filter fun r => !Owner.isOfLine l r.owner := by
    rw [hdrop]
    rfl
  refine ⟨⟨?_, ?_, ?_, ?_, ?_, ?_, ?_, ?_, ?_, fun hp p => ?_, ?_, fun r hr => ?_⟩, (hline l).trans (if_pos rfl),
    fun k hk => (hline k).trans (if_neg hk), fun r hr => ?_⟩
  · rw [hdrop]; rfl
  · rw [hdrop]; rfl
  · rw [hdrop]; rfl
  · rw [hdrop]; rfl
  · rw [hdrop]; rfl
  · rw [hdrop]; rfl
  · rw [hdrop]; rfl
  · rw [hdrop]; rfl
  · rw [hdrop]; rfl
  · rw [hdrop]
    have hnone : u.accum p = (s.accum p).map fun a => { a with line := if a.line = some l then none else a.line } := by
      simp [u, State.losePins, State.accum]
    exact hnone.trans (by rw [hp p]; rfl)
  · exact ⟨fun o => if o = some l then none else o, by rw [hdrop]; rfl⟩
  · rw [harb] at hr
    exact (List.mem_filter.mp hr).1
  · rw [harb] at hr
    simpa using (List.mem_filter.mp hr).2

/-- Line `l` belongs to extent `n`, and is dropped as the extent is retired. -/
def State.lineOfExtent (s : State) (n : Fin 1024) (l : Fin 64) : Prop := (s.line l).state ≠ .invalid ∧ (s.line l).extent = n

/-- One line's part in `State.dropExtent`. -/
def State.dropIf (n : Fin 1024) (l : Fin 64) (t : State) : State :=
  if (t.line l).state ≠ .invalid ∧ (t.line l).extent = n then t.dropLine l else t

theorem State.dropIf_of_extent {n : Fin 1024} {l : Fin 64} {t : State} (h : t.lineOfExtent n l) : State.dropIf n l t = t.dropLine l :=
  if_pos h

theorem State.dropIf_of_other {n : Fin 1024} {l : Fin 64} {t : State} (h : ¬t.lineOfExtent n l) : State.dropIf n l t = t := if_neg h

/-- The dropping of the extent's lines among `ls`. -/
def State.dropLines (s : State) (n : Fin 1024) (ls : List (Fin 64)) : State := forEach ls (State.dropIf n) s

theorem State.dropLines_gone {n : Fin 1024} : ∀ (ls : List (Fin 64)) {s : State}, s.dir.flush = none →
    (∀ l, s.lineOfExtent n l → (s.line l).waiting = []) →
    LinesGone s (s.dropLines n ls) ∧ (∀ l, l ∈ ls → s.lineOfExtent n l → (s.dropLines n ls).line l = Line.blank ∧
        NoneQueued (s.dropLines n ls) (Owner.isOfLine l)) ∧
      ∀ l, ¬s.lineOfExtent n l → (s.dropLines n ls).line l = s.line l
  | [], s, _, _ => ⟨.refl s, nofun, fun _ _ => rfl⟩
  | x :: ls, s, hf, hw => by
    by_cases hx : s.lineOfExtent n x
    · have hcons : s.dropLines n (x :: ls) = (s.dropLine x).dropLines n ls :=
        congrArg (forEach ls (State.dropIf n)) (State.dropIf_of_extent hx)
      obtain ⟨hgone, hblank, hothers, hnone⟩ := State.dropLine_gone (hw x hx) hf
      have hsub : ∀ l, l ≠ x → ((s.dropLine x).lineOfExtent n l ↔ s.lineOfExtent n l) := fun l hl => by
        unfold State.lineOfExtent
        rw [hothers l hl]
      have hxgone : ¬(s.dropLine x).lineOfExtent n x := fun h => by
        obtain ⟨hstate, -⟩ := h
        rw [hblank] at hstate
        exact hstate rfl
      obtain ⟨kgone, kdrop, kkept⟩ := State.dropLines_gone ls (s := s.dropLine x) (hgone.flush.trans hf) fun l hl => by
        have hlx : l ≠ x := fun heq => hxgone (heq ▸ hl)
        rw [hothers l hlx]
        exact hw l ((hsub l hlx).mp hl)
      rw [hcons]
      refine ⟨hgone.trans kgone, fun l hl hof => ?_, fun l hof => ?_⟩
      · by_cases hlx : l = x
        · subst hlx
          exact ⟨(kkept l hxgone).trans hblank, fun r hr => hnone r (kgone.arb r hr)⟩
        · exact kdrop l ((List.mem_cons.mp hl).resolve_left hlx) ((hsub l hlx).mpr hof)
      · have hlx : l ≠ x := fun heq => hof (heq ▸ hx)
        exact (kkept l fun h => hof ((hsub l hlx).mp h)).trans (hothers l hlx)
    · have hcons : s.dropLines n (x :: ls) = s.dropLines n ls :=
        congrArg (forEach ls (State.dropIf n)) (State.dropIf_of_other hx)
      obtain ⟨kgone, kdrop, kkept⟩ := State.dropLines_gone ls hf hw
      rw [hcons]
      exact ⟨kgone, fun l hl hof => kdrop l ((List.mem_cons.mp hl).resolve_left fun heq => hx (heq ▸ hof)) hof, kkept⟩

/-- The lines of a retired extent go, and with the line queue empty nothing else is withdrawn. -/
theorem State.dropExtent_gone {s : State} {n : Fin 1024} (hq : s.store.queue = []) (hf : s.dir.flush = none)
    (hw : ∀ l, s.lineOfExtent n l → (s.line l).waiting = []) :
    LinesGone s (s.dropExtent n) ∧ (∀ l, s.lineOfExtent n l → (s.dropExtent n).line l = Line.blank ∧
        NoneQueued (s.dropExtent n) (Owner.isOfLine l)) ∧
      ∀ l, ¬s.lineOfExtent n l → (s.dropExtent n).line l = s.line l := by
  obtain ⟨hgone, hdrop, hkept⟩ := State.dropLines_gone (allFin 64) hf hw
  have hqueue : (s.dropLines n (allFin 64)).store.queue = [] := hgone.queue.trans hq
  have heq : s.dropExtent n = s.dropLines n (allFin 64) := by
    have hfilter : s.dropExtent n = { s.dropLines n (allFin 64) with store := { (s.dropLines n (allFin 64)).store with
        queue := (s.dropLines n (allFin 64)).store.queue.filter fun r => decide (r.extent ≠ n) } } := by
      have hif : (fun (l : Fin 64) (t : State) => if (t.line l).state ≠ .invalid ∧ (t.line l).extent = n then t.dropLine l else t) =
          State.dropIf n := rfl
      simp only [State.dropExtent, State.dropLines, hif]
    rw [hfilter, hqueue, List.filter_nil, ← hqueue]
  rw [heq]
  exact ⟨hgone, fun l => hdrop l (List.mem_finRange l), hkept⟩

end Sys2Proof.Machine

/-!
PROOFS. A CHECK walk ends as its extent is released (R118, R124).
-/

namespace Sys2Proof.Machine

/-! ### No request of a dropped line comes back -/

section

variable {s : State} {l : Fin 64}

/-- Line `l` is blank and no request of it is queued. -/
def State.lineGone (s : State) (l : Fin 64) : Prop := s.line l = Line.blank ∧ NoneQueued s (Owner.isOfLine l)

theorem State.lineGone.queued (h : s.lineGone l) : s.line l = Line.blank ∧ s.queued (.fill l) = false ∧ s.queued (.refill l) = false ∧
    s.queued (.writeback l) = false := by
  have hno : ∀ o : Owner, o.isOfLine l = true → s.queued o = false := fun o ho => by
    rw [State.queued, List.any_eq_false]
    intro r hr hown
    have := h.2 r hr
    rw [of_decide_eq_true hown, ho] at this
    cases this
  exact ⟨h.1, hno _ (decide_eq_true rfl), hno _ (decide_eq_true rfl), hno _ (decide_eq_true rfl)⟩

theorem State.lineGone.reporter {t : State} (h : s.lineGone l) (hline : t.line l = s.line l) (hq : ReporterQueues s t) : t.lineGone l :=
  ⟨hline.trans h.1, hq.noneQueued h.2 rfl rfl⟩

/-- The writebacks that a walk's end queues are of DIRTY lines. -/
theorem State.lineGone.queueExtents (h : s.lineGone l) (test : Fin 1024 → Bool) : (s.queueExtents test).lineGone l := by
  unfold State.queueExtents
  refine forEach_induct (P := fun a b : State => a.lineGone l → b.lineGone l) (fun _ h => h) (fun h k hs => k (h hs)) ?_ _ s h
  intro k t ht
  split
  next hdirty =>
    have hkl : k ≠ l := by
      rintro rfl
      rw [ht.1] at hdirty
      cases hdirty.1
    unfold State.queueWriteback
    split
    · exact ht
    · refine ⟨ht.1, fun r hr => ?_⟩
      rcases List.mem_append.mp hr with hmem | hmem
      · exact ht.2 r hmem
      · rw [List.mem_singleton.mp hmem]
        exact decide_eq_false hkl
  next => exact ht

theorem State.lineGone.endWalk {w : Walk} (h : s.lineGone l) (hk : w.kind = .check) (hline : w.line = none)
    (hsaved : s.walk.saved = []) (hrestart : s.map.restart = []) (hdue : s.walk.passDue = false) : (s.endWalk w).lineGone l := by
  let u := (s.log .checkDone (some w.extent.val) (some w.first) (some (bit w.incomplete)) w.checked w.mismatches w.skipped).raise
    .walkEnd
  have hlog : (s.logWalkEnd w).raise .walkEnd = u := by
    simp only [State.logWalkEnd, hk]
    rfl
  have hu : u.lineGone l := h.reporter (State.line_congr (by simp [u]) l)
    ((s.log_reporter _ _ _ _ _ _ _).trans (State.raise_reporter _ .walkEnd))
  have hq := hu.queueExtents fun e => if w.kind = .pass then w.visited.contains e else decide (e = w.extent)
  obtain ⟨rs, hx, -⟩ := u.queueExtents_eq fun e => if w.kind = .pass then w.visited.contains e else decide (e = w.extent)
  rw [hx] at hq
  have hsavedu : u.walk.saved = [] := by simp [u, hsaved]
  have hrestartu : u.map.restart = [] := by simp [u, hrestart]
  have hdueu : u.walk.passDue = false := by simp [u, hdue]
  have hend : s.endWalk w = ({ u with arb := u.arb ++ rs } : State).setWalk none := by
    have hdef : s.endWalk w = ((({ u with arb := u.arb ++ rs } : State).unpin? w.line).setWalk none |>.restAfter w).nextWalk := by
      rw [← hx, ← hlog]
      rfl
    rw [hdef, hline]
    simp [State.unpin?, State.restAfter, hk, State.nextWalk, State.setWalk, hsavedu, hrestartu, hdueu]
  rw [hend]
  exact hq

end

/-! ### The release -/

/-- The finding and what stays as a CHECK walk ends, incomplete, at its extent's release. -/
structure CheckEnded (s t : State) (w : Walk) : Prop where
  cur : t.walk.cur = none
  flag : (t.flag .walkEnd).isSet = true
  noneQueued : NoneQueued t Owner.isWalk
  ports : t.ports = s.ports
  up : t.up = s.up
  map : t.map = s.map
  pool : t.pool = s.pool
  batch : t.dir.batch = s.dir.batch
  lines : ∀ l, s.lineGone l → t.lineGone l
  logged : Logged s t (s.findingNow .checkDone (some w.extent.val) (some w.first) (some 1) w.checked w.mismatches w.skipped)

section

variable {s : State} {n : Fin 1024}

theorem State.leaveSealed_of_none (hw : s.walk.cur = none) : s.leaveSealed n = { s with walk := s.walk.leave n } := by
  simp [State.leaveSealed, State.sealedWalkOn, WalkEngine.leave, hw]

theorem State.leaveSealed_ends {w : Walk} (hw : s.walk.cur = some w) (hk : w.kind = .check) (hrun : w.run = .running)
    (he : w.extent = n) (hpast : w.past = false) (hstage : ¬(w.stage = .auditing ∧ (s.extent n).state ≠ .free))
    (hsaved : s.walk.saved = []) (hrestart : s.map.restart = []) (hdue : s.walk.passDue = false) (hp : s.ldr.part = .running) :
    CheckEnded s (s.leaveSealed n) w := by
  let v : State := { s with walk := s.walk.leave n }
  let w1 : Walk := { w with changed := true }
  let w2 : Walk := { w1 with line := none, stage := .ready, inFlight := false, plan := none, incomplete := true, past := true }
  let c := (v.clearWalk.unpin? w.line).setWalk (some w2)
  have hsealed : w.sealedOn n = true := by simp [Walk.sealedOn, he, Walk.requires, hk, hpast]
  have hsealed1 : w1.sealedOn n = true := hsealed
  have hcur : v.walk.cur = some w1 := by
    show (s.walk.cur.map fun w => w.leave n) = some w1
    rw [hw]
    exact congrArg some (if_pos hsealed)
  have hleave : s.leaveSealed n = (v.skipRest w1).walkRun := by
    have hon : v.sealedWalkOn n = some w1 := by
      simp only [State.sealedWalkOn, hcur]
      exact if_pos ⟨hsealed1, by simp [w1, hrun]⟩
    simp only [State.leaveSealed]
    rw [show ({ s with walk := s.walk.leave n } : State) = v from rfl, hon]
    exact if_neg hstage
  have hskip : v.skipRest w1 = c := by
    simp only [State.skipRest, w1, hk, c, w2]
  have hcdir : c.dir = s.dir := by simp [c, v, State.setWalk, State.clearWalk]
  have hcldr : c.ldr = s.ldr := by simp [c, v, State.setWalk, State.clearWalk]
  have hcrep : c.rep = s.rep := by simp [c, v, State.setWalk, State.clearWalk]
  have hccfg : c.cfg = s.cfg := by simp [c, v, State.setWalk, State.clearWalk]
  have hcmap : c.map = s.map := by simp [c, v, State.setWalk, State.clearWalk]
  have hcpool : c.pool = s.pool := by simp [c, v, State.setWalk, State.clearWalk]
  have hcports : c.ports = s.ports ∧ c.up = s.up := by simp [c, v, State.setWalk, State.clearWalk]
  have hcsaved : c.walk.saved = [] ∧ c.walk.passDue = false := by
    simp [c, v, State.setWalk, State.clearWalk, WalkEngine.leave, hsaved, hdue]
  have hcarb : c.arb = v.clearWalk.arb := by simp [c, State.setWalk]
  have hends : c.walkMove = some (c.endWalk w2) := by
    rw [State.walkMove_of_running (w := w2) rfl rfl hrun (Walk.spent_of_past rfl)]
    exact congrArg some (if_pos rfl)
  have hk2 : w2.kind = .check := hk
  have hlog : c.logWalkEnd w2 = c.log .checkDone (some w.extent.val) (some w.first) (some 1) w.checked w.mismatches w.skipped := by
    simp only [State.logWalkEnd, hk2]
    rfl
  have hover := State.endWalk_over (s := c) (w := w2) (by rw [hk2]; decide) rfl hcsaved.1 (by rw [hcmap]; exact hrestart) hcsaved.2
    (by rw [hcldr]; exact hp) hlog
  have hruns : s.leaveSealed n = c.endWalk w2 := by
    rw [hleave, hskip]
    exact State.walkRun_of_movesTo (State.movesTo_succ hends (State.movesTo_zero _)) (by decide) (State.walkMove_of_none hover.cur)
  obtain ⟨-, hoports, houp, -⟩ := hover.ports
  have hfinding : c.findingNow = s.findingNow := by
    funext
    simp only [State.findingNow, hccfg, hcrep]
  rw [hruns]
  refine ⟨hover.cur, hover.flag, fun r hr => ?_, hoports.trans hcports.1, houp.trans hcports.2, hover.map.trans hcmap,
    hover.pool.trans hcpool, congrArg DirectiveUnit.batch (hover.dir.trans hcdir), fun l hl => ?_, ?_⟩
  · rcases hover.queued r hr with hmem | hno
    · exact v.clearWalk_noneQueued r (hcarb ▸ hmem)
    · exact hno
  · have hc : c.lineGone l := by
      refine ⟨?_, fun r hr => ?_⟩
      · have hline : c.line l = { v.clearWalk.line l with pins := (v.clearWalk.line l).pins - if w.line = some l then 1 else 0 } :=
          State.unpin?_line _ w.line l
        rw [hline, show v.clearWalk.line l = Line.blank from hl.1]
        simp [Line.blank]
      · rw [hcarb] at hr
        have hmem : r ∈ s.arb.filter fun q => !q.owner.isWalk := hr
        exact hl.2 r (List.mem_filter.mp hmem).1
    exact hc.endWalk hk2 rfl hcsaved.1 (by rw [hcmap]; exact hrestart) hcsaved.2
  · rw [← hfinding]
    exact hover.logged.of_rep hcrep

end

end Sys2Proof.Machine

/-!
PROOFS. O52: OPEN_EXTENT and RETIRE_EXTENT.
-/

namespace Sys2Proof.Machine

/-! ### The conditions (R15, R16) -/

/-- The release's conditions after that of the extent's state. -/
def State.releaseLate (s : State) (n : Fin 1024) : Option Result :=
  if (s.extent n).cls = .fixed then some .refusedState else if s.dir.freeze = true then some .refusedFrozen
  else if s.mendConcerns n = true then some .busy else none

section

variable {s : State} {n : Fin 1024}

theorem State.releaseRefusal_opens : s.releaseRefusal n (fun st => decide (st = .sealed)) =
    if (s.extent n).state ≠ .sealed then some .refusedState else s.releaseLate n := by
  by_cases h : (s.extent n).state = .sealed <;> simp [State.releaseRefusal, State.releaseLate, h]

theorem ExtentState.retirable_iff (st : ExtentState) : st.retirable = false ↔ st ≠ .defined ∧ st ≠ .opened ∧ st ≠ .sealed := by
  cases st <;> decide

theorem State.releaseRefusal_retires : s.releaseRefusal n ExtentState.retirable =
    if (s.extent n).state ≠ .defined ∧ (s.extent n).state ≠ .opened ∧ (s.extent n).state ≠ .sealed then some .refusedState
    else s.releaseLate n := by
  rw [State.releaseRefusal]
  simp only [ExtentState.retirable_iff]
  rfl

theorem Walk.leave_eq (w : Walk) : w.leave n = { w with
    changed := w.changed || decide (w.extent = n ∧ w.requires = .sealed ∧ w.past = false ∧ (w.kind = .pass → w.entered = true)) } := by
  have hiff : w.sealedOn n = true ↔
      w.extent = n ∧ w.requires = .sealed ∧ w.past = false ∧ (w.kind = .pass → w.entered = true) := by
    simp only [Walk.sealedOn, Bool.and_eq_true, Bool.or_eq_true, decide_eq_true_eq, Bool.not_eq_true', and_assoc]
    rw [imp_iff_not_or]
  unfold Walk.leave
  by_cases h : w.sealedOn n = true
  · rw [if_pos h, decide_eq_true (hiff.mp h), Bool.or_true]
  · rw [if_neg h, decide_eq_false (fun k => h (hiff.mpr k)), Bool.or_false]

/-- Each walk at work on the extent has the change to find (R118). -/
theorem WalkEngine.leave_noticed (e : WalkEngine) (h : e.cur = none) : (e.leave n).cur = none ∧ (e.leave n).restTimer = e.restTimer ∧
    (e.leave n).passDue = e.passDue ∧ (e.leave n).saved = e.saved.map fun w => { w with
      changed := w.changed || decide (w.extent = n ∧ w.requires = .sealed ∧ w.past = false ∧ (w.kind = .pass → w.entered = true)) } := by
  refine ⟨?_, rfl, rfl, List.map_congr_left fun w _ => w.leave_eq⟩
  simp [WalkEngine.leave, h]

/-- A directive's result follows its effect. -/
theorem State.directive_result {i : Instr} {effect : Effect} (h : s.executes i) {u : State} {r : Result} (he : effect s = (u, r))
    (hdir : u.dir.batch = s.dir.batch) : s.directive i effect = .next (u.addResult r).syncStatusTimer ∧
      Gained s (u.addResult r).syncStatusTimer r ∧ Recorded u (u.addResult r).syncStatusTimer := by
  refine ⟨?_, State.gained_record h hdir r, u.recorded_addResult r⟩
  rw [State.directive_of_executes effect h, he]

/-! ### OPEN_EXTENT -/

theorem State.extent_setExtentState (st : ExtentState) (k : Fin 1024) :
    (s.setExtentState n st).extent k = if k = n then { s.extent n with state := st } else s.extent k := s.extent_changeExtent n k _

theorem openEffect_refuses {r : Result} (h : s.releaseRefusal n (fun st => decide (st = .sealed)) = some r) :
    openEffect n.val s = (s, r) := by
  simp only [openEffect, extentNumber_val, h]

theorem openEffect_opens (h : s.releaseRefusal n (fun st => decide (st = .sealed)) = none) :
    openEffect n.val s = (s.openNow n, .done) := by
  simp only [openEffect, extentNumber_val, h]

theorem State.openNow_of_idle (hw : s.walk.cur = none) (hfree : ∀ p, s.accum p = none) :
    s.openNow n = { s.setExtentState n .opened with walk := s.walk.leave n } := by
  have hpool : ∀ p, (s.setExtentState n .opened).accum p = none := fun p =>
    (State.accum_congr (by simp [State.setExtentState]) p).trans (hfree p)
  have hwalk : (s.setExtentState n .opened).walk = s.walk := by simp [State.setExtentState]
  rw [State.openNow, State.abandonAll_of_free hpool, State.leaveSealed_of_none (by rw [hwalk]; exact hw), hwalk]

/-! ### RETIRE_EXTENT -/

theorem retireEffect_refuses {r : Result} (h : s.releaseRefusal n ExtentState.retirable = some r) : retireEffect n.val s = (s, r) := by
  simp only [retireEffect, extentNumber_val, h]

theorem retireEffect_retires (h : s.releaseRefusal n ExtentState.retirable = none) :
    retireEffect n.val s = (s.retireNow n, .done) := by
  simp only [retireEffect, extentNumber_val, h]

/-- The extent's ranges leave the index, and its record is of the FREE form (R16). -/
def State.unlisted (s : State) (n : Fin 1024) : State :=
  ({ s with map := { s.map with index := s.map.index.filter fun r => !r.ofExtent n } } : State).changeExtent n Extent.freeForm

theorem State.unlisted_extent (k : Fin 1024) : (s.unlisted n).extent k = if k = n then Extent.freeForm else s.extent k :=
  State.extent_changeExtent _ n k _

theorem State.unlisted_index : (s.unlisted n).map.index = s.map.index.filter fun r => !r.ofExtent n := by simp [State.unlisted]

theorem State.markCat_arb (b : Fin 17) : ∀ r ∈ (s.markCat b).arb, r ∈ s.arb ∨ r.owner = .catalogueWrite b := by
  have hqueue : ∀ (u : State) (r : InjRequest), r ∈ (u.queueCat b).arb → r ∈ u.arb ∨ r.owner = .catalogueWrite b := by
    intro u r hr
    unfold State.queueCat at hr
    split at hr
    · exact .inl hr
    · exact (List.mem_append.mp hr).imp_right fun h => by rw [List.mem_singleton.mp h]; rfl
  intro r hr
  unfold State.markCat at hr
  split at hr
  · split at hr
    · exact hqueue (s.setCat b _) r hr
    · exact hqueue (s.setCat b _) r hr
    · exact .inl hr
    · exact .inl hr
  · exact .inl hr

theorem State.lineGone.unlisted {l : Fin 64} (h : s.lineGone l) : (s.unlisted n).lineGone l := by
  refine ⟨(State.line_congr (by simp [State.unlisted]) l).trans h.1, fun r hr => ?_⟩
  rcases State.markCat_arb _ r hr with hmem | hown
  · exact h.2 r hmem
  · rw [hown]
    rfl

/-- The head write does not wait for the extent's lines, and nothing stands in the line queue. -/
theorem State.retireNow_eq {u : State} (hhead : s.headAwaitsExtent n = false)
    (hu : (s.abandonAll fun a => decide (a.key.extent = n)) = u) (hq : (u.dropExtent n).store.queue = []) :
    s.retireNow n = ((u.dropExtent n).unlisted n).leaveSealed n := by
  have hempty : ((u.dropExtent n).unlisted n).store.queue = [] := by
    simp only [State.unlisted, State.changeExtent_store]
    exact hq
  simp only [State.retireNow, hhead, hu]
  have hlisted : ({ u.dropExtent n with map := { (u.dropExtent n).map with
      index := (u.dropExtent n).map.index.filter fun r => !r.ofExtent n } } : State).changeExtent n Extent.freeForm =
      (u.dropExtent n).unlisted n := rfl
  rw [hlisted, hempty]
  simp only [List.length_nil, State.grantLines, Bool.false_eq_true, if_false]

end

end Sys2Proof.Machine

/-!
PROOFS. O52: the settlement of OPEN_EXTENT and RETIRE_EXTENT.
-/

namespace Sys2Proof.Machine

section

variable {s : State} {n : Fin 1024}

/-! ### The state a retirement leaves, but for the walks (R16, R59) -/

/-- The state that RETIRE_EXTENT leaves before the walks have the change to find. -/
def State.retired (s : State) (n : Fin 1024) : State := ((s.abandon scrubPos).dropExtent n).unlisted n

/-- What it leaves, where nothing but a SCRUB accumulator of the extent is at work. -/
structure Retired (n : Fin 1024) (s t : State) : Prop where
  ports : t.ports = s.ports
  up : t.up = s.up
  rep : t.rep = s.rep
  cfg : t.cfg = s.cfg
  part : t.ldr.part = s.ldr.part
  batch : t.dir.batch = s.dir.batch
  restart : t.map.restart = s.map.restart
  index : t.map.index = s.map.index.filter fun q => !q.ofExtent n
  extents : ∀ k, t.extent k = if k = n then Extent.freeForm else s.extent k
  walk : ∃ g : Option (Fin 64) → Option (Fin 64), t.walk = { s.walk with cur := s.walk.cur.map fun w => { w with line := g w.line } }
  pool : ∀ p, t.accum p = none
  gone : ∀ l, s.lineOfExtent n l → t.lineGone l
  lines : ∀ l, ¬s.lineOfExtent n l → t.line l = (s.abandon scrubPos).line l

theorem State.retired_retires (halone : s.scrubAlone) (htest : ∀ a, s.accum scrubPos = some a → a.key.extent = n)
    (hhead : s.headAwaitsExtent n = false) (hq : s.store.queue = []) (hf : s.dir.flush = none)
    (hw : ∀ l, s.lineOfExtent n l → (s.line l).waiting = []) :
    s.retireNow n = (s.retired n).leaveSealed n ∧ Retired n s (s.retired n) := by
  let u := s.abandon scrubPos
  have hof : ∀ l, u.lineOfExtent n l ↔ s.lineOfExtent n l := fun l => by
    obtain ⟨hstate, hext, -⟩ := halone.abandon_line l
    unfold State.lineOfExtent
    rw [hstate, hext]
  have huq : u.store.queue = [] := by simp [u, hq]
  have huf : u.dir.flush = none := by simp [u, hf]
  have huw : ∀ l, u.lineOfExtent n l → (u.line l).waiting = [] := fun l hl => by
    obtain ⟨-, -, hwaiting⟩ := halone.abandon_line l
    exact hwaiting (hw l ((hof l).mp hl))
  obtain ⟨hgone, hdrop, hkept⟩ := State.dropExtent_gone huq huf huw
  have hqueue : (u.dropExtent n).store.queue = [] := hgone.queue.trans huq
  have hu : (s.abandonAll fun a => decide (a.key.extent = n)) = u :=
    State.abandonAll_scrub halone fun a ha => decide_eq_true (htest a ha)
  have hretire := State.retireNow_eq hhead hu hqueue
  rw [show (u.dropExtent n).unlisted n = s.retired n by simp only [State.retired, u]] at hretire
  refine ⟨hretire, ?_, ?_, ?_, ?_, ?_, ?_, ?_, ?_, fun k => ?_, ?_, fun p => ?_, fun l hl => ?_, fun l hl => ?_⟩
  · have hports : (s.abandon scrubPos).ports = s.ports := (State.abandon_granting halone.unheld).ports
    rw [← hports, ← hgone.ports]
    simp [State.retired, State.unlisted, u]
  · have h := hgone.up
    simpa [State.retired, State.unlisted, u] using h
  · have h := hgone.rep
    simpa [State.retired, State.unlisted, u] using h
  · have h := hgone.cfg
    simpa [State.retired, State.unlisted, u] using h
  · have h := congrArg Loader.part hgone.ldr
    simpa [State.retired, State.unlisted, u] using h
  · have h := hgone.batch
    simpa [State.retired, State.unlisted, u] using h
  · have h := congrArg ExtentMap.restart hgone.map
    simpa [State.retired, State.unlisted, u] using h
  · have h := congrArg ExtentMap.index hgone.map
    rw [State.retired, State.unlisted_index, h]
    simp [u]
  · rw [State.retired, State.unlisted_extent, State.extent_congr (hgone.map.trans (State.abandon_map s scrubPos))]
  · obtain ⟨g, hg⟩ := hgone.walk
    refine ⟨g, ?_⟩
    simpa [State.retired, State.unlisted, u] using hg
  · exact (State.accum_congr (by simp [State.retired, State.unlisted, u]) p).trans (hgone.pool halone.abandoned p)
  · exact State.lineGone.unlisted (hdrop l ((hof l).mpr hl))
  · exact (State.line_congr (by simp [State.retired, State.unlisted, u]) l).trans (hkept l fun h => hl ((hof l).mp h))

theorem State.lineGone.recorded {l : Fin 64} (h : s.lineGone l) (r : Result) : (s.addResult r).syncStatusTimer.lineGone l := by
  obtain ⟨-, -, hstore, -, -⟩ := (s.recorded_addResult r).shelf
  exact ⟨(State.line_congr hstore l).trans h.1, State.recorded_noneQueued h.2 r rfl rfl⟩

/-! ### With no walk and no accumulator -/

theorem openExtent_idle (hex : s.executes (.openExtent n.val none)) (hw : s.walk.cur = none) (hfree : ∀ p, s.accum p = none)
    (hok : s.releaseRefusal n (fun st => decide (st = .sealed)) = none) :
    ∃ t, exec (.openExtent n.val none) s = .next t ∧ SamePorts s t ∧ t.pool = s.pool ∧ t.store = s.store ∧
      t.mend = s.mend ∧ t.cfg = s.cfg ∧ Gained s t .done ∧ t.walk = s.walk.leave n ∧
      t.extent n = { s.extent n with state := .opened } ∧ (∀ k, k ≠ n → t.extent k = s.extent k) ∧
      t.map.index = s.map.index := by
  let u : State := { s.setExtentState n .opened with walk := s.walk.leave n }
  have he : openEffect n.val s = (u, .done) := by rw [openEffect_opens hok, State.openNow_of_idle hw hfree]
  obtain ⟨hexec, hgain, hrec⟩ := State.directive_result hex he (by simp [u, State.setExtentState])
  obtain ⟨hmap, hpool, hstore, hwalk, hmend⟩ := hrec.shelf
  have hext : ∀ k, (u.addResult .done).syncStatusTimer.extent k =
      if k = n then { s.extent n with state := .opened } else s.extent k := fun k =>
    (State.extent_congr hmap k).trans (State.extent_setExtentState .opened k)
  have hports : SamePorts s u := s.changeExtent_samePorts n _
  exact ⟨_, hexec, hports.trans hrec.ports, hpool.trans (by simp [u, State.setExtentState]),
    hstore.trans (by simp [u, State.setExtentState]), hmend.trans (by simp [u, State.setExtentState]),
    hrec.cfg.trans (by simp [u, State.setExtentState]), hgain, hwalk, (hext n).trans (if_pos rfl),
    fun k hk => (hext k).trans (if_neg hk), (congrArg ExtentMap.index hmap).trans (by simp [u, State.setExtentState])⟩

theorem releaseExtent_refused {i : Instr} {effect : Effect} (hex : s.executes i) {r : Result} (he : effect s = (s, r)) :
    ∃ t, s.directive i effect = .next t ∧ SamePorts s t ∧ t.pool = s.pool ∧ t.store = s.store ∧ t.mend = s.mend ∧ t.cfg = s.cfg ∧
      Gained s t r ∧ t.map = s.map ∧ t.walk = s.walk := by
  obtain ⟨t, hexec, hgain, hrec⟩ := State.directive_refuses hex he
  obtain ⟨hmap, hpool, hstore, hwalk, hmend⟩ := hrec.shelf
  exact ⟨t, hexec, hrec.ports, hpool, hstore, hmend, hrec.cfg, hgain, hmap, hwalk⟩

theorem retireExtent_idle (hex : s.executes (.retireExtent n.val none)) (hw : s.walk.cur = none) (hfree : ∀ p, s.accum p = none)
    (hok : s.releaseRefusal n ExtentState.retirable = none) (hhead : s.headAwaitsExtent n = false) (hq : s.store.queue = [])
    (hnone : ∀ l, (s.line l).state = .invalid ∨ (s.line l).extent ≠ n) :
    ∃ t, exec (.retireExtent n.val none) s = .next t ∧ SamePorts s t ∧ t.pool = s.pool ∧ t.store = s.store ∧
      t.mend = s.mend ∧ t.cfg = s.cfg ∧ Gained s t .done ∧
      (∀ k, t.extent k = if k = n then Extent.freeForm else s.extent k) ∧
      t.map.index = s.map.index.filter (fun q => !q.ofExtent n) ∧ t.walk = s.walk.leave n := by
  have hdrop : s.dropExtent n = s := by
    have hlines : s.dropLines n (allFin 64) = s := forEach_fixed fun l _ => State.dropIf_of_other fun h =>
      (hnone l).elim h.1 (fun k => k h.2)
    have hif : (fun (l : Fin 64) (t : State) => if (t.line l).state ≠ .invalid ∧ (t.line l).extent = n then t.dropLine l else t) =
        State.dropIf n := rfl
    have hforeach : forEach (allFin 64) (State.dropIf n) s = s := hlines
    simp only [State.dropExtent, hif, hforeach, hq, List.filter_nil]
    rw [← hq]
  have hempty : (s.dropExtent n).store.queue = [] := by rw [hdrop, hq]
  have hretire := State.retireNow_eq hhead (State.abandonAll_of_free hfree _) hempty
  rw [hdrop, State.leaveSealed_of_none (by simp [State.unlisted, hw])] at hretire
  let u : State := { s.unlisted n with walk := (s.unlisted n).walk.leave n }
  have he : retireEffect n.val s = (u, .done) := by rw [retireEffect_retires hok, hretire]
  obtain ⟨hexec, hgain, hrec⟩ := State.directive_result hex he (by simp [u, State.unlisted])
  obtain ⟨hmap, hpool, hstore, hwalk, hmend⟩ := hrec.shelf
  have hports : SamePorts s u := by simp [SamePorts, u, State.unlisted]
  exact ⟨_, hexec, hports.trans hrec.ports, hpool.trans (by simp [u, State.unlisted]), hstore.trans (by simp [u, State.unlisted]),
    hmend.trans (by simp [u, State.unlisted]), hrec.cfg.trans (by simp [u, State.unlisted]), hgain,
    fun k => (State.extent_congr hmap k).trans (State.unlisted_extent k), (congrArg ExtentMap.index hmap).trans State.unlisted_index,
    hwalk.trans (by simp [u, State.unlisted])⟩

end

end Sys2Proof.Machine

/-!
PROOFS. O52: a release that ends the extent's CHECK walk, and the settlement.
-/

namespace Sys2Proof.Machine

section

variable {s v t : State} {w : Walk} {n : Fin 1024}

/-! ### The walk's end, and the record's result -/

theorem State.lineGone.congr {l : Fin 64} (h : s.lineGone l) (hstore : t.store = s.store) (harb : t.arb = s.arb) : t.lineGone l :=
  ⟨(State.line_congr hstore l).trans h.1, fun r hr => h.2 r (harb ▸ hr)⟩

/-- The walk ended as the extent was released, and the record has its result. -/
theorem CheckEnded.recorded (h : CheckEnded v t w) (he : w.extent = n) (hrep : v.rep = s.rep) (hcfg : v.cfg = s.cfg)
    (hpool : ∀ p, v.accum p = none) (r : Result) :
    let x := (t.addResult r).syncStatusTimer
    x.walk.cur = none ∧ (x.flag .walkEnd).isSet = true ∧ x.accum scrubPos = none ∧ NoneQueued x Owner.isWalk ∧
      Logged s x (s.findingNow .checkDone (some n.val) (some w.first) (some 1) w.checked w.mismatches w.skipped) := by
  have hrec := t.recorded_addResult r
  obtain ⟨-, htpool, -, htwalk, -⟩ := hrec.shelf
  obtain ⟨-, -, -, -, hflags⟩ := hrec.log
  have hfinding : v.findingNow = s.findingNow := by
    funext
    simp only [State.findingNow, hcfg, hrep]
  refine ⟨(congrArg WalkEngine.cur htwalk).trans h.cur, ?_, (State.accum_congr (htpool.trans h.pool) scrubPos).trans (hpool scrubPos),
    State.recorded_noneQueued h.noneQueued r rfl rfl, ?_⟩
  · rw [State.flag_congr hflags]
    exact h.flag
  · rw [← he, ← hfinding]
    exact (h.logged.of_rep hrep).sameLog hrec.log

/-- A CHECK walk of the extent, RUNNING, that alone is at work (R118). -/
structure CheckAlone (s : State) (n : Fin 1024) (w : Walk) : Prop where
  cur : s.walk.cur = some w
  kind : w.kind = .check
  run : w.run = .running
  extent : w.extent = n
  past : w.past = false
  saved : s.walk.saved = []
  restart : s.map.restart = []
  due : s.walk.passDue = false
  accums : ∀ p a, s.accum p = some a → p = scrubPos ∧ a.mode = .scrub ∧ a.key.extent = n ∧ a.holding = []

theorem CheckAlone.scrubAlone (h : CheckAlone s n w) : s.scrubAlone := fun p a ha => by
  obtain ⟨hp, -, -, hold⟩ := h.accums p a ha
  exact ⟨hp, hold⟩

/-! ### RETIRE_EXTENT -/

/-- Where nothing but the extent's SCRUB accumulator and its lines is at work, as O52 says it. -/
theorem retireExtent_clears (hex : s.executes (.retireExtent n.val none)) (hok : s.releaseRefusal n ExtentState.retirable = none)
    (halone : s.scrubAlone) (htest : ∀ a, s.accum scrubPos = some a → a.key.extent = n) (hhead : s.headAwaitsExtent n = false)
    (hq : s.store.queue = []) (hf : s.dir.flush = none) (hw : ∀ l, s.lineOfExtent n l → (s.line l).waiting = [])
    {u : State} (hu : (s.retired n).leaveSealed n = u) (hmap : u.map = (s.retired n).map) (hports : u.ports = (s.retired n).ports)
    (hup : u.up = (s.retired n).up) (hbatch : u.dir.batch = (s.retired n).dir.batch)
    (hlines : ∀ l, (s.retired n).lineGone l → u.lineGone l) :
    let t := (u.addResult .done).syncStatusTimer
    exec (.retireExtent n.val none) s = .next t ∧ Gained s t .done ∧
      (t.extent n = Extent.freeForm ∧ (∀ k, k ≠ n → t.extent k = s.extent k) ∧
        t.map.index = s.map.index.filter fun q => !q.ofExtent n) ∧
      (∀ l, (s.line l).state ≠ .invalid → (s.line l).extent = n → t.line l = Line.blank ∧ t.queued (.fill l) = false ∧
        t.queued (.refill l) = false ∧ t.queued (.writeback l) = false) ∧ t.ports = s.ports ∧ t.up = s.up := by
  obtain ⟨hretire, hr⟩ := State.retired_retires halone htest hhead hq hf hw
  have he : retireEffect n.val s = (u, .done) := by rw [retireEffect_retires hok, hretire, hu]
  obtain ⟨hexec, hgain, hrec⟩ := State.directive_result hex he (hbatch.trans hr.batch)
  obtain ⟨htmap, -, -, -, -⟩ := hrec.shelf
  obtain ⟨-, htports, htup, -⟩ := hrec.ports
  have hext : ∀ k, (u.addResult .done).syncStatusTimer.extent k = if k = n then Extent.freeForm else s.extent k := fun k =>
    (State.extent_congr (htmap.trans hmap) k).trans (hr.extents k)
  refine ⟨hexec, hgain, ⟨(hext n).trans (if_pos rfl), fun k hk => (hext k).trans (if_neg hk),
    (congrArg ExtentMap.index (htmap.trans hmap)).trans hr.index⟩, fun l hstate hof => ?_, htports.trans (hports.trans hr.ports),
    htup.trans (hup.trans hr.up)⟩
  exact ((hlines l (hr.gone l ⟨hstate, hof⟩)).recorded .done).queued

/-- The walk is at work on the retired extent, whose line it may have lost. -/
theorem CheckAlone.retired_ends (h : CheckAlone s n w) (hp : s.ldr.part = .running) (hr : Retired n s (s.retired n)) :
    ∃ v : Walk, v.extent = n ∧ v.first = w.first ∧ v.checked = w.checked ∧ v.mismatches = w.mismatches ∧ v.skipped = w.skipped ∧
      CheckEnded (s.retired n) ((s.retired n).leaveSealed n) v := by
  obtain ⟨g, hg⟩ := hr.walk
  have hcur : (s.retired n).walk.cur = some { w with line := g w.line } := by
    rw [hg, h.cur]
    rfl
  refine ⟨{ w with line := g w.line }, h.extent, rfl, rfl, rfl, rfl, ?_⟩
  refine State.leaveSealed_ends hcur h.kind h.run h.extent h.past (fun hstage => ?_) ?_ ?_ ?_ (hr.part.trans hp)
  · obtain ⟨-, hstate⟩ := hstage
    rw [hr.extents, if_pos rfl] at hstate
    exact hstate rfl
  · rw [hg]
    exact h.saved
  · exact hr.restart.trans h.restart
  · rw [hg]
    exact h.due

/-! ### OPEN_EXTENT -/

/-- OPEN_EXTENT ends the CHECK walk of the extent where it has no verification in flight. -/
theorem openExtent_ends (hex : s.executes (.openExtent n.val none)) (hok : s.releaseRefusal n (fun st => decide (st = .sealed)) = none)
    (h : CheckAlone s n w) (hstage : w.stage ≠ .auditing) :
    ∃ t, exec (.openExtent n.val none) s = .next t ∧ Gained s t .done ∧
      (t.walk.cur = none ∧ (t.flag .walkEnd).isSet = true ∧ t.accum scrubPos = none ∧ NoneQueued t Owner.isWalk ∧
        Logged s t (s.findingNow .checkDone (some n.val) (some w.first) (some 1) w.checked w.mismatches w.skipped)) ∧
      t.extent n = { s.extent n with state := .opened } ∧ (∀ k, k ≠ n → t.extent k = s.extent k) ∧
      t.map.index = s.map.index ∧ t.ports = s.ports ∧ t.up = s.up := by
  let x := s.setExtentState n .opened
  let v := x.abandon scrubPos
  have hx : ∀ p, x.accum p = s.accum p := State.accum_congr (by simp [x, State.setExtentState])
  have halone : x.scrubAlone := fun p a ha => by
    rw [hx] at ha
    exact h.scrubAlone p a ha
  have hall : (x.abandonAll fun a => decide (a.key.extent = n) && (decide (a.mode = .check) || decide (a.mode = .scrub))) = v :=
    State.abandonAll_scrub halone fun a ha => by
      rw [hx] at ha
      obtain ⟨-, hmode, hext, -⟩ := h.accums scrubPos a ha
      simp [hext, hmode]
  have hwalk : v.walk = s.walk := by simp [v, x, State.setExtentState]
  have hp : v.ldr.part = .running := by
    have hpart : v.ldr.part = s.ldr.part := by simp [v, x, State.setExtentState]
    rw [hpart]
    exact s.running_iff.mp hex.1
  have hended : CheckEnded v (v.leaveSealed n) w := State.leaveSealed_ends (by rw [hwalk]; exact h.cur) h.kind h.run h.extent h.past
    (fun k => hstage k.1) (by rw [hwalk]; exact h.saved)
    ((show v.map.restart = s.map.restart by simp [v, x, State.setExtentState]).trans h.restart) (by rw [hwalk]; exact h.due) hp
  have he : openEffect n.val s = (v.leaveSealed n, .done) := by
    rw [openEffect_opens hok]
    simp only [State.openNow]
    rw [← hall]
  obtain ⟨hexec, hgain, hrec⟩ := State.directive_result hex he
    (hended.batch.trans (by simp [v, x, State.setExtentState]))
  obtain ⟨htmap, -, -, -, -⟩ := hrec.shelf
  obtain ⟨-, htports, htup, -⟩ := hrec.ports
  have hvmap : v.map = x.map := State.abandon_map x scrubPos
  have hext : ∀ k, ((v.leaveSealed n).addResult .done).syncStatusTimer.extent k =
      if k = n then { s.extent n with state := .opened } else s.extent k := fun k =>
    (State.extent_congr (htmap.trans (hended.map.trans hvmap)) k).trans (State.extent_setExtentState .opened k)
  have hvports : v.ports = x.ports := (State.abandon_granting halone.unheld).ports
  have hxports : x.ports = s.ports ∧ x.up = s.up := by simp [x, State.setExtentState]
  refine ⟨_, hexec, hgain, hended.recorded (s := s) h.extent (by simp [v, x, State.setExtentState]) (by simp [v, x, State.setExtentState])
    halone.abandoned .done, (hext n).trans (if_pos rfl), fun k hk => (hext k).trans (if_neg hk), ?_,
    htports.trans (hended.ports.trans (hvports.trans hxports.1)), htup.trans (hended.up.trans ((State.abandon_up x scrubPos).trans hxports.2))⟩
  rw [congrArg ExtentMap.index (htmap.trans (hended.map.trans hvmap))]
  simp [x, State.setExtentState]

end

/-- Settles O52: the conditions decide; a release marks the walks at work on the extent, and ends the CHECK walk of it. -/
theorem extentReleased : Obligations.ExtentReleased := by
  unfold Obligations.ExtentReleased
  intro s n late leaves noticed dropped ended alone calm
  have hlate : late = s.releaseLate n := rfl
  have hchecks : ∀ {w : Walk}, alone w → CheckAlone s n w := fun h => by
    obtain ⟨hcur, hkind, hrun, hext, hpast, hsaved, hrestart, hdue, haccums⟩ := h
    exact ⟨hcur, hkind, hrun, hext, hpast, hsaved, hrestart, hdue, haccums⟩
  refine ⟨fun hex hw hfree => ?_, fun hex hw hfree hhead hq hnone => ?_, fun hex hst hl hcalm => ?_, fun w hex hst hl h hstage => ?_⟩
  · rw [hlate, ← State.releaseRefusal_opens]
    cases hr : s.releaseRefusal n (fun st => decide (st = .sealed)) with
    | some r => exact releaseExtent_refused hex (openEffect_refuses hr)
    | none =>
      obtain ⟨t, hexec, hports, hpool, hstore, hmend, hcfg, hgain, hwalk, hext, hothers, hindex⟩ := openExtent_idle hex hw hfree hr
      refine ⟨t, hexec, hports, hpool, hstore, hmend, hcfg, hgain, ?_, hext, hothers, hindex⟩
      show t.walk.cur = none ∧ _
      rw [hwalk]
      exact s.walk.leave_noticed hw
  · rw [hlate, ← State.releaseRefusal_retires]
    cases hr : s.releaseRefusal n ExtentState.retirable with
    | some r => exact releaseExtent_refused hex (retireEffect_refuses hr)
    | none =>
      obtain ⟨t, hexec, hports, hpool, hstore, hmend, hcfg, hgain, hext, hindex, hwalk⟩ :=
        retireExtent_idle hex hw hfree hr hhead hq hnone
      refine ⟨t, hexec, hports, hpool, hstore, hmend, hcfg, hgain,
        ⟨(hext n).trans (if_pos rfl), fun k hk => (hext k).trans (if_neg hk), hindex⟩, ?_⟩
      show t.walk.cur = none ∧ _
      rw [hwalk]
      exact s.walk.leave_noticed hw
  · obtain ⟨hhead, hq, hf, -, hwaiting⟩ := hcalm
    have hok : s.releaseRefusal n ExtentState.retirable = none := by
      have hnot : ¬((s.extent n).state ≠ .defined ∧ (s.extent n).state ≠ .opened ∧ (s.extent n).state ≠ .sealed) := fun h => by
        rw [(ExtentState.retirable_iff _).mpr h] at hst
        cases hst
      rw [State.releaseRefusal_retires, if_neg hnot, ← hlate, hl]
    have hlines : ∀ l, s.lineOfExtent n l → (s.line l).waiting = [] := fun l hl => hwaiting l hl.1 hl.2
    refine ⟨fun hw hfree => ?_, fun w h => ?_⟩
    · have hscrub : s.scrubAlone := fun p a ha => by
        rw [hfree] at ha
        cases ha
      have htest : ∀ a, s.accum scrubPos = some a → a.key.extent = n := fun a ha => by
        rw [hfree] at ha
        cases ha
      obtain ⟨-, hr⟩ := State.retired_retires hscrub htest hhead hq hf hlines
      obtain ⟨g, hg⟩ := hr.walk
      have hcur : (s.retired n).walk.cur = none := by rw [hg, hw]; rfl
      let u : State := { s.retired n with walk := (s.retired n).walk.leave n }
      have hmap : u.map = (s.retired n).map := by simp only [u]
      have hkeeps : u.ports = (s.retired n).ports ∧ u.up = (s.retired n).up ∧ u.dir.batch = (s.retired n).dir.batch ∧
          u.rep = (s.retired n).rep ∧ u.store = (s.retired n).store ∧ u.arb = (s.retired n).arb := by simp only [u, and_self]
      obtain ⟨huports, huup, hubatch, hurep, hustore, huarb⟩ := hkeeps
      obtain ⟨hexec, hgain, hleaves, hdropped, hports, hup⟩ := retireExtent_clears hex hok hscrub htest hhead hq hf hlines
        (u := u) (State.leaveSealed_of_none hcur) hmap huports huup hubatch fun l h => h.congr hustore huarb
      have hrec := u.recorded_addResult .done
      obtain ⟨-, -, hstore, -, -⟩ := hrec.shelf
      have hkept : s.abandon scrubPos = s := by rw [State.abandon, hfree]
      refine ⟨_, hexec, hgain, hleaves, ⟨hdropped, fun _ l hl => ?_⟩, hports, hup,
        ((SameLog.of_rep (hurep.trans hr.rep)).trans hrec.log).unlogged⟩
      have hother : ¬s.lineOfExtent n l := fun h => hl.elim h.1 (fun k => k h.2)
      exact (State.line_congr (hstore.trans hustore) l).trans ((hr.lines l hother).trans (by rw [hkept]))
    · have hcheck := hchecks h
      have htest : ∀ a, s.accum scrubPos = some a → a.key.extent = n := fun a ha => by
        obtain ⟨-, -, hext, -⟩ := hcheck.accums scrubPos a ha
        exact hext
      obtain ⟨-, hr⟩ := State.retired_retires hcheck.scrubAlone htest hhead hq hf hlines
      obtain ⟨v, hext, hfirst, hchecked, hmismatches, hskipped, hended⟩ := hcheck.retired_ends (s.running_iff.mp hex.1) hr
      obtain ⟨hexec, hgain, hleaves, hdropped, hports, hup⟩ := retireExtent_clears hex hok hcheck.scrubAlone htest hhead hq hf hlines
        rfl hended.map hended.ports hended.up hended.batch hended.lines
      have hend := hended.recorded (s := s) hext hr.rep hr.cfg hr.pool .done
      rw [hfirst, hchecked, hmismatches, hskipped] at hend
      refine ⟨_, hexec, hgain, hleaves, ⟨hdropped, fun hw => ?_⟩, hend, hports, hup⟩
      rw [hcheck.cur] at hw
      cases hw
  · have hok : s.releaseRefusal n (fun st => decide (st = .sealed)) = none := by
      rw [State.releaseRefusal_opens, if_neg (by simp [hst]), ← hlate, hl]
    obtain ⟨t, hexec, hgain, hend, hext, hothers, hindex, hports, hup⟩ := openExtent_ends hex hok (hchecks h) hstage
    exact ⟨t, hexec, hgain, hend, hext, hothers, hindex, hports, hup⟩

end Sys2Proof.Machine

/-!
PROOFS. The media link goes down with an engine at work (R103, R118, R155).
-/

namespace Sys2Proof.Machine

/-! ### Reads that no engine waits for -/

/-- Neither engine waits for a line being read, and nothing else does. -/
structure State.readsUnawaited (s : State) : Prop where
  auditing : ∀ l, s.walkWaitsOn l .auditing = none
  filling : ∀ l, s.walkWaitsOn l .waitFill = none
  mend : ∀ l, s.mendWaitsOn l = none
  head : s.up.head = none
  frame : s.dir.mendFrame = none
  waiting : ∀ l, (s.line l).state = .filling ∨ (s.line l).refilling = true → (s.line l).waiting = []

theorem State.walkWaitsOn_congr {s t : State} (h : t.walk = s.walk) (l : Fin 64) (g : WalkStage) :
    t.walkWaitsOn l g = s.walkWaitsOn l g := by simp only [State.walkWaitsOn, h]

theorem State.mendWaitsOn_congr {s t : State} (h : t.mend = s.mend) (l : Fin 64) : t.mendWaitsOn l = s.mendWaitsOn l := by
  simp only [State.mendWaitsOn, h]

section

variable {s : State} (h : s.readsUnawaited)
include h

theorem State.readsUnawaited.lineLinkDown (l : Fin 64) : s.lineLinkDown l = s.readLost l := by
  have hbeside : ∀ {u : State}, OnLine l s u → (∀ k, u.walkWaitsOn k .auditing = none) ∧ (∀ k, u.walkWaitsOn k .waitFill = none) ∧
      (∀ k, u.mendWaitsOn k = none) ∧ ∀ k, u.frameWaitsOn k = none := fun hon =>
    ⟨fun k => (State.walkWaitsOn_congr hon.walk k _).trans (h.auditing k),
      fun k => (State.walkWaitsOn_congr hon.walk k _).trans (h.filling k),
      fun k => (State.mendWaitsOn_congr hon.mend k).trans (h.mend k), hon.frameWaitsOn h.frame⟩
  unfold State.lineLinkDown State.readLost
  split
  next hfill =>
    obtain ⟨ha, hf, hm, hfr⟩ := hbeside (s.invalidate_onLine l)
    simp [State.fillLost, State.headWaitsOn, h.head, h.waiting l (.inl hfill), State.failWaiting, forEach, ha, hf, hm, hfr]
  next =>
    split
    next hr =>
      obtain ⟨ha, hf, hm, hfr⟩ := hbeside (s.setLine_onLine l { s.line l with refilling := false })
      have hw : ((s.setLine l { s.line l with refilling := false }).line l).waiting = [] := by
        rw [State.line_setLine_self, h.waiting l (.inr hr)]
      simp only [State.refillLost, State.drain_of_nil hw, State.lineFilled, State.walkLineRead, ha, hf, hm, hfr]
    next => rfl

theorem State.readsUnawaited.of_onStore {t : State} (k : OnStore s t) (hl : ∀ l, t.line l = s.line l ∨ t.line l = (s.line l).linkLost) :
    t.readsUnawaited := by
  have hwalk : t.walk = s.walk := (congrArg State.walk k.1).trans rfl
  have hmend : t.mend = s.mend := (congrArg State.mend k.1).trans rfl
  have hup : t.up = s.up := (congrArg State.up k.1).trans rfl
  have hdir : t.dir = s.dir := (congrArg State.dir k.1).trans rfl
  refine ⟨fun l => (State.walkWaitsOn_congr hwalk l _).trans (h.auditing l), fun l => (State.walkWaitsOn_congr hwalk l _).trans
    (h.filling l), fun l => (State.mendWaitsOn_congr hmend l).trans (h.mend l), by rw [hup, h.head], by rw [hdir, h.frame],
    fun l hr => ?_⟩
  rcases hl l with hsame | hlost
  · rw [hsame] at hr ⊢
    exact h.waiting l hr
  · rw [hlost] at hr ⊢
    unfold Line.linkLost at hr ⊢
    split
    · rfl
    next hne =>
      rw [if_neg hne] at hr
      exact absurd (hr.resolve_right (by simp)) hne

/-- The lines being read lose their reads, and nothing else happens. -/
theorem State.readsUnawaited.linesLinkDown (ls : List (Fin 64)) : OnStore s (forEach ls (fun l t => t.lineLinkDown l) s) := by
  have hloop : forEach ls (fun l t => t.lineLinkDown l) s = forEach ls (fun l t => t.readLost l) s :=
    forEach_congr (Q := State.readsUnawaited) (fun l _ ht => ht.lineLinkDown l)
      (fun l t ht => ht.of_onStore (t.readLost_onStore l) fun k => by
        rw [State.readLost_line]
        by_cases hk : k = l <;> simp [hk]) ls h
  rw [hloop]
  exact forEach_induct OnStore.refl OnStore.trans (fun l t => t.readLost_onStore l) ls s

end

/-! ### The slots (R103) -/

/-- The slot is FREE, or its injected request is OUTSTANDING. -/
def Slot.freeOrInjected (x : Slot) : Prop := x.life = .free ∨ (x.life = .outstanding ∧ ∃ o : Owner, x.kind = .injected o)

theorem State.slotLinkDown_frees {s : State} {i : Fin 256} (h : (s.slot i).freeOrInjected) :
    ∃ v, s.slotLinkDown i = { s with slots := v } ∧ ((s.slotLinkDown i).slot i).life = .free ∧ OtherSlots s (s.slotLinkDown i) i := by
  rcases h with hfree | ⟨hlife, o, hk⟩
  · rw [State.slotLinkDown_of_free hfree]
    exact ⟨s.slots, rfl, hfree, fun _ _ => rfl⟩
  · rw [State.slotLinkDown_injected hlife hk]
    exact ⟨_, rfl, congrArg Slot.life (s.slot_setSlot_self i _), s.otherSlots_setSlot i _⟩

theorem State.slotsLinkDown_free : ∀ (is : List (Fin 256)) {s : State}, (∀ j, (s.slot j).freeOrInjected) →
    ∃ v, forEach is (fun i t => t.slotLinkDown i) s = { s with slots := v } ∧
      ∀ j, j ∈ is ∨ (s.slot j).life = .free → ((forEach is (fun i t => t.slotLinkDown i) s).slot j).life = .free
  | [], s, _ => ⟨s.slots, rfl, fun _ hj => hj.resolve_left (List.not_mem_nil)⟩
  | i :: is, s, h => by
    obtain ⟨v, hv, hfree, hothers⟩ := State.slotLinkDown_frees (h i)
    have hkept : ∀ j, ((s.slotLinkDown i).slot j).freeOrInjected := fun j => by
      by_cases hj : j = i
      · rw [hj]
        exact .inl hfree
      · rw [hothers j hj]
        exact h j
    obtain ⟨u, hu, hall⟩ := State.slotsLinkDown_free is hkept
    have hcons : forEach (i :: is) (fun i t => State.slotLinkDown t i) s = forEach is (fun i t => t.slotLinkDown i) (s.slotLinkDown i) :=
      rfl
    refine ⟨u, by rw [hcons, hu, hv], fun j hj => ?_⟩
    rw [hcons]
    by_cases hji : j = i
    · exact hall j (.inr (hji ▸ hfree))
    · refine hall j (hj.imp (fun hmem => (List.mem_cons.mp hmem).resolve_left hji) fun hf => ?_)
      rw [hothers j hji]
      exact hf

/-! ### An accumulator whose returns are in FREE slots (R80) -/

/-- Every slot is FREE in both, and the ports and the pool are alike. -/
def FreeAlike (s t : State) : Prop :=
  (∀ j, (s.slot j).life = .free) → (∀ j, (t.slot j).life = .free) ∧ t.ports = s.ports ∧ t.pool = s.pool

theorem State.giveOutcome_freeAlike (s : State) (o : SlotOutcome) (i : Fin 256) : FreeAlike s (s.giveOutcome o i) := by
  intro h
  let u := s.setSlot i { s.slot i with outcomes := (s.slot i).outcomes ++ [o] }
  have hself : u.slot i = { s.slot i with outcomes := (s.slot i).outcomes ++ [o] } := State.slot_setSlot_self ..
  have hgive : s.giveOutcome o i = u := by
    show u.tryRelease i = u
    simp only [State.tryRelease]
    rw [hself]
    exact if_neg fun hc => by
      have hheld : (s.slot i).life = .held := hc.1
      rw [h i] at hheld
      cases hheld
  rw [hgive]
  refine ⟨fun j => ?_, rfl, rfl⟩
  by_cases hj : j = i
  · rw [hj, hself]
    exact h i
  · rw [s.otherSlots_setSlot i _ j hj]
    exact h j

theorem State.abandon_of_free {s : State} (h : ∀ j, (s.slot j).life = .free) (p : Fin 32) :
    (s.abandon p).accum p = none ∧ (∀ j, ((s.abandon p).slot j).life = .free) ∧ (s.abandon p).ports = s.ports := by
  cases ha : s.accum p with
  | none =>
    rw [State.abandon, ha]
    exact ⟨ha, h, rfl⟩
  | some a =>
    let u := ((((s.mapSlots fun x => x.dropAccum p).dropWaiting (.accum p)).mapSlots fun x => x.dropWatch p).setAccum p none).unpin?
      a.line
    have hu : ∀ j, (u.slot j).life = .free := fun j => by
      have hslot : u.slot j = ((s.slot j).dropAccum p).dropWatch p := by
        rw [State.slot_congr (State.unpin?_slots _ _), State.slot_congr (State.setAccum_slots _ _ _), State.slot_mapSlots]
        exact congrArg (fun x : Slot => x.dropWatch p) (State.slot_mapSlots s _ j)
      rw [hslot]
      exact h j
    have heq : s.abandon p = forEach a.holding (fun i t => t.giveOutcome .noVerdict i) u := by
      have hkept : ((s.mapSlots fun x => x.dropAccum p).dropWaiting (.accum p)).accum p = some a := ha
      rw [State.abandon, ha]
      dsimp only
      rw [State.endAccum, hkept]
    have halike : FreeAlike u (forEach a.holding (fun i t => t.giveOutcome .noVerdict i) u) :=
      forEach_induct (fun _ h => ⟨h, rfl, rfl⟩) (fun hst htu hs => by
        obtain ⟨ht, hports, hpool⟩ := hst hs
        obtain ⟨hu, hports', hpool'⟩ := htu ht
        exact ⟨hu, hports'.trans hports, hpool'.trans hpool⟩) (fun i t => t.giveOutcome_freeAlike _ i) _ _
    obtain ⟨hfree, hports, hpool⟩ := halike hu
    rw [heq]
    refine ⟨?_, hfree, hports.trans (by simp [u])⟩
    rw [State.accum_congr hpool, State.accum_congr (State.unpin?_pool _ _), State.accum_setAccum_self]

/-! ### The link's loss with nothing but an engine's requests in flight -/

/-- A walk's or mend's request does nothing by itself as it is cut off. -/
theorem State.ownerLinkDown_of_engine {o : Owner} (h : o.isWalk = true ∨ o.isMend = true) (s : State) : s.ownerLinkDown o = s := by
  cases o with
  | walkChunk k j => rfl
  | mendRead j => rfl
  | mendWrite j => rfl
  | _ => rcases h with h | h <;> cases h

/-- What the media link's loss does before the engines act on it. -/
structure LinkLost (s t : State) : Prop where
  mediaUp : t.mediaUp = false
  free : ∀ j, (t.slot j).life = .free
  ports : t.ports = s.ports
  rep : t.rep = s.rep
  walk : t.walk = s.walk
  mend : t.mend = s.mend

theorem State.mediaLost_engines {s : State} (h : s.readsUnawaited)
    (hslots : ∀ j, (s.slot j).life = .free ∨ ((s.slot j).life = .outstanding ∧ ∃ o : Owner, (s.slot j).kind = .injected o ∧
      (o.isWalk = true ∨ o.isMend = true))) :
    ∃ v, LinkLost s v ∧ s.mediaLost = v.cutWalk.cutMend.feedWalk.feedMend.pokeWalk := by
  let s' : State := { s with mediaUp := false }
  obtain ⟨sl, hsl, hfree⟩ := State.slotsLinkDown_free (allFin 256) (s := s') fun j => (hslots j).imp_right fun ⟨hlife, o, hk, _⟩ =>
    ⟨hlife, o, hk⟩
  generalize hu : forEach (allFin 256) (fun i t => t.slotLinkDown i) s' = u at hsl hfree
  have hun : (u.withdraw Owner.isLineRead).readsUnawaited := by
    rw [hsl]
    exact ⟨h.auditing, h.filling, h.mend, h.head, h.frame, h.waiting⟩
  have hlines := hun.linesLinkDown s.readingLines
  generalize hv : forEach s.readingLines (fun l t => t.lineLinkDown l) (u.withdraw Owner.isLineRead) = v at hlines
  obtain ⟨hstore, -⟩ := hlines
  have howners : ∀ o ∈ s.cutOwners, v.ownerLinkDown o = v := fun o ho => by
    rw [State.cutOwners_eq] at ho
    obtain ⟨j, -, hj⟩ := List.mem_filterMap.mp ho
    rcases hslots j with hf | ⟨-, o', hk, hengine⟩
    · rw [Slot.cutOwner_of_free hf] at hj
      cases hj
    · simp only [Slot.cutOwner, hk] at hj
      split at hj
      · cases hj
        exact State.ownerLinkDown_of_engine hengine v
      · cases hj
  have hanswer : State.answerHead s' .mediaError = s' := by simp [State.answerHead, s', h.head]
  have hvslots : v.slots = u.slots := by rw [hstore]; rfl
  refine ⟨v, ⟨by rw [hstore, hsl]; rfl, fun j => ?_, by rw [hstore, hsl]; rfl, by rw [hstore, hsl]; rfl, by rw [hstore, hsl]; rfl,
    by rw [hstore, hsl]; rfl⟩, ?_⟩
  · rw [State.slot_congr hvslots]
    exact hfree j (.inl (List.mem_finRange j))
  · have hforced : forEach s.cutOwners (fun o t => State.ownerLinkDown t o) v = v := forEach_fixed howners
    unfold State.mediaLost
    simp only [show ({ s with mediaUp := false } : State) = s' from rfl, hanswer, hu, hv, hforced]

end Sys2Proof.Machine

/-!
PROOFS. An engine at work as the media link goes down and up (R118, R155).
-/

namespace Sys2Proof.Machine

section

variable {s : State} (hhead : s.up.head = none)
include hhead

/-! ### The media link goes down -/

/-- A walk that rereads a frame copy is cut off and keeps its cursor (R118). -/
theorem mediaLinkDown_walk {w : Walk} {n : Nat} (hw : s.walk.cur = some w) (hm : s.mend.active = none) (hstage : w.stage = .reading n)
    (hfl : w.inFlight = true) (hreads : s.noneAwaitReads)
    (hslots : ∀ j, (s.slot j).life = .free ∨
      ((s.slot j).life = .outstanding ∧ ∃ o : Owner, (s.slot j).kind = .injected o ∧ o.isWalk = true)) :
    ∃ t, exec (.mediaLinkDown none) s = .next t ∧ t.mediaUp = false ∧ t.walk = { s.walk with cur := some { w with stage := .cut } } ∧
      t.accum scrubPos = none ∧ NoneQueued t Owner.isWalk ∧ (∀ j, (t.slot j).life = .free) ∧ t.ports = s.ports ∧ Unlogged s t := by
  obtain ⟨hframe, hwaiting⟩ := hreads
  have hun : s.readsUnawaited := ⟨fun l => by simp [State.walkWaitsOn, hw, hstage], fun l => by simp [State.walkWaitsOn, hw, hstage],
    fun l => by simp [State.mendWaitsOn, hm], hhead, hframe, hwaiting⟩
  obtain ⟨v, hv, hlost⟩ := State.mediaLost_engines hun fun j => (hslots j).imp_right fun ⟨hlife, o, hk, ho⟩ => ⟨hlife, o, hk, .inl ho⟩
  let c := ((v.abandon scrubPos).clearWalk).setWalk (some { w with stage := .cut })
  have hvw : v.walk.cur = some w := by rw [hv.walk]; exact hw
  have hcut : v.cutWalk = c := by simp [State.cutWalk, hvw, hstage, hfl, c]
  have hcwalk : c.walk = { s.walk with cur := some { w with stage := .cut } } := by
    simp [c, State.setWalk, State.clearWalk, hv.walk]
  have hcmend : c.mend.active = none := by
    have hmend : c.mend = v.mend := by simp [c, State.setWalk, State.clearWalk]
    rw [hmend, hv.mend, hm]
  have hcur : c.walk.cur = some { w with stage := .cut } := by rw [hcwalk]
  have hrest : c.cutMend.feedWalk.feedMend.pokeWalk = c := by
    have h1 : c.cutMend = c := by simp [State.cutMend, hcmend]
    have h2 : c.feedWalk = c := by simp [State.feedWalk, hcur]
    have h3 : c.feedMend = c := by simp [State.feedMend, hcmend]
    have h4 : c.pokeWalk = c := by simp [State.pokeWalk, hcur]
    rw [h1, h2, h3, h4]
  have hstep : exec (.mediaLinkDown none) s = .next c.syncStatusTimer := congrArg State.done (hlost.trans (by rw [hcut, hrest]))
  obtain ⟨haccum, hfree, hports⟩ := State.abandon_of_free hv.free scrubPos
  have hcslots : ∀ j, (c.slot j).life = .free := fun j => by
    have hkill := ((v.abandon scrubPos).withdraw Owner.isWalk).killOutstanding_granting Owner.isWalk
    obtain ⟨hlife, -, -⟩ := hkill.slots j
    exact hlife.trans (hfree j)
  have hcports : c.ports = s.ports := by
    have hkept : c.ports = (v.abandon scrubPos).ports := by simp [c, State.setWalk, State.clearWalk]
    rw [hkept, hports, hv.ports]
  have hcrep : c.rep = s.rep := by
    have hkept : c.rep = v.rep := by simp [c, State.setWalk, State.clearWalk]
    rw [hkept, hv.rep]
  have hcmedia : c.mediaUp = false := by
    have hkept : c.mediaUp = v.mediaUp := by simp [c, State.setWalk, State.clearWalk]
    rw [hkept, hv.mediaUp]
  refine ⟨_, hstep, (State.syncStatusTimer_mediaUp c).trans hcmedia, (State.syncStatusTimer_walk c).trans hcwalk, ?_, fun r hr => ?_,
    fun j => ?_, (State.syncStatusTimer_ports c).trans hcports, (SameLog.of_rep hcrep).sync.unlogged⟩
  · have hpool : c.pool = (v.abandon scrubPos).pool := by simp [c, State.setWalk, State.clearWalk]
    exact (State.accum_congr ((State.syncStatusTimer_pool c).trans hpool) scrubPos).trans haccum
  · rw [State.syncStatusTimer_arb] at hr
    exact (v.abandon scrubPos).clearWalk_noneQueued r hr
  · rw [State.slot_congr (State.syncStatusTimer_slots c)]
    exact hcslots j

/-- A mend at work is cut off, its chunk buffer gone (R155). -/
theorem mediaLinkDown_mend {m : Mend} (hm : s.mend.active = some m) (hw : s.walk.cur = none)
    (hstage : m.stage = .working ∨ m.stage = .comparing) (hreads : s.noneAwaitReads)
    (hslots : ∀ j, (s.slot j).life = .free ∨
      ((s.slot j).life = .outstanding ∧ ∃ o : Owner, (s.slot j).kind = .injected o ∧ o.isMend = true)) :
    ∃ t, exec (.mediaLinkDown none) s = .next t ∧ t.mediaUp = false ∧
      t.mend = { s.mend with active := some { m with stage := .cut, buffer := none } } ∧ t.accum mendPos = none ∧
      NoneQueued t Owner.isMend ∧ (∀ j, (t.slot j).life = .free) ∧ t.ports = s.ports ∧ Unlogged s t := by
  obtain ⟨hframe, hwaiting⟩ := hreads
  have hnotFill : m.stage ≠ .lineFill := by rcases hstage with h | h <;> simp [h]
  have hun : s.readsUnawaited := ⟨fun l => by simp [State.walkWaitsOn, hw], fun l => by simp [State.walkWaitsOn, hw],
    fun l => by simp [State.mendWaitsOn, hm, hnotFill], hhead, hframe, hwaiting⟩
  obtain ⟨v, hv, hlost⟩ := State.mediaLost_engines hun fun j => (hslots j).imp_right fun ⟨hlife, o, hk, ho⟩ => ⟨hlife, o, hk, .inr ho⟩
  let c := v.stopMendWork.setMend (some { m with stage := .cut, buffer := none })
  have hvm : v.mend.active = some m := by rw [hv.mend]; exact hm
  have hvw : v.walk.cur = none := by rw [hv.walk]; exact hw
  have hcutw : v.cutWalk = v := by simp [State.cutWalk, hvw]
  have hcut : v.cutMend = c := by
    unfold State.cutMend
    rw [hvm]
    exact if_pos hstage
  obtain ⟨hrep, hwalk, hmend, -, -⟩ := v.stopMendWork_kept
  have hcwalk : c.walk.cur = none := (congrArg WalkEngine.cur hwalk).trans hvw
  have hcmend : c.mend = { s.mend with active := some { m with stage := .cut, buffer := none } } := by
    show ({ v.stopMendWork.mend with active := some { m with stage := .cut, buffer := none } } : MendEngine) = _
    rw [hmend, hv.mend]
  have hcactive : c.mend.active = some { m with stage := .cut, buffer := none } := rfl
  have hrest : c.feedWalk.feedMend.pokeWalk = c := by
    have h2 : c.feedWalk = c := by simp [State.feedWalk, hcwalk]
    have h3 : c.feedMend = c := by simp [State.feedMend, hcactive]
    have h4 : c.pokeWalk = c := by simp [State.pokeWalk, hcwalk]
    rw [h2, h3, h4]
  have hstep : exec (.mediaLinkDown none) s = .next c.syncStatusTimer :=
    congrArg State.done (hlost.trans (by rw [hcutw, hcut, hrest]))
  let k := (v.withdraw Owner.isMend).killOutstanding Owner.isMend
  have hkill := (v.withdraw Owner.isMend).killOutstanding_granting Owner.isMend
  have hkfree : ∀ j, (k.slot j).life = .free := fun j => by
    obtain ⟨hlife, -, -⟩ := hkill.slots j
    exact hlife.trans (hv.free j)
  obtain ⟨haccum, hfree, hports⟩ := State.abandon_of_free hkfree mendPos
  have hcmedia : c.mediaUp = false := by
    have hkept : c.mediaUp = v.mediaUp := by simp [c, State.setMend, State.stopMendWork, State.dropWaiting]
    rw [hkept, hv.mediaUp]
  refine ⟨_, hstep, (State.syncStatusTimer_mediaUp c).trans hcmedia, (State.syncStatusTimer_mend c).trans hcmend,
    (State.accum_congr (State.syncStatusTimer_pool c) mendPos).trans haccum, fun r hr => ?_, fun j => ?_,
    (State.syncStatusTimer_ports c).trans (hports.trans (hkill.ports.trans hv.ports)),
    (SameLog.of_rep (hrep.trans hv.rep) : SameLog s c).sync.unlogged⟩
  · rw [State.syncStatusTimer_arb] at hr
    exact v.stopMendWork_noneQueued r hr
  · rw [State.slot_congr (State.syncStatusTimer_slots c)]
    exact hfree j

end

end Sys2Proof.Machine

/-!
PROOFS. A walk or mend that was cut off begins again as the media link comes back (R104, R118, R155).
-/

namespace Sys2Proof.Machine

/-! ### What is queued again is no engine's -/

/-- The requests of the walk and the mend engine in the queue are the same. -/
def EngineQueueKept (s t : State) : Prop :=
  t.arb.filter (fun r => r.owner.isWalk || r.owner.isMend) = s.arb.filter fun r => r.owner.isWalk || r.owner.isMend

theorem EngineQueueKept.refl (s : State) : EngineQueueKept s s := rfl

theorem EngineQueueKept.trans {s t u : State} (h : EngineQueueKept s t) (k : EngineQueueKept t u) : EngineQueueKept s u := Eq.trans k h

theorem EngineQueueKept.of_arb {s t : State} (h : t.arb = s.arb) : EngineQueueKept s t := by unfold EngineQueueKept; rw [h]

theorem State.enqueue_engineQueueKept (s : State) {r : InjRequest} (h : (r.owner.isWalk || r.owner.isMend) = false) :
    EngineQueueKept s (s.enqueue r) := by
  show (s.arb ++ [r]).filter _ = _
  rw [List.filter_append]
  simp [h]

theorem State.requeueLine_engineQueueKept (s : State) (l : Fin 64) : EngineQueueKept s (s.requeueLine l) := by
  unfold State.requeueLine State.queueWriteback
  split
  · split
    · exact .of_arb rfl
    · exact (EngineQueueKept.of_arb rfl).trans (State.enqueue_engineQueueKept (s.setLine l _) rfl)
  · exact .refl s

theorem State.requeueBlock_engineQueueKept (s : State) (b : Fin 17) : EngineQueueKept s (s.requeueBlock b) := by
  unfold State.requeueBlock State.queueCat
  split
  · split
    · exact .of_arb rfl
    · exact (EngineQueueKept.of_arb rfl).trans (State.enqueue_engineQueueKept (s.setCat b _) rfl)
  · exact .refl s

theorem State.pumpStatus_engineQueueKept (s : State) : EngineQueueKept s s.pumpStatus := by
  unfold State.pumpStatus
  split
  · exact .refl s
  · split
    · exact s.enqueue_engineQueueKept rfl
    · exact .refl s

theorem State.pumpLog_engineQueueKept (s : State) : EngineQueueKept s s.pumpLog := by
  unfold State.pumpLog
  split
  · exact .refl s
  · split
    · exact s.enqueue_engineQueueKept rfl
    · exact .refl s

theorem State.requeueCut_engineQueueKept (s : State) : EngineQueueKept s s.requeueCut := by
  have hlines : EngineQueueKept s s.requeueLines :=
    forEach_induct EngineQueueKept.refl EngineQueueKept.trans (fun l t => t.requeueLine_engineQueueKept l) _ s
  have hblocks : EngineQueueKept s.requeueLines s.requeueLines.requeueBlocks :=
    forEach_induct EngineQueueKept.refl EngineQueueKept.trans (fun b t => t.requeueBlock_engineQueueKept b) _ s.requeueLines
  rw [State.requeueCut_eq]
  exact (hlines.trans hblocks).trans ((State.pumpStatus_engineQueueKept _).trans (State.pumpLog_engineQueueKept _))

/-- What an engine has in hand is the same, with the slots. -/
theorem EngineQueueKept.inHand {s t : State} (h : EngineQueueKept s t) (hslots : t.slots = s.slots) {p : Owner → Bool}
    (hp : ∀ o, p o = true → (o.isWalk || o.isMend) = true) : t.inHand p = s.inHand p := by
  have hcount : ∀ u : State, (u.arb.countP fun r => p r.owner) =
      (u.arb.filter fun r => r.owner.isWalk || r.owner.isMend).countP fun r => p r.owner := fun u => by
    rw [List.countP_filter]
    refine List.countP_congr fun r _ => ?_
    constructor
    · exact fun hr => by rw [hr, hp _ hr]; rfl
    · exact fun hr => (Bool.and_eq_true_iff.mp hr).1
  have hout : t.outstanding p = s.outstanding p := by simp only [State.outstanding, State.countSlots, hslots]
  rw [State.inHand, State.inHand, hcount t, hcount s, hout, show t.arb.filter _ = _ from h]

/-- An engine with nothing in hand has no request whose result counts. -/
theorem State.liveInHand_of_inHand {s : State} {p q : Owner → Bool} (h : s.inHand p = 0) (hq : ∀ o, q o = true → p o = true) :
    s.liveInHand q = false := by
  obtain ⟨hqueue, hslots⟩ := Nat.add_eq_zero_iff.mp h
  have harb := List.countP_eq_zero.mp hqueue
  have hout := List.countP_eq_zero.mp hslots
  rw [State.liveInHand, Bool.or_eq_false_iff]
  refine ⟨List.any_eq_false.mpr fun r hr hown => harb r hr (hq _ hown), List.any_eq_false.mpr fun x hx hlive => ?_⟩
  have hnot := hout x hx
  cases hk : x.kind with
  | passthrough k => simp [hk] at hlive
  | injected o =>
    simp only [hk, Bool.and_eq_true] at hlive hnot
    exact hnot ⟨hlive.1.1, hq o hlive.2⟩

/-! ### The walk -/

section

variable {s : State}

/-- A walk that goes on, RUNNING or with a unit in flight, is at its next unit (R110). -/
theorem State.walkMove_of_going {w : Walk} (hw : s.walk.cur = some w) (hstage : w.stage = .ready)
    (hgo : w.run = .running ∨ (w.inFlight = true ∧ w.run ≠ .suspended)) (hpast : w.past = false) (hlast : w.frame ≤ w.last) :
    s.walkMove = some (s.visit w) := by
  have hspent := Walk.spent_of_within hlast
  rcases hgo with hrun | ⟨hfl, hrun⟩
  · simp [State.walkMove, hw, hstage, hrun, hspent, hpast]
  · simp [State.walkMove, hw, hstage, hrun, hspent, hpast, hfl]

/-- A FULL walk that has its line with the entry begins to read the frame copy (R114). -/
theorem State.walkRun_reads {w : Walk} {l : Fin 64} (hw : s.walk.cur = some w) (hstage : w.stage = .ready)
    (hgo : w.run = .running ∨ (w.inFlight = true ∧ w.run ≠ .suspended)) (hvisits : w.visits s) (hline : w.line = some l)
    (htag : (s.line l).tag = (s.extent w.extent).digestBlock w.frame) (hholds : (s.line l).state.holds = true)
    (hrefill : (s.line l).refilling = false)
    (hcopy : (s.entryIn l w.frame).copyState w.copy = .sealed ∨ (s.entryIn l w.frame).copyState w.copy = .suspect) :
    ∃ n, s.walkRun = { s with
        arb := s.arb ++ (List.range' 0 n).map fun j => s.walkChunk w.key j,
        walk := { s.walk with cur := some { w with stage := .reading n } } } ∧
      n = min (s.cfg.paceDepth - s.inHand Owner.isWalk) (s.extent w.extent).chunks := by
  obtain ⟨hdepth, hunit⟩ := hvisits
  have hchanged := hunit.unchanged
  obtain ⟨hkind, hpast, -, hlast, -⟩ := hunit
  have hfull : s.visitFull w = s.startRead w := by
    rw [← State.visitCopy_reads hholds hrefill hcopy]
    simp [State.visitFull, hchanged, hline, htag]
  have hvisit : s.visit w = s.startRead w := by
    rw [← hfull]
    rcases hkind with hk | ⟨hk, hentered⟩
    · simp [State.visit, hk, hdepth]
    · simp [State.visit, hk, hentered, hdepth]
  obtain ⟨n, hread, hn⟩ := s.startRead_eq w
  refine ⟨n, ?_, hn⟩
  have hmove := (State.walkMove_of_going hw hstage hgo hpast hlast).trans (congrArg some (hvisit.trans hread))
  exact State.walkRun_of_movesTo (State.movesTo_succ hmove (State.movesTo_zero _)) (by decide)
    (State.walkMove_of_stage (w := { w with stage := .reading n }) rfl (by simp))

/-- The first chunk is among those queued. -/
theorem walkChunk_first {w : Walk} {n : Nat} (hn : 0 < n) (x : State) :
    (⟨.walkChunk w.key 0, .read, (x.extent w.extent).blockAddr w.copy w.frame 0, (x.extent w.extent).chunkLen 0⟩ : InjRequest) ∈
      x.arb ++ (List.range' 0 n).map fun j => x.walkChunk w.key j :=
  List.mem_append_right _ (List.mem_map.mpr ⟨0, by simp [List.mem_range'_1, hn], rfl⟩)

/-- A walk that was cut off begins its frame copy again as the media link comes back (R118). -/
theorem mediaLinkUp_walk {w : Walk} {l : Fin 64} (hw : s.walk.cur = some w) (hm : s.mend.active = none) (hcut : w.stage = .cut)
    (hvisits : w.visits s) (hgo : w.run = .running ∨ (w.inFlight = true ∧ w.run ≠ .suspended)) (hline : w.line = some l)
    (htag : (s.line l).tag = (s.extent w.extent).digestBlock w.frame) (hholds : (s.line l).state.holds = true)
    (hrefill : (s.line l).refilling = false)
    (hcopy : (s.entryIn l w.frame).copyState w.copy = .sealed ∨ (s.entryIn l w.frame).copyState w.copy = .suspect)
    (hpace : s.inHand Owner.isWalk < s.cfg.paceDepth) :
    ∃ t, exec (.mediaLinkUp none) s = .next t ∧ BeginsRead s t w ∧ t.ports = s.ports ∧ t.slots = s.slots := by
  have hset := State.requeueCut_settled { s with mediaUp := true }
  have hxline : ∀ k, (State.requeueCut { s with mediaUp := true }).line k = (s.line k).uncut :=
    State.requeueCut_line { s with mediaUp := true }
  have hkept := State.requeueCut_engineQueueKept { s with mediaUp := true }
  generalize hx : State.requeueCut { s with mediaUp := true } = x at hset hxline hkept
  let w1 : Walk := { w with stage := .ready }
  let y := x.setWalk (some w1)
  have hymap : y.map = s.map := hset.map
  have hycfg : y.cfg = s.cfg := hset.cfg
  have hunit := hvisits
  obtain ⟨hdepth, hunit⟩ := hunit
  have hvisits1 : w1.visits y := ⟨hdepth, Walk.atUnit.congr (show w1.atUnit s from hunit) hymap hycfg⟩
  have hext : ∀ e, y.extent e = s.extent e := State.extent_congr hymap
  have hyline : y.line l = (s.line l).uncut := hxline l
  have hentry : y.entryIn l w1.frame = s.entryIn l w.frame := (congrArg (fun z : Line => z.entry w.frame) hyline).trans rfl
  obtain ⟨n, hrun, hn⟩ := State.walkRun_reads (s := y) (w := w1) rfl rfl hgo hvisits1 hline
    (by rw [hyline, hext]; exact htag) (by rw [hyline]; exact hholds) (by rw [hyline]; exact hrefill) (by rw [hentry]; exact hcopy)
  have hhand : y.inHand Owner.isWalk = s.inHand Owner.isWalk :=
    (show EngineQueueKept s y from hkept).inHand hset.slots fun o ho => by rw [ho]; rfl
  have hpos : 0 < n := by
    obtain ⟨-, -, -, -, -, hspan, -⟩ := hunit
    have hchunks : 0 < (y.extent w1.extent).chunks := by
      rw [hext]
      exact Extent.chunks_pos hspan
    rw [hn, hhand, hycfg]
    omega
  generalize hz : ({ y with
      arb := y.arb ++ (List.range' 0 n).map fun j => y.walkChunk w1.key j,
      walk := { y.walk with cur := some { w1 with stage := .reading n } } } : State) = z at hrun
  have hxw : x.walk.cur = some w := (congrArg WalkEngine.cur hset.walk).trans hw
  have hzmend : z.mend.active = none := by
    rw [← hz]
    exact (congrArg MendEngine.active hset.mend).trans hm
  have hback : s.mediaBack = z := by
    have hmatch : s.mediaBack = ((x.setWalk (some w1)).walkRun).uncutMend := by
      unfold State.mediaBack
      simp only [hx, hxw, hcut, if_true, w1]
    rw [hmatch, show (x.setWalk (some w1)).walkRun = z from hrun]
    simp [State.uncutMend, hzmend]
  have hzcur : z.walk.cur = some { w1 with stage := .reading n } := by rw [← hz]
  refine ⟨_, congrArg State.done hback, ⟨⟨n, _, (congrArg WalkEngine.cur (State.syncStatusTimer_walk z)).trans hzcur, rfl, rfl, rfl,
    rfl, rfl, rfl, rfl⟩, ?_⟩, ?_, ?_⟩
  · rw [State.syncStatusTimer_arb, ← hz, ← hext]
    exact walkChunk_first (w := w1) hpos y
  · rw [State.syncStatusTimer_ports, ← hz]
    exact hset.ports
  · rw [State.syncStatusTimer_slots, ← hz]
    exact hset.slots

end

end Sys2Proof.Machine

/-!
PROOFS. A mend that was cut off begins its attempt again as the media link comes back (R155).
-/

namespace Sys2Proof.Machine

section

variable {s : State} {m : Mend} (hhand : s.inHand Owner.isMend = 0) (hpace : 0 < s.cfg.paceDepth)
  (hspan : 0 < (s.extent m.extent).span)
include hhand hpace hspan

/-- With nothing of the mend in hand COPY queues the read of the source's first chunk (R148). -/
theorem State.startPhase_copy_first :
    (⟨.mendRead 0, .read, (s.extent m.extent).blockAddr m.target.other m.frame 0, (s.extent m.extent).chunkLen 0⟩ :
      InjRequest) ∈ (s.startPhase m .copy).arb := by
  let u := s.setMend (some (m.atPhase .copy))
  have huhand : u.inHand Owner.isMend = 0 := hhand
  have hroom : u.inHand Owner.isMend < u.cfg.paceDepth := by rw [huhand]; exact hpace
  have hreads : u.liveInHand Owner.isMendRead = false :=
    State.liveInHand_of_inHand huhand fun o ho => by cases o <;> first | rfl | cases ho
  have hchunks : (m.atPhase .copy).next < (u.extent (m.atPhase .copy).extent).chunks := Extent.chunks_pos hspan
  have hfeed : u.feedCopy (m.atPhase .copy) =
      (u.enqueue (u.mendRead (m.atPhase .copy) 0)).setMend (some { m.atPhase .copy with next := 1 }) := by
    unfold State.feedCopy
    rw [if_pos hroom]
    exact if_pos ⟨hchunks, hreads⟩
  have hstart : s.startPhase m .copy = u.feedCopy (m.atPhase .copy) := rfl
  rw [hstart, hfeed]
  exact List.mem_append_right _ (List.mem_singleton.mpr rfl)

/-- An attempt begins with the read of the source's first chunk, whatever phase it begins at. -/
theorem State.startPhase_first {phase : MendPhase} (hph : phase = .verifySource ∨ phase = .copy) :
    ∃ arb n, s.startPhase m phase =
        { s with arb := arb, mend := { s.mend with active := some { m.atPhase phase with next := n } } } ∧
      (⟨.mendRead 0, .read, (s.extent m.extent).blockAddr m.target.other m.frame 0, (s.extent m.extent).chunkLen 0⟩ :
        InjRequest) ∈ arb := by
  rcases hph with rfl | rfl
  · obtain ⟨k, hstart, hk⟩ := s.startPhase_verify m (phase := .verifySource) (by decide)
    have hpos : 0 < k := by
      have hchunks := Extent.chunks_pos hspan
      rw [hk, hhand]
      omega
    exact ⟨_, k, hstart, List.mem_append_right _ (List.mem_map.mpr ⟨0, by simp [List.mem_range'_1, hpos], rfl⟩)⟩
  · obtain ⟨arb, n, hstart⟩ := s.startPhase_copy m
    have hfirst := State.startPhase_copy_first hhand hpace hspan
    rw [hstart] at hfirst
    exact ⟨arb, n, hstart, hfirst⟩

end

/-- A mend that was cut off begins its attempt again: attempt 1 at VERIFY_SOURCE, attempt 2 at COPY. -/
theorem mediaLinkUp_mend {s : State} {m : Mend} (hm : s.mend.active = some m) (hw : s.walk.cur = none) (hcut : m.stage = .cut)
    (hhand : s.inHand Owner.isMend = 0) (hpace : 0 < s.cfg.paceDepth) (hspan : 0 < (s.extent m.extent).span) :
    ∃ t v, exec (.mediaLinkUp none) s = .next t ∧ t.mend = { s.mend with active := some v } ∧ v.stage = .working ∧
      v.phase = (if m.attempt = 1 then .verifySource else .copy) ∧ v.attempt = m.attempt ∧ v.buffer = none ∧
      v.line = m.line ∧ v.extent = m.extent ∧ v.frame = m.frame ∧ v.target = m.target ∧
      (⟨.mendRead 0, .read, (s.extent m.extent).blockAddr m.target.other m.frame 0, (s.extent m.extent).chunkLen 0⟩ :
        InjRequest) ∈ t.arb := by
  have hset := State.requeueCut_settled { s with mediaUp := true }
  have hkept := State.requeueCut_engineQueueKept { s with mediaUp := true }
  generalize hx : State.requeueCut { s with mediaUp := true } = x at hset hkept
  have hxmend : x.mend = s.mend := hset.mend
  have hxcfg : x.cfg = s.cfg := hset.cfg
  have hxhand : x.inHand Owner.isMend = 0 :=
    ((show EngineQueueKept s x from hkept).inHand hset.slots fun o ho => by rw [ho, Bool.or_true]).trans hhand
  have hext : ∀ e, x.extent e = s.extent e := State.extent_congr hset.map
  let phase : MendPhase := if m.attempt = 1 then .verifySource else .copy
  have hphase : phase = .verifySource ∨ phase = .copy := by
    by_cases h : m.attempt = 1
    · exact .inl (if_pos h)
    · exact .inr (if_neg h)
  obtain ⟨arb, n, hstart, hfirst⟩ := State.startPhase_first (m := m) hxhand (by rw [hxcfg]; exact hpace) (by rw [hext]; exact hspan)
    hphase
  have hxw : x.walk.cur = none := (congrArg WalkEngine.cur hset.walk).trans hw
  have hxm : x.mend.active = some m := by rw [hxmend]; exact hm
  have hback : s.mediaBack = x.startPhase m phase := by
    unfold State.mediaBack
    simp only [hx, hxw, State.uncutMend, hxm, hcut, if_true, phase]
  refine ⟨_, { m.atPhase phase with next := n }, congrArg State.done (hback.trans hstart), ?_, rfl, rfl, rfl, rfl, rfl, rfl, rfl, rfl, ?_⟩
  · rw [State.syncStatusTimer_mend, hxmend]
  · rw [State.syncStatusTimer_arb, ← hext]
    exact hfirst

end Sys2Proof.Machine

/-!
PROOFS. O18: a walk and a mend at work, across media link loss and a link reset.
-/

namespace Sys2Proof.Machine

/-! ### The state in which the engines act on a link reset (R60, R105) -/

/-- The traffic is gone, the lines are reset, the engines stand as they were, and nothing was logged. -/
structure ResetEngines (s x : State) : Prop where
  walk : x.walk = s.walk
  mend : x.mend = s.mend
  map : x.map = s.map
  cfg : x.cfg = s.cfg
  log : Unlogged s x
  free : ∀ j, (x.slot j).life = .free
  accums : ∀ p, x.accum p = none
  lines : ∀ l, x.line l = (s.line l).wasReset.uncut

theorem State.resetRunning_engines (s : State) (n : Nat) :
    ∃ x, ResetEngines s x ∧ s.resetRunning n = (x.walkReset s.walkFills).resetMend := by
  have hcut := (s.setHead none).cutBatch_cutOff n
  generalize hc : (s.setHead none).cutBatch n = c at hcut
  obtain ⟨hmap, -, hstore, hwalk, hmend⟩ := hcut.shelf
  have hset : Settled c.clearTraffic ((c.clearTraffic.storeReset).ownersReset s.cutOwners).requeueCut :=
    (State.storeReset_settled _).trans ((State.ownersReset_settled _ _).trans (State.requeueCut_settled _))
  have hline : ∀ l, (((c.clearTraffic.storeReset).ownersReset s.cutOwners).requeueCut).line l = (s.line l).wasReset.uncut := fun l => by
    rw [State.requeueCut_line, State.line_congr (State.ownersReset_store _ _), State.storeReset_line]
    exact congrArg (fun x : Line => x.wasReset.uncut) (State.line_congr hstore l)
  generalize hx : ((c.clearTraffic.storeReset).ownersReset s.cutOwners).requeueCut = x at hset hline
  obtain ⟨hhead, -, -, hwithheld, hflags⟩ := hcut.log
  refine ⟨x, ⟨hset.walk.trans hwalk, hset.mend.trans hmend, hset.map.trans hmap, hset.cfg.trans hcut.cfg,
    ⟨hset.head.trans hhead, hset.withheld.trans hwithheld, hset.flags.trans hflags⟩, fun j => ?_, fun p => ?_, hline⟩, ?_⟩
  · rw [State.slot, hset.slots]
    exact congrArg Slot.life (Vector.getElem_replicate j.isLt)
  · rw [State.accum, hset.pool]
    exact Vector.getElem_replicate p.isLt
  · rw [← hx]
    unfold State.resetRunning
    rw [hc]
    rfl

/-- A walk at rest that has nothing in hand begins to read, with its line pinned. -/
theorem State.resumed_begins {c : State} {w : Walk} {l : Fin 64} (hstage : w.stage = .ready) (hline : w.line = none)
    (hvisits : w.visits c) (hhold : Holding c w.extent w.frame l)
    (hcopy : (c.entryIn l w.frame).copyState w.copy = .sealed ∨ (c.entryIn l w.frame).copyState w.copy = .suspect)
    (hhand : c.inHand Owner.isWalk = 0) :
    BeginsRead c (c.resumed w).walkRun w ∧ ((c.resumed w).walkRun.line l).pins = (c.line l).pins + 1 ∧
      (c.resumed w).walkRun.rep = c.rep ∧ (c.resumed w).walkRun.mend = c.mend := by
  let w2 : Walk := { w with run := .running, line := some l, stage := .ready }
  let y := ((c.resumed w).pin l).setWalk (some w2)
  obtain ⟨n, hstart, hn⟩ := y.startRead_eq w2
  have hrun := (State.resumed_reads hstage hline hvisits hhold hcopy).trans hstart
  have hyhand : y.inHand Owner.isWalk = 0 := hhand
  have hpos : 0 < n := by
    obtain ⟨-, -, -, -, -, -, hspan, hdepth⟩ := hvisits
    have hchunks : 0 < (y.extent w2.extent).chunks := Extent.chunks_pos (e := c.extent w.extent) hspan
    rw [hn, hyhand, show y.cfg = c.cfg from rfl]
    omega
  rw [hrun]
  exact ⟨⟨⟨n, _, rfl, rfl, rfl, rfl, rfl, rfl, rfl, rfl⟩, walkChunk_first (w := w2) hpos y⟩,
    congrArg Line.pins ((c.resumed w).pin_line l), rfl, rfl⟩

/-- A mend that starts again has its line with its entries, and nothing in hand: attempt 1 begins at VERIFY_SOURCE. -/
theorem State.mendAsk_begins {c : State} {m : Mend} {l : Fin 64} (hr : m.restarted = true) (hhold : Holding c m.extent m.frame l)
    (hhand : c.inHand Owner.isMend = 0) (hpace : 0 < c.cfg.paceDepth) (hspan : 0 < (c.extent m.extent).span) :
    ∃ n, (c.mendAsk m).mend = { c.mend with active := some { m with
          attempt := 1, stage := .working, phase := .verifySource, next := n, buffer := none, line := some l } } ∧
      ((c.mendAsk m).line l).pins = (c.line l).pins + 1 ∧ ((c.mendAsk m).line l).entries = (c.line l).entries ∧
      (c.mendAsk m).rep = c.rep ∧
      (⟨.mendRead 0, .read, (c.extent m.extent).blockAddr m.target.other m.frame 0, (c.extent m.extent).chunkLen 0⟩ :
        InjRequest) ∈ (c.mendAsk m).arb := by
  let m1 : Mend := { m with line := none, stage := .lineQueue }
  let m2 : Mend := { m1 with line := some l, stage := .lineFill }
  let u := (c.setMend (some m1)).pin l
  let y := u.setMend (some m2)
  obtain ⟨hfind, hholds, -⟩ := hhold
  have hpin : y.line l = { c.line l with pins := (c.line l).pins + 1 } := State.pin_line (c.setMend (some m1)) l
  have hnotFill : (y.line l).state ≠ .filling := fun h => by
    rw [hpin] at h
    rw [show (c.line l).state = .filling from h] at hholds
    cases hholds
  have hask : c.mendAsk m = y.startPhase { m2 with attempt := 1 } .verifySource := by
    have hline : (c.setMend (some { m with line := none, stage := .lineQueue })).requestLine .mend
        ((c.extent m.extent).digestBlock m.frame) m.extent false = (u, some l) :=
      State.requestLine_of_found (s := c.setMend (some m1)) hfind ..
    have hgot : u.mendGotLine m1 l = y.mendHeld m2 l := if_neg hnotFill
    have hheld : y.mendHeld m2 l = y.startPhase { m2 with attempt := 1 } .verifySource := if_pos hr
    have hdef : c.mendAsk m = u.mendGotLine m1 l := by
      simp only [State.mendAsk]
      rw [hline]
    rw [hdef, hgot, hheld]
  have hyhand : y.inHand Owner.isMend = 0 := hhand
  obtain ⟨arb, n, hstart, hfirst⟩ := State.startPhase_first (s := y) (m := { m2 with attempt := 1 }) hyhand hpace hspan
    (phase := .verifySource) (.inl rfl)
  rw [hask, hstart]
  exact ⟨n, rfl, congrArg Line.pins hpin, (congrArg Line.entries hpin).trans rfl, rfl, hfirst⟩

/-! ### The line that holds an engine's entry -/

/-- A line that holds its entries holds them through a link reset, its pins gone. -/
theorem Line.uncut_wasReset_holds {x : Line} (h : x.state.holds = true) : x.wasReset.uncut.state.holds = true ∧
    x.wasReset.uncut.entries = x.entries ∧ x.wasReset.uncut.tag = x.tag ∧ x.wasReset.uncut.refilling = false ∧
    x.wasReset.uncut.pins = 0 := by
  have hne : x.state ≠ .filling := fun c => by simp [c, LineState.holds] at h
  rw [Line.wasReset, if_neg hne]
  split
  · simp [Line.uncut, Line.atReset, hne, LineState.holds]
  · simp [Line.uncut, Line.atReset, hne, h]

/-- A line that is not INVALID after a link reset has the tag it had, and was not INVALID. -/
theorem Line.uncut_wasReset_valid {x : Line} (h : x.wasReset.uncut.state ≠ .invalid) :
    x.state ≠ .invalid ∧ x.wasReset.uncut.tag = x.tag := by
  unfold Line.wasReset at h ⊢
  split
  next hf => rw [if_pos hf] at h; exact absurd rfl h
  next hne =>
    rw [if_neg hne] at h
    split
    next hw => exact ⟨fun c => by simp [c, LineState.writes] at hw, by simp [Line.uncut, Line.atReset, hne]⟩
    next hw =>
      rw [if_neg hw] at h
      exact ⟨fun c => h (by simp [Line.uncut, Line.atReset, c]), by simp [Line.uncut, Line.atReset, hne]⟩

/-- The line that is found for a block is found still, where no other line comes to hold the block. -/
theorem State.findLine_kept {s t : State} {tag : Nat} {l : Fin 64} (h : s.findLine tag = some l)
    (hl : (t.line l).tag = tag ∧ (t.line l).state ≠ .invalid)
    (hall : ∀ k, (t.line k).state ≠ .invalid → (s.line k).state ≠ .invalid ∧ (t.line k).tag = (s.line k).tag) :
    t.findLine tag = some l := by
  obtain ⟨-, before, after, hsplit, hbefore⟩ := List.find?_eq_some_iff_append.mp h
  refine List.find?_eq_some_iff_append.mpr ⟨by simp [hl.1, hl.2], before, after, hsplit, fun k hk => ?_⟩
  have hno := hbefore k hk
  by_cases hinv : (t.line k).state = .invalid
  · simp [hinv]
  · obtain ⟨hvalid, htag⟩ := hall k hinv
    rw [htag]
    simpa [hinv, hvalid] using hno

section

variable {s x : State} (hx : ResetEngines s x)
include hx

theorem ResetEngines.holding {e : Fin 1024} {frame : Nat} {l : Fin 64} (h : Holding s e frame l) : Holding x e frame l ∧
    x.entryIn l frame = s.entryIn l frame ∧ (x.line l).entries = (s.line l).entries ∧ (x.line l).pins = 0 := by
  obtain ⟨hfind, hholds, -⟩ := h
  obtain ⟨hstate, hentries, htag, hrefill, hpins⟩ := Line.uncut_wasReset_holds hholds
  rw [← hx.lines l] at hstate hentries htag hrefill hpins
  refine ⟨⟨?_, hstate, hrefill⟩, ?_, hentries, hpins⟩
  · rw [State.extent_congr hx.map]
    refine State.findLine_kept hfind ⟨htag.trans (State.findLine_spec hfind).1, fun c => ?_⟩ fun k hk => ?_
    · rw [c] at hstate
      cases hstate
    · rw [hx.lines k] at hk ⊢
      exact Line.uncut_wasReset_valid hk
  · unfold State.entryIn Line.entry
    rw [hentries]

/-! ### The walk (R118, R125) -/

/-- A walk that is stopping is SUSPENDED at its unit. -/
theorem ResetEngines.walkReset_suspends {w : Walk} (hw : s.walk.cur = some w) (hrun : w.run = .suspending) (hlast : w.frame ≤ w.last) :
    ∃ v : Walk, (x.walkReset false).walk = { s.walk with cur := some v } ∧ v.run = .suspended ∧ v.extent = w.extent ∧
      v.frame = w.frame ∧ v.copy = w.copy ∧ v.line = none ∧ v.skipped = w.skipped ∧ NoneQueued (x.walkReset false) Owner.isWalk ∧
      (x.walkReset false).rep = x.rep ∧ (x.walkReset false).mend = s.mend := by
  let w1 := w.rested .suspending
  let y := (x.clearWalk).setWalk (some w1)
  have hxw : x.walk.cur = some w := by rw [hx.walk]; exact hw
  have hreset : x.walkReset false = y.walkRun := by
    simp only [State.walkReset, hxw, hrun, Bool.false_eq_true, if_false]
    rfl
  have hmove := State.walkMove_suspends (s := y) (w := w1) rfl rfl rfl rfl (Walk.spent_of_within hlast)
  have hend : x.walkReset false = y.clearWalk.setWalk (some (w1.rested .suspended)) := by
    rw [hreset, State.walkRun_of_movesTo (State.movesTo_succ hmove (State.movesTo_zero _)) (by decide)
      (State.walkMove_of_suspended (w := w1.rested .suspended) rfl rfl)]
    rfl
  have hwalk : (y.clearWalk.setWalk (some (w1.rested .suspended))).walk = { x.walk with cur := some (w1.rested .suspended) } := by
    simp [y, State.setWalk, State.clearWalk]
  have hrep : (y.clearWalk.setWalk (some (w1.rested .suspended))).rep = x.rep := by simp [y, State.setWalk, State.clearWalk]
  have hmend : (y.clearWalk.setWalk (some (w1.rested .suspended))).mend = x.mend := by simp [y, State.setWalk, State.clearWalk]
  rw [hend]
  exact ⟨w1.rested .suspended, hwalk.trans (by rw [hx.walk]), rfl, rfl, rfl, rfl, rfl, rfl, y.clearWalk_noneQueued, hrep,
    hmend.trans hx.mend⟩

/-- A RUNNING walk begins its frame copy again, with its line pinned anew. -/
theorem ResetEngines.walkReset_reads {w : Walk} {l : Fin 64} (hw : s.walk.cur = some w) (hrun : w.run = .running)
    (hvisits : w.visits s) (hhold : Holding s w.extent w.frame l)
    (hcopy : (s.entryIn l w.frame).copyState w.copy = .sealed ∨ (s.entryIn l w.frame).copyState w.copy = .suspect) :
    BeginsRead s (x.walkReset false) w ∧ ((x.walkReset false).line l).pins = 1 ∧ (x.walkReset false).rep = x.rep ∧
      (x.walkReset false).mend = s.mend := by
  have hxw : x.walk.cur = some w := by rw [hx.walk]; exact hw
  have hreset : x.walkReset false = (x.clearWalk.resumed (w.rested .running)).walkRun := by
    simp only [State.walkReset, hxw, hrun, Bool.false_eq_true, if_false]
    rfl
  obtain ⟨hxhold, hentry, -, hpins⟩ := hx.holding hhold
  have hfree : NoneInHand x.clearWalk Owner.isWalk := ⟨x.clearWalk_noneQueued, fun q => by
    obtain ⟨hlife, -, -⟩ := ((x.withdraw Owner.isWalk).killOutstanding_granting Owner.isWalk).slots q
    have hq : (x.clearWalk.slot q).life = .free := hlife.trans (hx.free q)
    rw [hq]
    decide⟩
  have hcmap : x.clearWalk.map = s.map := hx.map
  have hccfg : x.clearWalk.cfg = s.cfg := hx.cfg
  have hcmend : x.clearWalk.mend = s.mend := hx.mend
  have hcrep : x.clearWalk.rep = x.rep := rfl
  have hcpins : (x.clearWalk.line l).pins = 0 := hpins
  have hchold : Holding x.clearWalk w.extent w.frame l := hxhold
  have hcentry : x.clearWalk.entryIn l w.frame = s.entryIn l w.frame := hentry
  rw [hreset]
  generalize x.clearWalk = c at *
  obtain ⟨⟨hreading, hchunk⟩, htpins, hrep, hmend⟩ := State.resumed_begins (w := w.rested .running) (l := l) rfl rfl
    ⟨hvisits.1, Walk.atUnit.congr (show (w.rested .running).atUnit s from hvisits.2) hcmap hccfg⟩ hchold
    (by rw [← hcentry] at hcopy; exact hcopy) hfree.inHand
  refine ⟨⟨hreading, ?_⟩, htpins.trans (by rw [hcpins]), hrep.trans hcrep, hmend.trans hcmend⟩
  rw [← State.extent_congr hcmap]
  exact hchunk

/-! ### The mend (R155) -/

/-- A mend at work begins again at VERIFY_SOURCE in attempt 1, with its line pinned anew. -/
theorem ResetEngines.resetMend_begins {m : Mend} {l : Fin 64} (hm : s.mend.active = some m)
    (hstage : m.stage = .working ∨ m.stage = .comparing ∨ m.stage = .cut) (hhold : Holding s m.extent m.frame l)
    (hpace : 0 < s.cfg.paceDepth) (hspan : 0 < (s.extent m.extent).span) :
    ∃ n, x.resetMend.mend = { s.mend with active := some { m with
          restarted := true, attempt := 1, stage := .working, phase := .verifySource, next := n, buffer := none, line := some l } } ∧
      (x.resetMend.line l).pins = 1 ∧ (x.resetMend.line l).entries = (s.line l).entries ∧ x.resetMend.rep = x.rep ∧
      (⟨.mendRead 0, .read, (s.extent m.extent).blockAddr m.target.other m.frame 0, (s.extent m.extent).chunkLen 0⟩ :
        InjRequest) ∈ x.resetMend.arb := by
  have hxm : x.mend.active = some m := by rw [hx.mend]; exact hm
  have hstop : x.stopMendWork = ((x.withdraw Owner.isMend).killOutstanding Owner.isMend).dropWaiting .mendComparing := by
    have hnone : ((x.withdraw Owner.isMend).killOutstanding Owner.isMend).accum mendPos = none := hx.accums mendPos
    unfold State.stopMendWork
    rw [State.abandon, hnone]
  have hreset : x.resetMend = x.stopMendWork.mendAsk
      { m with restarted := true, attempt := 1, phase := .verifySource, next := 0, buffer := none } := by
    unfold State.resetMend
    rw [hxm]
    rcases hstage with h | h | h <;> simp only [h]
  have hcline : ∀ k, x.stopMendWork.line k =
      { x.line k with waiting := (x.line k).waiting.filter fun w => decide (w.who ≠ .mendComparing) } := fun k => by
    rw [hstop]
    exact State.dropWaiting_line _ .mendComparing k
  have hfree : NoneInHand x.stopMendWork Owner.isMend := ⟨x.stopMendWork_noneQueued, fun q => by
    obtain ⟨hlife, -, -⟩ := ((x.withdraw Owner.isMend).killOutstanding_granting Owner.isMend).slots q
    rw [hstop]
    have hq : ((((x.withdraw Owner.isMend).killOutstanding Owner.isMend).dropWaiting .mendComparing).slot q).life = .free :=
      hlife.trans (hx.free q)
    rw [hq]
    decide⟩
  have hcmap : x.stopMendWork.map = s.map := by rw [hstop]; exact hx.map
  have hccfg : x.stopMendWork.cfg = s.cfg := by rw [hstop]; exact hx.cfg
  obtain ⟨hcrep, -, hcmend, -, -⟩ := x.stopMendWork_kept
  obtain ⟨⟨hxfind, hxholds, hxrefill⟩, -, hxentries, hxpins⟩ := hx.holding hhold
  have hchold : Holding x.stopMendWork m.extent m.frame l := by
    refine ⟨?_, by rw [hcline]; exact hxholds, by rw [hcline]; exact hxrefill⟩
    rw [State.extent_congr (hcmap.trans hx.map.symm), State.findLine_congr (s := x) (fun k => by rw [hcline]) (fun k => by rw [hcline])]
    exact hxfind
  have hcpins : (x.stopMendWork.line l).pins = 0 ∧ (x.stopMendWork.line l).entries = (s.line l).entries := by
    rw [hcline]
    exact ⟨hxpins, hxentries⟩
  rw [hreset]
  generalize x.stopMendWork = c at *
  obtain ⟨n, htmend, htpins, htentries, hrep, hfirst⟩ := State.mendAsk_begins (c := c) (l := l)
    (m := { m with restarted := true, attempt := 1, phase := .verifySource, next := 0, buffer := none }) rfl hchold hfree.inHand
    (by rw [hccfg]; exact hpace) (by rw [State.extent_congr hcmap]; exact hspan)
  refine ⟨n, htmend.trans (by rw [hcmend, hx.mend]), htpins.trans (by rw [hcpins.1]), htentries.trans hcpins.2, hrep.trans hcrep, ?_⟩
  rw [← State.extent_congr hcmap]
  exact hfirst

end

section

variable {s : State}

theorem Unlogged.trans_rep {x y : State} (h : Unlogged s x) (hrep : y.rep = x.rep) : Unlogged s y.syncStatusTimer := by
  obtain ⟨h1, h2, h3⟩ := h
  obtain ⟨k1, k2, k3⟩ := (SameLog.of_rep hrep).sync.unlogged
  exact ⟨k1.trans h1, k2.trans h2, k3.trans h3⟩

/-- A link reset with a walk that rereads a frame copy and no mend: the walk is reset, and nothing follows. -/
theorem exec_linkReset_walk {w : Walk} {n : Nat} (hp : s.ldr.part ≠ .fault) (hw : s.walk.cur = some w) (hstage : w.stage = .reading n)
    (k : Nat) : ∃ x, ResetEngines (s.linkFell s.up.linkUp) x ∧
      exec (.linkReset k none) s = .next ((x.walkReset false).resetMend).syncStatusTimer := by
  obtain ⟨x, hx, hreset⟩ := (s.linkFell s.up.linkUp).resetRunning_engines k
  have hfills : (s.linkFell s.up.linkUp).walkFills = false := by
    have hcur : (s.linkFell s.up.linkUp).walk.cur = some w := hw
    cases hl : w.line <;> simp [State.walkFills, hcur, hstage, hl]
  have hstep := exec_linkReset hp k
  rw [hreset, hfills] at hstep
  exact ⟨x, hx, hstep⟩

theorem linkReset_walk {w : Walk} {n : Nat} (hp : s.ldr.part ≠ .fault) (hw : s.walk.cur = some w) (hm : s.mend.active = none)
    (hstage : w.stage = .reading n) (hlast : w.frame ≤ w.last) (k : Nat) :
    (w.run = .suspending → ∃ t v, exec (.linkReset k none) s = .next t ∧ t.walk = { s.walk with cur := some v } ∧
      v.run = .suspended ∧ v.extent = w.extent ∧ v.frame = w.frame ∧ v.copy = w.copy ∧ v.line = none ∧
      v.skipped = w.skipped ∧ NoneQueued t Owner.isWalk ∧ Unlogged s t) ∧
    ∀ l, w.run = .running → w.visits s → Holding s w.extent w.frame l →
      ((s.entryIn l w.frame).copyState w.copy = .sealed ∨ (s.entryIn l w.frame).copyState w.copy = .suspect) →
      ∃ t, exec (.linkReset k none) s = .next t ∧ BeginsRead s t w ∧ (t.line l).pins = 1 ∧ Unlogged s t := by
  obtain ⟨x, hx, hstep⟩ := exec_linkReset_walk hp hw hstage k
  have hmend : ∀ {y : State}, y.mend = s.mend → y.resetMend = y := fun h => by simp [State.resetMend, h, hm]
  have hlog : Unlogged s x := hx.log
  refine ⟨fun hrun => ?_, fun l hrun hvisits hhold hcopy => ?_⟩
  · obtain ⟨v, hwalk, hsusp, hext, hframe, hcopy, hline, hskipped, hnone, hrep, hymend⟩ := hx.walkReset_suspends hw hrun hlast
    generalize x.walkReset false = y at *
    rw [hmend hymend] at hstep
    refine ⟨_, v, hstep, (State.syncStatusTimer_walk y).trans hwalk, hsusp, hext, hframe, hcopy, hline, hskipped, fun r hr => ?_,
      hlog.trans_rep hrep⟩
    rw [State.syncStatusTimer_arb] at hr
    exact hnone r hr
  · obtain ⟨⟨hreading, hchunk⟩, hpins, hrep, hymend⟩ := hx.walkReset_reads hw hrun hvisits hhold hcopy
    generalize x.walkReset false = y at *
    rw [hmend hymend] at hstep
    refine ⟨_, hstep, ⟨?_, ?_⟩, ?_, hlog.trans_rep hrep⟩
    · rw [State.syncStatusTimer_walk]
      exact hreading
    · rw [State.syncStatusTimer_arb]
      exact hchunk
    · rw [State.syncStatusTimer_line]
      exact hpins

theorem linkReset_mend {m : Mend} {l : Fin 64} (hp : s.ldr.part ≠ .fault) (hm : s.mend.active = some m) (hw : s.walk.cur = none)
    (hstage : m.stage = .working ∨ m.stage = .comparing ∨ m.stage = .cut) (hhold : Holding s m.extent m.frame l)
    (hpace : 0 < s.cfg.paceDepth) (hspan : 0 < (s.extent m.extent).span) (k : Nat) :
    ∃ t v, exec (.linkReset k none) s = .next t ∧ t.mend = { s.mend with active := some v } ∧ v.stage = .working ∧
      v.phase = .verifySource ∧ v.attempt = 1 ∧ v.buffer = none ∧ v.line = some l ∧ v.extent = m.extent ∧
      v.frame = m.frame ∧ v.target = m.target ∧ (t.line l).pins = 1 ∧ (t.line l).entries = (s.line l).entries ∧
      (⟨.mendRead 0, .read, (s.extent m.extent).blockAddr m.target.other m.frame 0, (s.extent m.extent).chunkLen 0⟩ :
        InjRequest) ∈ t.arb ∧ Unlogged s t := by
  obtain ⟨x, hx, hreset⟩ := (s.linkFell s.up.linkUp).resetRunning_engines k
  have hxw : x.walk.cur = none := (congrArg WalkEngine.cur hx.walk).trans hw
  have hwalk : ∀ b, x.walkReset b = x := fun b => by simp [State.walkReset, hxw]
  have hlog : Unlogged s x := hx.log
  have hstep := exec_linkReset hp k
  rw [hreset, hwalk] at hstep
  obtain ⟨n, hmend, hpins, hentries, hrep, hfirst⟩ := hx.resetMend_begins hm hstage hhold hpace hspan
  generalize x.resetMend = y at *
  refine ⟨_, _, hstep, (State.syncStatusTimer_mend y).trans hmend, rfl, rfl, rfl, rfl, rfl, rfl, rfl, rfl, ?_, ?_, ?_,
    hlog.trans_rep hrep⟩
  · rw [State.syncStatusTimer_line]
    exact hpins
  · rw [State.syncStatusTimer_line]
    exact hentries
  · rw [State.syncStatusTimer_arb]
    exact hfirst

end

/-- Settles O18: each engine by itself, as the media link goes down, as it comes back, and at a link reset. -/
theorem linkCutsEngines : Obligations.LinkCutsEngines := by
  unfold Obligations.LinkCutsEngines
  intro s hhead _
  exact ⟨fun w n hw hm hstage hfl hreads hslots => mediaLinkDown_walk hhead hw hm hstage hfl hreads hslots,
    fun w l hw hm hcut hvisits hgo hline htag hholds hrefill hcopy hpace =>
      mediaLinkUp_walk hw hm hcut hvisits hgo hline htag hholds hrefill hcopy hpace,
    fun w n k hp hw hm hstage hlast _ => linkReset_walk hp hw hm hstage hlast k,
    fun m hm hw hstage hreads hslots => mediaLinkDown_mend hhead hm hw hstage hreads hslots,
    fun m hm hw hcut hhand hpace hspan => mediaLinkUp_mend hm hw hcut hhand hpace hspan,
    fun m l k hp hm hw hstage hhold hpace hspan => linkReset_mend hp hm hw hstage hhold hpace hspan k⟩

end Sys2Proof.Machine
